-- ==== Sys2Proof/Word.lean ====
section
/-!
DEFINITION. The words the SWC7192 model computes with: bytes of memory and 32-bit checksum registers are bit
vectors; counters, times and addresses are natural numbers brought to their width by the named operations of
Machine/Bits.lean.
-/

namespace Sys2Proof

/-- One byte, as every structure of R9 is made of. -/
abbrev Byte := BitVec 8

/-- A 32-bit word, as the CRC register of R186 is. -/
abbrev Word32 := BitVec 32

/-- A byte of value `n` modulo 256. -/
abbrev byte (n : Nat) : Byte := BitVec.ofNat 8 n

end Sys2Proof
end

