-- ==== Sys2Proof/Syntax.lean ====
section
/-!
DEFINITION. The commands of the SWC7192: one constructor of `Instr` for each row of spec/opcode_table.json, in the
table's order, with the operands a row's own rule gives it. Operands that the outside world supplies (a sensor's
reading, a sink's capabilities, whether a repeat of a read succeeded) are operands of the row, not state.
-/

namespace Sys2Proof

/-- The two PCI Express physical functions of R383. -/
inductive Fn where
  | pf0
  | pf1
  deriving DecidableEq, Repr

/-- The CRC a sink reports after line 0 (R183): how far its count advanced, and its three component CRCs. -/
structure SinkCrc where
  advance : Nat
  red     : Nat
  green   : Nat
  blue    : Nat
  deriving DecidableEq, Repr

/-- Who issued the read that came back uncorrectable (the rows of R229). -/
inductive Reader where
  /-- A gallery fetch for band `b` of head `h`. -/
  | gallery (h : Fin 16) (b : Nat)
  /-- Echo's part of band `b` of region `r` of head `h`. -/
  | echo (h : Fin 16) (r : Fin 64) (b : Nat)
  /-- The egress of a stream frame of source `s`. -/
  | egress (s : Fin 8192)
  /-- A Siphon channel. -/
  | siphon (c : Fin 64)
  /-- A blit unit. -/
  | blit (u : Fin 4)
  /-- A BAR2 read of PF0. -/
  | bar2
  /-- Firmware, reading an object of its own held in two copies. -/
  | firmware
  /-- Firmware, reading what software supplies for the command in execution on ring `q`. -/
  | command (q : Fin 256)
  /-- The read part of a partial write. -/
  | partialWrite
  /-- The scrubber. -/
  | scrubber
  deriving DecidableEq, Repr

/-- What the scrubber finds in one 64-byte block (R228). -/
inductive ScrubFind where
  /-- A correctable error in the block holding address `a`. -/
  | corrected (a : Nat)
  /-- An uncorrectable error in the block holding address `a`. -/
  | uncorrectable (a : Nat)
  deriving DecidableEq, Repr

/-- How a read of a ring in memory ended (R237). -/
inductive RingRead where
  | ok
  /-- A failed completion or a poisoned TLP. -/
  | busError
  deriving DecidableEq, Repr

/-- How the two writes of a retirement ended on the bus (R245, R249). -/
inductive RetireWrites where
  | ok
  | headerFails
  | recordFails
  deriving DecidableEq, Repr

/-- The kinds of a Siphon bus error (R269), coded as ERRKIND of R275. -/
inductive BusErrKind where
  | completionTimeout
  | poisoned
  | unsupported
  | memory
  deriving DecidableEq, Repr

/-- What a blit unit meets while it runs a command (R291, R292). -/
inductive BlitEvent where
  | none
  /-- A parity check fails before destination line `n` (counted in traversal order) is written. -/
  | parity (n : Nat)
  /-- A read fails after its repeat before destination line `n` is written. -/
  | readFails (n : Nat)
  /-- A staged command's read fails while it fills the staging store. -/
  | stagingFails
  deriving DecidableEq, Repr

/-- How Echo's part of a band ended (R191, R192). -/
inductive EchoOutcome where
  | done
  | late
  | refused
  | unreadable
  | fault
  deriving DecidableEq, Repr

/-- The trained result of a link training attempt (R165): rate code of R178 and lanes. -/
structure Trained where
  rate  : Nat
  lanes : Nat
  deriving DecidableEq, Repr

/-- What a head reads of a sink at a plug (R167, R169). -/
structure SinkCaps where
  dpcd        : List Byte   -- DPCD 0x00000 to 0x0000F
  edid        : List Byte
  rateMax     : Nat         -- highest common rate, coded as LinkRateMax
  lanesMax    : Nat
  dsc         : Bool        -- the sink's DSC capability admits the head's parameters
  fec         : Bool
  testCrc     : Bool        -- TEST_CRC_SUPPORTED
  deriving DecidableEq, Repr

/-- The halting fields of R387. -/
inductive HaltField where
  | ringClass (q : Fin 256)      -- CLASS and OWNER, one register
  | ringSqBase (q : Fin 256)
  | ringSqLog2 (q : Fin 256)
  | ringCqLog2 (q : Fin 256)
  | ringCqBase (q : Fin 256)
  | channelCfg (c : Fin 64)      -- CLASS and PUBLISHING
  deriving DecidableEq, Repr

/-- Where a LOP request arrives (R373 to R375, R236). -/
inductive Via where
  /-- The PF0 dictionary window. -/
  | window
  /-- An MGMT ring. -/
  | ring (q : Fin 256)
  /-- The management Ethernet: a peer's IPv4 address and UDP port and, under DTLS, its association. -/
  | ethernet (ip port : Nat) (assoc : Option Nat)
  /-- Forwarded across the fabric: the origin's address and the level carried. -/
  | fabric (origin : Nat) (level : Nat)
  deriving DecidableEq, Repr

/-- The header fields of one LOP request (R362) and the way it came. -/
structure LopCtx where
  via        : Via
  generation : Nat
  session    : Nat
  requestId  : Nat
  /-- TARGET as R362 lays it out: [11:0] the address, [14:12] reserved, [15] REMOTE. -/
  target     : Nat
  deriving DecidableEq, Repr

/-- A message of the fabric as it arrives (R300, R323): the port, the sender and the payload bytes. -/
structure Msg where
  port    : Fin 4
  sender  : Fin 4096
  payload : List Byte
  deriving DecidableEq, Repr

/-- A PTP message's effect on the servo (R311): the master's announcement, its offset, or its loss. -/
inductive PtpEvent where
  | announce
  | sync (offsetNs : Int)
  | lost
  deriving DecidableEq, Repr

/-- A DTLS handshake's outcome (R373): an association established or ended, with its peer. -/
inductive DtlsEvent where
  | established (assoc ip port : Nat) (clientCertOk : Bool)
  | ended (assoc : Nat)
  deriving DecidableEq, Repr

/-- What a PCI Express configuration write changes (R411, R211). -/
inductive CfgWrite where
  | msixEnable (b : Bool)
  | functionMask (b : Bool)
  | busMaster (b : Bool)
  | relaxedOrdering (b : Bool)
  | power (d0 : Bool)
  /-- The Resizable BAR size of BAR2, as log2 of bytes. -/
  | bar2Size (log2 : Nat)
  deriving DecidableEq, Repr

/-- What the firmware image checks of R448 find, for the parts the manual takes from published standards. -/
structure StrapBalls where
  scope    : Bool
  recover  : Bool
  defaults : Bool
  flash    : Bool
  deriving DecidableEq, Repr

/-- What self-test finds at boot (R444). -/
structure SelfTest where
  /-- Failing engines, as (gallery, engine). -/
  engines   : List (Nat × Nat)
  galleries : List Nat
  echo      : Bool
  blitUnits : List Nat
  granules  : List Nat
  deriving DecidableEq, Repr

/-- What ends the boot (R441, R443). -/
inductive BootOutcome where
  | runs
  | sramFault
  | trainingFault
  | clockFault
  | imageMismatch
  deriving DecidableEq, Repr

/-- The alias through which a bitmap register of the event controller is written (R404, R416). -/
inductive Alias where
  | plain
  | set
  | clear
  deriving DecidableEq, Repr

/-- Registers whose parity a scrub pass finds wrong are named by their BAR0 offset. -/
abbrev Offset := Nat

/-- The commands and events of the block: one constructor per row of spec/opcode_table.json. -/
inductive Instr where
  | registerSource (q : Fin 256)
  | withdrawSource (q : Fin 256)
  | withdrawalComplete (q : Fin 256)
  | publish (q : Fin 256)
  | querySource (q : Fin 256)
  | checkScene (q : Fin 256) (ns : Nat)
  | commitScene (q : Fin 256) (ns : Nat)
  | queryScene (q : Fin 256)
  | pad (q : Fin 256)
  | nop (q : Fin 256)
  | lopExchange (q : Fin 256)
  | admission
  | sourceStateCheck
  | frameStart (h : Fin 16) (sink : SinkCrc)
  | latch (h : Fin 16)
  | commitAhead (h : Fin 16)
  | bandCompositionStart (h : Fin 16)
  | tileTake (g : Fin 12) (e : Fin 17)
  | tileWrite (g : Fin 12) (e : Fin 17) (checkFails : Bool)
  | bandDrain (h : Fin 16) (wbFull : List (Fin 4))
  | uncorrectableRead (who : Reader) (addr : Nat) (repeatOk : Bool)
  | galleryFault (g : Fin 12)
  | galleryReturn (g : Fin 12)
  | sceneRecheck
  | echoPartDone (h : Fin 16) (r : Fin 64) (out : EchoOutcome)
  | regionVerdict (h : Fin 16) (r : Fin 64)
  | logWriteDone
  | wbFrameDone (st : Fin 4)
  | wbCapture (st : Fin 4)
  | headResume (h : Fin 16)
  | syncInEdge
  | syncInLost
  | hpdUnplug (h : Fin 16)
  | hpdPlug (h : Fin 16) (caps : SinkCaps)
  | irqHpd (h : Fin 16) (lost : Bool)
  | trainingAttemptEnd (h : Fin 16) (res : Option Trained)
  | trainingTimeout (h : Fin 16)
  | trainingRetry (h : Fin 16)
  | linkReenable (h : Fin 16)
  | memWinControlWrite (fn : Fn) (n : Fin 512) (v : Nat)
  | memWinsync (fn : Fn)
  | bar2Write (off : Nat) (data : List Byte)
  | bar2Read (off len : Nat)
  | scrubPass (found : List ScrubFind)
  | correctedRewrite (addr : Nat)
  | granuleRemap
  | doorbell (fn : Fn) (q : Fin 256) (inl pos : Nat) (win : List Byte)
  | cqconsWrite (fn : Fn) (q : Fin 256) (index : Nat) (wrap : Bool)
  | entryRead (q : Fin 256) (rd : RingRead)
  | entryRetire (q : Fin 256) (wr : RetireWrites)
  | sumpDrain (q : Fin 256)
  | ringEnable (fn : Fn) (q : Fin 256)
  | ringDisable (fn : Fn) (q : Fin 256)
  | ringStop (fn : Fn) (q : Fin 256)
  | ringResume (fn : Fn) (q : Fin 256)
  | restart (fn : Fn) (q : Fin 256)
  | haltingFieldWrite (fn : Fn) (f : HaltField) (v : Nat)
  | functionLevelReset (fn : Fn)
  | sgCopy (c : Fin 64)
  | siphonFill (c : Fin 64)
  | crc (c : Fin 64)
  | siphonPublish (c : Fin 64)
  | wait (c : Fin 64)
  | waitTimeout (c : Fin 64)
  | signal (c : Fin 64)
  | fence (c : Fin 64)
  | descriptorRetire (c : Fin 64)
  | siphonBusError (kind : BusErrKind) (addr : Nat) (cands : List (Fin 64))
  | siphonRestart
  | reenable (fn : Fn) (c : Fin 64)
  | waitSourcePulse (n : Fin 160)
  | copy (u : Fin 4) (ev : BlitEvent)
  | fill (u : Fin 4) (ev : BlitEvent)
  | convert (u : Fin 4) (ev : BlitEvent)
  | transform (u : Fin 4) (ev : BlitEvent)
  | blitUnitTake (u : Fin 4)
  | flitReceive (p : Fin 4) (bytes : List Byte)
  | bringUpStart (p : Fin 4) (receivers : List (Fin 4))
  | bringUpTimeout (p : Fin 4)
  | bringUpRetry (p : Fin 4) (receivers : List (Fin 4))
  | portReenable (fn : Fn) (p : Fin 4)
  | ident (m : Msg)
  | linkStatus (m : Msg)
  | linkStatusTick
  | timeSync (p : Fin 4) (t1 t2 t3 t4 : Nat)
  | timeSyncTick
  | timeSyncTimeout
  | ppsEdge
  | routeUpdate (m : Msg)
  | linkDown (p : Fin 4)
  | wallFrameTick
  | heartbeat (m : Msg)
  | summary (m : Msg)
  | summarySend
  | coordinatorTimeout
  | takeOffice
  | offer (m : Msg)
  | gatherTimeout
  | prepare (m : Msg)
  | answer (m : Msg)
  | decisionDeadline
  | decision (m : Msg)
  | registry (m : Msg)
  | subscribe (m : Msg)
  | unsubscribe (m : Msg)
  | streamStart (tree : Fin 8192) (m : Msg)
  | streamData (tree : Fin 8192) (m : Msg)
  | streamFrameSent (idx : Fin 8192)
  | isolation
  | domainEntryApply
  | modeRequest (c : LopCtx) (v : Nat)
  | modeBoundary
  | gallerySelfTest (g : Nat) (failing : List (Fin 17))
  | read (c : LopCtx) (index sub flags : Nat)
  | write (c : LopCtx) (index sub : Nat) (value : List Byte)
  | describe (c : LopCtx) (index sub : Nat)
  | segReadStart (c : LopCtx) (index sub flags : Nat)
  | segRead (c : LopCtx) (transfer offset count : Nat)
  | segWriteStart (c : LopCtx) (index sub length : Nat)
  | segWrite (c : LopCtx) (transfer offset : Nat) (last : Bool) (bytes : List Byte)
  | segCancel (c : LopCtx) (transfer : Nat)
  | transferTimeout (transfer : Nat)
  | coefficientSetLoaded
  | sessionOpen (c : LopCtx) (level : Nat)
  | sessionProve (c : LopCtx) (mac : List Byte)
  | sessionClose (c : LopCtx)
  | keepalive (c : LopCtx)
  | sessionTimeout (session : Nat)
  | lopWindowGo (fn : Fn)
  | lopWindowDone
  | lopForwardResponse (response : List Byte)
  | forwardTimeout (requestId : Nat)
  | storeNow
  | autoStore
  | storeDone (readBackOk : Bool)
  | readClear (fn : Fn) (off : Offset) (size : Nat)
  | registerWrite (fn : Fn) (off : Offset) (size v : Nat)
  | parityScrub (mismatches : List Offset)
  | parityRestore (off : Offset)
  | devReset (fn : Fn) (v : Nat)
  | eventOccurrence (i : Fin 1536)
  | levelFall (i : Fin 1536)
  | pendingSet (fn : Fn) (w : Fin 48) (v : Nat)
  | pendingClear (fn : Fn) (w : Fin 48) (v : Nat)
  | eventEnableWrite (fn : Fn) (w : Fin 48) (al : Alias) (v : Nat)
  | eoi (fn : Fn) (w : Fin 48) (v : Nat)
  | evcSourceWrite (fn : Fn) (i : Fin 1536) (v : Nat)
  | groupRelease (g : Fin 64)
  | messageIssue
  | coreAccept (core : Fin 2)
  | sensorRead (readings : List Int)
  | lampEvaluation (vcorePowerReported : Option Nat)
  | lifeEvaluation
  | vcoreStep (monitorMv : Nat) (acked : Bool)
  | thermalTrip
  | healthRecordAppend (ok : Bool)
  | lockstepFault (core : Fin 2)
  | coreRestartDone (core : Fin 2)
  | powerOnReset
  | supplyMonitorTrip
  | perst
  | pcieReset
  | resetRelease (straps : StrapBalls)
  | fwReady (out : BootOutcome) (st : SelfTest)
  | bootEnd
  | bootWatchdog
  | refClockLost
  | refClockRestored
  | imageActivate (c : LopCtx)
  | imageConfirm (c : LopCtx)
  | confirmDelay
  | rollbackAdvance (c : LopCtx) (v : Nat)
  | recoveryStart (fn : Fn)
  | recoveryChunk (fn : Fn)
  | recoveryFinish (fn : Fn)
  | deviceReset
  | pcieResetEnd
  | configurationWrite (fn : Fn) (w : CfgWrite)
  | ptpMessage (ev : PtpEvent)
  | blockAlignment (p : Fin 4) (lanes : List (Fin 4))
  | dtlsHandshake (ev : DtlsEvent)
  | testEn (high : Bool)
  | extest (inForce : Bool)
  deriving DecidableEq, Repr

end Sys2Proof
end

