-- ==== Sys2Proof/Decode.lean ====
section
/-!
DEFINITION. The command a word of spec/opcode_table.json spells. The table gives no row any bits: the SWC7192 takes its
commands as register writes, memory rings, packets and events, never as an encoded instruction word.
-/

namespace Sys2Proof

/-- The command read from an instruction word: no row of the table has a word, so there is none. -/
def decodeTableWord (_nbits _w : Nat) : Option Instr := none

end Sys2Proof
end

