-- ==== Sys2Proof/Machine/Bits.lean ====
section
/-!
DEFINITION. Bit fields, byte order, rounding, saturation and wrapping: the arithmetic of R9, R13 and R14.
-/

namespace Sys2Proof.Machine

/-- `n` brought to `w` bits by saturation. -/
def sat (w n : Nat) : Nat := Nat.min n (2 ^ w - 1)

/-- A saturating counter of `w` bits after one more count. -/
def satInc (w n : Nat) : Nat := sat w (n + 1)

/-- `n` brought to `w` bits by wrapping. -/
def wrap (w n : Nat) : Nat := n % 2 ^ w

/-- A wrapping counter of `w` bits after one more count. -/
def wrapInc (w n : Nat) : Nat := wrap w (n + 1)

/-- Field [hi:lo] of `n` (R9). -/
def field (n hi lo : Nat) : Nat := n / 2 ^ lo % 2 ^ (hi + 1 - lo)

/-- Bit [i] of `n` (R9). -/
def bit (n i : Nat) : Bool := n.testBit i

/-- 1 for true. -/
def b2n (b : Bool) : Nat := if b then 1 else 0

/-- `n` with bit [i] set to `b`. -/
def withBit (n i : Nat) (b : Bool) : Nat :=
  match n.testBit i, b with
  | true, false => n - 2 ^ i
  | false, true => n + 2 ^ i
  | _, _ => n

/-- The bits of `n` that `m` holds 0. -/
def clearMask (n m : Nat) : Nat := n - (n &&& m)

/-- The numbers of the bits set among the low `w` of `n`, in rising order. -/
def bitsOf (w n : Nat) : List Nat := (List.range w).filter (fun i => n.testBit i)

/-- The number whose set bits are those listed. -/
def maskOf (l : List Nat) : Nat := l.foldl (fun a i => a ||| 2 ^ i) 0

/-- The number of set bits among the low `w`. -/
def popCount (w n : Nat) : Nat := (bitsOf w n).length

/-- `n` as `k` bytes, little-endian (R9). -/
def leBytes (k n : Nat) : List Byte :=
  match k with
  | 0 => []
  | k + 1 => byte n :: leBytes k (n / 256)

/-- The number that bytes spell, little-endian (R9). -/
def leNat (l : List Byte) : Nat :=
  match l with
  | [] => 0
  | b :: r => b.toNat + 256 * leNat r

/-- The `k`-byte number at offset `o` of a structure (R9); bytes beyond its end count 0. -/
def getLE (l : List Byte) (o k : Nat) : Nat := leNat ((l.drop o).take k)

/-- `n` of `w` bits read as two's complement. -/
def toSigned (w n : Nat) : Int := if n % 2 ^ w < 2 ^ (w - 1) then (n % 2 ^ w : Nat) else (n % 2 ^ w : Nat) - (2 ^ w : Nat)

/-- `i` as a two's-complement number of `w` bits. -/
def ofSigned (w : Nat) (i : Int) : Nat := (i % ((2 ^ w : Nat) : Int)).toNat

/-- `i` saturated to a two's-complement number of `w` bits. -/
def satSigned (w : Nat) (i : Int) : Int :=
  if i < -((2 ^ (w - 1) : Nat) : Int) then -((2 ^ (w - 1) : Nat) : Int)
  else if ((2 ^ (w - 1) : Nat) : Int) - 1 < i then ((2 ^ (w - 1) : Nat) : Int) - 1
  else i

/-- The signed `k`-byte number at offset `o`. -/
def getSLE (l : List Byte) (o k : Nat) : Int := toSigned (8 * k) (getLE l o k)

/-- round(a / b) of R14 for a positive `b`: half up towards positive infinity. -/
def roundDiv (a : Int) (b : Nat) : Int := (2 * a + b) / (2 * (b : Int))

/-- round(a / b) of R14 on natural numbers. -/
def roundDivN (a b : Nat) : Nat := (2 * a + b) / (2 * b)

/-- ⌈a / b⌉. -/
def ceilDiv (a b : Nat) : Nat := (a + b - 1) / b

/-- clamp(x, lo, hi) of R14. -/
def clampI (x lo hi : Int) : Int := if x < lo then lo else if hi < x then hi else x

/-- clamp of an integer into natural numbers lo to hi. -/
def clampN (x : Int) (lo hi : Nat) : Nat := (clampI x lo hi).toNat

/-- Epoch `a` is later than epoch `b` (R13): (a − b) mod 2^32 lies in 1 to 2^31 − 1. -/
def epochLater (a b : Nat) : Bool :=
  let d := (a + 2 ^ 32 - b % 2 ^ 32) % 2 ^ 32
  decide (1 ≤ d ∧ d < 2 ^ 31)

/-- The epoch after `e`: 0 is never issued, and 0xFFFF_FFFF passes to 1 (R13). -/
def nextEpoch (e : Nat) : Nat := if (e + 1) % 2 ^ 32 = 0 then 1 else (e + 1) % 2 ^ 32

/-- The list with `x` in its place in rising order, once. -/
def insertSorted (x : Nat) (l : List Nat) : List Nat :=
  match l with
  | [] => [x]
  | y :: r => if x < y then x :: y :: r else if x = y then y :: r else y :: insertSorted x r

/-- The list in rising order without repeats. -/
def sortDedup (l : List Nat) : List Nat := l.foldl (fun a x => insertSorted x a) []

/-- The smallest element, `d` of an empty list. -/
def minOr (d : Nat) (l : List Nat) : Nat :=
  match l with
  | [] => d
  | x :: r => r.foldl Nat.min x

/-- The element of a list that minimises `f`, the first among equals. -/
def argMin {α : Type} (f : α → Nat) (l : List α) : Option α :=
  match l with
  | [] => none
  | x :: r => some (r.foldl (fun a y => if f y < f a then y else a) x)

/-- The list with the element at position `i` replaced. -/
def setAt {α : Type} (l : List α) (i : Nat) (v : α) : List α := l.set i v

/-- A list padded or cut to `n` elements. -/
def padTo {α : Type} (d : α) (n : Nat) (l : List α) : List α := (l ++ List.replicate (n - l.length) d).take n

/-- The first index at which a list is found with property `p`. -/
def indexWhere {α : Type} (p : α → Bool) (l : List α) : Option Nat := l.findIdx? p

/-- Exact rational comparison a / b ≤ c / d for positive b and d. -/
def ratLe (a b c d : Nat) : Bool := decide (a * d ≤ c * b)

end Sys2Proof.Machine
end

