-- ==== Sys2Proof/Machine/Crc.lean ====
section
/-!
DEFINITION. The checksums of the manual: CRC-32C with its complemented register (R186, R260), the CRC-8 of an Ilelle
flit's lane (R300) and Fletcher-64 (R260).
-/

namespace Sys2Proof.Machine

/-- One bit of the reflected CRC-32C division (polynomial 0x1EDC_6F41, reflected 0x82F6_3B78). -/
def crcBit (c : Word32) : Word32 := if c.getLsbD 0 then (c >>> 1) ^^^ 0x82F63B78#32 else c >>> 1

/-- The CRC-32C register after one byte. -/
def crcByte (c : Word32) (b : Byte) : Word32 :=
  crcBit (crcBit (crcBit (crcBit (crcBit (crcBit (crcBit (crcBit (c ^^^ b.setWidth 32))))))))

/-- The CRC-32C register after a run of bytes. -/
def crcUpdate (c : Word32) (l : List Byte) : Word32 := l.foldl crcByte c

/-- The register at its start. -/
def crcInit : Word32 := 0xFFFFFFFF#32

/-- The checksum a register stands for: its complement. -/
def crcFinal (c : Word32) : Nat := (~~~ c).toNat

/-- CRC-32C of a run of bytes. -/
def crc32c (l : List Byte) : Nat := crcFinal (crcUpdate crcInit l)

/-- One bit of the CRC-8 of R300 (x^8 + x^2 + x + 1), most significant bit first. -/
def crc8Bit (c : Byte) : Byte := if c.getLsbD 7 then (c <<< 1) ^^^ 0x07#8 else c <<< 1

/-- The CRC-8 register after one byte. -/
def crc8Byte (c b : Byte) : Byte := crc8Bit (crc8Bit (crc8Bit (crc8Bit (crc8Bit (crc8Bit (crc8Bit (crc8Bit (c ^^^ b))))))))

/-- CRC-8 of a run of bytes, preset 0 (R300). -/
def crc8 (l : List Byte) : Byte := l.foldl crc8Byte 0#8

/-- Fletcher-64 after one 32-bit word (R260): the sums are taken modulo 0xFFFF_FFFF. -/
def fletcherWord (p : Nat × Nat) (w : Nat) : Nat × Nat :=
  let s1 := (p.1 + w) % 0xFFFFFFFF
  (s1, (p.2 + s1) % 0xFFFFFFFF)

/-- Fletcher-64 over bytes: the sums over the whole words, with the bytes of the word not yet whole (R260). -/
def fletcherBytes (p : Nat × Nat) (tail : List Byte) (l : List Byte) : (Nat × Nat) × List Byte :=
  l.foldl
    (fun (a : (Nat × Nat) × List Byte) b =>
      let t := a.2 ++ [b]
      if t.length = 4 then (fletcherWord a.1 (leNat t), []) else (a.1, t))
    (p, tail)

/-- The value stored: the last word padded with zero bytes, sum2 × 2^32 + sum1 (R260). -/
def fletcherValue (p : Nat × Nat) (tail : List Byte) : Nat :=
  let q := if tail.isEmpty then p else fletcherWord p (leNat tail)
  q.2 * 2 ^ 32 + q.1

end Sys2Proof.Machine
end

