-- ==== Sys2Proof/Config.lean ====
section
/-!
DEFINITION. What one device fixes and what the manual leaves open: constants without a body, so that nothing in Lean can
know their values. A free value taken afresh is the constant applied to the counter `fresh` of the state; log entry 2.
-/

namespace Sys2Proof.Config

/-- TemperatureGrade, per fuse (R4): true for grade CA. -/
opaque gradeCA : Bool

/-- SECUREBOOT, per fuse (R394). -/
opaque secureBoot : Bool

/-- EthMacAddress, per fuse (R381): six bytes are taken from it. -/
opaque macAddress : Nat

/-- An IDENTIFIER, a NONCE or a TRANSFER-like number that the device draws and the manual does not fix (R371). -/
opaque random : Nat → Nat

/-- The fused minimum of VDD_CORE in mV for a hottest reading in 1/16 °C (R427): per part. -/
opaque vcoreMin : Int → Nat

/-- HMAC-SHA-384, of a key and a message (R371): a published standard, not in the manual. -/
opaque hmac384Word : List Byte → List Byte → BitVec 384
def hmac384 (key m : List Byte) : List Byte := Machine.leBytes 48 (hmac384Word key m).toNat

/-- SHA-384 of a run of bytes (R447): a published standard, not in the manual. -/
opaque sha384Word : List Byte → BitVec 384
def sha384 (m : List Byte) : List Byte := Machine.leBytes 48 (sha384Word m).toNat

/-- Whether a signature verifies (R447, R448) under one of the four public keys in the boot ROM: the arguments are the signed
bytes followed by the signature, and the key's index. -/
opaque signatureOk : List Byte → Nat → Bool

/-- The DisplayPort test CRC of one component (R183), a published standard: its register after one more line of the active
area. The arguments are the component, the register so far and the line. -/
opaque testCrc : Nat → Nat → List (Nat × Nat × Nat) → Nat

/-- A signed quantity that the manual does not state, drawn at one moment. -/
opaque signed : Nat → Int

/-- An unsigned quantity that the manual does not state, drawn at one moment. -/
opaque value : Nat → Nat

/-- The ports on which a member passes on flits of a source tree that it neither roots nor only ends (R309, R314): firmware
writes these entries, but the manual gives no message that carries them. -/
opaque transitTree : Nat → Nat → Nat

/-- DeviceCertificate, per device (R381). -/
opaque deviceCertificate : List Byte

end Sys2Proof.Config
end

