-- ==== Sys2Proof/Machine/Tbl.lean ====
section
/-!
DEFINITION. The sparse table every indexed part of the state is held in (rings, channels, sources, heads, dictionary
values): a list of key and value pairs with strictly rising keys. An unlisted key reads as a default that the reader
names.
-/

namespace Sys2Proof.Machine

/-- A sparse table: pairs of a key and a value, keys strictly rising. -/
abbrev Tbl (α : Type) := List (Nat × α)

/-- The value listed at `k`, if any. -/
def Tbl.find? {α : Type} (t : Tbl α) (k : Nat) : Option α :=
  match t with
  | [] => none
  | (j, v) :: r => if j = k then some v else Tbl.find? r k

/-- The value at `k`, `d` where the table lists none. -/
def Tbl.get {α : Type} (d : α) (t : Tbl α) (k : Nat) : α := (Tbl.find? t k).getD d

/-- The table with `v` at `k`. -/
def Tbl.set {α : Type} (t : Tbl α) (k : Nat) (v : α) : Tbl α :=
  match t with
  | [] => [(k, v)]
  | (j, w) :: r =>
    if k < j then (k, v) :: (j, w) :: r
    else if k = j then (k, v) :: r
    else (j, w) :: Tbl.set r k v

/-- The table without `k`. -/
def Tbl.erase {α : Type} (t : Tbl α) (k : Nat) : Tbl α :=
  match t with
  | [] => []
  | (j, w) :: r => if j = k then r else (j, w) :: Tbl.erase r k

/-- The keys rise strictly. -/
def Tbl.wf {α : Type} (t : Tbl α) : Bool :=
  match t with
  | [] => true
  | (j, _) :: r => (match r with | [] => true | (k, _) :: _ => decide (j < k)) && Tbl.wf r

/-- Apply `f` to the value at `k` (the default where none is listed). -/
def Tbl.modify {α : Type} (d : α) (t : Tbl α) (k : Nat) (f : α → α) : Tbl α :=
  Tbl.set t k (f (Tbl.get d t k))

/-- Apply `f` to every listed value. -/
def Tbl.mapVals {α : Type} (t : Tbl α) (f : Nat → α → α) : Tbl α :=
  t.map (fun p => (p.1, f p.1 p.2))

end Sys2Proof.Machine
end

