-- ==== Sys2Proof/Machine/Blocks.lean ====
section
/-!
DEFINITION. The blocks of the SWC7192 as plain data: one structure for each block of R15, with every register, FIFO,
buffer, counter and mode the manual gives it. Each field's comment reads: what it is; its width; the rule that names
it; its reset value.
-/

namespace Sys2Proof.Machine

/-- The twelve modes of R339. -/
inductive Mode where
  | reset | boot | configure | standby | operate | degraded | safeDisplay | maintain | calibrate | update
  | isolated | halt
  deriving DecidableEq, Repr

/-- The service classes of R30, BULK among them. -/
inductive Svc where
  | safety | live | mimic | decor | bulk
  deriving DecidableEq, Repr

/-- One pixel as a working value (R58): three 16-bit components. -/
structure Px where
  r : Nat
  g : Nat
  b : Nat
  deriving DecidableEq, Repr

/-- A rectangle [x0, x1) × [y0, y1). -/
structure Rect where
  x0 : Int
  y0 : Int
  x1 : Int
  y1 : Int
  deriving DecidableEq, Repr

/-! ## System: modes, time, clocks, management cores -/

/-- One management core, a lockstep pair (R24). -/
structure Core where
  inReset   : Bool       -- pair held in reset after a disagreement; 1 bit; R24; reset 0
  retired   : Bool       -- pair retired; 1 bit; R24; reset 0
  faults    : List Nat   -- wall times of the faults in the present 10 s window; 64 bits each; R432; reset empty
  deriving DecidableEq, Repr

/-- A reply owed to a LOP request that completes later (R346, R376, R137). -/
structure Reply where
  ctx   : LopCtx        -- the request's header and way in; 16 bytes; R362; reset none
  code  : Nat           -- its SERVICE code; 8 bits; R363; reset none
  deriving DecidableEq, Repr

/-- A mode request that waits or is scheduled (R346). -/
structure ModeReq where
  target : Nat           -- the mode asked for; 8 bits; R345; reset none
  reply  : Reply         -- the request to answer; 16 bytes; R346; reset none
  deriving DecidableEq, Repr

/-- SYS_ and the mode machinery. -/
structure Sys where
  wall        : Nat             -- wall-time counter TIME64 in ns; 64 bits; R26; reset 0
  frac        : Nat             -- fraction of a nanosecond of the counter; 32 bits; R26; reset 0
  rate        : Int             -- fractional rate term of the counter; 32 bits signed; R26; reset 0
  mode        : Mode            -- CurrentMode; 4 bits; R340; reset RESET
  working     : Mode            -- working mode (RequestedMode reads it); 4 bits; R340; reset RESET
  prevMode    : Mode            -- PreviousMode; 4 bits; R354; reset RESET
  lastFrom    : Nat             -- LastTransition from; 4 bits; R354; reset 0
  lastTo      : Nat             -- LastTransition to; 4 bits; R354; reset 0
  lastCause   : Nat             -- LastTransition cause; 8 bits; R354; reset 0
  lastTime    : Nat             -- LastTransitionTime; 64 bits; R354; reset 0
  modeChanges : Nat             -- ModeChanges; 32 bits; R354; reset 0
  modeRefused : Nat             -- ModeRequestsRefused; 32 bits; R354; reset 0
  conditions  : Nat             -- Conditions as last derived; 16 bits; R341; reset 0
  isolated    : Bool            -- isolation condition; 1 bit; R343; reset 0
  autoCause   : Option Nat      -- cause of an automatic change of the working mode whose boundary is due; 8 bits; R344; reset none
  scheduled   : Option ModeReq  -- the requested transition waiting for its boundary; one request; R347; reset none
  modeQueue   : List ModeReq    -- mode requests not yet served, in order of arrival; list; R346; reset empty
  resetDue    : Option (Nat × Nat) -- a device reset due at a wall time, with its cause; 72 bits; R440; reset none
  selfGallery : Nat             -- SelfTestResult; 32 bits; R354; reset 0
  cores       : Core × Core     -- management cores 0 and 1; two pairs; R24; reset in service
  scratch     : Nat             -- SCRATCH; 64 bits; R394; reset 0
  fwReady     : Bool            -- FWREADY; 1 bit; R394; reset 0
  privIgnored : Nat             -- PRIVIGNORED; 16 bits; R394; reset 0
  badAccess   : Nat             -- BADACCESS; 16 bits; R394; reset 0
  privLast    : Nat             -- PRIVLASTADDR; 26 bits; R394; reset 0
  parityCount : Nat             -- PARITYCOUNT; 16 bits; R394; reset 0
  parityAddr  : Nat             -- PARITYADDR; 26 bits; R394; reset 0
  scrubPasses : Nat             -- SCRUBPASSES; 32 bits; R394; reset 0
  parityBad   : List Nat        -- BAR0 offsets of registers whose parity is wrong and not yet rewritten; 26 bits each; R392; reset empty
  heldWrite   : List (Fn × Nat × Nat) -- low halves of 64-bit fields held per function: function, offset, value; 32 bits each; R386; reset empty
  shadow      : List (Fn × Nat × Nat) -- high halves captured by a low-half read, per function; 32 bits each; R386; reset empty
  pcieReset   : Bool            -- a PCIe reset of R439 is in force; 1 bit; R439; reset 0
  refLost     : Bool            -- REF25 lost, the PLLs in holdover; 1 bit; R437; reset 0
  testEn      : Bool            -- TEST_EN level; 1 bit; R470; reset 0
  extest      : Bool            -- an EXTEST instruction is in force; 1 bit; R472; reset 0
  tripped     : Bool            -- a thermal trip holds RESET; 1 bit; R426; reset 0
  deriving DecidableEq, Repr

/-! ## Start-up, images, health record -/

/-- One firmware image slot (R447, R450). -/
structure Slot where
  state    : Nat          -- ImageState code; 8 bits; R456; reset kept in flash
  version  : Nat          -- VERSION; 32 bits; R447; reset kept in flash
  security : Nat          -- SECURITY_VERSION; 16 bits; R447; reset kept in flash
  bytes    : List Byte    -- the slot's contents as programmed; up to 7 MiB; R446; reset kept in flash
  deriving DecidableEq, Repr

/-- Clocks, reset and start-up. -/
structure Boot where
  releaseAt    : Nat            -- wall time of the latest reset release; 64 bits; R441; reset 0
  watchdog     : Bool           -- boot watchdog running; 1 bit; R442; reset 0
  bootFault    : Nat            -- BOOTFAULT; 8 bits; R443; reset 0
  atBootEnd    : Bool           -- boot end has been reached since the release; 1 bit; R441; reset 0
  lastCause    : Nat            -- LastResetCause; 8 bits; R456; reset 1
  resets       : Nat            -- ResetsSincePowerOn; 32 bits; R456; reset 0
  bootDuration : Nat            -- BootDuration; 32 bits; R456; reset 0 (DESIGN CHOICE)
  fwReadyTime  : Nat            -- FirmwareReadyTime; 32 bits; R456; reset 0 (DESIGN CHOICE)
  straps       : Nat            -- StrapValues; 4 bits; R438; reset 0 (DESIGN CHOICE)
  running      : Nat            -- RunningImage; 1 bit; R456; reset 0 (DESIGN CHOICE)
  active       : Nat            -- boot control ACTIVE; 8 bits; R450; reset kept in flash
  trial        : Option Nat     -- boot control TRIAL; 8 bits; R450; reset kept in flash
  attempts     : Nat            -- boot control ATTEMPTS; 8 bits; R450; reset kept in flash
  fallback     : Bool           -- boot control FALLBACK; 1 bit; R450; reset kept in flash
  failedA      : Bool           -- boot control FAILED_A; 1 bit; R450; reset kept in flash
  failedB      : Bool           -- boot control FAILED_B; 1 bit; R450; reset kept in flash
  ctlSequence  : Nat            -- boot control SEQUENCE; 32 bits; R450; reset kept in flash
  slotA        : Slot           -- image slot A; 7 MiB; R446; reset kept in flash
  slotB        : Slot           -- image slot B; 7 MiB; R446; reset kept in flash
  staging      : Option Nat     -- transfer that writes a slot; 32 bits; R454; reset none
  rollback     : Nat            -- anti-rollback fuses; 255 fuses; R449; reset per fuse
  keyRevoked   : Nat            -- KeyRevocation; 4 bits; R447; reset per fuse
  confirmFrom  : Nat            -- seconds counted towards ConfirmDelay start at this wall time; 64 bits; R452; reset 0
  recovState   : Nat            -- RECOVSTATE; 2 bits; R453; reset 0
  recovStatus  : Nat            -- RECOVSTATUS; 8 bits; R453; reset 0
  recovLen     : Nat            -- RECOVLEN; 19 bits; R453; reset 0
  recovOffset  : Nat            -- RECOVOFFSET; 23 bits; R453; reset 0
  recovBuf     : List Host.Cell -- RECOVBUF; 256 KiB; R453; reset 0
  pendingEvents : List Nat      -- events that arose during boot, set pending at FWREADY; 11 bits each; R441; reset empty
  bankStaged   : Bool           -- a staged dictionary bank waits for reset, P writes refused; 1 bit; R455; reset 0
  coefAtBoot   : Bool           -- the coefficient sets have reached the galleries; 1 bit; R138; reset 0
  deriving DecidableEq, Repr

/-- The health record in force (R433), kept in flash. -/
structure Health where
  sequence   : Nat        -- SEQUENCE; 32 bits; R433; reset kept in flash
  powered    : Nat        -- POWERED, H in ms; 64 bits; R433; reset kept in flash
  consumed   : List Nat   -- CONSUMED, C_d of CORE, SRAM, SER, IO in units of 2^-32 ms; four of 96 bits; R433; reset kept in flash
  trips      : Nat        -- TRIPS; 32 bits; R433; reset kept in flash
  overGrade  : Nat        -- OVERGRADE seconds; 32 bits; R433; reset kept in flash
  overMs     : Nat        -- milliseconds of the present second over grade; 10 bits; R433; reset 0
  remap      : Tbl Nat    -- REMAP: spare k to the granule it replaces; 2,048 of 32 bits; R433; reset kept in flash
  unusable   : List Nat   -- UNUSABLE granule numbers in order; 32 bits each; R433; reset kept in flash
  retiredSeq : List Nat   -- RetiredList: granule numbers in order of retirement; 32 bits each; R232; reset kept in flash
  journal    : List Byte  -- the record last appended, as R433 lays it out; up to 64 KiB; R433; reset kept in flash
  hourlyC    : List (List Nat) -- C_d of the two latest hourly records, latest first; two of four of 96 bits; R485; reset kept in flash
  orderly    : Bool       -- the powered interval ended with an orderly entry into RESET; 1 bit; R485; reset kept in flash
  dueAt      : Option Nat -- when an append falls due; 64 bits; R433; reset none
  lastHour   : Nat        -- powered hours at the latest hourly append; 32 bits; R433; reset 0
  tripHours  : List Nat   -- powered ms of the thermal trips; 64 bits each; R431; reset kept in flash
  tripEvent  : Bool       -- THERMAL_TRIP_RECORDED is owed at the next boot; 1 bit; R426; reset 0
  failOnce   : Bool       -- the last append failed and its repeat is due; 1 bit; R433; reset 0
  deriving DecidableEq, Repr

/-! ## Memory -/

/-- One memory window (R216): the written registers and the values in force. -/
structure Win where
  hostspace  : Bool  -- +0x00 HOSTSPACE as written; 1 bit; R216; reset 0
  base       : Nat   -- +0x00 BASEADDR as written, 4 KiB units; 51 bits; R216; reset 0
  size       : Nat   -- +0x08 SIZEPAGES as written; 52 bits; R216; reset 0
  rights     : Nat   -- +0x10 [11:0]; 12 bits; R216; reset 0
  enable     : Bool  -- +0x10 ENABLE; 1 bit; R216; reset 0
  reject     : Nat   -- +0x14 REJECTCODE; 4 bits; R216; reset 0
  hostF      : Bool  -- HOSTSPACE in force; 1 bit; R217; reset 0
  baseF      : Nat   -- BASEADDR in force; 51 bits; R217; reset 0
  sizeF      : Nat   -- SIZEPAGES in force; 52 bits; R217; reset 0
  deriving DecidableEq, Repr

/-- A granule being copied to its spare (R230). -/
structure Copying where
  granule : Nat  -- the granule being retired; 19 bits; R230; reset none
  spare   : Nat  -- the spare it goes to; 11 bits; R230; reset none
  deriving DecidableEq, Repr

/-- The memory subsystem. -/
structure Mem where
  dev        : List Host.Cell -- device memory, addresses as the requesters name them; 31 GiB of bytes; R208; reset 0 in every byte (R441 step 9)
  host       : List Host.Cell -- host memory, the bus's own (not the device's); bytes; R210; reset 0 (DESIGN CHOICE)
  wins       : Tbl Win        -- MEM_WIN[0..511]; 512 windows; R216; reset all zero
  apbase     : Nat            -- APBASE, 256 MiB units; 7 bits; R211; reset 0
  poisoned   : List Nat       -- 64-byte blocks (address / 64) that return an uncorrectable error; 29 bits each; R230; reset empty
  rewrite    : List Nat       -- blocks marked for rewrite; 29 bits each; R227; reset empty
  rewritten  : List (Nat × Nat) -- blocks rewritten and when; 93 bits each; R228; reset empty
  copying    : List Copying   -- granules whose copy runs, oldest first; 30 bits each; R230; reset empty
  corrected  : Nat            -- MemCorrected; 64 bits; R232; reset 0
  uncorr     : Nat            -- MemUncorrectable; 32 bits; R232; reset 0
  lastError  : Nat            -- MemLastError; 64 bits; R232; reset 0
  unusableWr : Nat            -- UnusableWrites; 32 bits; R232; reset 0
  boundsCnt  : Nat            -- MemBoundsCount; 32 bits; R232; reset 0
  winFlight  : List (List Nat) -- elements in flight that were checked before PF0's latest window write, by unit and place; list; R218; reset empty
  deriving DecidableEq, Repr

/-! ## Queues -/

/-- The status codes of R252. -/
inductive Status where
  | ok | bounds | state | format | version | infeasible | overlapRotate | privilege | busError | aborted
  | timeout | retired | size | late | staleSource
  deriving DecidableEq, Repr

/-- How far an entry in execution has come. -/
inductive Phase where
  | waiting                              -- it waits for its unit or its turn
  | running                              -- its unit or firmware has it
  | finished (st : Status) (result : Nat)
  deriving DecidableEq, Repr

/-- An entry that has begun and not yet retired (R244). -/
structure Exec where
  pos    : Nat        -- unit position; 16 bits; R247; reset none
  len    : Nat        -- LENGTH; 7 bits; R235; reset none
  tag    : Nat        -- TAG; 32 bits; R235; reset none
  opcode : Nat        -- OPCODE; 8 bits; R235; reset none
  flags  : Nat        -- OPFLAGS; 8 bits; R235; reset none
  fence  : Bool       -- FENCE; 1 bit; R235; reset none
  notify : Bool       -- NOTIFY; 1 bit; R235; reset none
  body   : List Byte  -- every byte of the entry, header included; 16 × LENGTH bytes; R240; reset none
  phase  : Phase      -- how far it has come; -; R244; reset none
  began  : Nat        -- wall time of its beginning; 64 bits; R263; reset none
  aux    : List Nat   -- what the command's own rule keeps between its steps; -; R254; reset none
  deriving DecidableEq, Repr

/-- A finished record that waits for the completion ring (R248). -/
structure Record where
  pos    : Nat     -- POSITION; 16 bits; R247; reset none
  len    : Nat     -- the entry's LENGTH; 7 bits; R245; reset none
  tag    : Nat     -- TAG; 32 bits; R247; reset none
  status : Status  -- STATUS; 8 bits; R247; reset none
  result : Nat     -- RESULT; 64 bits; R247; reset none
  notify : Bool    -- QUEUE_NOTIFY is due at retirement; 1 bit; R244; reset none
  hdrDone : Bool   -- its header has been written back; 1 bit; R245; reset none
  hdr    : Nat     -- bytes 0-3 of the entry's header; 32 bits; R245; reset none
  noRec  : Bool    -- a PAD, which has no record, in its place in ring order; 1 bit; R245; reset none
  deriving DecidableEq, Repr

/-- The halting fields of a ring (R253). -/
structure RingCfg where
  cls    : Nat   -- CLASS; 2 bits; R253; reset 3 for rings 0-63, 0 otherwise
  owner  : Fn    -- OWNER; 1 bit; R253; reset PF0
  sqBase : Nat   -- SQBASE; 64 bits; R253; reset 0
  sqLog2 : Nat   -- SQLOG2; 5 bits; R253; reset 6
  cqLog2 : Nat   -- CQLOG2; 5 bits; R253; reset 4
  cqBase : Nat   -- CQBASE; 64 bits; R253; reset 0
  deriving DecidableEq, Repr

/-- STATE of R253. -/
inductive RState where
  | disabled | idle | running | stopped | halted | blocked | held
  deriving DecidableEq, Repr

/-- One submission ring with its completion ring. -/
structure Ring where
  enable    : Bool        -- ENABLE; 1 bit; R253; reset 0
  stop      : Bool        -- STOP; 1 bit; R253; reset 0
  cfg       : RingCfg     -- the halting fields as written; -; R253; reset as its fields
  force     : RingCfg     -- the halting fields in force since the latest enable; -; R250; reset as its fields
  head      : Nat         -- HEAD; 16 bits; R253; reset 0
  prodIdx   : Nat         -- CQPRODINDEX; 16 bits; R253; reset 0
  prodWrap  : Bool        -- CQPRODWRAP; 1 bit; R253; reset 0
  consIdx   : Nat         -- CQCONSINDEX; 16 bits; R253; reset 0
  consWrap  : Bool        -- CQCONSWRAP; 1 bit; R253; reset 0
  state     : RState      -- STATE; 3 bits; R253; reset DISABLED
  haltCode  : Nat         -- HALTCODE; 8 bits; R253; reset 0
  haltPos   : Nat         -- HALTPOS; 16 bits; R253; reset 0
  enFault   : Bool        -- the latest enable failed (its bit of QUE_HALTMAP); 1 bit; R253; reset 0
  sump      : List Record -- the Sump, oldest first; 8 records; R248; reset empty
  inflight  : List Exec   -- entries in execution, in ring order; 16 entries; R244; reset empty
  retiredN  : Nat         -- RETIRED; 32 bits; R253; reset 0
  dbIgnored : Nat         -- DBIGNORED; 16 bits; R253; reset 0
  consBad   : Nat         -- CQCONSBAD; 16 bits; R253; reset 0
  dbPending : Bool        -- doorbell-pending flag; 1 bit; R241; reset 0
  inline    : List Byte   -- inline units accepted and not yet executed; up to 64 bytes; R243; reset empty
  byField   : Bool        -- a halting field halted it: only the next enable resumes it; 1 bit; R387; reset 0
  reread    : Bool        -- the doorbell page's one-shot repeat: entries are read afresh from the ring; 1 bit; R243; reset 0
  deriving DecidableEq, Repr

/-- The queue engine. -/
structure Que where
  rings   : Tbl Ring -- QUE[0..255]; 256 rings; R253; reset all as Ring
  served  : Nat      -- the SCENE ring firmware served last; 8 bits; R92; reset 255 (DESIGN CHOICE)
  servedM : Nat      -- the MGMT ring firmware served last; 8 bits; R233; reset 255 (DESIGN CHOICE)
  deriving DecidableEq, Repr

/-! ## Siphon -/

/-- The accumulators and PUBFAIL of a channel (R260, R266), which a restart restores. -/
structure Accs where
  content  : Word32  -- content CRC register, complemented form; 32 bits; R260; reset 0xFFFFFFFF
  sum32c   : Word32  -- checksum accumulator, CRC-32C register; 32 bits; R260; reset 0xFFFFFFFF
  sum1     : Nat     -- Fletcher-64 sum1 over whole words; 32 bits; R260; reset 0
  sum2     : Nat     -- Fletcher-64 sum2; 32 bits; R260; reset 0
  tail     : List Byte -- bytes of the word not yet whole; up to 3 bytes; R260; reset empty
  bytes    : Nat     -- CKSUMBYTES; 64 bits; R274; reset 0
  pubFail  : Bool    -- PUBFAIL; 1 bit; R266; reset 0
  deriving DecidableEq, Repr

/-- One Siphon channel. -/
structure Chan where
  cls        : Nat      -- CLASS as written; 3 bits; R274; reset 1
  publishing : Bool     -- PUBLISHING as written; 1 bit; R274; reset 0
  clsF       : Nat      -- CLASS in force; 3 bits; R274; reset 1
  pubF       : Bool     -- PUBLISHING in force; 1 bit; R274; reset 0
  safetyEff  : Bool     -- SAFETYEFF; 1 bit; R274; reset 0
  lastStatus : Nat      -- LASTSTATUS; 8 bits; R274; reset 0
  acc        : Accs     -- accumulators and PUBFAIL; -; R260; reset as Accs
  saved      : Accs     -- their values at the latest retirement; -; R270; reset as Accs
  moved      : Nat      -- BYTESMOVED; 64 bits; R274; reset 0
  failed     : Nat      -- FAILED; 16 bits; R274; reset 0
  pubSkipped : Nat      -- PUBSKIPPED; 16 bits; R274; reset 0
  pending    : List Nat -- wait-source bits set; 160 bits; R263; reset empty
  retired    : Bool     -- channel retired; 1 bit; R271; reset 0
  restartPos : Nat      -- ring position after the last retired descriptor; 16 bits; R270; reset 0
  deriving DecidableEq, Repr

/-- The Siphon engine. -/
structure Siph where
  chans       : Tbl Chan -- channels 0-63; 64 channels; R254; reset all as Chan
  halted      : Bool     -- ENGHALTED; 1 bit; R275; reset 0
  attempts    : Nat      -- ATTEMPTS; 2 bits; R275; reset 0
  errKind     : Nat      -- ERRKIND; 4 bits; R275; reset 0
  errAddr     : Nat      -- ERRADDR; 64 bits; R275; reset 0
  candMask    : Nat      -- CANDMASK; 64 bits; R275; reset 0
  windowMasks : List Nat -- candidate masks of the errors of the window; four of 64 bits; R271; reset empty
  windowStart : Nat      -- WINDOWSTART; 64 bits; R275; reset 0
  windowOpen  : Bool     -- a retry window is open; 1 bit; R271; reset 0
  halts       : Nat      -- HALTS; 32 bits; R275; reset 0
  haltsTotal  : Nat      -- SiphonHalts; 32 bits; R276; reset 0
  restarts    : Nat      -- SiphonRestarts; 32 bits; R276; reset 0
  reenables   : List Nat -- channels whose REENABLE waits for the restart; 64 bits; R272; reset empty
  gpioPulses  : Tbl Nat  -- GPIO_EV output pulses: pin to the wall time the pulse ends; 16 pins; R264; reset idle
  deriving DecidableEq, Repr

/-! ## 2D engine -/

/-- UNITSTATE of R295, but for PAUSED, which an idle unit reads while BULK work is shed. -/
inductive UState where
  | idle | running | held | retired | stageWait
  deriving DecidableEq, Repr

/-- One blit unit. -/
structure Unit2D where
  state     : UState     -- UNITSTATE; 3 bits; R295; reset IDLE
  ring      : Nat        -- RING; 8 bits; R295; reset 0
  position  : Nat        -- POSITION; 16 bits; R295; reset 0
  linesDone : Nat        -- LINESDONE; 32 bits; R295; reset 0
  bytes     : Nat        -- BYTESWRITTEN; 64 bits; R295; reset 0
  faults    : Nat        -- FAULTS; 16 bits; R295; reset 0
  lastFault : Option Nat -- wall time of the latest fault; 64 bits; R292; reset none
  deriving DecidableEq, Repr

/-- The 2D engine. -/
structure Blit where
  units      : Tbl Unit2D -- units 0-3; 4 units; R278; reset all as Unit2D
  lastRing   : Nat        -- the BLIT ring last served; 8 bits; R278; reset 255 (DESIGN CHOICE)
  staging    : Option Nat -- unit whose command holds the staging store; 2 bits; R289; reset none
  stageQueue : List Nat   -- units waiting for the store, in order of arrival; 2 bits each; R289; reset empty
  staged     : Option (List Host.Cell) -- the staging store: the source copied for the command that holds it; 128 MiB; R289; reset none
  lampDead   : Nat        -- LAMPSQUEEZE; 12 bits; R295; reset 0
  commands   : Nat        -- COMMANDS; 64 bits; R295; reset 0
  stagedN    : Nat        -- STAGED; 32 bits; R295; reset 0
  stagedTot  : Nat        -- BlitStagedCommands; 32 bits; R296; reset 0
  busErrors  : Nat        -- BlitBusErrors; 32 bits; R296; reset 0
  deriving DecidableEq, Repr

/-! ## Event controller -/

/-- One event source. -/
structure EvSrc where
  level    : Bool  -- TYPE is LEVEL; 1 bit; R416; reset 0
  owner    : Fn    -- OWNER; 1 bit; R416; reset PF0
  target   : Nat   -- TARGETKIND; 2 bits; R416; reset 0
  coalesce : Bool  -- COALESCE; 1 bit; R416; reset 0
  group    : Nat   -- GROUP; 6 bits; R416; reset 0
  vector   : Nat   -- VECTOR; 11 bits; R416; reset 0
  enabled  : Bool  -- ENABLE; 1 bit; R416; reset 0
  pending  : Bool  -- PENDING; 1 bit; R416; reset 0
  active   : Bool  -- ACTIVE; 1 bit; R416; reset 0
  raw      : Bool  -- RAW, the level of a condition source; 1 bit; R416; reset 0
  coreClr  : Bool  -- cleared by a management core: pending waits for the next rise; 1 bit; R413; reset 0
  deriving DecidableEq, Repr

/-- One coalescing group. -/
structure EvGroup where
  count    : Nat   -- COUNTTHRESH; 12 bits; R416; reset 0
  time     : Nat   -- TIMETHRESH; 16 bits; R416; reset 0
  counted  : Nat   -- COUNT; 13 bits; R416; reset 0
  holding  : Bool  -- HOLDING; 1 bit; R416; reset 0
  releases : Nat   -- RELEASES; 32 bits; R416; reset 0
  started  : Nat   -- wall time at which the round's timer started; 64 bits; R410; reset 0
  deriving DecidableEq, Repr

/-- Where a message goes. -/
inductive Target where
  | vector (fn : Fn) (v : Nat)
  | core (c : Nat)
  deriving DecidableEq, Repr

/-- One MSI-X table entry. -/
structure MsixEntry where
  addr   : Nat   -- message address; 64 bits; R411; reset 0
  data   : Nat   -- message data; 32 bits; R411; reset 0
  masked : Bool  -- Mask bit; 1 bit; R411; reset 1
  deriving DecidableEq, Repr

/-- A function's configuration space as R383 and R411 use it. -/
structure FnCfg where
  msixEnable : Bool          -- MSI-X Enable; 1 bit; R411; reset 0
  fnMask     : Bool          -- Function Mask; 1 bit; R411; reset 0
  busMaster  : Bool          -- Bus Master Enable; 1 bit; R411; reset 0
  relaxed    : Bool          -- Relaxed Ordering Enable; 1 bit; R225; reset 1
  d0         : Bool          -- power state D0; 1 bit; R383; reset 1
  msix       : Tbl MsixEntry -- MSI-X table; 2,048 or 128 entries; R383; reset masked
  deriving DecidableEq, Repr

/-- The event controller. -/
structure Evc where
  srcs     : Tbl EvSrc   -- sources 0-1535; 1,536 sources; R416; reset all as EvSrc
  groups   : Tbl EvGroup -- groups 0-63; 64 groups; R416; reset all as EvGroup
  order    : List (Nat × Target) -- targets with a presentable source and when they became so, in the order of issue; list; R412; reset empty
  freshLog : Tbl (List Byte) -- FRESHLOG entries; 256 of 16 bytes; R416; reset 0
  freshIdx : Nat         -- FRESHLOGINDEX; 32 bits; R416; reset 0
  issued0  : Nat         -- ISSUED0; 32 bits; R416; reset 0
  issued1  : Nat         -- ISSUED1; 32 bits; R416; reset 0
  total0   : Nat         -- MessagesIssuedPf0; 64 bits; R417; reset 0
  total1   : Nat         -- MessagesIssuedPf1; 64 bits; R417; reset 0
  log      : List (Nat × Nat) -- EventLog records, oldest first: source, wall time; 1,024 of 16 bytes; R417; reset empty
  logN     : Nat         -- EventLogWritten; 32 bits; R417; reset 0
  pf0      : FnCfg       -- PF0's configuration space; -; R383; reset as FnCfg
  pf1      : FnCfg       -- PF1's configuration space; -; R383; reset as FnCfg
  bar2Log2 : Nat         -- BAR2 size as a power of two; 6 bits; R211; reset 35
  deriving DecidableEq, Repr

/-! ## Sources -/

/-- A registration (R36). -/
structure Reg where
  format : Nat       -- FORMAT; 8 bits; R36; reset none
  flags  : Nat       -- FLAGS [3:0]; 8 bits; R36; reset none
  bufs   : Nat       -- BUFFER_COUNT; 8 bits; R36; reset none
  cls    : Nat       -- CLASS; 8 bits; R36; reset none
  frozenN : Nat      -- FROZEN_N; 8 bits; R36; reset none
  width  : Nat       -- WIDTH; 16 bits; R36; reset none
  height : Nat       -- HEIGHT; 16 bits; R36; reset none
  stride : Nat       -- STRIDE; 32 bits; R36; reset none
  addrs  : List Nat  -- BUFFER_0..2; three of 64 bits; R36; reset none
  chroma : Nat       -- CHROMA_OFFSET; 32 bits; R36; reset none
  aux    : Nat       -- AUX_ADDRESS; 64 bits; R36; reset none
  maskFg : Nat       -- MASK_FG; 32 bits; R36; reset none
  maskBg : Nat       -- MASK_BG; 32 bits; R36; reset none
  deadline : Nat     -- DEADLINE in µs; 32 bits; R36; reset none
  warning  : Nat     -- WARNING in µs; 32 bits; R36; reset none
  home   : Nat       -- HOME; 12 bits; R36; reset none
  deriving DecidableEq, Repr

/-- What the source table keeps of one buffer. -/
structure Buf where
  stamp    : Nat           -- its publication's stamp; 64 bits; R42; reset 0
  crc      : Option Nat    -- its publication's CRC when valid; 32 bits; R42; reset none
  frozen   : Bool          -- frozen mark; 1 bit; R51; reset 0
  cancel   : Bool          -- cancel mark; 1 bit; R52; reset 0
  deriving DecidableEq, Repr

/-- The reported states of R53. -/
inductive SState where
  | never | fresh | aging | stale | withdrawn | frozen
  deriving DecidableEq, Repr

/-- One source. -/
structure Source where
  reg       : Reg         -- the registration; 80 bytes; R36; reset none
  withdrawn : Bool        -- WITHDRAWN; 1 bit; R60; reset 0
  cur       : Option Nat  -- current buffer; 2 bits; R42; reset none
  bufs      : Tbl Buf     -- what is kept of each buffer; three; R42; reset empty
  lastCrc   : Option Nat  -- CRC of the latest admitted publication whose CRC was valid; 32 bits; R51; reset none
  repeats   : Nat         -- frozen repeat count; 8 bits and above; R51; reset 0
  rejects   : Nat         -- REJECTS; 32 bits; R53; reset 0
  conflicts : Nat         -- CONFLICTS; 32 bits; R53; reset 0
  pubs      : Nat         -- PUBLICATIONS; 32 bits; R53; reset 0
  reported  : SState      -- reported state; 3 bits; R53; reset NEVER
  replicas  : List Nat    -- replica buffer addresses of a remote source on this member; three of 64 bits; R314; reset empty
  deriving DecidableEq, Repr

/-- A buffer that a head has sampled for one of its layers (R44). -/
structure Sample where
  src    : Nat   -- source; 13 bits; R44; reset none
  buf    : Nat   -- buffer taken; 2 bits; R44; reset none
  stamp  : Nat   -- its stamp when it was taken; 64 bits; R47; reset none
  frozen : Bool  -- its frozen mark when it was taken; 1 bit; R51; reset none
  deriving DecidableEq, Repr

/-- Which path a publication came by (R41). -/
inductive PubPath where
  | host (q : Nat)
  | siphon (c : Nat)
  | stream
  deriving DecidableEq, Repr

/-- A publication that has reached the source table and waits for admission (R42). -/
structure Pub where
  raw   : List Byte  -- the publication record; 16 bytes; R40; reset none
  path  : PubPath    -- the path it came by; -; R41; reset none
  at_   : Nat        -- arrival time; 64 bits; R42; reset none
  deriving DecidableEq, Repr

/-- The source table. -/
structure Src where
  table    : Tbl Source -- registered and withdrawn sources; 8,192 entries; R38; reset empty
  arrivals : List Pub   -- publications handed over, in order of arrival; list; R42; reset empty
  deriving DecidableEq, Repr

end Sys2Proof.Machine
end

