-- ==== Sys2Proof/Machine/Blocks2.lean ====
section
/-!
DEFINITION. The rest of the blocks as plain data: scenes, heads, galleries, Lantern and Echo, writeback, the Ilelle
fabric, Lamp, the object dictionary and LOP. Each field's comment reads: what it is; its width; the rule that names it;
its reset value.
-/

namespace Sys2Proof.Machine

/-! ## Scenes -/

/-- A layer record (R71). -/
structure Layer where
  id     : Nat   -- LAYER_ID; 12 bits; R71; reset none
  head   : Nat   -- HEAD; 4 bits; R71; reset none
  cls    : Nat   -- CLASS; 8 bits; R71; reset none
  z      : Nat   -- Z; 16 bits; R71; reset none
  src    : Nat   -- SOURCE_ID; 13 bits; R71; reset none
  blend  : Nat   -- BLEND; 8 bits; R71; reset none
  band   : Bool  -- BAND_MODE; 1 bit; R71; reset none
  opaq   : Bool  -- FORCE_OPAQUE; 1 bit; R71; reset none
  zero   : Bool  -- EDGE_ZERO; 1 bit; R71; reset none
  alpha  : Nat   -- LAYER_ALPHA; 16 bits; R71; reset none
  dst    : Rect  -- DST; four of 32 bits; R71; reset none
  mark   : Rect  -- MARK; four of 32 bits; R71; reset none
  cropX  : Nat   -- SRC_X; 16 bits; R71; reset none
  cropY  : Nat   -- SRC_Y; 16 bits; R71; reset none
  cropW  : Nat   -- SRC_W; 16 bits; R71; reset none
  cropH  : Nat   -- SRC_H; 16 bits; R71; reset none
  stepH  : Nat   -- STEP_H; 32 bits; R71; reset none
  stepV  : Nat   -- STEP_V; 32 bits; R71; reset none
  initH  : Int   -- INIT_H; 32 bits signed; R71; reset none
  initV  : Int   -- INIT_V; 32 bits signed; R71; reset none
  coefH  : Nat   -- COEF_H; 8 bits; R71; reset none
  coefV  : Nat   -- COEF_V; 8 bits; R71; reset none
  colour : Nat   -- COLOUR_ID; 8 bits; R71; reset none
  tone   : Nat   -- TONE_ID; 8 bits; R71; reset none
  key    : Px    -- KEY_COLOUR; 48 bits; R71; reset none
  offset : Nat   -- byte offset of the record in its descriptor; 22 bits; R85; reset none
  deriving DecidableEq, Repr

/-- A region record (R73). -/
structure Region where
  id       : Nat   -- REGION_ID; 6 bits; R73; reset none
  head     : Nat   -- HEAD; 4 bits; R73; reset none
  expect   : Nat   -- EXPECT; 2 bits; R73; reset none
  policy   : Nat   -- POLICY; 2 bits; R73; reset none
  x0       : Nat   -- RECT X0; 16 bits; R73; reset none
  y0       : Nat   -- RECT Y0; 16 bits; R73; reset none
  x1       : Nat   -- RECT X1; 16 bits; R73; reset none
  y1       : Nat   -- RECT Y1; 16 bits; R73; reset none
  expected : Nat   -- EXPECTED; 32 bits; R73; reset none
  onSame   : Bool  -- PREVIOUS_ON_SAME; 1 bit; R73; reset none
  offset   : Nat   -- byte offset of the record; 22 bits; R85; reset none
  deriving DecidableEq, Repr

/-- A HEAD record (R74). -/
structure HeadRec where
  head       : Nat   -- HEAD; 4 bits; R74; reset none
  linear     : Bool  -- WORKSPACE; 8 bits; R74; reset none
  background : Px    -- BACKGROUND; 48 bits; R74; reset none
  offset     : Nat   -- byte offset of the record; 22 bits; R85; reset none
  deriving DecidableEq, Repr

/-- A COLOUR record (R75). -/
structure Colour where
  id       : Nat              -- COLOUR_ID; 8 bits; R75; reset none
  transfer : Nat              -- TRANSFER; 8 bits; R75; reset none
  ycc      : Nat              -- YCC; 2 bits; R75; reset none
  matrix   : Option (List Int) -- MATRIX when in use; nine of 16 bits; R75; reset none
  lut      : Option (List Nat) -- decode LUT when present; 1,024 of 16 bits; R75; reset none
  deriving DecidableEq, Repr

/-- A TONE_CURVE record (R76). -/
structure Tone where
  id  : Nat       -- TONE_ID; 8 bits; R76; reset none
  lut : List Nat  -- tone LUT; 4,096 of 16 bits; R76; reset none
  deriving DecidableEq, Repr

/-- A compiled scene descriptor (R67, R68). -/
structure Scene where
  generation : Nat          -- GENERATION; 8 bits; R68; reset none
  mask       : Nat          -- HEAD_MASK; 16 bits; R68; reset none
  epoch      : Nat          -- EPOCH; 32 bits; R68; reset none
  layers     : List Layer   -- LAYER records in descriptor order; 4,096 records; R77; reset none
  regions    : List Region  -- REGION records in descriptor order; 64 per head; R77; reset none
  heads      : List HeadRec -- HEAD records; 16 records; R74; reset none
  colours    : List Colour  -- COLOUR records; 256 records; R77; reset none
  tones      : List Tone    -- TONE_CURVE records; 64 records; R77; reset none
  deriving DecidableEq, Repr

/-- The commit machinery of the scene block (R396). -/
structure Scn where
  checkState   : Nat   -- CHECKSTATE; 2 bits; R396; reset 0
  lastStatus   : Nat   -- LASTSTATUS; 8 bits; R396; reset 0
  lastResource : Nat   -- LASTRESOURCE; 8 bits; R396; reset 0
  lastCheckNs  : Nat   -- LASTCHECKNS; 32 bits; R396; reset 0
  lastEpoch    : Nat   -- LASTEPOCH; 32 bits; R396; reset 0
  accepted     : Nat   -- ACCEPTED; 16 bits; R396; reset 0
  rejected     : Nat   -- REJECTED; 16 bits; R396; reset 0
  acceptedTot  : Nat   -- CommitsAccepted; 32 bits; R95; reset 0
  rejectedTot  : Nat   -- CommitsRejected; 32 bits; R95; reset 0
  eSum         : Nat   -- ESUM; 8 bits; R396; reset 192
  eMin         : Nat   -- EMIN; 5 bits; R396; reset 16
  spareShed    : Nat   -- SpareShedClasses: [0] BULK, [1] DECOR, [2] MIMIC, [3] LIVE; 8 bits; R434; reset 0
  recheckDue   : Bool  -- a re-check of R430 is due; 1 bit; R430; reset 0
  deriving DecidableEq, Repr

/-! ## Galleries and bands -/

/-- What the band's decision record holds for one layer (R190). -/
structure LayerDec where
  layer  : Nat         -- index of the layer in the scene's list; 12 bits; R190; reset none
  sample : Option Sample -- buffer sampled, its stamp and mark; -; R190; reset none
  reg    : Option Reg  -- registration of its source at that moment; 80 bytes; R102; reset none
  addr   : Nat         -- where the sampled buffer lies; 35 bits; R102; reset none
  pal    : Nat         -- where its palette lies; 35 bits; R111; reset none
  state  : Nat         -- freshness state: 1 WITHDRAWN to 7 FRESH by R48's order; 3 bits; R48; reset none
  shed   : Bool        -- drawn as withheld: shed, or SAFE treatment; 1 bit; R190; reset none
  bounds : Bool        -- FETCH_BOUNDS outcome; 1 bit; R105; reset none
  deriving DecidableEq, Repr

/-- A tile an engine has in hand. -/
structure TileJob where
  engine : Nat          -- engine 0-16; 5 bits; R103; reset none
  head   : Nat          -- head of its band; 4 bits; R103; reset none
  frame  : Nat          -- frame of its band; 48 bits; R103; reset none
  band   : Nat          -- band; 10 bits; R103; reset none
  tile   : Nat          -- tile; 6 bits; R103; reset none
  pixels : List Px      -- the composed pixels, line by line; 1,024 pixels; R103; reset none
  deriving DecidableEq, Repr

/-- A band between its composition start and its drain (R101, R102). -/
structure Band where
  frame    : Nat            -- frame it belongs to; 48 bits; R101; reset none
  band     : Nat            -- band number; 10 bits; R100; reset none
  gallery  : Nat            -- gallery it was assigned to; 4 bits; R102; reset none
  seq      : Nat            -- order of assignment; 64 bits; R103; reset none
  glass    : Nat            -- glass time in ns; 64 bits; R46; reset none
  cycles   : Nat            -- charged cycles granted; 32 bits; R425; reset none
  twoTap   : Bool           -- two-tap mark; 1 bit; R425; reset none
  safe     : Bool           -- SAFE treatment; 1 bit; R177; reset none
  decs     : List LayerDec  -- decision record; one per contributing layer; R190; reset none
  untaken  : List Nat       -- tiles not taken, reissued ones first; 40 of 6 bits; R103; reset none
  done     : Tbl (List Px)  -- tiles written into the band buffer; 40 tiles; R101; reset none
  finished : Bool           -- every tile written; 1 bit; R103; reset none
  abandon  : Bool           -- abandoned after a memory error; 1 bit; R106; reset none
  engFault : Bool           -- held a tile discarded under R124; 1 bit; R123; reset none
  galLeft  : Bool           -- queued on a gallery that left service; 1 bit; R123; reset none
  scene    : Option Scene   -- scene it is composed from; -; R89; reset none
  cfg      : Tbl (List Byte) -- entries in force for its frame; one per entry; R150; reset none
  noReserve : Bool          -- taken from its queue before the reserve engine became active; 1 bit; R125; reset none
  restarted : Bool          -- composed again after a head-state change; 1 bit; R176; reset none
  deriving DecidableEq, Repr

/-- One gallery (R98, R128). -/
structure Gal where
  retired    : Bool          -- gallery retired; 1 bit; R127; reset kept in the health record
  excluded   : Bool          -- out of service by GalleryExclude; 1 bit; R127; reset 0
  faultOut   : Bool          -- out of service after a shared-part fault; 1 bit; R127; reset 0
  retiredEng : Nat           -- RETIREDENG; 17 bits; R397; reset kept in the health record
  reserve    : Bool          -- RESERVEINUSE; 1 bit; R397; reset kept in the health record
  gated      : Bool          -- clock-gated by Lamp; 1 bit; R425; reset 0
  lastShared : Option Nat    -- wall time of the latest shared-part fault; 64 bits; R127; reset none
  engFaults  : Tbl Nat       -- wall time of each engine's latest fault; 17 of 64 bits; R124; reset none
  jobs       : List TileJob  -- tiles in hand; 17 tiles; R103; reset empty
  coefLoaded : Nat           -- COEFLOADED; 16 bits; R397; reset 0
  faults     : Nat           -- FAULTS; 16 bits; R397; reset 0
  reissued   : Nat           -- REISSUED; 16 bits; R397; reset 0
  bandsDone  : Nat           -- BANDSDONE; 64 bits; R397; reset 0
  tilesDone  : Nat           -- TILESDONE; 64 bits; R397; reset 0
  deriving DecidableEq, Repr

/-- The twelve galleries and their totals. -/
structure Gals where
  gals         : Tbl Gal -- galleries 0-11; 12 galleries; R98; reset all as Gal
  engineFaults : Nat     -- EngineFaults; 32 bits; R128; reset 0
  reissued     : Nat     -- TilesReissued; 32 bits; R128; reset 0
  dispatched   : Nat     -- BandsDispatched; 64 bits; R128; reset 0
  galFaults    : Nat     -- GalleryFaults; 32 bits; R128; reset 0
  reducedBands : Nat     -- ReducedBands; 64 bits; R151; reset 0
  coefPending  : List (Nat × Reply) -- coefficient sets accepted and not yet in every store, with the write to complete; 4 bits each; R137; reset empty
  deriving DecidableEq, Repr

/-! ## Heads -/

/-- HeadState of R173. -/
inductive HState where
  | off | idle | active | safe | halted
  deriving DecidableEq, Repr

/-- LockState of R158. -/
inductive Lock where
  | free | acquiring | locked | holdover
  deriving DecidableEq, Repr

/-- LinkState of R178. -/
inductive Link where
  | down | training | up | retired | noSink | insufficient
  deriving DecidableEq, Repr

/-- The timing configuration a head runs on, mirrored in its registers (R153, R395). -/
structure Timing where
  hActive : Nat   -- HACTIVE; 16 bits; R395; reset 0
  hFront  : Nat   -- horizontal front porch; 16 bits; R153; reset 0
  hSync   : Nat   -- horizontal sync width; 16 bits; R153; reset 0
  hBack   : Nat   -- horizontal back porch; 16 bits; R153; reset 0
  hPos    : Bool  -- HSYNCPOS; 1 bit; R395; reset 0
  vActive : Nat   -- VACTIVE; 16 bits; R395; reset 0
  vFront  : Nat   -- vertical front porch; 16 bits; R153; reset 0
  vSync   : Nat   -- vertical sync width; 16 bits; R153; reset 0
  vBack   : Nat   -- vertical back porch; 16 bits; R153; reset 0
  vPos    : Bool  -- VSYNCPOS; 1 bit; R395; reset 0
  num     : Nat   -- FrameRateNum in force; 32 bits; R153; reset 0
  den     : Nat   -- FrameRateDen in force; 32 bits; R153; reset 0
  phase   : Nat   -- FramePhase in force; 32 bits; R153; reset 0
  genlock : Nat   -- GENLOCK; 2 bits; R395; reset 0
  dsc     : Bool  -- DSCEN; 1 bit; R395; reset 0
  bond    : Bool  -- BOND; 1 bit; R395; reset 0
  depth   : Nat   -- OUTDEPTH; 2 bits; R395; reset 0
  window  : Nat   -- W in force; 3 bits; R395; reset 0
  guard   : Nat   -- G in force; 5 bits; R89; reset 0
  deriving DecidableEq, Repr

/-- A region's state in Lantern (R188, R398). -/
structure RegSt where
  crcReg  : Word32       -- CRC register of the frame under way; 32 bits; R186; reset 0xFFFFFFFF
  missed  : Bool         -- a band of the region was drained as fault drapery; 1 bit; R194; reset 0
  final   : Bool         -- the CRC of the frame is final and its verdict due; 1 bit; R195; reset 0
  finalFrame : Nat       -- frame whose verdict is due; 48 bits; R195; reset 0
  crc     : Nat          -- CRC, the latest; 32 bits; R398; reset 0
  verdict : Nat          -- VERDICT; 3 bits; R398; reset 0
  run     : Nat          -- RUN; 8 bits and above; R188; reset 0
  frame   : Nat          -- VERDICTFRAME; 48 bits; R398; reset 0
  refs    : List (Nat × Nat) -- stored references: frame, CRC; up to 16 of 80 bits; R188; reset empty
  echoReg : Word32       -- Echo's CRC register for the frame under way; 32 bits; R191; reset 0xFFFFFFFF
  echoNext : Nat         -- lines of the active area Echo has passed in it; 13 bits; R191; reset 0
  echoBad : Bool         -- Echo's CRC cannot be completed for this frame; 1 bit; R192; reset 0
  nextReg : Word32       -- Echo's CRC register for the next frame; 32 bits; R191; reset 0xFFFFFFFF
  nextNext : Nat         -- lines of the active area Echo has passed in it; 13 bits; R191; reset 0
  nextBad : Bool         -- Echo's CRC cannot be completed for the next frame; 1 bit; R192; reset 0
  deriving DecidableEq, Repr

/-- A part of Echo's work: one band of one ECHO region (R191). -/
structure EchoPart where
  frame  : Nat            -- frame; 48 bits; R191; reset none
  region : Nat            -- REGION_ID; 6 bits; R191; reset none
  band   : Nat            -- band; 10 bits; R191; reset none
  deriving DecidableEq, Repr

/-- One scan head. -/
structure Head where
  state      : HState     -- HeadState; 3 bits; R173; reset OFF
  next       : Option HState -- state called for by a mode entry at the next line 0; 3 bits; R347; reset none
  wantSafe   : Bool       -- SAFE called for at the next line 0; 1 bit; R176; reset 0
  wantHalt   : Bool       -- HALTED called for at the next line 0; 1 bit; R176; reset 0
  resume     : Bool       -- a write of HeadResume waits for line 0; 1 bit; R176; reset 0
  starting   : Bool       -- it has left OFF and has not reached its first line 0; 1 bit; R157; reset 0
  startAt    : Nat        -- wall time of that first line 0; 64 bits; R157; reset 0
  restart    : Bool       -- its mode-timed entries changed: it stops at the next line 0 and restarts; 1 bit; R347; reset 0
  timing     : Timing     -- timing in force; -; R395; reset 0
  configFault : Nat       -- HeadConfigFault; 8 bits; R178; reset 0
  lock       : Lock       -- LockState; 2 bits; R158; reset FREE
  goodFrames : Nat        -- consecutive frames within 50 ns; 4 bits; R158; reset 0
  phaseErr   : Int        -- PhaseError; 32 bits signed; R158; reset 0
  trim       : Int        -- PLL trim in ppm; 8 bits signed; R159; reset 0
  slips      : Nat        -- SlipCount; 32 bits; R160; reset 0
  syncTarget : Option Nat -- latest SYNC_IN target moment; 64 bits; R157; reset none
  syncEdges  : Nat        -- consecutive valid SYNC_IN edges since holdover; 2 bits; R158; reset 0
  frame      : Nat        -- FRAME; 48 bits; R155; reset 0
  counted    : Bool       -- a line 0 has been reached since reset, so FRAME names a frame; 1 bit; R13; reset 0
  f          : Nat        -- FRAMESTART, F(h, n); 64 bits; R155; reset 0
  vtotalN    : Nat        -- VTOTAL_n; 13 bits; R159; reset 0
  latched    : Bool       -- the latch of the frame under way has passed; 1 bit; R90; reset 0
  curEpoch   : Nat        -- CURRENTEPOCH; 32 bits; R395; reset 0
  cur        : Option Scene -- scene latched; -; R62; reset none
  shown      : Nat        -- epoch of the frame leaving the transmitter; 32 bits; R66; reset 0
  shownScene : Option Scene -- scene of the frame leaving the transmitter; -; R62; reset none
  pendEpoch  : Nat        -- PENDINGEPOCH; 32 bits; R395; reset 0
  pend       : Option Scene -- pending scene; -; R92; reset none
  pendCfg    : List (Nat × List Byte) -- the values of the staged entries the pending scene was checked with; list; R150; reset empty
  pendLate   : Bool       -- the pending scene waits for the latch after the next; 1 bit; R396; reset 0
  target     : Nat        -- TARGET_FRAME; 48 bits; R66; reset 0
  superseded : Nat        -- SUPERSEDED; 32 bits; R396; reset 0
  late       : Nat        -- LateCount; 32 bits; R95; reset 0
  lateRc     : Nat        -- LATECOMMITS; 16 bits; R395; reset 0
  slipsRc    : Nat        -- SLIPS; 16 bits; R395; reset 0
  missRc     : Nat        -- BANDMISSES; 16 bits; R395; reset 0
  lossRc     : Nat        -- LINKLOSSES; 16 bits; R395; reset 0
  samples    : Tbl Sample -- buffers its frame-mode layers took at the latest latch, by layer index; 4,096 entries; R44; reset empty
  cfg        : Tbl (List Byte) -- the entries in force at the latest latch, which the frame it begins uses throughout; one per entry; R59; reset empty
  shownCfg   : Tbl (List Byte) -- the entries that the frame leaving the transmitter uses; one per entry; R59; reset empty
  nextBand   : Nat        -- next band whose composition starts; 10 bits; R101; reset 0
  nextDrain  : Nat        -- next band to drain; 10 bits; R120; reset 0
  bands      : List Band  -- band buffer: bands under composition and draining; W + 1 bands; R101; reset empty
  missCount  : Nat        -- BandMissCount; 32 bits; R122; reset 0
  lastMiss   : Nat        -- LastMissFrame; 64 bits; R122; reset 0
  missCause  : Nat        -- LastMissCause; 8 bits; R122; reset 0
  fetchCount : Nat        -- FetchBoundsCount; 32 bits; R122; reset 0
  missInFrame : Bool      -- a band of the frame under way was missed; 1 bit; R181; reset 0
  lineOut    : List (List Px) -- the lines last sent, at the output depth; 8 lines; R161; reset empty
  misfit     : Bool       -- GainMapMisfit; 1 bit; R148; reset 0
  deriving DecidableEq, Repr

/-- A head's DisplayPort link and sink (R164 to R169, R183). -/
structure DpLink where
  state      : Link       -- LinkState; 3 bits; R178; reset DOWN
  rate       : Nat        -- LinkRate; 3 bits; R178; reset 0 (DESIGN CHOICE)
  lanes      : Nat        -- LaneCount; 3 bits; R178; reset 0
  events     : Nat        -- LinkEvents; 32 bits; R178; reset 0
  failTimes  : List Nat   -- wall times of the failures and losses in the 2 s window; 64 bits each; R166; reset empty
  attemptAt  : Nat        -- wall time the attempt under way began; 64 bits; R165; reset 0
  retryAt    : Option Nat -- wall time the next attempt is due; 64 bits; R165; reset none
  irqWaits   : Option Bool -- an IRQ_HPD that arrived during an attempt, with its loss; 1 bit; R167; reset none
  carrying   : Bool       -- the stream is on the link; 1 bit; R168; reset 0
  upFrame    : Nat        -- LinkUpFrame; 48 bits; R178; reset 0
  auxOn      : Bool       -- AUX running; 1 bit; R166; reset 0
  sinkD3     : Bool       -- sink set to D3 through SET_POWER; 1 bit; R169; reset 1 (DESIGN CHOICE)
  sink       : Option SinkCaps -- sink capabilities as read at the latest plug (SinkEdid, SinkDpcdCaps); 16 bytes and up to 4 KiB; R178; reset none
  crcState   : Nat        -- SinkCrcState; 8 bits; R183; reset 0
  compared   : Nat        -- SinkCrcCompared; 32 bits; R183; reset 0
  mismatched : Nat        -- SinkCrcMismatched; 32 bits; R183; reset 0
  skipped    : Nat        -- SinkCrcSkipped; 32 bits; R183; reset 0
  ownCrc     : Nat × Nat × Nat -- the head's own test CRC of the frame under way; three of 16 bits; R183; reset 0
  frameCrc   : Nat × Nat × Nat -- the head's own test CRC of the frame just sent; three of 16 bits; R183; reset 0
  deriving DecidableEq, Repr

/-- The sixteen heads. -/
structure Heads where
  heads    : Tbl Head   -- heads 0-15; 16 heads; R173; reset all as Head
  links    : Tbl DpLink -- their links; 16 links; R164; reset all as DpLink
  syncLast : Option Nat -- wall time of the latest SYNC_IN edge; 64 bits; R160; reset none
  syncOut  : Option Nat -- wall time at which the SYNC_OUT pulse ends; 64 bits; R160; reset none
  deriving DecidableEq, Repr

/-! ## Lantern, Echo, writeback -/

/-- One record on its way to the signature log (R201). -/
structure LogRec where
  frame    : Nat  -- FRAME; 48 bits; R201; reset none
  head     : Nat  -- head; 4 bits; R201; reset none
  region   : Nat  -- REGION_ID; 6 bits; R201; reset none
  glass    : Nat  -- GLASS_TIME; 64 bits; R201; reset none
  crc      : Nat  -- CRC; 32 bits; R201; reset none
  expected : Nat  -- EXPECTED; 32 bits; R201; reset none
  epoch    : Nat  -- EPOCH; 32 bits; R201; reset none
  verdict  : Nat  -- VERDICT; 8 bits; R201; reset none
  mode     : Nat  -- MODE; 8 bits; R201; reset none
  gap      : Nat  -- GAP; 16 bits; R201; reset none
  event    : Bool -- LANTERN_MISMATCH follows its arrival; 1 bit; R196; reset none
  deriving DecidableEq, Repr

/-- An analysis that localises a mismatch (R203). -/
structure Analysis where
  head    : Nat           -- head; 4 bits; R203; reset none
  region  : Nat           -- REGION_ID; 6 bits; R203; reset none
  first   : Nat           -- first frame of the analysis; 48 bits; R203; reset none
  frames  : Nat           -- frames evaluated so far; 4 bits; R203; reset none
  tiles   : Tbl Nat       -- sub-signature of Lantern by (frame mod 2) × 65,536 + band × 64 + tile; 32 bits each; R203; reset none
  echo    : Tbl Nat       -- sub-signature of Echo by the same key; 32 bits each; R203; reset none
  writers : Tbl Nat       -- gallery × 32 + engine that wrote each tile; 9 bits each; R203; reset none
  engHits : List Nat      -- engines that alone explained a frame; 9 bits each; R204; reset none
  whole   : Nat           -- frames in which every tile-band mismatched; 4 bits; R204; reset none
  deriving DecidableEq, Repr

/-- Lantern and Echo (R205, R398, R399). -/
structure Lant where
  regs       : Tbl RegSt      -- region state by head × 64 + REGION_ID; 1,024 regions; R398; reset all as RegSt
  fifo       : List LogRec    -- the log writer's FIFO, oldest first; 2,048 records; R202; reset empty
  writeIdx   : Nat            -- LogWriteIndex; 32 bits; R205; reset 0
  dropped    : Nat            -- LogDropped; 32 bits; R205; reset 0
  droppedRc  : Nat            -- DROPPED; 16 bits; R398; reset 0
  gap        : Nat            -- records dropped since the last one queued; 16 bits; R202; reset 0
  stopped    : Bool           -- logging stopped after LOG_BOUNDS; 1 bit; R200; reset 0
  frameRecs  : List LogRec    -- records of the frames under way, for writeback trailers; 64 per head; R181; reset empty
  mismatches : Tbl Nat        -- RegionMismatches per head; 16 of 32 bits; R206; reset 0
  mismRc     : Tbl Nat        -- MISMATCHES per head; 16 of 16 bits; R398; reset 0
  lastMism   : Tbl Nat        -- LastMismatch per head; 16 of 64 bits; R206; reset 0
  analysis   : Option Analysis -- analysis under way; one; R203; reset none
  localise   : Nat            -- LocaliseResult; 32 bits; R205; reset 0
  echoRetired : Bool          -- Echo retired; 1 bit; R192; reset kept in the health record
  echoFaults : Nat            -- EchoFaults; 32 bits; R205; reset 0
  echoFaultsRc : Nat          -- FAULTS of ECHO_; 16 bits; R399; reset 0
  unchecked  : Nat            -- EchoUnchecked; 32 bits; R205; reset 0
  uncheckedRc : Nat           -- UNCHECKED; 16 bits; R399; reset 0
  echoLast   : Option Nat     -- wall time of the latest Echo fault; 64 bits; R192; reset none
  parts      : List (Nat × EchoPart × Band) -- Echo's outstanding parts: head, part, the band's decision record; list; R191; reset empty
  partsDone  : Nat            -- PARTSDONE; 64 bits; R399; reset 0
  bytesRead  : Nat            -- BYTESREAD; 64 bits; R399; reset 0
  deriving DecidableEq, Repr

/-- The entries of a writeback stream (R179). -/
structure WbCfg where
  head     : Nat       -- WbHead; 8 bits; R179; reset 0
  mode     : Nat       -- WbMode; 8 bits; R179; reset 0
  format   : Nat       -- WbFormat; 8 bits; R179; reset 0
  x0       : Nat       -- WbRect X0; 16 bits; R179; reset 0
  y0       : Nat       -- WbRect Y0; 16 bits; R179; reset 0
  x1       : Nat       -- WbRect X1; 16 bits; R179; reset 0
  y1       : Nat       -- WbRect Y1; 16 bits; R179; reset 0
  decimate : Nat       -- WbDecimate; 8 bits; R179; reset 1
  count    : Nat       -- WbBufferCount; 8 bits; R179; reset 2
  bases    : List Nat  -- WbBufferBase; eight of 64 bits; R179; reset 0
  stride   : Nat       -- WbStride; 32 bits; R179; reset 0
  trigger  : Nat       -- WbTrigger; 16 bits; R179; reset 0
  post     : Nat       -- WbPostFrames; 8 bits; R179; reset 1
  deriving DecidableEq, Repr

/-- One writeback stream. -/
structure Wb where
  cfg        : WbCfg        -- entries sampled at the latest line 0 of its head; -; R179; reset as WbCfg
  off        : Bool         -- held OFF by WB_BOUNDS; 1 bit; R179; reset 0
  wasOn      : Bool         -- the stream was enabled at the latest line 0; 1 bit; R179; reset 0
  capturing  : Bool         -- the frame under way is captured; 1 bit; R182; reset 0
  armed      : Bool         -- a single capture is requested; 1 bit; R179; reset 0
  frozen     : Bool         -- stopped after its trigger; 1 bit; R182; reset 0
  triggered  : Bool         -- its trigger has become pending; 1 bit; R182; reset 0
  postLeft   : Nat          -- frames still to capture after the trigger; 3 bits; R182; reset 0
  skip       : Nat          -- frames since the last captured one; 10 bits; R179; reset 0
  buffer     : Nat          -- buffer of the frame under way; 3 bits; R182; reset 0
  nextBuf    : Nat          -- buffer the next frame takes; 3 bits; R182; reset 0
  frame      : Nat          -- frame under way; 48 bits; R181; reset 0
  fstart     : Nat          -- F(h, n) of it; 64 bits; R181; reset 0
  epoch      : Nat          -- its epoch; 32 bits; R181; reset 0
  flags      : Nat          -- trailer FLAGS so far; 8 bits; R181; reset 0
  crcReg     : Word32       -- PIXEL_CRC register; 32 bits; R181; reset 0xFFFFFFFF
  incomplete : Bool         -- the FIFO filled and the rest is not written; 1 bit; R182; reset 0
  finishing  : Bool         -- the last line has been written, the trailer is due; 1 bit; R181; reset 0
  sequence   : Nat          -- SEQUENCE; 32 bits; R181; reset 0
  written    : Nat          -- WbFramesWritten; 32 bits; R179; reset 0
  incompleteN : Nat         -- WbIncomplete; 32 bits; R179; reset 0
  lastBuffer : Nat          -- WbLastBuffer; 8 bits; R179; reset 0
  deriving DecidableEq, Repr

/-! ## The Ilelle fabric -/

/-- LINKSTATE of R335. -/
inductive PState where
  | down | training | genZero | up | retired
  deriving DecidableEq, Repr

/-- One Ilelle port. -/
structure Port where
  state      : PState         -- LINKSTATE; 3 bits; R335; reset DOWN
  step       : Nat            -- bring-up step under way, 0 none, 7 a retrain on fewer lanes; 3 bits; R302, R303; reset 0
  stepAt     : Nat            -- wall time that step began; 64 bits; R303; reset 0
  retryAt    : Option Nat     -- wall time bring-up begins again; 64 bits; R303; reset none
  enable     : Bool           -- PORTENABLE; 1 bit; R335; reset 1
  inService  : List Nat       -- lanes in service; 4 bits; R335; reset empty
  laneRet    : List Nat       -- LANERETIRED; 4 bits; R335; reset empty
  retired    : Bool           -- port retired; 1 bit; R302; reset 0
  gen        : Nat            -- GEN; 2 bits; R335; reset 0
  hold       : Nat            -- HOLD_REASON; 8 bits; R306; reset 0
  neighbour  : Nat            -- NEIGHBOUR; 12 bits; R335; reset 0
  delay      : Nat            -- LINKDELAY in ps; 32 bits; R335; reset 0
  bursts     : Tbl (List Nat) -- times of the bursts counted against each lane in its window; 4 of list; R302; reset empty
  lastBurst  : Option Nat     -- time the latest burst began; 64 bits; R302; reset none
  crcBursts  : Nat            -- CRCBURSTS; 16 bits; R335; reset 0
  burstsUp   : Nat            -- CRC_BURSTS since the link last came up; 32 bits; R306; reset 0
  retrains   : Nat            -- RETRAINS; 16 bits; R335; reset 0
  replays    : Nat            -- REPLAYS; 32 bits; R335; reset 0
  flitsOut   : Nat            -- FLITSOUT; 64 bits; R335; reset 0
  flitsIn    : Nat            -- FLITSIN; 64 bits; R335; reset 0
  txSeq      : Nat            -- sequence number of the next flit sent; 16 bits; R300; reset 0
  rxSeq      : Nat            -- latest sequence number received intact; 16 bits; R300; reset 65535 (DESIGN CHOICE)
  replayBuf  : List (List Byte) -- flits sent and not acknowledged, oldest first; 256 flits; R301; reset empty
  waiting    : List (List Byte) -- flits waiting for the link; list; R302; reset empty
  discarding : Bool           -- flits are discarded up to the replay; 1 bit; R301; reset 0
  sameFails  : Nat            -- consecutive failed replays of the same flit; 5 bits; R301; reset 0
  peer       : List Byte      -- latest LINK_STATUS payload received; 16 bytes; R306; reset empty
  statusAt   : Nat            -- wall time LINK_STATUS was last sent; 64 bits; R306; reset 0
  syncAt     : Nat            -- wall time of the latest TIME_SYNC exchange; 64 bits; R312; reset 0
  downAt     : Nat            -- wall time the port last left UP; 64 bits; R343; reset 0
  deriving DecidableEq, Repr

/-- What a member knows of another from its latest heartbeat (R323). -/
structure Beat where
  frame   : Nat   -- FRAME; 48 bits; R323; reset none
  epoch   : Nat   -- EPOCH; 32 bits; R323; reset none
  pending : Nat   -- PENDING; 32 bits; R323; reset none
  flags   : Nat   -- FLAGS; 8 bits; R323; reset none
  mode    : Nat   -- MODE; 8 bits; R323; reset none
  genMax  : Nat   -- GEN_MAX; 8 bits; R323; reset none
  sdfMax  : Nat   -- SDF_GEN_MAX; 4 bits; R323; reset none
  lopMax  : Nat   -- LOP_GEN_MAX; 4 bits; R323; reset none
  coord   : Nat   -- COORD; 12 bits; R323; reset none
  deriving DecidableEq, Repr

/-- The member's offer, or the epoch it has answered with ACCEPT, in a coherent commit (R322, R325). -/
structure Offer where
  scene    : Option Scene -- the offered scene, none for a relabelled current scene; -; R325; reset none
  epoch    : Nat          -- epoch; 32 bits; R322; reset none
  ring     : Option Nat   -- ring whose COMMIT_SCENE waits; 8 bits; R322; reset none
  go       : Bool         -- GO received; 1 bit; R327; reset none
  target   : Nat          -- target wall frame F; 48 bits; R322; reset none
  checked  : List (Nat × List (Nat × List Byte)) -- the judged entries' values it was checked with, by head; list; R59; reset none
  deriving DecidableEq, Repr

/-- The coordinator's side of the epoch in flight (R322, R326). -/
structure Flight where
  epoch   : Nat       -- epoch; 32 bits; R322; reset none
  target  : Nat       -- target wall frame; 48 bits; R322; reset none
  named   : List Nat  -- participants named in the PREPARE; 12 bits each; R326; reset none
  accepts : List Nat  -- those that answered ACCEPT; 12 bits each; R326; reset none
  deriving DecidableEq, Repr

/-- A stream frame being received into a replica (R317). -/
structure Rx where
  pub    : List Byte      -- its publication record; 16 bytes; R315; reset none
  length : Nat            -- content length; 32 bits; R315; reset none
  seq    : Nat            -- frame sequence; 32 bits; R315; reset none
  buffer : Option Nat     -- replica buffer taken, none when none is free; 2 bits; R317; reset none
  got    : Nat            -- content bytes received; 32 bits; R317; reset none
  crcReg : Word32         -- CRC register of the content; 32 bits; R317; reset none
  deriving DecidableEq, Repr

/-- A stream frame being sent (R316). -/
structure Tx where
  buffer : Nat          -- buffer read; 2 bits; R316; reset none
  pub    : List Byte    -- record it carries; 16 bytes; R316; reset none
  seq    : Nat          -- frame sequence; 32 bits; R316; reset none
  next   : Option (Nat × List Byte) -- newest publication that waits: buffer and record; 18 bytes; R316; reset none
  deriving DecidableEq, Repr

/-- A domain entry waiting for its wall frame (R319). -/
structure DomainWrite where
  key   : Nat        -- entry, index × 256 + subindex; 24 bits; R319; reset none
  value : List Byte  -- new value; up to 8 bytes; R319; reset none
  frame : Nat        -- wall frame at which it applies; 48 bits; R319; reset none
  deriving DecidableEq, Repr

/-- The fabric and the wall domain. -/
structure Fab where
  ports       : Tbl Port       -- ports 0-3; 4 ports; R298; reset all as Port
  failed      : List (Nat × Nat) -- failed links known, which the 4,096-entry unicast table follows from: address and port; 14 bits each; R310; reset empty
  subs        : Tbl (List Nat) -- subscribers of each source homed here, which its tree entry follows from; list; R314; reset empty
  subscribed  : List Nat       -- remote sources this member subscribes to; 13 bits each; R314; reset empty
  routeChg    : Nat            -- ROUTECHANGES; 32 bits; R336; reset 0
  timeState   : Nat            -- TIMESTATE; 3 bits; R336; reset 0
  timeOffset  : Int            -- TIMEOFFSET in ps; 32 bits signed; R336; reset 0
  goodSyncs   : Nat            -- consecutive exchanges within 5 ns; 5 bits; R313; reset 0
  slewing     : Bool           -- the counter slews at 100 ppm; 1 bit; R313; reset 0
  timeRoot    : Nat            -- TIMEROOT; 12 bits; R336; reset 0
  ppsLast     : Option Nat     -- wall time of the latest PPS_IN edge; 64 bits; R491; reset none
  ptpState    : Nat            -- PtpState; 8 bits; R381; reset 0
  ptpTai      : Bool           -- TAI seconds are known from PTP; 1 bit; R311; reset 0
  ppsValid    : Bool           -- PPS_IN disciplines the counter; 1 bit; R311; reset 0
  domGen      : Nat            -- DomainIlelleGen; 8 bits; R307; reset 2
  domSdf      : Nat            -- DomainSdfGen; 8 bits; R307; reset 2
  domLop      : Nat            -- DomainLopGen; 8 bits; R381; reset 2
  coord       : Option Nat     -- coordinator followed; 12 bits; R331; reset none
  office      : Bool           -- this member holds office; 1 bit; R331; reset 0
  candidate   : Option Nat     -- candidate chosen after a missing summary; 12 bits; R331; reset none
  failedCoords : List Nat      -- coordinators that failed since the last summary; 12 bits each; R331; reset empty
  domState    : Nat            -- DomainState; 8 bits; R337; reset 0
  present     : List Nat       -- PresentMap: addresses present; 4,096 bits; R323; reset own (DESIGN CHOICE)
  prevPresent : List Nat       -- the present map before it; 4,096 bits; R333; reset own (DESIGN CHOICE)
  sumParts    : Tbl (List Byte) -- flits of the summary under way; four; R323; reset empty
  lastSummary : Nat            -- frame of the latest summary; 48 bits; R328; reset 0
  sumSeen     : Bool           -- a summary has arrived since the links came up; 1 bit; R343; reset 0
  beats       : Tbl Beat       -- latest heartbeat of each member; 4,096; R328; reset empty
  wallFrame   : Nat            -- latest domain wall frame begun; 48 bits; R328; reset 0
  epochSeen   : Tbl Nat        -- epoch reported by each member for that frame; 4,096 of 32 bits; R328; reset empty
  offer       : Option Offer   -- this member's offer; one; R322; reset none
  answer      : Option Offer   -- the epoch this member accepted and that awaits its decision or its latch; one; R325; reset none
  lastTarget  : Nat            -- target wall frame of the latest decision; 48 bits; R329; reset 0
  offers      : List (Nat × Nat) -- offers received: member and epoch; list; R322; reset empty
  gatherAt    : Option Nat     -- wall time GatherTime ends; 64 bits; R322; reset none
  flight      : Option Flight  -- the epoch in flight; one; R322; reset none
  lastDec     : Nat            -- LastDecision; 64 bits; R337; reset 0
  splits      : Nat            -- SplitCount; 32 bits; R337; reset 0
  aborts      : Nat            -- AbortCount; 32 bits; R337; reset 0
  streamDisc  : Nat            -- StreamDiscarded; 32 bits; R337; reset 0
  rx          : Tbl Rx         -- stream frames being received, by source; list; R317; reset empty
  tx          : Tbl Tx         -- stream frames being sent, by source; list; R316; reset empty
  txSeq       : Tbl Nat        -- frame sequence of each source; 32 bits each; R315; reset 0
  domWrites   : List DomainWrite -- domain entries named and not yet applied; list; R319; reset empty
  replicaAt   : Tbl (Nat × Nat) -- first byte and size of each remote source's replicas; 35 bits each; R314; reset empty
  ethLink     : Bool           -- EthLinkUp; 1 bit; R381; reset 0
  deriving DecidableEq, Repr

/-! ## Lamp -/

/-- One thermal sensor (R419). -/
structure Sensor where
  reading  : Int        -- SensorTemperature in 1/16 °C; 16 bits signed; R434; reset 0 (DESIGN CHOICE)
  excluded : Bool       -- its bit of SensorFaultMask; 1 bit; R434; reset 0
  validFrom : Option Nat -- wall time since which an excluded sensor has been valid; 64 bits; R419; reset none
  exclTimes : List Nat  -- wall times of its exclusions within the hour; 64 bits each; R419; reset empty
  barred   : Bool       -- excluded until device reset; 1 bit; R419; reset 0
  deriving DecidableEq, Repr

/-- Lamp (R420 to R431, R434). -/
structure Lamp where
  sensors    : Tbl Sensor -- sensors 0-23; 24 sensors; R418; reset all as Sensor
  hottest    : Nat        -- HottestSensor; 8 bits; R434; reset 0 (DESIGN CHOICE)
  tHot       : Int        -- T_hot in 1/16 °C; 16 bits signed; R418; reset 0 (DESIGN CHOICE)
  power      : Nat        -- PowerEstimate P in 0.1 W; 16 bits; R434; reset 0 (DESIGN CHOICE)
  stage      : Nat        -- LampStage; 8 bits; R434; reset 0
  stageAt    : Nat        -- wall time the stage came into force; 64 bits; R423; reset 0
  overRun    : Nat        -- consecutive evaluations that were over; 16 bits; R423; reset 0
  hardRun    : Nat        -- consecutive evaluations that were hard-over; 16 bits; R423; reset 0
  underRun   : Nat        -- consecutive evaluations that were under; 16 bits; R423; reset 0
  unmetAt    : Option Nat -- wall time POWER_LIMIT_UNMET was last raised; 64 bits; R423; reset none
  overGradeAt : Option Nat -- wall time THERMAL_OVER_GRADE was last raised; 64 bits; R435; reset none
  tripSince  : Option Nat -- wall time since which a sensor is above the trip limit; 64 bits; R426; reset none
  stageChg   : Nat        -- StageChanges; 32 bits; R434; reset 0
  lifeOffset : Nat        -- LifeOffset; 8 bits; R434; reset 0
  lifeRatio  : Nat        -- LifeRatio, Q16.16; 32 bits; R434; reset 0x10000
  lifeRemain : Nat        -- LifeRemaining; 32 bits; R434; reset 350640
  lifeAhead  : Bool       -- LIFE_AHEAD raised; 1 bit; R431; reset 0
  lifeHour   : Nat        -- powered hours at the latest hourly evaluation; 32 bits; R429; reset 0
  removedAt  : Option Nat -- wall time a gallery was last removed from the mask; 64 bits; R425; reset none
  maskOut    : List Nat   -- galleries Lamp has removed; 12 bits; R425; reset empty
  mask       : Nat        -- GalleryMask as last derived; 12 bits; R425; reset 0x0FFF
  vcore      : Nat        -- VcoreSetpoint in mV; 16 bits; R434; reset 750
  vcoreLost  : Bool       -- VcoreControl LOST; 1 bit; R434; reset 0
  vcoreFails : Nat        -- consecutive commands not acknowledged; 2 bits; R427; reset 0
  reason     : Nat        -- ReplacementReason; 32 bits; R434; reset 0
  recommend  : Nat        -- ReplacementRecommendation; 8 bits; R434; reset 0
  deriving DecidableEq, Repr

/-! ## The object dictionary and LOP -/

/-- The dictionary's values. Keys are index × 256 + subindex; an unlisted entry holds its default. -/
structure Dict where
  base    : Tbl (List Byte) -- base values as written; one per entry; R359; reset from the bank in flash
  force   : Tbl (List Byte) -- values in force; one per entry; R359; reset as base
  overlay : Tbl (List Byte) -- values the current mode's overlay gives; up to 256; R352; reset empty
  staged  : List Nat        -- entries written or overlaid and not yet in force; 24 bits each; R358; reset empty
  freeKeys : List Nat       -- staged entries that the next latch takes with or without a scene; 24 bits each; R347; reset empty
  dirty   : Bool            -- DictionaryDirty; 1 bit; R381; reset 0
  dirtyAfter : Bool         -- a P value changed after the snapshot of the store under way; 1 bit; R380; reset 0
  bankA   : List Byte       -- dictionary bank A; 24 MiB; R378; reset kept in flash
  bankB   : List Byte       -- dictionary bank B; 24 MiB; R378; reset kept in flash
  active  : Nat             -- ActiveBank; 8 bits; R381; reset 2
  seqN    : Nat             -- BankSequence; 32 bits; R381; reset 0
  countA  : Nat             -- StoreCountA; 32 bits; R381; reset kept in flash
  countB  : Nat             -- StoreCountB; 32 bits; R381; reset kept in flash
  lastStore : Nat           -- LastStoreTime; 64 bits; R381; reset 0
  ignored : Nat             -- BankRecordsIgnored; 32 bits; R381; reset 0
  changedAt : Option Nat    -- wall time of the last change to a P value not stored; 64 bits; R380; reset none
  beganAt : Option Nat      -- wall time the previous store began; 64 bits; R380; reset none
  storing : Option (Nat × List Byte) -- store under way: bank and its image; 24 MiB; R380; reset none
  storeRetry : Bool         -- the store under way is its one repeat; 1 bit; R380; reset 0
  storeWaits : Bool         -- a store is due and waits for the 60 s; 1 bit; R380; reset 0
  deriving DecidableEq, Repr

/-- One LOP session (R371, R372). -/
structure Session where
  level  : Nat        -- level: 0 OBSERVER, 1 APPLICATION, 2 OPERATOR, 3 PRIVILEGED; 2 bits; R369; reset none
  via    : Via        -- transport and peer it is bound to; -; R372; reset none
  nonce  : Option (List Byte) -- NONCE awaiting its proof; 32 bytes; R371; reset none
  lastAt : Nat        -- wall time of its latest request; 64 bits; R372; reset none
  deriving DecidableEq, Repr

/-- One segmented transfer (R366, R367). -/
structure Transfer where
  key     : Nat        -- entry; 24 bits; R366; reset none
  write   : Bool       -- it writes; 1 bit; R366; reset none
  length  : Nat        -- LENGTH; 32 bits; R366; reset none
  bytes   : List Byte  -- snapshot, or bytes received so far; up to 16 MiB; R367; reset none
  owner   : List Nat   -- the session it belongs to, a default session by its transport; 64 bits; R368; reset none
  lastAt  : Nat        -- wall time of its latest request; 64 bits; R368; reset none
  deriving DecidableEq, Repr

/-- A request forwarded and not yet answered (R375). -/
structure Forward where
  ctx    : LopCtx  -- its header and way in; 16 bytes; R375; reset none
  code   : Nat     -- SERVICE code; 8 bits; R375; reset none
  sentAt : Nat     -- wall time it was sent; 64 bits; R375; reset none
  deriving DecidableEq, Repr

/-- LOP: sessions, transfers, replay sets, the window and the Ethernet port. -/
structure Lop where
  sessions  : Tbl Session      -- open sessions; 16 sessions; R372; reset empty
  transfers : Tbl Transfer     -- open transfers; 8 transfers; R368; reset empty
  nextXfer  : Nat              -- next TRANSFER number; 32 bits; R366; reset 1 (DESIGN CHOICE)
  replay    : List (List Nat × Nat × List Byte) -- stored responses: session key, REQUEST_ID, response, newest first; 16 per session; R365; reset empty
  forwards  : List Forward     -- forwarded requests in flight; list; R375; reset empty
  fragments : List (Nat × Nat × List Byte) -- fragments of forwarded messages received: sender, fragment, bytes; list; R375; reset empty
  proofFails : List (Nat × Nat) -- failed proofs: transport code, wall time; 96 bits each; R371; reset empty
  requests  : Nat              -- LopRequests; 64 bits; R381; reset 0
  aborts    : Nat              -- LopAborts; 32 bits; R381; reset 0
  busy      : Bool             -- BUSY; 1 bit; R374; reset 0
  done      : Bool             -- DONE; 1 bit; R374; reset 0
  winStatus : Nat              -- WINSTATUS; 8 bits; R374; reset 0
  discarded : Nat              -- DISCARDED; 16 bits; R374; reset 0
  reqLen    : Nat              -- REQLEN; 17 bits; R374; reset 0
  respLen   : Nat              -- RESPLEN; 17 bits; R374; reset 0
  reqBuf    : List Host.Cell   -- REQBUF; 64 KiB; R374; reset 0
  respBuf   : List Byte        -- RESPBUF; 64 KiB; R374; reset 0
  taken     : List Byte        -- the request copied at GO; up to 64 KiB; R374; reset empty
  assocs    : List (Nat × Nat × Nat) -- DTLS associations: number, peer address, peer port; 8 associations; R373; reset empty
  lastResp  : List Byte        -- the response last sent to a client, for its transport to carry; -; R373; reset empty
  deriving DecidableEq, Repr

end Sys2Proof.Machine
end

