-- ==== Sys2Proof/Machine/State.lean ====
section
/-!
DEFINITION. The state of the SWC7192 as one structure over its blocks, with the queue of waiting commands, and the
state right after reset. Every field of every block is listed in INVENTORY.md under '## State'.
-/

namespace Sys2Proof.Machine

/-- Why the machine stops with a fault. No rule of the manual stops this block: every error has an effect the manual
describes (a status, an event, a retirement, a mode), so no constructor is needed. Safe. -/
inductive Fault where
  deriving DecidableEq, Repr

/-- Why a command has no meaning. -/
inductive Refusal where
  /-- Raised by Machine/Dispatch.lean for a command that has no meaning yet. Safe: nothing is proved of it. -/
  | notModelled (mnemonic : String)
  deriving DecidableEq, Repr

/-! ## What the blocks hold right after reset -/

def Core.reset : Core := { inReset := false, retired := false, faults := [] }

def Sys.reset : Sys :=
  { wall := 0, frac := 0, rate := 0, mode := .reset, working := .reset, prevMode := .reset, lastFrom := 0, lastTo := 0,
    lastCause := 0, lastTime := 0, modeChanges := 0, modeRefused := 0, conditions := 0, isolated := false,
    autoCause := none, scheduled := none, modeQueue := [], resetDue := none, selfGallery := 0, cores := (Core.reset, Core.reset),
    scratch := 0, fwReady := false, privIgnored := 0, badAccess := 0, privLast := 0, parityCount := 0, parityAddr := 0,
    scrubPasses := 0, parityBad := [], heldWrite := [], shadow := [], pcieReset := false, refLost := false,
    testEn := false, extest := false, tripped := false }

def Slot.reset : Slot := { state := 0, version := 0, security := 0, bytes := [] }

def Boot.reset : Boot :=
  { releaseAt := 0, watchdog := false, bootFault := 0, atBootEnd := false, lastCause := 1, resets := 0,
    bootDuration := 0, fwReadyTime := 0, straps := 0, running := 0, active := 0, trial := none, attempts := 0,
    fallback := false, failedA := false, failedB := false, ctlSequence := 1, slotA := { Slot.reset with state := 1 },
    slotB := Slot.reset, staging := none, rollback := 0, keyRevoked := 0, confirmFrom := 0, recovState := 0,
    recovStatus := 0, recovLen := 0, recovOffset := 0, recovBuf := [], pendingEvents := [], bankStaged := false,
    coefAtBoot := false }

def Health.reset : Health :=
  { sequence := 0, powered := 0, consumed := [0, 0, 0, 0], trips := 0, overGrade := 0, overMs := 0, remap := [],
    unusable := [], retiredSeq := [], journal := [], hourlyC := [], orderly := true,
    dueAt := none, lastHour := 0, tripHours := [], tripEvent := false, failOnce := false }

def Win.reset : Win :=
  { hostspace := false, base := 0, size := 0, rights := 0, enable := false, reject := 0, hostF := false, baseF := 0,
    sizeF := 0 }

def Mem.reset : Mem :=
  { dev := [], host := [], wins := [], apbase := 0, poisoned := [], rewrite := [], rewritten := [], copying := [],
    corrected := 0, uncorr := 0, lastError := 0, unusableWr := 0, boundsCnt := 0, winFlight := [] }

/-- CLASS resets to 3 on rings 0 to 63 and to 0 on the others (R253). -/
def RingCfg.reset (q : Nat) : RingCfg :=
  { cls := if q < 64 then 3 else 0, owner := .pf0, sqBase := 0, sqLog2 := 6, cqLog2 := 4, cqBase := 0 }

def Ring.reset (q : Nat) : Ring :=
  { enable := false, stop := false, cfg := RingCfg.reset q, force := RingCfg.reset q, head := 0, prodIdx := 0,
    prodWrap := false, consIdx := 0, consWrap := false, state := .disabled, haltCode := 0, haltPos := 0,
    enFault := false, sump := [], inflight := [], retiredN := 0, dbIgnored := 0, consBad := 0, dbPending := false,
    inline := [], byField := false, reread := false }

def Que.reset : Que := { rings := [], served := 255, servedM := 255 }

def Accs.reset : Accs :=
  { content := 0xFFFFFFFF#32, sum32c := 0xFFFFFFFF#32, sum1 := 0, sum2 := 0, tail := [], bytes := 0, pubFail := false }

def Chan.reset : Chan :=
  { cls := 1, publishing := false, clsF := 1, pubF := false, safetyEff := false, lastStatus := 0, acc := Accs.reset,
    saved := Accs.reset, moved := 0, failed := 0, pubSkipped := 0, pending := [], retired := false, restartPos := 0 }

def Siph.reset : Siph :=
  { chans := [], halted := false, attempts := 0, errKind := 0, errAddr := 0, candMask := 0, windowMasks := [],
    windowStart := 0, windowOpen := false, halts := 0, haltsTotal := 0, restarts := 0, reenables := [],
    gpioPulses := [] }

def Unit2D.reset : Unit2D :=
  { state := .idle, ring := 0, position := 0, linesDone := 0, bytes := 0, faults := 0, lastFault := none }

def Blit.reset : Blit :=
  { units := [], lastRing := 255, staging := none, stageQueue := [], staged := none, lampDead := 0, commands := 0,
    stagedN := 0, stagedTot := 0, busErrors := 0 }

def EvSrc.reset : EvSrc :=
  { level := false, owner := .pf0, target := 0, coalesce := false, group := 0, vector := 0, enabled := false,
    pending := false, active := false, raw := false, coreClr := false }

def EvGroup.reset : EvGroup :=
  { count := 0, time := 0, counted := 0, holding := false, releases := 0, started := 0 }

def MsixEntry.reset : MsixEntry := { addr := 0, data := 0, masked := true }

def FnCfg.reset : FnCfg :=
  { msixEnable := false, fnMask := false, busMaster := false, relaxed := true, d0 := true, msix := [] }

def Evc.reset : Evc :=
  { srcs := [], groups := [], order := [], freshLog := [], freshIdx := 0, issued0 := 0, issued1 := 0, total0 := 0,
    total1 := 0, log := [], logN := 0, pf0 := FnCfg.reset, pf1 := FnCfg.reset, bar2Log2 := 35 }

def Src.reset : Src := { table := [], arrivals := [] }

def Buf.reset : Buf := { stamp := 0, crc := none, frozen := false, cancel := false }

def Scn.reset : Scn :=
  { checkState := 0, lastStatus := 0, lastResource := 0, lastCheckNs := 0, lastEpoch := 0, accepted := 0,
    rejected := 0, acceptedTot := 0, rejectedTot := 0, eSum := 192, eMin := 16, spareShed := 0, recheckDue := false }

def Gal.reset : Gal :=
  { retired := false, excluded := false, faultOut := false, retiredEng := 0, reserve := false, gated := false, lastShared := none, engFaults := [], jobs := [], coefLoaded := 0, faults := 0, reissued := 0,
    bandsDone := 0, tilesDone := 0 }

def Gals.reset : Gals :=
  { gals := [], engineFaults := 0, reissued := 0, dispatched := 0, galFaults := 0, reducedBands := 0,
    coefPending := [] }

def Timing.reset : Timing :=
  { hActive := 0, hFront := 0, hSync := 0, hBack := 0, hPos := false, vActive := 0, vFront := 0, vSync := 0,
    vBack := 0, vPos := false, num := 0, den := 0, phase := 0, genlock := 0, dsc := false, bond := false, depth := 0,
    window := 0, guard := 0 }

def RegSt.reset : RegSt :=
  { crcReg := 0xFFFFFFFF#32, missed := false, final := false, finalFrame := 0, crc := 0, verdict := 0, run := 0,
    frame := 0, refs := [], echoReg := 0xFFFFFFFF#32, echoNext := 0, echoBad := false,
    nextReg := 0xFFFFFFFF#32, nextNext := 0, nextBad := false }

def Head.reset : Head :=
  { state := .off, next := none, wantSafe := false, wantHalt := false, resume := false, starting := false,
    startAt := 0, restart := false, timing := Timing.reset, configFault := 0, lock := .free, goodFrames := 0,
    phaseErr := 0, trim := 0, slips := 0, syncTarget := none, syncEdges := 0, frame := 0, counted := false,
    f := 0, vtotalN := 0, latched := false, curEpoch := 0, cur := none, shown := 0, shownScene := none,
    pendEpoch := 0, pend := none, pendCfg := [], pendLate := false, target := 0, superseded := 0, late := 0, lateRc := 0,
    slipsRc := 0, missRc := 0, lossRc := 0, samples := [], cfg := [], shownCfg := [], nextBand := 0, nextDrain := 0,
    bands := [], missCount := 0, lastMiss := 0, missCause := 0, fetchCount := 0, missInFrame := false, lineOut := [],
    misfit := false }

def DpLink.reset : DpLink :=
  { state := .down, rate := 0, lanes := 0, events := 0, failTimes := [], attemptAt := 0, retryAt := none,
    irqWaits := none, carrying := false, upFrame := 0, auxOn := false, sinkD3 := true, sink := none, crcState := 0,
    compared := 0, mismatched := 0, skipped := 0, ownCrc := (0, 0, 0), frameCrc := (0, 0, 0) }

def Heads.reset : Heads := { heads := [], links := [], syncLast := none, syncOut := none }

def Lant.reset : Lant :=
  { regs := [], fifo := [], writeIdx := 0, dropped := 0, droppedRc := 0, gap := 0, stopped := false, frameRecs := [],
    mismatches := [], mismRc := [], lastMism := [], analysis := none, localise := 0, echoRetired := false,
    echoFaults := 0, echoFaultsRc := 0, unchecked := 0, uncheckedRc := 0, echoLast := none, parts := [],
    partsDone := 0, bytesRead := 0 }

def WbCfg.reset : WbCfg :=
  { head := 0, mode := 0, format := 0, x0 := 0, y0 := 0, x1 := 0, y1 := 0, decimate := 1, count := 2,
    bases := [0, 0, 0, 0, 0, 0, 0, 0], stride := 0, trigger := 0, post := 1 }

def Wb.reset : Wb :=
  { cfg := WbCfg.reset, off := false, wasOn := false, capturing := false, armed := false, frozen := false,
    triggered := false, postLeft := 0, skip := 0, buffer := 0, nextBuf := 0, frame := 0, fstart := 0, epoch := 0,
    flags := 0, crcReg := 0xFFFFFFFF#32, incomplete := false, finishing := false, sequence := 0, written := 0,
    incompleteN := 0, lastBuffer := 0 }

def Port.reset : Port :=
  { state := .down, step := 0, stepAt := 0, retryAt := none, enable := true, inService := [], laneRet := [],
    retired := false, gen := 0, hold := 0, neighbour := 0, delay := 0, bursts := [], lastBurst := none,
    crcBursts := 0, burstsUp := 0, retrains := 0, replays := 0, flitsOut := 0, flitsIn := 0, txSeq := 0,
    rxSeq := 65535, replayBuf := [], waiting := [], discarding := false, sameFails := 0, peer := [], statusAt := 0,
    syncAt := 0, downAt := 0 }

def Fab.reset : Fab :=
  { ports := [], failed := [], subs := [], subscribed := [], routeChg := 0,
    timeState := 0, timeOffset := 0, goodSyncs := 0, slewing := false, timeRoot := 0, ppsLast := none, ptpState := 0,
    ptpTai := false, ppsValid := false, domGen := 2, domSdf := 2, domLop := 2, coord := none, office := false,
    candidate := none, failedCoords := [], domState := 0, present := [0], prevPresent := [0], sumParts := [],
    lastSummary := 0, sumSeen := false, beats := [], wallFrame := 0, epochSeen := [], offer := none, answer := none, lastTarget := 0, offers := [],
    gatherAt := none, flight := none, lastDec := 0, splits := 0, aborts := 0, streamDisc := 0, rx := [], tx := [],
    txSeq := [], domWrites := [], replicaAt := [], ethLink := false }

def Sensor.reset : Sensor := { reading := 0, excluded := false, validFrom := none, exclTimes := [], barred := false }

def Lamp.reset : Lamp :=
  { sensors := [], hottest := 0, tHot := 0, power := 0, stage := 0, stageAt := 0, overRun := 0, hardRun := 0,
    underRun := 0, unmetAt := none, overGradeAt := none, tripSince := none, stageChg := 0, lifeOffset := 0,
    lifeRatio := 0x10000, lifeRemain := 350640, lifeAhead := false, lifeHour := 0, removedAt := none, maskOut := [], mask := 0x0FFF,
    vcore := 750, vcoreLost := false, vcoreFails := 0, reason := 0, recommend := 0 }

def Dict.reset : Dict :=
  { base := [], force := [], overlay := [], staged := [], freeKeys := [], dirty := false, dirtyAfter := false, bankA := [],
    bankB := [], active := 2, seqN := 0, countA := 0, countB := 0, lastStore := 0, ignored := 0,
    changedAt := none, beganAt := none, storing := none, storeRetry := false, storeWaits := false }

def Lop.reset : Lop :=
  { sessions := [], transfers := [], nextXfer := 1, replay := [], forwards := [], fragments := [], proofFails := [],
    requests := 0, aborts := 0, busy := false, done := false, winStatus := 0, discarded := 0, reqLen := 0,
    respLen := 0, reqBuf := [], respBuf := [], taken := [], assocs := [], lastResp := [] }

/-- The machine's state: every block of R15, the free-value counter, the data of the last host read, and the queue of
commands that wait, first in, first out. -/
structure State where
  sys     : Sys
  boot    : Boot
  health  : Health
  mem     : Mem
  que     : Que
  siph    : Siph
  blit    : Blit
  evc     : Evc
  src     : Src
  scn     : Scn
  gal     : Gals
  heads   : Heads
  lant    : Lant
  wb      : Tbl Wb
  fab     : Fab
  lamp    : Lamp
  dict    : Dict
  lop     : Lop
  fresh   : Nat          -- the model's own: how many free values have been taken; DESIGN CHOICE
  bus     : List Byte    -- the model's own: the data the latest host read returned; DESIGN CHOICE
  busEp   : Bool         -- the model's own: that read completed with the poisoned-TLP bit (R229); DESIGN CHOICE
  pending : List Instr   -- commands waiting, first in, first out
  deriving DecidableEq, Repr

/-- The machine right after a power-on reset, before the release of reset (R439, R441): mode RESET, every register at the
value its rule gives, memory with nothing listed. -/
def State.reset : State :=
  { sys := Sys.reset, boot := Boot.reset, health := Health.reset, mem := Mem.reset, que := Que.reset,
    siph := Siph.reset, blit := Blit.reset, evc := Evc.reset, src := Src.reset, scn := Scn.reset, gal := Gals.reset,
    heads := Heads.reset, lant := Lant.reset, wb := [], fab := Fab.reset, lamp := Lamp.reset, dict := Dict.reset,
    lop := Lop.reset, fresh := 0, bus := [], busEp := false, pending := [] }

end Sys2Proof.Machine
end

