-- ==== Sys2Proof/Machine/Table.lean ====
section
/-!
DEFINITION. The object dictionary's table of entries, row for row from the dictionary tables of the manual: index,
subindices, type, size, access, attributes, apply timing, default and range (R356 to R361). Entries of head h are listed
at head 0, those of writeback stream s at stream 0 and the overlay of mode m at mode 2.
-/

namespace Sys2Proof.Machine

/-- One row of a dictionary table. `typ` is the type code of R356, `access` the code of R357 (0 RO, 1 RW, 2 RWP, 3 WO,
4 RWS), `apply` the apply timing of R363 (0 live, 1 commit, 2 mode). For a DOMAIN entry `size` is the greatest length.
`dflt` is the default as a little-endian number; `lo` and `hi` bound the value of an unsigned entry. -/
structure EntryDef where
  index  : Nat
  subLo  : Nat
  subHi  : Nat
  name   : String
  typ    : Nat
  size   : Nat
  access : Nat
  p      : Bool
  o      : Bool
  d      : Bool
  apply  : Nat
  dflt   : Nat
  lo     : Nat
  hi     : Nat
  deriving DecidableEq, Repr

/-- One row of the table, written short. -/
def entry (index subLo subHi : Nat) (name : String) (typ size access : Nat) (p o d : Bool)
    (apply dflt lo hi : Nat) : EntryDef :=
  { index, subLo, subHi, name, typ, size, access, p, o, d, apply, dflt, lo, hi }

/-- Rows of R4, R381, R456. -/
def entriesSys0 : List EntryDef := [
  entry 0x1000 0 0 "VendorName" 11 16 0 false false false 0 21468257752203592 0 0,
  entry 0x1001 0 0 "DeviceName" 11 16 0 false false false 0 14136632378873683 0 0,
  entry 0x1002 0 0 "SiliconRevision" 2 1 0 false false false 0 2 0 255,
  entry 0x1003 0 0 "TemperatureGrade" 10 1 0 false false false 0 0 0 255,
  entry 0x1010 1 1 "DictionaryDirty" 1 1 0 false false false 0 0 0 1,
  entry 0x1010 2 2 "ActiveBank" 10 1 0 false false false 0 0 0 255,
  entry 0x1010 3 3 "BankSequence" 4 4 0 false false false 0 0 0 4294967295,
  entry 0x1010 4 4 "StoreNow" 1 1 3 false false false 0 0 0 1,
  entry 0x1010 5 5 "AutoStoreDelay" 3 2 1 true false false 0 10 0 3600,
  entry 0x1010 6 6 "StoreCountA" 4 4 0 false false false 0 0 0 4294967295,
  entry 0x1010 7 7 "StoreCountB" 4 4 0 false false false 0 0 0 4294967295,
  entry 0x1010 8 8 "LastStoreTime" 9 8 0 false false false 0 0 0 18446744073709551615,
  entry 0x1010 9 9 "BankRecordsIgnored" 4 4 0 false false false 0 0 0 4294967295,
  entry 0x1020 1 1 "LastResetCause" 10 1 0 false false false 0 1 0 255,
  entry 0x1020 2 2 "ResetsSincePowerOn" 4 4 0 false false false 0 0 0 4294967295,
  entry 0x1020 3 3 "BootDuration" 4 4 0 false false false 0 0 0 4294967295,
  entry 0x1020 4 4 "FirmwareReadyTime" 4 4 0 false false false 0 0 0 4294967295,
  entry 0x1020 5 5 "StrapValues" 2 1 0 false false false 0 0 0 255,
  entry 0x1021 1 1 "RunningImage" 10 1 0 false false false 0 0 0 255,
  entry 0x1021 2 2 "ImageStateA" 10 1 0 false false false 0 0 0 255,
  entry 0x1021 3 3 "ImageStateB" 10 1 0 false false false 0 0 0 255,
  entry 0x1021 4 4 "ImageVersionA" 4 4 0 false false false 0 0 0 4294967295,
  entry 0x1021 5 5 "ImageVersionB" 4 4 0 false false false 0 0 0 4294967295,
  entry 0x1021 6 6 "SecurityVersionA" 3 2 0 false false false 0 0 0 65535,
  entry 0x1021 7 7 "SecurityVersionB" 3 2 0 false false false 0 0 0 65535,
  entry 0x1021 8 8 "RollbackCounter" 3 2 0 false false false 0 0 0 65535,
  entry 0x1021 9 9 "KeyRevocation" 2 1 0 false false false 0 0 0 255,
  entry 0x1022 1 1 "FirmwareImage" 13 7340032 4 false false false 0 0 0 0,
  entry 0x1022 2 2 "ImageActivate" 1 1 4 false false false 0 0 0 1,
  entry 0x1022 3 3 "ImageConfirm" 1 1 4 false false false 0 0 0 1]

/-- Rows of R354, R381, R456. -/
def entriesSys1 : List EntryDef := [
  entry 0x1022 4 4 "ConfirmDelay" 4 4 4 true false false 0 600 0 86400,
  entry 0x1022 5 5 "RollbackAdvance" 3 2 4 false false false 0 0 0 65535,
  entry 0x1022 6 6 "DictionaryBankImage" 13 16777216 4 false false false 0 0 0 0,
  entry 0x1100 1 1 "LopGenMin" 2 1 0 false false false 0 1 0 255,
  entry 0x1100 2 2 "LopGenMax" 2 1 0 false false false 0 2 0 255,
  entry 0x1101 1 1 "SdfGenMin" 2 1 0 false false false 0 1 0 255,
  entry 0x1101 2 2 "SdfGenMax" 2 1 0 false false false 0 2 0 255,
  entry 0x1102 1 1 "IlelleGenMin" 2 1 0 false false false 0 1 0 255,
  entry 0x1102 2 2 "IlelleGenMax" 2 1 0 false false false 0 2 0 255,
  entry 0x1103 1 1 "DomainLopGen" 2 1 0 false false false 0 2 0 255,
  entry 0x1103 2 2 "DomainSdfGen" 2 1 0 false false false 0 2 0 255,
  entry 0x1103 3 3 "DomainIlelleGen" 2 1 0 false false false 0 2 0 255,
  entry 0x1200 0 0 "RequestedMode" 10 1 1 false false false 0 3 0 255,
  entry 0x1201 0 0 "CurrentMode" 10 1 0 false false false 0 0 0 255,
  entry 0x1202 0 0 "PreviousMode" 10 1 0 false false false 0 0 0 255,
  entry 0x1203 0 0 "BootTarget" 10 1 2 true false false 2 3 2 3,
  entry 0x1204 0 0 "Conditions" 3 2 0 false false false 0 0 0 65535,
  entry 0x1205 0 0 "HaltReason" 10 1 0 false false false 0 0 0 255,
  entry 0x1206 0 0 "LastTransition" 5 8 0 false false false 0 0 0 18446744073709551615,
  entry 0x1207 0 0 "LastTransitionTime" 9 8 0 false false false 0 0 0 18446744073709551615,
  entry 0x1208 0 0 "ModeChanges" 4 4 0 false false false 0 0 0 4294967295,
  entry 0x1209 0 0 "ModeRequestsRefused" 4 4 0 false false false 0 0 0 4294967295,
  entry 0x1210 0 0 "GallerySelfTest" 2 1 3 false false false 0 0 0 255,
  entry 0x1211 0 0 "SelfTestResult" 4 4 0 false false false 0 0 0 4294967295,
  entry 0x1400 1 1 "LopSessions" 2 1 0 false false false 0 0 0 255,
  entry 0x1400 2 2 "SessionTimeout" 3 2 1 true false false 0 60 1 3600,
  entry 0x1400 3 3 "LopRequests" 5 8 0 false false false 0 0 0 18446744073709551615,
  entry 0x1400 4 4 "LopAborts" 4 4 0 false false false 0 0 0 4294967295,
  entry 0x1410 1 1 "EthIpv4Address" 4 4 2 true false false 2 0 0 4294967295,
  entry 0x1410 2 2 "EthPrefixLength" 2 1 2 true false false 2 24 1 30]

/-- Rows of R160, R381. -/
def entriesSys2 : List EntryDef := [
  entry 0x1410 3 3 "EthGateway" 4 4 2 true false false 2 0 0 4294967295,
  entry 0x1410 4 4 "EthMacAddress" 12 6 0 false false false 0 0 0 0,
  entry 0x1410 5 5 "EthLinkUp" 1 1 0 false false false 0 0 0 1,
  entry 0x1420 1 1 "DtlsPolicy" 10 1 4 true false false 0 0 0 1,
  entry 0x1420 2 2 "LopClientAuth" 1 1 4 true false false 0 0 0 1,
  entry 0x1420 3 3 "TrustAnchors" 13 16384 4 true false false 0 0 0 0,
  entry 0x1420 4 4 "DeviceCertificate" 13 16777216 0 false false false 0 0 0 0,
  entry 0x1420 5 5 "PrivilegeKey" 12 48 4 true false false 0 0 0 0,
  entry 0x1420 6 6 "PrivilegeKeySet" 1 1 0 false false false 0 0 0 1,
  entry 0x1430 1 1 "PtpEnable" 1 1 2 true false false 2 1 0 1,
  entry 0x1430 2 2 "PtpDomainNumber" 2 1 2 true false false 2 0 0 127,
  entry 0x1430 3 3 "PtpState" 10 1 0 false false false 0 0 0 255,
  entry 0x1440 1 1 "SyncInRising" 1 1 2 true true false 2 1 0 1,
  entry 0x1440 2 2 "SyncOutHead" 2 1 1 true true false 0 0 0 15,
  entry 0x1440 3 3 "SyncOutWidth" 3 2 1 true true false 0 1000 100 65535,
  entry 0x1440 4 4 "SyncOutRising" 1 1 1 true true false 0 1 0 1]

/-- Rows of R232, R434, R475. -/
def entriesMid0 : List EntryDef := [
  entry 0x2000 1 1 "ReplacementRecommendation" 10 1 0 false false false 0 0 0 255,
  entry 0x2000 2 2 "ReplacementReason" 4 4 0 false false false 0 0 0 4294967295,
  entry 0x2001 1 24 "SensorTemperature" 6 2 0 false false false 0 0 0 0,
  entry 0x2002 0 0 "HottestSensor" 2 1 0 false false false 0 0 0 255,
  entry 0x2003 0 0 "SensorFaultMask" 4 4 0 false false false 0 0 0 4294967295,
  entry 0x2004 1 4 "LifeConsumed" 5 8 0 false false false 0 0 0 18446744073709551615,
  entry 0x2004 5 5 "PoweredTime" 5 8 0 false false false 0 0 0 18446744073709551615,
  entry 0x2004 6 6 "LifeRatio" 8 4 0 false false false 0 65536 0 0,
  entry 0x2004 7 7 "LifeRemaining" 4 4 0 false false false 0 350640 0 4294967295,
  entry 0x2005 0 0 "ThermalTrips" 4 4 0 false false false 0 0 0 4294967295,
  entry 0x2006 0 0 "HealthRecord" 13 16777216 0 false false false 0 0 0 0,
  entry 0x2100 1 1 "PowerLimit" 3 2 1 true true false 0 580 250 580,
  entry 0x2100 2 2 "ThermalTarget" 2 1 1 true true false 0 0 60 105,
  entry 0x2100 3 3 "PowerHysteresis" 3 2 1 true true false 0 20 5 100,
  entry 0x2100 4 4 "LampSqueezeValue" 3 2 1 true true false 0 1000 0 4095,
  entry 0x2100 5 5 "LifeGovernor" 1 1 4 true false false 0 1 0 1,
  entry 0x2101 1 1 "LampStage" 10 1 0 false false false 0 0 0 255,
  entry 0x2101 2 2 "PowerEstimate" 3 2 0 false false false 0 0 0 65535,
  entry 0x2101 3 3 "LifeOffset" 2 1 0 false false false 0 0 0 255,
  entry 0x2101 4 4 "ThermalTargetEffective" 2 1 0 false false false 0 0 0 255,
  entry 0x2101 5 5 "GalleryMask" 3 2 0 false false false 0 4095 0 65535,
  entry 0x2101 6 6 "VcoreSetpoint" 3 2 0 false false false 0 750 0 65535,
  entry 0x2101 7 7 "VcoreControl" 10 1 0 false false false 0 0 0 255,
  entry 0x2101 8 8 "StageChanges" 4 4 0 false false false 0 0 0 4294967295,
  entry 0x2101 9 9 "SpareShedClasses" 2 1 0 false false false 0 0 0 255,
  entry 0x2102 1 1 "VcoreRegulatorAddress" 2 1 2 true false false 2 64 8 119,
  entry 0x2102 2 2 "PmbusClock" 10 1 2 true false false 2 1 0 1,
  entry 0x2200 1 1 "ScanReserve" 3 2 1 true true false 1 650 0 700,
  entry 0x2200 2 2 "EchoReserve" 3 2 1 true true false 1 50 0 100,
  entry 0x2200 3 3 "LiveInReserve" 3 2 1 true true false 0 100 0 300]

/-- Rows of R59, R95, R232, R417. -/
def entriesMid1 : List EntryDef := [
  entry 0x2200 4 4 "HostReserve" 3 2 1 true true false 0 20 0 100,
  entry 0x2201 0 0 "FirmwareRegionSize" 3 2 2 true false false 2 8 4 64,
  entry 0x2202 0 0 "ScrubPeriod" 4 4 1 true false false 0 86400 3600 604800,
  entry 0x2203 1 1 "MemCorrected" 5 8 0 false false false 0 0 0 18446744073709551615,
  entry 0x2203 2 2 "MemUncorrectable" 4 4 0 false false false 0 0 0 4294967295,
  entry 0x2203 3 3 "MemLastError" 5 8 0 false false false 0 0 0 18446744073709551615,
  entry 0x2204 1 1 "SparesRemaining" 3 2 0 false false false 0 2048 0 65535,
  entry 0x2204 2 2 "UnusableGranules" 4 4 0 false false false 0 0 0 4294967295,
  entry 0x2204 3 3 "RetiredList" 13 16777216 0 false false false 0 0 0 0,
  entry 0x2204 4 4 "UnusableWrites" 4 4 0 false false false 0 0 0 4294967295,
  entry 0x2205 0 0 "MemBoundsCount" 4 4 0 false false false 0 0 0 4294967295,
  entry 0x2400 1 1 "EventLog" 13 16384 0 false false false 0 0 0 0,
  entry 0x2400 2 2 "EventLogWritten" 4 4 0 false false false 0 0 0 4294967295,
  entry 0x2401 1 1 "MessagesIssuedPf0" 5 8 0 false false false 0 0 0 18446744073709551615,
  entry 0x2401 2 2 "MessagesIssuedPf1" 5 8 0 false false false 0 0 0 18446744073709551615,
  entry 0x3000 1 1 "FetchMargin" 3 2 1 true true false 1 20 0 500,
  entry 0x3000 2 2 "EngineMargin" 3 2 1 true true false 1 100 0 500,
  entry 0x3000 3 3 "EchoMargin" 3 2 1 true true false 1 100 0 500,
  entry 0x3001 0 0 "CommitsAccepted" 4 4 0 false false false 0 0 0 4294967295,
  entry 0x3002 0 0 "CommitsRejected" 4 4 0 false false false 0 0 0 4294967295,
  entry 0x3101 1 1 "StaleHatch" 5 8 1 true true false 1 211106232582144 0 18446744073709551615,
  entry 0x3101 2 2 "StaleAlpha" 3 2 1 true true false 1 40960 0 65535,
  entry 0x3101 3 3 "StaleBorder" 5 8 1 true true false 1 281470681808895 0 18446744073709551615,
  entry 0x3102 1 1 "WithheldFill" 5 8 1 true true false 1 35184908967936 0 18446744073709551615,
  entry 0x3102 2 2 "WithheldHatch" 5 8 1 true true false 1 105554726903808 0 18446744073709551615,
  entry 0x3102 3 3 "WithheldBorder" 5 8 1 true true false 1 281474976645120 0 18446744073709551615,
  entry 0x3103 1 1 "NodataFill" 5 8 1 true true false 1 0 0 18446744073709551615,
  entry 0x3103 2 2 "NodataLine" 5 8 1 true true false 1 70369817935872 0 18446744073709551615,
  entry 0x3103 3 3 "NodataBorder" 5 8 1 true true false 1 140739635871744 0 18446744073709551615,
  entry 0x3104 1 1 "AgingBorder" 5 8 1 true true false 1 281473902903296 0 18446744073709551615]

/-- Rows of R59, R122, R128, R151. -/
def entriesMid2 : List EntryDef := [
  entry 0x3105 1 1 "FaultLight" 5 8 1 true true false 1 281474976710655 0 18446744073709551615,
  entry 0x3105 2 2 "FaultDark" 5 8 1 true true false 1 0 0 18446744073709551615,
  entry 0x3110 1 16 "HatchOrigin" 4 4 1 true false false 1 0 0 4294967295,
  entry 0x3120 0 0 "SourcesRegistered" 3 2 0 false false false 0 0 0 65535,
  entry 0x3400 0 0 "GalleriesInService" 2 1 0 false false false 0 12 0 255,
  entry 0x3401 1 12 "ActiveEngines" 2 1 0 false false false 0 16 0 255,
  entry 0x3402 1 12 "ReserveInUse" 1 1 0 false false false 0 0 0 1,
  entry 0x3403 1 12 "GalleryState" 10 1 0 false false false 0 0 0 255,
  entry 0x3404 0 0 "GalleryExclude" 3 2 2 true false false 2 0 0 65535,
  entry 0x3405 0 0 "EngineFaults" 4 4 0 false false false 0 0 0 4294967295,
  entry 0x3406 0 0 "TilesReissued" 4 4 0 false false false 0 0 0 4294967295,
  entry 0x3407 0 0 "BandsDispatched" 5 8 0 false false false 0 0 0 18446744073709551615,
  entry 0x3408 0 0 "GalleryFaults" 4 4 0 false false false 0 0 0 4294967295,
  entry 0x3410 1 16 "CoefficientSet" 13 1040 1 true false false 0 0 0 0,
  entry 0x3411 1 16 "CoefficientSetKind" 10 1 0 false false false 0 255 0 255,
  entry 0x3412 0 0 "DecorReduced" 1 1 0 false false false 0 0 0 1,
  entry 0x3413 0 0 "ReducedBands" 5 8 0 false false false 0 0 0 18446744073709551615,
  entry 0x3420 1 4 "TransferTable" 13 2050 0 false false false 0 0 0 0]

/-- Rows of R153, R160, R178. -/
def entriesHead0 : List EntryDef := [
  entry 0x4000 1 1 "HActive" 3 2 2 true true false 2 3840 0 65535,
  entry 0x4000 2 2 "HFrontPorch" 3 2 2 true true false 2 8 0 65535,
  entry 0x4000 3 3 "HSyncWidth" 3 2 2 true true false 2 32 0 65535,
  entry 0x4000 4 4 "HBackPorch" 3 2 2 true true false 2 40 0 65535,
  entry 0x4000 5 5 "HSyncPositive" 1 1 2 true true false 2 1 0 1,
  entry 0x4000 6 6 "VActive" 3 2 2 true true false 2 2160 0 65535,
  entry 0x4000 7 7 "VFrontPorch" 3 2 2 true true false 2 48 0 65535,
  entry 0x4000 8 8 "VSyncWidth" 3 2 2 true true false 2 8 0 65535,
  entry 0x4000 9 9 "VBackPorch" 3 2 2 true true false 2 6 0 65535,
  entry 0x4000 10 10 "VSyncPositive" 1 1 2 true true false 2 0 0 1,
  entry 0x4000 11 11 "FrameRateNum" 4 4 2 true true false 2 60 0 4294967295,
  entry 0x4000 12 12 "FrameRateDen" 4 4 2 true true false 2 1 1 4294967295,
  entry 0x4000 13 13 "FramePhase" 4 4 2 true true false 2 0 0 999999999,
  entry 0x4000 14 14 "HeadEnable" 1 1 2 true true false 2 0 0 1,
  entry 0x4000 15 15 "PixelClock" 4 4 0 false false false 0 522614400 0 4294967295,
  entry 0x4001 1 1 "GenlockSource" 10 1 2 true true false 2 0 0 2,
  entry 0x4001 2 2 "SlipLinesMax" 2 1 1 true true false 0 16 0 16,
  entry 0x4001 3 3 "SyncInOffset" 7 4 1 true true false 0 0 0 0,
  entry 0x4001 4 4 "LockState" 10 1 0 false false false 0 0 0 255,
  entry 0x4001 5 5 "PhaseError" 7 4 0 false false false 0 0 0 0,
  entry 0x4001 6 6 "SlipCount" 4 4 0 false false false 0 0 0 4294967295,
  entry 0x4002 1 1 "LinkRateMax" 10 1 2 true true false 2 5 0 5,
  entry 0x4002 2 2 "LaneCountMax" 2 1 2 true true false 2 4 1 4,
  entry 0x4002 3 3 "LinkState" 10 1 0 false false false 0 0 0 255,
  entry 0x4002 4 4 "LinkRate" 10 1 0 false false false 0 0 0 255,
  entry 0x4002 5 5 "LaneCount" 2 1 0 false false false 0 0 0 255,
  entry 0x4002 6 6 "LinkEvents" 4 4 0 false false false 0 0 0 4294967295,
  entry 0x4002 7 7 "LinkReenable" 1 1 3 false false false 0 0 0 1,
  entry 0x4002 8 8 "SinkEdid" 13 4096 0 false false false 0 0 0 0,
  entry 0x4002 9 9 "SinkDpcdCaps" 12 16 0 false false false 0 0 0 0]

/-- Rows of R95, R122, R152, R160, R178, R183. -/
def entriesHead1 : List EntryDef := [
  entry 0x4002 10 10 "LinkUpFrame" 5 8 0 false false false 0 0 0 18446744073709551615,
  entry 0x4002 11 11 "OutputColorimetry" 10 1 2 true true false 2 0 0 1,
  entry 0x4003 1 1 "DscEnable" 1 1 2 true true false 2 0 0 1,
  entry 0x4003 2 2 "DscBppX16" 3 2 2 true true false 2 192 0 65535,
  entry 0x4003 3 3 "DscSlicesPerLine" 2 1 2 true true false 2 4 1 4,
  entry 0x4003 4 4 "DscSliceHeight" 3 2 2 true true false 2 8 0 65535,
  entry 0x4003 5 5 "BondMode" 1 1 2 true true false 2 0 0 1,
  entry 0x4004 1 1 "HeadState" 10 1 0 false false false 0 0 0 255,
  entry 0x4004 2 2 "HeadConfigFault" 10 1 0 false false false 0 0 0 255,
  entry 0x4004 3 3 "HeadResume" 1 1 3 false false false 0 0 0 1,
  entry 0x4004 4 4 "HaltDisplay" 10 1 1 true true false 0 0 0 1,
  entry 0x4004 5 5 "Frame" 5 8 0 false false false 0 0 0 18446744073709551615,
  entry 0x4004 6 6 "FrameStart" 9 8 0 false false false 0 0 0 18446744073709551615,
  entry 0x4004 7 7 "WallFrame" 5 8 0 false false false 0 0 0 18446744073709551615,
  entry 0x4005 1 1 "SinkCrcEnable" 1 1 1 true true false 0 0 0 1,
  entry 0x4005 2 2 "SinkCrcState" 10 1 0 false false false 0 0 0 255,
  entry 0x4005 3 3 "SinkCrcCompared" 4 4 0 false false false 0 0 0 4294967295,
  entry 0x4005 4 4 "SinkCrcMismatched" 4 4 0 false false false 0 0 0 4294967295,
  entry 0x4005 5 5 "SinkCrcSkipped" 4 4 0 false false false 0 0 0 4294967295,
  entry 0x4020 1 1 "ComposeAhead" 2 1 2 true true false 2 3 2 4,
  entry 0x4020 2 2 "LatchGuard" 2 1 2 true true false 2 2 0 16,
  entry 0x4020 3 3 "CommitAheadLead" 3 2 1 true true false 0 64 1 65535,
  entry 0x4020 4 4 "LatchGuardEffective" 2 1 0 false false false 0 0 0 255,
  entry 0x4020 5 5 "LatchLine" 3 2 0 false false false 0 0 0 65535,
  entry 0x4020 6 6 "LateCount" 4 4 0 false false false 0 0 0 4294967295,
  entry 0x4021 1 1 "BandMissCount" 4 4 0 false false false 0 0 0 4294967295,
  entry 0x4021 2 2 "LastMissFrame" 5 8 0 false false false 0 0 0 18446744073709551615,
  entry 0x4021 3 3 "LastMissCause" 10 1 0 false false false 0 0 0 255,
  entry 0x4021 4 4 "FetchBoundsCount" 4 4 0 false false false 0 0 0 4294967295,
  entry 0x4030 1 1 "Lut3D" 13 215622 1 true true false 1 0 0 0]

/-- Rows of R152, R206. -/
def entriesHead2 : List EntryDef := [
  entry 0x4030 2 2 "Lut3DEnable" 1 1 1 true true false 1 0 0 1,
  entry 0x4030 3 3 "GainMap" 13 1179656 1 true true false 1 0 0 0,
  entry 0x4030 4 4 "GainEnable" 1 1 1 true true false 1 0 0 1,
  entry 0x4030 5 5 "OutputEncodeLut" 13 8192 1 true true false 1 0 0 0,
  entry 0x4030 6 6 "OutputEncodeEnable" 1 1 1 true true false 1 0 0 1,
  entry 0x4030 7 7 "DitherMode" 10 1 1 true true false 1 1 0 1,
  entry 0x4030 8 8 "OutputDepth" 10 1 2 true true false 2 2 0 3,
  entry 0x4030 9 9 "GainMapMisfit" 1 1 0 false false false 0 0 0 1,
  entry 0x4040 1 1 "PreviousRun" 2 1 1 true true false 1 1 1 255,
  entry 0x4040 2 2 "RegionMismatches" 4 4 0 false false false 0 0 0 4294967295,
  entry 0x4040 3 3 "LastMismatch" 5 8 0 false false false 0 0 0 18446744073709551615,
  entry 0x4040 4 4 "RegionCrc" 12 256 0 false false false 0 0 0 0]

/-- Rows of R179, R205, R276. -/
def entriesRest0 : List EntryDef := [
  entry 0x5000 1 1 "LogBase" 5 8 1 true true false 0 0 0 18446744073709551615,
  entry 0x5000 2 2 "LogRecords" 4 4 1 true true false 0 0 0 16777216,
  entry 0x5000 3 3 "LogWriteIndex" 4 4 0 false false false 0 0 0 4294967295,
  entry 0x5000 4 4 "LogDropped" 4 4 0 false false false 0 0 0 4294967295,
  entry 0x5001 1 1 "LocaliseEnable" 1 1 1 true true false 0 1 0 1,
  entry 0x5001 2 2 "LocaliseResult" 4 4 0 false false false 0 0 0 4294967295,
  entry 0x5002 1 1 "EchoState" 10 1 0 false false false 0 0 0 255,
  entry 0x5002 2 2 "EchoFaults" 4 4 0 false false false 0 0 0 4294967295,
  entry 0x5002 3 3 "EchoUnchecked" 4 4 0 false false false 0 0 0 4294967295,
  entry 0x5002 4 4 "EchoLoad" 4 4 0 false false false 0 0 0 4294967295,
  entry 0x5300 1 1 "WbHead" 2 1 1 true true false 0 0 0 15,
  entry 0x5300 2 2 "WbMode" 10 1 1 true true false 0 0 0 3,
  entry 0x5300 3 3 "WbFormat" 10 1 1 true true false 0 0 0 1,
  entry 0x5300 4 4 "WbRect" 12 8 1 true true false 0 0 0 0,
  entry 0x5300 5 5 "WbDecimate" 2 1 1 true true false 0 1 1 255,
  entry 0x5300 6 6 "WbBufferCount" 2 1 1 true true false 0 2 1 8,
  entry 0x5300 7 7 "WbBufferBase" 12 64 1 true true false 0 0 0 0,
  entry 0x5300 8 8 "WbStride" 4 4 1 true true false 0 0 0 4294967295,
  entry 0x5300 9 9 "WbTrigger" 3 2 1 true true false 0 0 0 1535,
  entry 0x5300 10 10 "WbPostFrames" 2 1 1 true true false 0 1 0 7,
  entry 0x5300 11 11 "WbCapture" 1 1 3 false false false 0 0 0 1,
  entry 0x5300 12 12 "WbFramesWritten" 4 4 0 false false false 0 0 0 4294967295,
  entry 0x5300 13 13 "WbIncomplete" 4 4 0 false false false 0 0 0 4294967295,
  entry 0x5300 14 14 "WbLastBuffer" 2 1 0 false false false 0 0 0 255,
  entry 0x5800 1 1 "SiphonHalts" 4 4 0 false false false 0 0 0 4294967295,
  entry 0x5800 2 2 "SiphonRestarts" 4 4 0 false false false 0 0 0 4294967295,
  entry 0x5800 3 3 "SiphonRetiredMask" 5 8 0 false false false 0 0 0 18446744073709551615,
  entry 0x5800 4 4 "SiphonLastErrorAddress" 5 8 0 false false false 0 0 0 18446744073709551615,
  entry 0x5801 1 1 "GpioSiphonOutputs" 3 2 2 true true false 2 0 0 65535,
  entry 0x5801 2 2 "SignalPulseWidth" 3 2 1 true true false 0 10 1 10000]

/-- Rows of R296, R337. -/
def entriesRest1 : List EntryDef := [
  entry 0x5810 1 1 "SqueezeDeadTime" 3 2 1 true true false 0 0 0 4095,
  entry 0x5810 2 2 "LampSqueeze" 3 2 0 false false false 0 0 0 65535,
  entry 0x5811 1 1 "BlitUnitsInService" 2 1 0 false false false 0 4 0 255,
  entry 0x5811 2 2 "BlitBusErrors" 4 4 0 false false false 0 0 0 4294967295,
  entry 0x5811 3 3 "BlitStagedCommands" 4 4 0 false false false 0 0 0 4294967295,
  entry 0x5812 1 4 "BlitUnitState" 10 1 0 false false false 0 0 0 255,
  entry 0x6000 1 1 "DomainId" 4 4 2 true false false 2 0 0 4294967295,
  entry 0x6000 2 2 "FabricX" 2 1 2 true false false 2 0 0 63,
  entry 0x6000 3 3 "FabricY" 2 1 2 true false false 2 0 0 63,
  entry 0x6000 4 4 "TorusX" 2 1 2 true false false 2 1 1 64,
  entry 0x6000 5 5 "TorusY" 2 1 2 true false false 2 1 1 64,
  entry 0x6000 6 6 "DomainMembers" 3 2 2 true false false 2 1 1 4096,
  entry 0x6000 7 7 "FabricAddress" 3 2 0 false false false 0 0 0 65535,
  entry 0x6001 1 1 "ConsistencyMode" 10 1 1 true false true 0 0 0 1,
  entry 0x6001 2 2 "CoordinatorEligible" 1 1 1 true false false 0 1 0 1,
  entry 0x6001 3 3 "CoherentLead" 2 1 1 true false true 0 3 3 16,
  entry 0x6001 4 4 "GatherTime" 4 4 1 true false true 0 5000 0 100000,
  entry 0x6001 5 5 "DomainFrameRateNum" 4 4 1 true false true 0 60 0 4294967295,
  entry 0x6001 6 6 "DomainFrameRateDen" 4 4 1 true false true 0 1 1 4294967295,
  entry 0x6001 7 7 "DomainFramePhase" 4 4 1 true false true 0 0 0 999999999,
  entry 0x6002 1 1 "Coordinator" 3 2 0 false false false 0 0 0 65535,
  entry 0x6002 2 2 "DomainState" 10 1 0 false false false 0 0 0 255,
  entry 0x6002 3 3 "MembersPresent" 3 2 0 false false false 0 1 0 65535,
  entry 0x6002 4 4 "PresentMap" 13 512 0 false false false 0 0 0 0,
  entry 0x6002 5 5 "LastDecision" 5 8 0 false false false 0 0 0 18446744073709551615,
  entry 0x6002 6 6 "SplitCount" 4 4 0 false false false 0 0 0 4294967295,
  entry 0x6002 7 7 "AbortCount" 4 4 0 false false false 0 0 0 4294967295,
  entry 0x6002 8 8 "StreamDiscarded" 4 4 0 false false false 0 0 0 4294967295,
  entry 0x6003 1 1 "TimeRootPriority" 2 1 1 true false false 0 128 0 255,
  entry 0x6003 2 2 "TimeRoot" 3 2 0 false false false 0 0 0 65535]

/-- Rows of R337, R354. -/
def entriesRest2 : List EntryDef := [
  entry 0x6003 3 3 "TimeHops" 2 1 0 false false false 0 0 0 255,
  entry 0x7200 1 1 "Overlay" 13 4112 2 true false false 0 0 0 0,
  entry 0x7200 2 2 "OverlayPairs" 3 2 0 false false false 0 0 0 65535]

/-- Every row. -/
def entryTable : List EntryDef :=
  entriesSys0 ++ entriesSys1 ++ entriesSys2 ++ entriesMid0 ++ entriesMid1 ++ entriesMid2 ++ entriesHead0 ++ entriesHead1 ++ entriesHead2 ++ entriesRest0 ++ entriesRest1 ++ entriesRest2

/-- The index under which the table lists an entry: entries of head h, of stream s and of mode m's overlay are listed
once (R153, R179, R350). -/
def canonIndex (index : Nat) : Nat :=
  if 0x4000 ≤ index ∧ index < 0x5000 then 0x4000 + index % 256
  else if 0x5300 ≤ index ∧ index < 0x5304 then 0x5300
  else if 0x7200 ≤ index ∧ index ≤ 0x7B00 ∧ index % 256 = 0 then 0x7200
  else index

/-- The row that lists `index`, whatever its subindex. -/
def indexKnown (index : Nat) : Bool := entryTable.any (fun e => e.index == canonIndex index)

/-- The row of an entry. -/
def findEntry (index sub : Nat) : Option EntryDef :=
  entryTable.find? (fun e => e.index == canonIndex index && (e.subLo ≤ sub && sub ≤ e.subHi))

/-- The key of an entry in the dictionary's tables of values. -/
def dkey (index sub : Nat) : Nat := index * 256 + sub

end Sys2Proof.Machine
end

