-- ==== Sys2Proof/Machine/Ops.lean ====
section
/-!
DEFINITION. The named operations over the state: the blocks' instances, the dictionary's values in force, memory with
its canonical form, window checks, free values and the host's reads.
-/

namespace Sys2Proof.Machine

/-! ## Instances -/

/-- QUE[q]. -/
def State.ring (s : State) (q : Nat) : Ring := Tbl.get (Ring.reset q) s.que.rings q
def State.setRing (s : State) (q : Nat) (r : Ring) : State := { s with que := { s.que with rings := Tbl.set s.que.rings q r } }
def State.modRing (s : State) (q : Nat) (f : Ring → Ring) : State := s.setRing q (f (s.ring q))

/-- Siphon channel c. -/
def State.chan (s : State) (c : Nat) : Chan := Tbl.get Chan.reset s.siph.chans c
def State.setChan (s : State) (c : Nat) (x : Chan) : State := { s with siph := { s.siph with chans := Tbl.set s.siph.chans c x } }
def State.modChan (s : State) (c : Nat) (f : Chan → Chan) : State := s.setChan c (f (s.chan c))

/-- Blit unit u. -/
def State.unit (s : State) (u : Nat) : Unit2D := Tbl.get Unit2D.reset s.blit.units u
def State.setUnit (s : State) (u : Nat) (x : Unit2D) : State := { s with blit := { s.blit with units := Tbl.set s.blit.units u x } }
def State.modUnit (s : State) (u : Nat) (f : Unit2D → Unit2D) : State := s.setUnit u (f (s.unit u))

/-- Event source i as its registers hold it. -/
def State.ev (s : State) (i : Nat) : EvSrc := Tbl.get EvSrc.reset s.evc.srcs i
def State.setEv (s : State) (i : Nat) (x : EvSrc) : State := { s with evc := { s.evc with srcs := Tbl.set s.evc.srcs i x } }
def State.modEv (s : State) (i : Nat) (f : EvSrc → EvSrc) : State := s.setEv i (f (s.ev i))

/-- Coalescing group g. -/
def State.group (s : State) (g : Nat) : EvGroup := Tbl.get EvGroup.reset s.evc.groups g
def State.setGroup (s : State) (g : Nat) (x : EvGroup) : State := { s with evc := { s.evc with groups := Tbl.set s.evc.groups g x } }
def State.modGroup (s : State) (g : Nat) (f : EvGroup → EvGroup) : State := s.setGroup g (f (s.group g))

/-- Head h. -/
def State.head (s : State) (h : Nat) : Head := Tbl.get Head.reset s.heads.heads h
def State.setHead (s : State) (h : Nat) (x : Head) : State := { s with heads := { s.heads with heads := Tbl.set s.heads.heads h x } }
def State.modHead (s : State) (h : Nat) (f : Head → Head) : State := s.setHead h (f (s.head h))

/-- The DisplayPort link of head h. -/
def State.link (s : State) (h : Nat) : DpLink := Tbl.get DpLink.reset s.heads.links h
def State.setLink (s : State) (h : Nat) (x : DpLink) : State := { s with heads := { s.heads with links := Tbl.set s.heads.links h x } }
def State.modLink (s : State) (h : Nat) (f : DpLink → DpLink) : State := s.setLink h (f (s.link h))

/-- Gallery g. -/
def State.gallery (s : State) (g : Nat) : Gal := Tbl.get Gal.reset s.gal.gals g
def State.setGallery (s : State) (g : Nat) (x : Gal) : State := { s with gal := { s.gal with gals := Tbl.set s.gal.gals g x } }
def State.modGallery (s : State) (g : Nat) (f : Gal → Gal) : State := s.setGallery g (f (s.gallery g))

/-- Region r of head h in Lantern. -/
def regionKey (h r : Nat) : Nat := h * 64 + r
def State.region (s : State) (h r : Nat) : RegSt := Tbl.get RegSt.reset s.lant.regs (regionKey h r)
def State.setRegion (s : State) (h r : Nat) (x : RegSt) : State :=
  { s with lant := { s.lant with regs := Tbl.set s.lant.regs (regionKey h r) x } }
def State.modRegion (s : State) (h r : Nat) (f : RegSt → RegSt) : State := s.setRegion h r (f (s.region h r))

/-- Writeback stream w. -/
def State.stream (s : State) (w : Nat) : Wb := Tbl.get Wb.reset s.wb w
def State.setStream (s : State) (w : Nat) (x : Wb) : State := { s with wb := Tbl.set s.wb w x }
def State.modStream (s : State) (w : Nat) (f : Wb → Wb) : State := s.setStream w (f (s.stream w))

/-- Ilelle port p. -/
def State.port (s : State) (p : Nat) : Port := Tbl.get Port.reset s.fab.ports p
def State.setPort (s : State) (p : Nat) (x : Port) : State := { s with fab := { s.fab with ports := Tbl.set s.fab.ports p x } }
def State.modPort (s : State) (p : Nat) (f : Port → Port) : State := s.setPort p (f (s.port p))

/-- Memory window n. -/
def State.win (s : State) (n : Nat) : Win := Tbl.get Win.reset s.mem.wins n
def State.setWin (s : State) (n : Nat) (x : Win) : State := { s with mem := { s.mem with wins := Tbl.set s.mem.wins n x } }

/-- The source table's entry of identity i, when registered or withdrawn. -/
def State.source? (s : State) (i : Nat) : Option Source := Tbl.find? s.src.table i
def State.setSource (s : State) (i : Nat) (x : Source) : State := { s with src := { s.src with table := Tbl.set s.src.table i x } }
def State.modSource (s : State) (i : Nat) (f : Source → Source) : State :=
  match s.source? i with
  | some x => s.setSource i (f x)
  | none => s

/-- A function's configuration space. -/
def State.fnCfg (s : State) (fn : Fn) : FnCfg :=
  match fn with
  | .pf0 => s.evc.pf0
  | .pf1 => s.evc.pf1
def State.setFnCfg (s : State) (fn : Fn) (x : FnCfg) : State :=
  match fn with
  | .pf0 => { s with evc := { s.evc with pf0 := x } }
  | .pf1 => { s with evc := { s.evc with pf1 := x } }

/-- Do something once for each element of a list, in order. -/
def State.forEach {α : Type} (s : State) (l : List α) (f : State → α → State) : State := l.foldl f s

/-- The wall-time counter (R12, R26). -/
def State.now (s : State) : Nat := s.sys.wall

/-- Take a free value: the number it is drawn at, and the state with the counter advanced. -/
def State.draw (s : State) : Nat × State := (s.fresh, { s with fresh := s.fresh + 1 })

/-! ## Modes -/

/-- The code of a mode (R339). -/
def Mode.code (m : Mode) : Nat :=
  match m with
  | .reset => 0 | .boot => 1 | .configure => 2 | .standby => 3 | .operate => 4 | .degraded => 5 | .safeDisplay => 6
  | .maintain => 7 | .calibrate => 8 | .update => 9 | .isolated => 10 | .halt => 11

/-- The mode of a code. -/
def Mode.ofCode (n : Nat) : Option Mode :=
  match n with
  | 0 => some .reset | 1 => some .boot | 2 => some .configure | 3 => some .standby | 4 => some .operate
  | 5 => some .degraded | 6 => some .safeDisplay | 7 => some .maintain | 8 => some .calibrate | 9 => some .update
  | 10 => some .isolated | 11 => some .halt | _ => none

/-- The service class of a code (R36): 1 SAFETY to 4 DECOR. -/
def fnCode (f : Fn) : Nat := match f with | .pf0 => 0 | .pf1 => 1
def fnOfCode (n : Nat) : Fn := if n = 1 then .pf1 else .pf0

/-! ## The dictionary's values in force -/

/-- The default of an entry as bytes. -/
def EntryDef.dfltBytes (e : EntryDef) : List Byte :=
  if e.typ = 13 then []
  else if e.index = 0x2100 ∧ e.subLo = 2 then [if Config.gradeCA then 85#8 else 95#8]   -- ThermalTarget, by grade (R434)
  else leBytes e.size e.dflt

/-- The value in force of an entry (R359). -/
def State.cfgBytes (s : State) (index sub : Nat) : List Byte :=
  match Tbl.find? s.dict.force (dkey index sub) with
  | some v => v
  | none => match findEntry index sub with | some e => e.dfltBytes | none => []

/-- The value in force of an unsigned entry. -/
def State.cfg (s : State) (index sub : Nat) : Nat := leNat (s.cfgBytes index sub)

/-- The value in force of a BOOL entry. -/
def State.cfgBool (s : State) (index sub : Nat) : Bool := s.cfg index sub != 0

/-- The value in force of a signed 32-bit entry. -/
def State.cfgI32 (s : State) (index sub : Nat) : Int := toSigned 32 (s.cfg index sub)

/-- The value written, whether or not it is in force (R359): the overlay's when it overlays the entry, else the base. -/
def State.writtenBytes (s : State) (index sub : Nat) : List Byte :=
  match Tbl.find? s.dict.overlay (dkey index sub) with
  | some v => v
  | none =>
    match Tbl.find? s.dict.base (dkey index sub) with
    | some v => v
    | none => match findEntry index sub with | some e => e.dfltBytes | none => []
def State.written (s : State) (index sub : Nat) : Nat := leNat (s.writtenBytes index sub)

/-- The value in force of head h's entry 0x4h00 + off : sub. -/
def State.hcfg (s : State) (h off sub : Nat) : Nat := s.cfg (0x4000 + 0x100 * h + off) sub
def State.hcfgBool (s : State) (h off sub : Nat) : Bool := s.hcfg h off sub != 0

/-! ## Memory -/

/-- The byte listed at address `a`; what an unlisted address reads as is 0: device memory after the boot's zeroing
(R441), host memory by DESIGN CHOICE, log entry 5. -/
def Memory.get (m : List Host.Cell) (a : Nat) : Byte :=
  match m with
  | [] => 0#8
  | (b, v) :: r => if b = a then v else Memory.get r a

/-- The memory with `v` at `a`: addresses stay strictly rising and no listed byte is 0. -/
def Memory.put (m : List Host.Cell) (a : Nat) (v : Byte) : List Host.Cell :=
  match m with
  | [] => if v = 0#8 then [] else [(a, v)]
  | (b, w) :: r =>
    if a < b then (if v = 0#8 then (b, w) :: r else (a, v) :: (b, w) :: r)
    else if a = b then (if v = 0#8 then r else (a, v) :: r)
    else (b, w) :: Memory.put r a v

/-- The canonical form: addresses strictly rising, no entry equal to what an unlisted address reads as. -/
def Memory.wf (m : List Host.Cell) : Bool :=
  match m with
  | [] => true
  | (a, v) :: r => (v != 0#8) && (match r with | [] => true | (b, _) :: _ => decide (a < b)) && Memory.wf r

/-- `n` bytes from address `a`. -/
def Memory.read (m : List Host.Cell) (a n : Nat) : List Byte :=
  match n with
  | 0 => []
  | n + 1 => Memory.get m a :: Memory.read m (a + 1) n

/-- The memory with a run of bytes at `a`, lowest address first. -/
def Memory.write (m : List Host.Cell) (a : Nat) (l : List Byte) : List Host.Cell :=
  match l with
  | [] => m
  | b :: r => Memory.write (Memory.put m a b) (a + 1) r

/-- The size of the device address space, 31 GiB (R208). -/
def devSize : Nat := 0x7_C000_0000

/-- The first address of the spare pool (R209). -/
def spareBase : Nat := 0x7_B800_0000

/-- The first address of the firmware region: it ends at the spare pool (R209, R232). -/
def State.fwBase (s : State) : Nat := spareBase - s.cfg 0x2201 0 * 0x400_0000

/-- A device address of an entry or a descriptor (R210): [63] is 0 and [62:35] are 0. -/
def isDevAddr (a : Nat) : Bool := decide (a < 2 ^ 35)

/-- A host bus address of an entry or a descriptor (R210): [63] is 1. -/
def isHostAddr (a : Nat) : Bool := a.testBit 63

/-- The 64-byte block of an address, and its granule of 64 KiB. -/
def blockOf (a : Nat) : Nat := a / 64
def granuleOf (a : Nat) : Nat := a / 0x10000

/-- The numbers n with lo ≤ n ≤ hi. -/
def rangeIncl (lo hi : Nat) : List Nat := (List.range (hi + 1 - lo)).map (fun i => lo + i)

/-- The first poisoned or unusable block that a read of device memory touches, as the address of the fault (R229 to R231). -/
def State.badRead (s : State) (a n : Nat) : Option Nat :=
  if n = 0 then none
  else
    let blk := s.mem.poisoned.filter (fun b => decide (blockOf a ≤ b ∧ b ≤ blockOf (a + n - 1)))
    let gr := s.health.unusable.filter (fun g => decide (granuleOf a ≤ g ∧ g ≤ granuleOf (a + n - 1)))
    match blk.map (fun b => b * 64) ++ gr.map (fun g => g * 0x10000) with
    | [] => none
    | l => some (Nat.max a (minOr 0 l))

/-- Write device memory: bytes of an unusable granule are discarded, each such write counting once per 64-byte block
(R231), and a poisoned block whose 64 bytes are all written is poisoned no more (R230). -/
def State.devWrite (s : State) (a : Nat) (l : List Byte) : State :=
  if l.isEmpty then s
  else
    let last := a + l.length - 1
    let bad (x : Nat) : Bool := s.health.unusable.contains (granuleOf x)
    let lost := if s.health.unusable.isEmpty then 0
      else ((rangeIncl (blockOf a) (blockOf last)).filter (fun b => bad (b * 64))).length
    let dev :=
      if lost = 0 then Memory.write s.mem.dev a l
      else (l.zip (rangeIncl a last)).foldl (fun m p => if bad p.2 then m else Memory.put m p.2 p.1) s.mem.dev
    let whole (b : Nat) : Bool := decide (a ≤ b * 64 ∧ b * 64 + 64 ≤ a + l.length) && !bad (b * 64)
    { s with mem := { s.mem with dev := dev, poisoned := s.mem.poisoned.filter (fun b => !whole b),
                                 unusableWr := sat 32 (s.mem.unusableWr + lost) } }

/-- Read device memory. -/
def State.devRead (s : State) (a n : Nat) : List Byte := Memory.read s.mem.dev a n

/-- Write host memory at a bus address: the 63 bits below the space bit. -/
def State.hostWrite (s : State) (a : Nat) (l : List Byte) : State :=
  { s with mem := { s.mem with host := Memory.write s.mem.host (a % 2 ^ 63) l } }

/-- Read at an address of R210: host memory when [63] is set, else device memory. -/
def State.busRead (s : State) (a n : Nat) : List Byte :=
  if isHostAddr a then Memory.read s.mem.host (a % 2 ^ 63) n else s.devRead a n

/-- Write at an address of R210. -/
def State.busWrite (s : State) (a : Nat) (l : List Byte) : State :=
  if isHostAddr a then s.hostWrite a l else s.devWrite a l

/-- The device address at which a read of R210 fails, if it does. -/
def State.busBad (s : State) (a n : Nat) : Option Nat := if isHostAddr a then none else s.badRead a n

/-! ## Windows -/

/-- The classes whose rights a window grants (R216). -/
inductive Cls where
  | priv | appl | siphon | blit | fabric | heads
  deriving DecidableEq, Repr

/-- The bit of the rights field that grants a class reading (`wr` false) or writing. -/
def Cls.rightBit (c : Cls) (wr : Bool) : Nat :=
  b2n wr + match c with | .priv => 0 | .appl => 2 | .siphon => 4 | .blit => 6 | .fabric => 8 | .heads => 10

/-- The class of a function's rights (R212). -/
def fnCls (f : Fn) : Cls := match f with | .pf0 => .priv | .pf1 => .appl

/-- BAR0 offset of window n (R216). -/
def winOffset (n : Nat) : Nat := 0x40_4000 + 0x20 * n

/-- A window whose register's parity is wrong grants nothing until it is rewritten (R392). -/
def State.winGrants (s : State) (n : Nat) (w : Win) : Bool :=
  w.enable && !(s.sys.parityBad.any (fun o => decide (winOffset n ≤ o ∧ o < winOffset n + 0x20)))

/-- How far the bytes from `a` on are covered by one granting window, if any. -/
def State.coverEnd (s : State) (c : Cls) (wr host : Bool) (a : Nat) : Option Nat :=
  s.mem.wins.foldl
    (fun best p =>
      let w := p.2
      let lo := w.baseF * 4096
      let hi := lo + w.sizeF * 4096
      if s.winGrants p.1 w && w.hostF == host && w.rights.testBit (c.rightBit wr) && decide (lo ≤ a ∧ a < hi) then
        (match best with | none => some hi | some b => some (Nat.max b hi))
      else best)
    none

/-- Every byte from `a` up to `hi` lies in a granting window; one round per window suffices (R213). -/
def State.covered (s : State) (c : Cls) (wr host : Bool) (a hi : Nat) : Nat → Bool
  | 0 => decide (hi ≤ a)
  | fuel + 1 =>
    if hi ≤ a then true
    else match s.coverEnd c wr host a with
      | none => false
      | some b => s.covered c wr host b hi fuel

/-- The window check of R213 for one class over `n` bytes at an address of R210. -/
def State.granted (s : State) (c : Cls) (wr : Bool) (a n : Nat) : Bool :=
  if isHostAddr a then s.covered c wr true (a % 2 ^ 63) (a % 2 ^ 63 + n) (s.mem.wins.length + 1)
  else isDevAddr a && s.covered c wr false a (a + n) (s.mem.wins.length + 1)

/-- The check for several classes: each must be granted over every byte (R212, R213); log entry 6. -/
def State.grantedAll (s : State) (cs : List Cls) (wr : Bool) (a n : Nat) : Bool := cs.all (fun c => s.granted c wr a n)

/-- Count one failed window check (R214, R215). -/
def State.countBounds (s : State) : State := { s with mem := { s.mem with boundsCnt := satInc 32 s.mem.boundsCnt } }

/-! ## The host -/

/-- Requests of a function reach the device: out of RESET and of a PCIe reset, from FWREADY on, with the function in D0
(R383, R439, R441, R443). -/
def State.hostUp (s : State) (fn : Fn) : Bool :=
  s.sys.mode != .reset && !s.sys.pcieReset && s.sys.fwReady && (s.fnCfg fn).d0

/-- The data a host read returns. -/
def State.answer (s : State) (l : List Byte) : State := { s with bus := l, busEp := false }

/-! ## Status codes -/

/-- The codes of R252. -/
def Status.code (x : Status) : Nat :=
  match x with
  | .ok => 0x00 | .bounds => 0x01 | .state => 0x02 | .format => 0x03 | .version => 0x04 | .infeasible => 0x05
  | .overlapRotate => 0x06 | .privilege => 0x07 | .busError => 0x08 | .aborted => 0x09 | .timeout => 0x0A
  | .retired => 0x0B | .size => 0x0C | .late => 0x0D | .staleSource => 0x0E

end Sys2Proof.Machine
end

