-- ==== Sys2Proof/Machine/Events.lean ====
section
/-!
DEFINITION. The event controller (R401 to R417): source numbers, pulses and levels, pending, enable and claim, targets,
coalescing, MSI-X delivery and management-core delivery, and the freshness log.
-/

namespace Sys2Proof.Machine

/-! ## Source numbers (R401, R402, R435, R457) -/

/-- Source of slot `k` of head `h` (R401). -/
def evHead (h k : Nat) : Nat := 384 + 32 * h + k
/-- Source of slot `k` of writeback stream `w` (R401). -/
def evWb (w k : Nat) : Nat := 896 + 4 * w + k
/-- Source of slot `k` of Ilelle port `p` (R401). -/
def evIll (p k : Nat) : Nat := 912 + 8 * p + k
/-- Source of signal line `l` (R401). -/
def evSignal (l : Nat) : Nat := 256 + l
/-- Source of the input level of GPIO_EV pin `n` (R401). -/
def evGpio (n : Nat) : Nat := 944 + n

/-- The slots of a head's 32 sources. -/
inductive Slot32 where
  | commitAhead | commitLate | commitApplied | commitSuperseded | bandMiss | fetchBounds | lanternMismatch | headSafe
  | headHalted | headConfigInvalid | genlockLocked | genlockLost | genlockSlip | syncInLost | linkUp | linkDown
  | linkRetired | linkInsufficient | sinkAttached | sinkDetached | sinkIrq | sinkCrcMismatch | gainMapMisfit
  deriving DecidableEq, Repr

def Slot32.num (x : Slot32) : Nat :=
  match x with
  | .commitAhead => 0 | .commitLate => 1 | .commitApplied => 2 | .commitSuperseded => 3 | .bandMiss => 4
  | .fetchBounds => 5 | .lanternMismatch => 6 | .headSafe => 7 | .headHalted => 8 | .headConfigInvalid => 9
  | .genlockLocked => 10 | .genlockLost => 11 | .genlockSlip => 12 | .syncInLost => 13 | .linkUp => 14
  | .linkDown => 15 | .linkRetired => 16 | .linkInsufficient => 17 | .sinkAttached => 18 | .sinkDetached => 19
  | .sinkIrq => 20 | .sinkCrcMismatch => 21 | .gainMapMisfit => 22

/-- The device-wide sources (R402), Lamp's (R435) and start-up's (R457). -/
inductive DevEvent where
  | publishFutureStamp | publishRejected | sourceBufferConflict | sourceAging | sourceStale | sourceFrozen | sourceFresh
  | mgmtCoreFault | engineFault | engineRetired | reserveEngaged | galleryRetired
  | echoUnchecked | echoFault | echoRetired | localised | localiseInconclusive | logDropped | logBounds
  | hostBounds | windowRejected | memCorrected | memUncorrectable | memGranuleRetired | memSparesLow
  | memGranuleUnusable | memSparesExhausted | capacityLost
  | queueHalted | completionBackpressure | siphonHalt | siphonRestarted | siphonChannelRetired | siphonDescFailed
  | siphonPublishSkipped | blitUnitFault | blitUnitRetired
  | fabricForeign | fabricMiscabled | generationChanged | routeChanged | wallTimeUnsync | wallTimeSync
  | timeRootChanged | streamDiscarded | coherentAbort | epochSplit | epochDiverged | coordinatorChanged
  | domainNoQuorum | memberLost
  | modeChanged | conditionsChanged | lopProofFailed | lopWindowDone | dictStoreDone | dictStoreFailed | dictBankWear
  | registerParity | galleryFault
  | lampStageChanged | powerLimitUnmet | thermalOverGrade | thermalTripRecorded | lifeOffsetChanged | lifeAhead
  | vcoreControlLost | vcoreMargin | sensorFault | replacementChanged | healthStoreFailed | galleryMaskChanged
  | bootDone | imageFallback | imageTrial | imageConfirmed | imageStaged | selfTestFailed | refClockLost
  | refClockRestored | pcieReset
  deriving DecidableEq, Repr

def DevEvent.num (x : DevEvent) : Nat :=
  match x with
  | .publishFutureStamp => 960 | .publishRejected => 961 | .sourceBufferConflict => 962 | .sourceAging => 963
  | .sourceStale => 964 | .sourceFrozen => 965 | .sourceFresh => 966
  | .mgmtCoreFault => 967 | .engineFault => 968 | .engineRetired => 969 | .reserveEngaged => 970
  | .galleryRetired => 971
  | .echoUnchecked => 972 | .echoFault => 973 | .echoRetired => 974 | .localised => 975
  | .localiseInconclusive => 976 | .logDropped => 977 | .logBounds => 978
  | .hostBounds => 979 | .windowRejected => 980 | .memCorrected => 981 | .memUncorrectable => 982
  | .memGranuleRetired => 983 | .memSparesLow => 984 | .memGranuleUnusable => 985 | .memSparesExhausted => 986
  | .capacityLost => 987
  | .queueHalted => 988 | .completionBackpressure => 989 | .siphonHalt => 990 | .siphonRestarted => 991
  | .siphonChannelRetired => 992 | .siphonDescFailed => 993 | .siphonPublishSkipped => 994 | .blitUnitFault => 995
  | .blitUnitRetired => 996
  | .fabricForeign => 997 | .fabricMiscabled => 998 | .generationChanged => 999 | .routeChanged => 1000
  | .wallTimeUnsync => 1001 | .wallTimeSync => 1002 | .timeRootChanged => 1003 | .streamDiscarded => 1004
  | .coherentAbort => 1005 | .epochSplit => 1006 | .epochDiverged => 1007 | .coordinatorChanged => 1008
  | .domainNoQuorum => 1009 | .memberLost => 1010
  | .modeChanged => 1011 | .conditionsChanged => 1012 | .lopProofFailed => 1013 | .lopWindowDone => 1014
  | .dictStoreDone => 1015 | .dictStoreFailed => 1016 | .dictBankWear => 1017 | .registerParity => 1018
  | .galleryFault => 1019
  | .lampStageChanged => 1024 | .powerLimitUnmet => 1025 | .thermalOverGrade => 1026 | .thermalTripRecorded => 1027
  | .lifeOffsetChanged => 1028 | .lifeAhead => 1029 | .vcoreControlLost => 1030 | .vcoreMargin => 1031
  | .sensorFault => 1032 | .replacementChanged => 1033 | .healthStoreFailed => 1034 | .galleryMaskChanged => 1035
  | .bootDone => 1056 | .imageFallback => 1057 | .imageTrial => 1058 | .imageConfirmed => 1059 | .imageStaged => 1060
  | .selfTestFailed => 1061 | .refClockLost => 1062 | .refClockRestored => 1063 | .pcieReset => 1064

/-- A reserved source never asserts (R401, R402, R435, R457). -/
def evReserved (i : Nat) : Bool :=
  if 384 ≤ i ∧ i < 896 then decide (23 ≤ (i - 384) % 32)
  else if 912 ≤ i ∧ i < 944 then decide (4 ≤ (i - 912) % 8)
  else decide ((1020 ≤ i ∧ i < 1024) ∨ (1036 ≤ i ∧ i < 1056) ∨ (1065 ≤ i ∧ i < 1280) ∨ 1536 ≤ i)

/-- SOFTWARE sources assert only through the set alias (R401). -/
def evSoftware (i : Nat) : Bool := decide (1280 ≤ i ∧ i < 1536)

/-- The condition sources of R403; every other source is a pulse source. -/
def evCondition (i : Nat) : Bool :=
  if 384 ≤ i ∧ i < 896 then
    let k := (i - 384) % 32
    k == 7 || k == 8 || k == 11 || k == 17 || k == 22
  else decide ((944 ≤ i ∧ i < 960) ∨ i = 984 ∨ i = 988 ∨ i = 989 ∨ i = 990 ∨ i = 1001 ∨ i = 1009)

/-! ## Accounting of refused host writes (R388) -/

/-- A PF1 write that is ignored counts in PRIVIGNORED and leaves its offset in PRIVLASTADDR. -/
def State.privIgnore (s : State) (off : Nat) : State :=
  { s with sys := { s.sys with privIgnored := satInc 16 s.sys.privIgnored, privLast := wrap 26 off } }

/-- An access refused under R386 counts in BADACCESS. -/
def State.badAccess (s : State) : State := { s with sys := { s.sys with badAccess := satInc 16 s.sys.badAccess } }

/-- Any write of a register recomputes its parity and ends the safe action of a register that software writes (R393). -/
def State.fixParity (s : State) (off : Nat) : State :=
  { s with sys := { s.sys with parityBad := s.sys.parityBad.filter (fun o => o != off) } }

/-- Whether a register's parity is found wrong and not yet rewritten or restored. -/
def State.parityWrong (s : State) (off : Nat) : Bool := s.sys.parityBad.contains off

/-! ## A source's effective configuration -/

/-- OWNER: for sources 0 to 255 the owner of the ring (R408). -/
def State.evOwner (s : State) (i : Nat) : Fn := if i < 256 then (s.ring i).cfg.owner else (s.ev i).owner

/-- The source as the controller acts on it: after a parity mismatch it is delivered as enabled and edge-triggered to PF0
vector 0 with coalescing off until its configuration is rewritten (R392). -/
def State.evEff (s : State) (i : Nat) : EvSrc :=
  let e := { s.ev i with owner := s.evOwner i }
  if s.parityWrong (0x10_0000 + 8 * i) || s.parityWrong (0x10_4000 + 4 * (i / 32)) then
    { e with level := false, owner := .pf0, target := 0, coalesce := false, vector := 0, enabled := true }
  else e

/-- Groups 0 to 55 serve PF0 and 56 to 63 serve PF1 (R410). -/
def groupServes (g : Nat) (f : Fn) : Bool := if g < 56 then f == .pf0 else f == .pf1

/-- A source in effect in a group (R410). -/
def EvSrc.grouped (e : EvSrc) : Bool := e.coalesce && groupServes e.group e.owner

/-- A source that is enabled, pending, not claimed as LEVEL and not held by its group (R404, R406, R410). -/
def State.presentable (s : State) (i : Nat) : Bool :=
  let e := s.evEff i
  e.enabled && e.pending && !(e.level && e.active) && !(e.grouped && (s.group e.group).holding)

/-- The target of a source (R408). -/
def EvSrc.targetOf (e : EvSrc) : Target := if e.target = 0 then .vector e.owner e.vector else .core (e.target - 1)

/-- The place of a target among those that became presentable on one clock: PF0 first, then ascending vector (R412). -/
def Target.rank (t : Target) : Nat :=
  match t with
  | .vector .pf0 v => v
  | .vector .pf1 v => 2048 + v
  | .core c => 4096 + c

/-- The sources that present something now, in rising order. -/
def State.presenting (s : State) : List Nat := (s.evc.srcs.map (fun p => p.1)).filter (fun i => s.presentable i)

/-- Insert a target by rank, once. -/
def insertTarget (t : Target) (l : List Target) : List Target :=
  match l with
  | [] => [t]
  | u :: r => if t = u then u :: r else if t.rank < u.rank then t :: u :: r else u :: insertTarget t r

/-- Keep the order in which targets became presentable (R412): those that present nothing any more leave it, those that
newly do join at its end; all that became so at one wall time stand PF0 first, then by ascending vector. -/
def State.reorder (s : State) : State :=
  let now := s.presenting.foldl (fun a i => insertTarget (s.evEff i).targetOf a) []
  let kept := s.evc.order.filter (fun (p : Nat × Target) => p.1 != s.now && now.contains p.2)
  let fresh := now.filter (fun t => !(kept.any (fun (p : Nat × Target) => p.2 == t)))
  { s with evc := { s.evc with order := kept ++ fresh.map (fun t => (s.now, t)) } }

/-! ## Coalescing groups (R410) -/

/-- Release of a group: its members become presentable, the round ends, RELEASES counts one. -/
def State.releaseGroup (s : State) (g : Nat) : State :=
  s.modGroup g (fun x => { x with counted := 0, holding := false, releases := satInc 32 x.releases })

/-- One occurrence of an enabled member; the group releases when COUNT reaches COUNTTHRESH + 1. -/
def State.countGroup (s : State) (g : Nat) : State :=
  let x := s.group g
  let y := if x.holding then { x with counted := Nat.min 4096 (x.counted + 1) }
    else { x with counted := 1, holding := true, started := s.now }
  let s := s.setGroup g y
  if x.count + 1 ≤ y.counted then s.releaseGroup g else s

/-- The group's timer has reached TIMETHRESH × 100 ns. -/
def EvGroup.timerDone (x : EvGroup) (now : Nat) : Bool :=
  x.holding && x.time != 0 && decide (x.started + x.time * 100 ≤ now)

/-! ## Occurrences and levels (R405, R406) -/

/-- A source becomes pending: a writeback stream that watches it is triggered, whether or not the source is enabled (R182,
R404). -/
def State.wbWatch (s : State) (i : Nat) : State :=
  { s with wb := Tbl.mapVals s.wb (fun _ w =>
    if w.cfg.mode = 3 ∧ w.cfg.trigger = i ∧ w.wasOn ∧ !w.off ∧ !w.frozen ∧ !w.triggered then
      { w with triggered := true, postLeft := w.cfg.post } else w) }

/-- The same for each listed source that is pending in one state and was not in another. -/
def State.wbWatchNew (s old : State) (l : List Nat) : State :=
  s.forEach l (fun s i => if (s.ev i).pending && !(old.ev i).pending then s.wbWatch i else s)

/-- An occurrence of source `i`: a pulse, a rise, or a write through the set alias. An EDGE source sets its pending bit; a
LEVEL source sets it while it is not ACTIVE. -/
def State.occur (s : State) (i : Nat) : State :=
  let e := s.evEff i
  let old := s
  let s := s.modEv i (fun x => { x with pending := if e.level && e.active then x.pending else true })
  let s := s.wbWatchNew old [i]
  let s := if e.enabled && e.grouped then s.countGroup e.group else s
  s.reorder

/-- The pending bit of a LEVEL source that is not ACTIVE follows its level, except after a core's clear (R406, R413). -/
def EvSrc.follow (e : EvSrc) : EvSrc :=
  if e.level && !e.active then { e with pending := e.raw && !e.coreClr } else e

/-- A condition source's level becomes `b` (R403, R406). -/
def State.levelTo (s : State) (i : Nat) (b : Bool) : State :=
  if (s.ev i).raw == b then s
  else if b then (s.modEv i (fun x => { x with raw := true, coreClr := false })).occur i
  else (s.modEv i (fun x => { x with raw := false, coreClr := false }.follow)).reorder

/-- A pulse event is raised (R403). Events that arise before FWREADY are kept and set pending there (R441). -/
def State.raiseNum (s : State) (i : Nat) : State :=
  if evReserved i then s
  else if s.sys.fwReady then s.occur i
  else { s with boot := { s.boot with pendingEvents := s.boot.pendingEvents ++ [i] } }

/-- A device-wide event is raised. -/
def State.raise (s : State) (e : DevEvent) : State := s.raiseNum e.num

/-- An event of head `h` is raised. -/
def State.raiseHead (s : State) (h : Nat) (k : Slot32) : State := s.raiseNum (evHead h k.num)

/-- The level of a device-wide condition source. -/
def State.level (s : State) (e : DevEvent) (b : Bool) : State := s.levelTo e.num b

/-- The level of a head's condition source. -/
def State.levelHead (s : State) (h : Nat) (k : Slot32) (b : Bool) : State := s.levelTo (evHead h k.num) b

/-- An occurrence of one of the seven source events is recorded in the freshness log and raised (R402, R416). -/
def State.freshEvent (s : State) (e : DevEvent) (src record detail : Nat) : State :=
  let k := s.evc.freshIdx % 256
  let bytes := leBytes 2 src ++ [byte record, byte detail] ++ leBytes 4 0 ++ leBytes 8 s.now
  let s := { s with evc := { s.evc with freshLog := Tbl.set s.evc.freshLog k bytes, freshIdx := wrapInc 32 s.evc.freshIdx } }
  s.raise e

/-! ## Claims and messages (R407, R411 to R413) -/

/-- The sources a message to `t` claims: those that target it and are presentable now. -/
def State.claimed (s : State) (t : Target) : List Nat := s.presenting.filter (fun i => (s.evEff i).targetOf = t)

/-- The claim: pending bits clear and LEVEL sources become ACTIVE (R407). -/
def State.claim (s : State) (t : Target) : State :=
  s.forEach (s.claimed t) (fun s i => s.modEv i (fun x => { x with pending := false, active := x.active || (s.evEff i).level }))

/-- The conditions of R411 for a function's vector. -/
def State.deliverable (s : State) (t : Target) : Bool :=
  match t with
  | .vector fn v =>
    let c := s.fnCfg fn
    c.msixEnable && !c.fnMask && !(Tbl.get MsixEntry.reset c.msix v).masked && c.busMaster && c.d0
  | .core _ => false

/-- The message itself: its data written to its address, and the counts of ISSUED0, ISSUED1 and R417. -/
def State.sendMessage (s : State) (fn : Fn) (v : Nat) : State :=
  let e := Tbl.get MsixEntry.reset (s.fnCfg fn).msix v
  let s := s.hostWrite e.addr (leBytes 4 e.data)
  match fn with
  | .pf0 => { s with evc := { s.evc with issued0 := satInc 32 s.evc.issued0, total0 := wrapInc 64 s.evc.total0 } }
  | .pf1 => { s with evc := { s.evc with issued1 := satInc 32 s.evc.issued1, total1 := wrapInc 64 s.evc.total1 } }

/-- Firmware's part of a message to a core: one EventLog record for each claimed source, then ACTIVE is cleared without
sampling the level (R413). -/
def State.coreRecord (s : State) (l : List Nat) : State :=
  s.forEach l (fun s i =>
    let log := (s.evc.log ++ [(i, s.now)])
    let s := { s with evc := { s.evc with log := log.drop (log.length - 1024), logN := wrapInc 32 s.evc.logN } }
    s.modEv i (fun x => { x with active := false, coreClr := (s.evEff i).level && x.raw }))

/-- Which target a core serves: its own, and the other's when that core is retired (R413). -/
def State.coreServes (s : State) (core t : Nat) : Bool :=
  let c0 := s.sys.cores.1
  let c1 := s.sys.cores.2
  let me := if core = 0 then c0 else c1
  let other := if core = 0 then c1 else c0
  !me.retired && !me.inReset && (t == core || other.retired)

/-! ## Meanings -/

/-- EVENT_OCCURRENCE (R405): a source asserts: a pulse, or a rise of a condition source's level. A GPIO_EV pin that is a
Siphon output holds its source low (R403). -/
def execEventOccurrence (i : Fin 1536) (s : State) : Host.Outcome State Fault Refusal :=
  .next (if evReserved i || evSoftware i then s
    else if 944 ≤ i.val ∧ i.val < 960 ∧ bit (s.cfg 0x5801 1) (i - 944) then s.levelTo i false
    else if evCondition i then s.levelTo i true
    else s.raiseNum i)

/-- LEVEL_FALL (R406): a condition source's level falls. -/
def execLevelFall (i : Fin 1536) (s : State) : Host.Outcome State Fault Refusal :=
  .next (if evCondition i then s.levelTo i false else s)

/-- The sources of bitmap word `w` that a mask names. -/
def wordSources (w v : Nat) : List Nat := (bitsOf 32 v).map (fun i => 32 * w + i)

/-- Whether a function may write a source's bit: PF1 only its own (R408, R416). -/
def State.evMine (s : State) (fn : Fn) (i : Nat) : Bool := fn == .pf0 || s.evOwner i == .pf1

/-- Count a PF1 write that covers bits it may not write (R388). -/
def State.countForeign (s : State) (fn : Fn) (foreign : Bool) (off : Nat) : State :=
  if fn == .pf1 && foreign then s.privIgnore off else s

/-- PENDING_SET (R404): each source written 1 asserts once; either function may set a SOFTWARE source. A LEVEL source's
pending bit then follows its level again (R406). -/
def execPendingSet (fn : Fn) (w : Fin 48) (v : Nat) (s : State) : Host.Outcome State Fault Refusal :=
  if !s.hostUp fn then .next s else
  let l := wordSources w v
  let ok := l.filter (fun i => evSoftware i || s.evMine fn i)
  let s := s.countForeign fn (ok.length != l.length) (0x10_5100 + 4 * w)
  let s := s.forEach ok (fun s i => (s.occur i).modEv i (fun x => if (s.evEff i).level then x.follow else x))
  .next s.reorder

/-- PENDING_CLEAR (R404): pending bits written 1 clear; that of a LEVEL source whose level is high is set again on the next
clock (R406), so its target becomes presentable anew. -/
def execPendingClear (fn : Fn) (w : Fin 48) (v : Nat) (s : State) : Host.Outcome State Fault Refusal :=
  if !s.hostUp fn then .next s else
  let l := wordSources w v
  let ok := l.filter (fun i => s.evMine fn i)
  let s := s.countForeign fn (ok.length != l.length) (0x10_5200 + 4 * w)
  let s := (s.forEach ok (fun s i => s.modEv i (fun x => { x with pending := false }))).reorder
  let t := s.forEach ok (fun s i => s.modEv i (fun x => if (s.evEff i).level then x.follow else x))
  .next (t.wbWatchNew s ok).reorder

/-- EVENT_ENABLE_WRITE (R404): ENABLE written plain, or through its set or clear alias. -/
def execEventEnableWrite (fn : Fn) (w : Fin 48) (al : Alias) (v : Nat) (s : State) : Host.Outcome State Fault Refusal :=
  if !s.hostUp fn then .next s else
  let base := 0x10_4000 + 4 * w.val
  let off := match al with | .plain => base | .set => base + 0x100 | .clear => base + 0x200
  let l := wordSources w (match al with | .plain => 0xFFFF_FFFF | _ => v)
  let ok := l.filter (fun i => s.evMine fn i)
  let s := s.countForeign fn ((wordSources w v).any (fun i => !s.evMine fn i)) off
  let s := s.forEach ok (fun s i => s.modEv i (fun x =>
    { x with enabled := match al with | .plain => v.testBit (i % 32) | .set => true | .clear => false }))
  .next (s.fixParity base).reorder

/-- EOI (R406): ends a LEVEL claim and samples the level on the same clock. -/
def execEoi (fn : Fn) (w : Fin 48) (v : Nat) (s : State) : Host.Outcome State Fault Refusal :=
  if !s.hostUp fn then .next s else
  let l := wordSources w v
  let ok := l.filter (fun i => s.evMine fn i)
  let s := s.countForeign fn (ok.length != l.length) (0x10_6000 + 4 * w)
  let t := s.forEach ok (fun s i =>
    if (s.evEff i).level && (s.ev i).active then s.modEv i (fun x => { x with active := false, pending := x.raw })
    else s)
  .next (t.wbWatchNew s ok).reorder

/-- The number of vectors of a function (R383). -/
def vectorsOf (f : Fn) : Nat := match f with | .pf0 => 2048 | .pf1 => 128

/-- EVC_SOURCE_WRITE (R408): a write of a source's configuration register. -/
def execEvcSourceWrite (fn : Fn) (i : Fin 1536) (v : Nat) (s : State) : Host.Outcome State Fault Refusal :=
  if !s.hostUp fn then .next s else
  let off := 0x10_0000 + 8 * i.val
  if !(s.evMine fn i) then .next (s.privIgnore off)
  else
    let s := if fn == .pf1 then s.privIgnore off else s
    let want := fnOfCode (field v 1 1)
    let change := fn == .pf0 && decide (256 ≤ i.val) && want != s.evOwner i
    let e := if change then { EvSrc.reset with owner := want, raw := (s.ev i).raw } else s.ev i
    let owner := if change then want else s.evOwner i
    let kind := field v 3 2
    let e := { e with
      level := evCondition i && bit v 0
      target := if kind = 3 ∨ (kind ≠ 0 ∧ owner = Fn.pf1) then e.target else kind
      coalesce := bit v 4
      group := field v 10 5
      vector := if field v 26 16 < vectorsOf owner then field v 26 16 else e.vector }
    let e := { e with active := e.active && e.level }
    .next ((s.setEv i e.follow).fixParity off).reorder

/-- GROUP_RELEASE (R410): a group whose count or time threshold is reached releases. -/
def execGroupRelease (g : Fin 64) (s : State) : Host.Outcome State Fault Refusal :=
  let x := s.group g
  .next (if x.timerDone s.now || (x.holding && decide (x.count + 1 ≤ x.counted)) then (s.releaseGroup g).reorder else s)

/-- MESSAGE_ISSUE (R407, R412): the first message in the order of R412 whose conditions of R411 hold is issued, and its
sources are claimed at that moment. -/
def execMessageIssue (s : State) : Host.Outcome State Fault Refusal :=
  match (s.evc.order.map (fun p => p.2)).find? (fun t => s.deliverable t) with
  | some (.vector fn v) => .next (((s.claim (.vector fn v)).sendMessage fn v).reorder)
  | _ => .next s

/-- CORE_ACCEPT (R413): a management core accepts the messages that target it. -/
def execCoreAccept (core : Fin 2) (s : State) : Host.Outcome State Fault Refusal :=
  let ts := (s.evc.order.map (fun p => p.2)).filter (fun t => match t with | .core c => s.coreServes core c | .vector _ _ => false)
  .next (s.forEach ts (fun s t => (s.claim t).coreRecord (s.claimed t))).reorder

end Sys2Proof.Machine
end

