-- ==== Sys2Proof/Machine/Conditions.lean ====
section
/-!
DEFINITION. What the mode machinery and the spare policy derive from the state: galleries and engines in service,
conditions (R341 to R343), the current mode that follows from them (R340), the classes shed (R422, R430) and the
replacement recommendation (R431).
-/

namespace Sys2Proof.Machine

/-! ## Galleries and engines -/

/-- A gallery in service: not retired, not excluded, not out after a shared-part fault (R98, R127). -/
def Gal.inService (g : Gal) : Bool := !g.retired && !g.excluded && !g.faultOut

/-- Engine `e` is active: a main engine that is not retired, or the reserve in use (R125). -/
def Gal.engineActive (g : Gal) (e : Nat) : Bool :=
  if e < 16 then !g.retiredEng.testBit e else e == 16 && g.reserve && !g.retiredEng.testBit 16

/-- ACTIVEENG (R397). -/
def Gal.active (g : Gal) : Nat := ((List.range 17).filter (fun e => g.engineActive e)).length

/-- The galleries in service, in rising order. -/
def State.galsInService (s : State) : List Nat := (List.range 12).filter (fun g => (s.gallery g).inService)

/-- A gallery whose engines count in E_sum: a transient fault of a shared part leaves them counted (R127). -/
def Gal.counts (g : Gal) : Bool := !g.retired && !g.excluded
def State.galsCounted (s : State) : List Nat := (List.range 12).filter (fun g => (s.gallery g).counts)

/-- E_sum: active engines of the galleries in service (R81). -/
def State.engineSum (s : State) : Nat := (s.galsCounted.map (fun g => (s.gallery g).active)).sum

/-- E_min: active engines of the gallery in service that has fewest (R81). -/
def State.engineMin (s : State) : Nat := minOr 0 (s.galsCounted.map (fun g => (s.gallery g).active))

/-- A gallery of the mask of R425: in service and not removed by Lamp. -/
def State.inGalleryMask (s : State) (g : Nat) : Bool := (s.gallery g).inService && !(s.lamp.maskOut.contains g)

/-- GalleryMask (R425). -/
def State.galleryMask (s : State) : Nat := maskOf ((List.range 12).filter (fun g => s.inGalleryMask g))

/-! ## Shedding -/

/-- Bring GalleryMask up to date; GALLERY_MASK_CHANGED is raised when it changes (R425, R435). -/
def State.noteMask (s : State) : State :=
  let m := s.galleryMask
  if m = s.lamp.mask then s else State.raise { s with lamp := { s.lamp with mask := m } } .galleryMaskChanged

/-- Lamp sheds BULK work from stage 4 on and every DECOR layer in stage 5 (R422). -/
def State.lampSheds (s : State) (cls : Nat) : Bool :=
  match cls with
  | 4 => decide (4 ≤ s.lamp.stage)
  | 3 => s.lamp.stage == 5
  | _ => false

/-- The spare policy sheds a class: SpareShedClasses (R430, R434). -/
def State.spareSheds (s : State) (cls : Nat) : Bool :=
  match cls with
  | 4 => bit s.scn.spareShed 0
  | 3 => bit s.scn.spareShed 1
  | 2 => bit s.scn.spareShed 2
  | 1 => bit s.scn.spareShed 3
  | _ => false

/-- A class is shed while either set names it (R430). Class codes as R36: 0 SAFETY, 1 LIVE, 2 MIMIC, 3 DECOR; 4 stands
for BULK. -/
def State.sheds (s : State) (cls : Nat) : Bool := s.lampSheds cls || s.spareSheds cls

/-! ## Conditions and the current mode -/

/-- Free spare granules (R230, R232): those that replace nothing and are not themselves retired. -/
def State.spareFree (s : State) (k : Nat) : Bool :=
  (Tbl.find? s.health.remap k).isNone && !(s.mem.copying.any (fun c => c.spare == k)) &&
    !(s.health.retiredSeq.contains (granuleOf spareBase + k))

/-- SparesRemaining (R232). -/
def State.sparesLeft (s : State) : Nat :=
  2048 - s.health.remap.length - s.mem.copying.length -
    (s.health.retiredSeq.filter (fun g => decide (granuleOf spareBase ≤ g) &&
      (Tbl.find? s.health.remap (g - granuleOf spareBase)).isNone &&
      !(s.mem.copying.any (fun c => c.spare == g - granuleOf spareBase)))).length

/-- A halt condition of R342: both cores retired, or every gallery retired. -/
def State.bothCoresRetired (s : State) : Bool := s.sys.cores.1.retired && s.sys.cores.2.retired
def State.noGallery (s : State) : Bool := (List.range 12).all (fun g => (s.gallery g).retired)
def State.haltCondition (s : State) : Bool := s.bothCoresRetired || s.noGallery

/-- The degradation conditions of R341, bits [4:0]. -/
def State.degradation (s : State) : Nat :=
  let capacity := (List.range 12).any (fun g =>
    let x := s.gallery g
    x.retired || (x.counts && decide (x.active < 16)))
  let shed := s.sheds 3 || s.sheds 2 || s.sheds 1
  b2n capacity + 2 * b2n shed + 4 * b2n s.lant.echoRetired + 8 * b2n (s.sys.cores.1.retired || s.sys.cores.2.retired)
    + 16 * b2n (!s.health.unusable.isEmpty)

/-- Conditions (R354). -/
def State.deriveConditions (s : State) : Nat :=
  s.degradation + 256 * b2n s.sys.isolated + 4096 * b2n s.haltCondition

/-- HaltReason (R354): the first of MGMT, GALLERY and REQUEST that holds. -/
def State.haltReason (s : State) : Nat :=
  if s.bothCoresRetired then 2 else if s.noGallery then 3 else if s.sys.working = .halt then 1 else 0

/-- The current mode that follows from the working mode and the conditions (R340). -/
def State.deriveMode (s : State) : Mode :=
  if s.sys.working = .reset ∨ s.sys.working = .boot then s.sys.working
  else if s.haltCondition then .halt
  else if s.sys.working = .operate ∧ s.sys.isolated then .isolated
  else if s.sys.working = .operate ∧ s.degradation ≠ 0 then .degraded
  else s.sys.working

/-- Modes in which heads are ACTIVE (R174): a head composes its scene. -/
def Mode.composes (m : Mode) : Bool :=
  match m with
  | .operate | .degraded | .maintain | .calibrate | .update | .isolated | .safeDisplay => true
  | _ => false

/-! ## The replacement recommendation (R431) -/

/-- ReplacementReason, from what holds now. -/
def State.replacementReason (s : State) : Nat :=
  let blit := (List.range 4).any (fun u => (s.unit u).state == .retired)
  let reserves := ((List.range 12).filter (fun g => (s.gallery g).reserve)).length
  let c := s.deriveConditions
  let trip := s.health.tripHours.any (fun t => decide (s.health.powered ≤ t + 720 * 3600000))
  b2n (decide (s.sparesLeft < 128)) + 2 * b2n s.lamp.lifeAhead + 4 * b2n blit + 8 * b2n (decide (6 ≤ reserves))
    + 16 * b2n (bit c 0) + 32 * b2n s.lant.echoRetired + 64 * b2n (bit c 4) + 128 * b2n trip
    + 256 * b2n (s.scn.spareShed != 0) + 512 * b2n s.haltCondition

/-- The highest recommendation whose reason holds. -/
def recommendationOf (reason : Nat) : Nat :=
  if 256 ≤ reason then 3 else if 16 ≤ reason then 2 else if 0 < reason then 1 else 0

/-- Bring the recommendation up to date; REPLACEMENT_CHANGED is raised when it changes. -/
def State.noteReplacement (s : State) : State :=
  let r := s.replacementReason
  let v := recommendationOf r
  let old := s.lamp.recommend
  let s := { s with lamp := { s.lamp with reason := r, recommend := v } }
  if v = old then s else s.raise .replacementChanged

/-- Bring Conditions up to date (R340, R341). When no transition follows, CONDITIONS_CHANGED is raised (R355); a transition
that is due passes at its boundary (R347). -/
def State.noteConditions (s : State) : State :=
  let c := s.deriveConditions
  let old := s.sys.conditions
  let s := { s with sys := { s.sys with conditions := c } }
  let s := if c ≠ old ∧ s.deriveMode = s.sys.mode then s.raise .conditionsChanged else s
  s.noteReplacement

/-- Whether a mode takes part in the wall domain (R339). -/
def Mode.participates (m : Mode) : Bool :=
  match m with
  | .standby | .operate | .degraded | .safeDisplay | .maintain | .calibrate => true
  | _ => false

/-- Firmware is available: a management core is in service and not restarting (R23, R24). -/
def State.coreUp (s : State) (c : Nat) : Bool :=
  let me := if c = 0 then s.sys.cores.1 else s.sys.cores.2
  let other := if c = 0 then s.sys.cores.2 else s.sys.cores.1
  if me.retired then !other.retired && !other.inReset else !me.inReset

/-- A record of the health journal falls due within 1 s of a retirement, a remap or a trip (R433). -/
def State.healthDue (s : State) : State :=
  let t := s.now + 1000000000
  { s with health := { s.health with dueAt := some (match s.health.dueAt with | some d => Nat.min d t | none => t) } }

end Sys2Proof.Machine
end

