-- ==== Sys2Proof/Machine/FabricOps.lean ====
section
/-!
DEFINITION. The Ilelle fabric's shared operations: addresses and neighbours (R298, R308), routing (R309, R310), trees A and
B (R324), flits (R300) and sending them.
-/

namespace Sys2Proof.Machine

/-! ## Addresses -/

/-- DomainMembers, TorusX, TorusY, FabricX, FabricY in force (R337). -/
def State.domainMembers (s : State) : Nat := s.cfg 0x6000 6
def State.torusX (s : State) : Nat := s.cfg 0x6000 4
def State.torusY (s : State) : Nat := s.cfg 0x6000 5

/-- FabricAddress: FabricX + 64 × FabricY (R308). -/
def State.ownAddress (s : State) : Nat := s.cfg 0x6000 2 + 64 * s.cfg 0x6000 3

/-- Whether an address names a member: its own, or one of the latest present map; alone, only its own (R38). -/
def State.isMember (s : State) (a : Nat) : Bool :=
  a == s.ownAddress || (decide (1 < s.domainMembers) && s.fab.present.contains a)

/-- The neighbour of an address on a port (R298). -/
def neighbourOf (tx ty a p : Nat) : Nat :=
  let x := a % 64
  let y := a / 64
  match p with
  | 0 => (x + 1) % tx + 64 * y
  | 1 => (x + tx - 1) % tx + 64 * y
  | 2 => x + 64 * ((y + 1) % ty)
  | _ => x + 64 * ((y + ty - 1) % ty)

/-- The neighbour's port of a link (R298). -/
def portBack (p : Nat) : Nat := match p with | 0 => 1 | 1 => 0 | 2 => 3 | _ => 2


/-! ## Routing (R309, R310) -/

/-- The dimension-ordered next port from `a` towards `d`: X first, the shorter way round with + on a tie, then Y. -/
def dimPort (tx ty a d : Nat) : Option Nat :=
  let dx := (d % 64 + tx - a % 64) % tx
  let dy := (d / 64 + ty - a / 64) % ty
  if dx ≠ 0 then some (if 2 * dx ≤ tx then 0 else 1)
  else if dy ≠ 0 then some (if 2 * dy ≤ ty then 2 else 3)
  else none

/-- A link leaving `a` on port `p` is failed when either end is listed. -/
def linkFailed (failed : List (Nat × Nat)) (tx ty a p : Nat) : Bool :=
  failed.contains (a, p) || failed.contains (neighbourOf tx ty a p, portBack p)

/-- The dimension-ordered route avoids every failed link. -/
def dimClear (failed : List (Nat × Nat)) (tx ty a d : Nat) : Nat → Bool
  | 0 => false
  | fuel + 1 =>
    match dimPort tx ty a d with
    | none => true
    | some p => !linkFailed failed tx ty a p && dimClear failed tx ty (neighbourOf tx ty a p) d fuel

/-- A partial path of the search: where it ends, the port it last took, its turns and its first port. -/
structure Path where
  node  : Nat
  dir   : Nat
  turns : Nat
  first : Nat
  deriving DecidableEq, Repr

/-- Keep, for each end and direction, the path with fewest turns, the lowest first port among equals. -/
def Path.better (x y : Path) : Bool := decide (x.turns < y.turns) || (x.turns == y.turns && decide (x.first < y.first))
def Path.insert (l : List Path) (x : Path) : List Path :=
  match l with
  | [] => [x]
  | y :: r =>
    if y.node = x.node ∧ y.dir = x.dir then (if x.better y then x :: r else y :: r) else y :: Path.insert r x

/-- The best path of a list that ends at `d`. -/
def Path.bestTo (d : Nat) (l : List Path) : Option Path :=
  (l.filter (fun x => x.node == d)).foldl
    (fun best x => match best with | none => some x | some y => if x.better y then some x else some y) none

/-- The shortest surviving path with the fewest turns: the search grows all paths by one link a round (R310). -/
def searchPath (failed : List (Nat × Nat)) (tx ty d : Nat) (seen : List Nat) (front : List Path) : Nat → Option Nat
  | 0 => none
  | fuel + 1 =>
    match Path.bestTo d front with
    | some x => some x.first
    | none =>
      let grow := front.flatMap (fun x =>
        ([0, 1, 2, 3].filter (fun p => (if p < 2 then decide (1 < tx) else decide (1 < ty)) && !linkFailed failed tx ty x.node p)).map
          (fun p => { node := neighbourOf tx ty x.node p, dir := p, turns := x.turns + b2n (p != x.dir), first := x.first : Path }))
      let next := (grow.filter (fun x => !seen.contains x.node)).foldl (fun l x => Path.insert l x) []
      if next.isEmpty then none
      else searchPath failed tx ty d (seen ++ (next.map (fun x => x.node)).eraseDups) next fuel

/-- A port of a dimension of 1 stays unconnected (R298). -/
def wiredAt (tx ty p : Nat) : Bool := if p < 2 then decide (1 < tx) else decide (1 < ty)

/-- The output port of member `a` towards member `d` with the failed links known: dimension-ordered, and the search where a
failed link lies on that route (R310). -/
def routeAt (failed : List (Nat × Nat)) (tx ty a d : Nat) : Option Nat :=
  if d = a then none
  else if failed.isEmpty || dimClear failed tx ty a d 130 then dimPort tx ty a d
  else
    let front := ([0, 1, 2, 3].filter (fun p => wiredAt tx ty p && !linkFailed failed tx ty a p)).map
      (fun p => { node := neighbourOf tx ty a p, dir := p, turns := 0, first := p : Path })
    searchPath failed tx ty d (a :: front.map (fun x => x.node)) front 4096

/-- The output port towards a destination: none when it is this member or cannot be reached (LOCAL or DROP). -/
def State.routePort (s : State) (d : Nat) : Option Nat := routeAt s.fab.failed s.torusX s.torusY s.ownAddress d

/-- The hops from member `a` to member `d` on that route. -/
def hopsTo (failed : List (Nat × Nat)) (tx ty a d : Nat) : Nat → Nat
  | 0 => 0
  | fuel + 1 => match routeAt failed tx ty a d with
    | some p => 1 + hopsTo failed tx ty (neighbourOf tx ty a p) d fuel
    | none => 0

/-- A port that is connected. -/
def State.portWired (s : State) (p : Nat) : Bool := wiredAt s.torusX s.torusY p

/-- Whether a member of the torus can be reached over surviving links, on a link that is UP. -/
def State.reachable (s : State) (d : Nat) : Bool :=
  d == s.ownAddress || (match s.routePort d with | some p => (s.port p).state == .up | none => false)

/-! ## Trees (R309, R314, R324) -/

/-- Ports of this member in tree A of a coordinator: +X along its row, then +Y along every column (R324). -/
def State.treeA (s : State) (c : Nat) : Nat :=
  let x := s.ownAddress % 64
  let y := s.ownAddress / 64
  let tx := s.torusX
  let ty := s.torusY
  b2n (y == c / 64 && (x + 1) % tx != c % 64) + 4 * b2n ((y + 1) % ty != c / 64)

/-- Ports of this member in tree B: −Y along the coordinator's column, then −X along every row (R324). -/
def State.treeB (s : State) (c : Nat) : Nat :=
  let x := s.ownAddress % 64
  let y := s.ownAddress / 64
  let tx := s.torusX
  let ty := s.torusY
  8 * b2n (x == c % 64 && (y + ty - 1) % ty != c / 64) + 2 * b2n ((x + tx - 1) % tx != c % 64)

/-- The entry of a tree: bits [3:0] the ports, bit [4] LOCAL. -/
def State.treeEntry (s : State) (n : Nat) : Nat :=
  if n = 8192 then (match s.fab.coord with | some c => s.treeA c ||| 16 * b2n (c != s.ownAddress) | none => 0)
  else if n = 8193 then (match s.fab.coord with | some c => s.treeB c ||| 16 * b2n (c != s.ownAddress) | none => 0)
  else
    let home := (s.source? n).elim false (fun x => x.reg.home == s.ownAddress)
    if home then maskOf ((Tbl.get [] s.fab.subs n).filterMap (fun d => s.routePort d))
    else (if 2 < s.domainMembers then Config.transitTree n s.ownAddress % 16 else 0) ||| 16 * b2n (s.fab.subscribed.contains n)

/-! ## Flits (R300) -/

/-- Virtual channels. -/
def vcControl : Nat := 0
def vcStreamLow : Nat := 1
def vcStreamHigh : Nat := 2
def vcMaint : Nat := 3

/-- ROUTE words of the three modes. -/
def routeUnicast (d : Nat) : Nat := d % 4096
def routeTree (n : Nat) : Nat := 0x4000 + n
def routeNeighbour : Nat := 0x8000

/-- A flit before its link puts SEQ, ACK, LANECHK and CRC into it: bytes 0x00 to 0xF7 with those fields 0. -/
def flitBody (route sender type vc : Nat) (payload : List Byte) : List Byte :=
  leBytes 2 route ++ leBytes 2 sender ++ [byte type, byte vc] ++ leBytes 2 payload.length ++ leBytes 8 0
    ++ padTo 0#8 232 payload

/-- The bytes that logical lane `l` of `n` carries. -/
def laneBytes (l n : Nat) (b : List Byte) : List Byte :=
  ((b.zip (List.range b.length)).filter (fun p => p.2 % n == l)).map (fun p => p.1)

/-- LANECHK of R300 for `n` lanes in service; 0 for lanes out of service. -/
def laneChecks (n : Nat) (b : List Byte) : List Byte :=
  [0, 1, 2, 3].map (fun l => if l < n then crc8 (laneBytes l n b) else 0#8)

/-- The flit as a link sends it: SEQ and ACK rewritten, then LANECHK over 0x00 to 0xF7 and CRC over 0x00 to 0xFB. -/
def flitOnLink (lanes seq ack : Nat) (body : List Byte) : List Byte :=
  let b := body.take 8 ++ leBytes 2 seq ++ leBytes 2 ack ++ (body.drop 12).take 236
  let b := b ++ laneChecks lanes b
  b ++ leBytes 4 (crc32c b)

/-- Whether a port carries a flit of virtual channel `vc` now: an UP link carries every one, a link at generation 0 only
MAINT (R305, R323). -/
def Port.carries (p : Port) (vc : Nat) : Bool :=
  p.state == .up || ((p.state == .genZero || p.state == .training) && vc == vcMaint)

/-- Send a flit on a port: it enters the replay buffer of 256 flits, and waits while that is full (R301) or while the port
retrains on fewer lanes (R302); a link that is not up loses it (R310). -/
def State.sendFlit (s : State) (p : Nat) (body : List Byte) : State :=
  let x := s.port p
  if x.step = 7 then s.setPort p { x with waiting := x.waiting ++ [body] }
  else if !x.carries (getLE body 5 1) then s
  else if 256 ≤ x.replayBuf.length then s.setPort p { x with waiting := x.waiting ++ [body] }
  else s.setPort p { x with
    replayBuf := x.replayBuf ++ [flitOnLink x.inService.length x.txSeq x.rxSeq body]
    txSeq := wrapInc 16 x.txSeq
    flitsOut := wrapInc 64 x.flitsOut }

/-- Send a message to the neighbour on a port. -/
def State.sendNeighbour (s : State) (p type vc : Nat) (payload : List Byte) : State :=
  s.sendFlit p (flitBody routeNeighbour s.ownAddress type vc payload)

/-- Send a unicast CONTROL message towards a member; one that cannot be reached loses it. -/
def State.sendTo (s : State) (d type : Nat) (payload : List Byte) : State :=
  match s.routePort d with
  | some p => s.sendFlit p (flitBody (routeUnicast d) s.ownAddress type vcControl payload)
  | none => s

/-- The ports of a mask. -/
def portsOf (mask : Nat) : List Nat := bitsOf 4 mask

/-- The virtual channel of a stream flit on a port: it moves to STREAM_HIGH on the link that joins the last coordinate to 0
(R309). -/
def State.streamVc (s : State) (p vc : Nat) : Nat :=
  let x := s.ownAddress % 64
  let y := s.ownAddress / 64
  let wraps := (p == 0 && x + 1 == s.torusX) || (p == 1 && x == 0) || (p == 2 && y + 1 == s.torusY) || (p == 3 && y == 0)
  if vc == vcStreamLow && wraps then vcStreamHigh else vc

/-- A flit's body with its virtual channel replaced. -/
def withVc (body : List Byte) (vc : Nat) : List Byte := body.take 5 ++ [byte vc] ++ body.drop 6

/-- Send a message on a tree that starts at this member. -/
def State.sendTree (s : State) (n type vc : Nat) (payload : List Byte) : State :=
  let b := flitBody (routeTree n) s.ownAddress type vc payload
  s.forEach (portsOf (s.treeEntry n)) (fun s p => s.sendFlit p (withVc b (s.streamVc p vc)))

/-- Send a message on trees A and B (R323). -/
def State.sendTreesAB (s : State) (type : Nat) (payload : List Byte) : State :=
  (s.sendTree 8192 type vcControl payload).sendTree 8193 type vcControl payload

/-! ## Roles -/

/-- SYNCED for the rules of this chapter: TIMESTATE SYNCED or ROOT (R313). -/
def State.isSynced (s : State) : Bool := s.fab.timeState == 2 || s.fab.timeState == 3

/-- A participant (R321): in a participating mode and SYNCED. -/
def State.isParticipant (s : State) : Bool := s.sys.mode.participates && s.isSynced

/-- The domain is COHERENT (R319, R337). -/
def State.coherent (s : State) : Bool := s.cfg 0x6001 1 == 1

/-- SDF generation that decides R70: of the domain, or 2 alone (R381). -/
def State.sdfGen (s : State) : Nat := if 1 < s.domainMembers then s.fab.domSdf else 2
def State.ilelleGen (s : State) : Nat := if 1 < s.domainMembers then s.fab.domGen else 2
def State.lopGenDomain (s : State) : Nat := if 1 < s.domainMembers then s.fab.domLop else 2

/-- A source's home is this member (R36); an unregistered one has none. -/
def State.homedHere (s : State) (i : Nat) : Bool := (s.source? i).elim false (fun x => x.reg.home == s.ownAddress)

/-- The start of wall frame N on a grid (R156). -/
def gridTime (num den phase n : Nat) : Nat := phase + roundDivN (n * 1000000000 * den) num

/-- The wall frame whose start lies nearest a moment (R156), the earlier on a tie. -/
def gridNearest (num den phase t : Nat) : Nat :=
  let per := 1000000000 * den
  let n := (t - phase) * num / per
  let c := [n - 1, n, n + 1, n + 2]
  let dist (k : Nat) : Nat := let g := gridTime num den phase k; (t - g) + (g - t)
  (argMin dist c).getD n

/-- The start of domain frame N (R319). -/
def State.domainTime (s : State) (n : Nat) : Nat := gridTime (s.cfg 0x6001 5) (s.cfg 0x6001 6) (s.cfg 0x6001 7) n

end Sys2Proof.Machine
end

