-- ==== Sys2Proof/Machine/Operands.lean ====
section
/-!
DEFINITION. The operand forms of the block's commands that several families share: source formats and their planes
(R36, R37, R110), the registration record and the publication record (R36, R40).
-/

namespace Sys2Proof.Machine

/-! ## Source formats (R37) -/

/-- Format codes. -/
def fmtArgb : Nat := 0
def fmtXrgb : Nat := 1
def fmtArgb30 : Nat := 2
def fmtRgb565 : Nat := 3
def fmtRgba16f : Nat := 4
def fmtNv12 : Nat := 5
def fmtP010 : Nat := 6
def fmtIndex8 : Nat := 7
def fmtMask1 : Nat := 8

/-- A format with a chroma plane. -/
def isTwoPlane (f : Nat) : Bool := f == fmtNv12 || f == fmtP010

/-- Bits per pixel of the first plane. -/
def bitsPerPixel (f : Nat) : Nat :=
  match f with
  | 0 => 32 | 1 => 32 | 2 => 32 | 3 => 16 | 4 => 64 | 5 => 8 | 6 => 16 | 7 => 8 | _ => 1

/-- The line size of the first plane of `w` pixels. -/
def lineSize (f w : Nat) : Nat := ceilDiv (bitsPerPixel f * w) 8

/-- The line size of the chroma plane. -/
def chromaLineSize (f w : Nat) : Nat :=
  if f = fmtNv12 then 2 * ceilDiv w 2 else if f = fmtP010 then 4 * ceilDiv w 2 else 0

/-- Formats whose source carries no alpha (R79). -/
def opaqueFormat (f : Nat) : Bool := f == fmtXrgb || f == fmtRgb565 || isTwoPlane f

/-- One plane of a buffer: offset from the buffer's address, bytes of a line, lines. -/
structure Plane where
  offset : Nat
  bytes  : Nat
  lines  : Nat
  deriving DecidableEq, Repr

/-- The planes of a source's buffers (R37, R110). -/
def Reg.planes (r : Reg) : List Plane :=
  { offset := 0, bytes := lineSize r.format r.width, lines := r.height } ::
    (if isTwoPlane r.format then
      [{ offset := r.chroma, bytes := chromaLineSize r.format r.width, lines := ceilDiv r.height 2 }] else [])

/-- The line starts and sizes of a buffer at address `a`. -/
def Reg.lineRuns (r : Reg) (a : Nat) : List (Nat × Nat) :=
  r.planes.flatMap (fun p => (List.range p.lines).map (fun j => (a + p.offset + j * r.stride, p.bytes)))

/-- The bytes from the start of a buffer to the end of its last line. -/
def Reg.extent (r : Reg) : Nat :=
  r.planes.foldl (fun m p => Nat.max m (p.offset + (p.lines - 1) * r.stride + p.bytes)) 0

/-! ## The registration record (R36) -/

def Reg.mustChange (r : Reg) : Bool := bit r.flags 0
def Reg.stampDevice (r : Reg) : Bool := bit r.flags 1
def Reg.agingBorder (r : Reg) : Bool := bit r.flags 2
def Reg.straight (r : Reg) : Bool := bit r.flags 3

/-- The registration a record of 80 bytes holds; REPLACE is no part of it. -/
def Reg.ofBytes (b : List Byte) : Reg :=
  { format := getLE b 2 1, flags := getLE b 3 1 % 16, bufs := getLE b 4 1, cls := getLE b 5 1, frozenN := getLE b 6 1,
    width := getLE b 8 2, height := getLE b 10 2, stride := getLE b 12 4,
    addrs := [getLE b 0x10 8, getLE b 0x18 8, getLE b 0x20 8], chroma := getLE b 0x28 4, aux := getLE b 0x30 8,
    maskFg := getLE b 0x38 4, maskBg := getLE b 0x3C 4, deadline := getLE b 0x40 4, warning := getLE b 0x44 4,
    home := getLE b 0x48 2 % 4096 }

/-- The 80 bytes of a registration without REPLACE. -/
def Reg.toBytes (r : Reg) (id : Nat) : List Byte :=
  leBytes 2 id ++ [byte r.format, byte r.flags, byte r.bufs, byte r.cls, byte r.frozenN, 0#8] ++ leBytes 2 r.width
    ++ leBytes 2 r.height ++ leBytes 4 r.stride ++ (r.addrs.flatMap (fun a => leBytes 8 a)) ++ leBytes 4 r.chroma
    ++ leBytes 4 0 ++ leBytes 8 r.aux ++ leBytes 4 r.maskFg ++ leBytes 4 r.maskBg ++ leBytes 4 r.deadline
    ++ leBytes 4 r.warning ++ leBytes 2 r.home ++ leBytes 6 0

/-- SOURCE_ID and REPLACE of a record. -/
def recordId (b : List Byte) : Nat := getLE b 0 2 % 8192
def recordReplace (b : List Byte) : Bool := bit (getLE b 3 1) 4

/-- Reserved fields of a registration record (R36). -/
def regReservedOk (b : List Byte) : Bool :=
  getLE b 0 2 / 8192 == 0 && getLE b 3 1 / 32 == 0 && getLE b 7 1 == 0 && getLE b 0x2C 4 == 0
    && getLE b 0x48 2 / 4096 == 0 && getLE b 0x4A 6 == 0

/-- Rows 1 and 2 of R38: what the record itself decides. -/
def regRecordCheck (b : List Byte) : Option Status :=
  let r := Reg.ofBytes b
  let used (i : Nat) : Bool := decide (i < r.bufs)
  let addr (i : Nat) : Nat := r.addrs.getD i 0
  let idx := [0, 1, 2]
  if !regReservedOk b || decide (8 < r.format) || r.bufs == 0 || decide (3 < r.bufs) || decide (3 < r.cls)
      || decide (r.deadline ≤ r.warning) || r.deadline == 0 || (r.mustChange && r.frozenN == 0)
      || idx.any (fun i => !used i && addr i != 0)
      || (!isTwoPlane r.format && r.chroma != 0) || (r.format != fmtIndex8 && r.aux != 0)
      || (r.format != fmtMask1 && (r.maskFg != 0 || r.maskBg != 0))
      || r.stride % 64 != 0 || idx.any (fun i => used i && addr i % 256 != 0) || r.chroma % 256 != 0 || r.aux % 256 != 0
  then some .format
  else if r.width == 0 || decide (16384 < r.width) || r.height == 0 || decide (16384 < r.height)
      || decide (262144 < r.stride) || decide (r.stride < lineSize r.format r.width)
  then some .size
  else none

/-- Row 3 of R38: the footprint of every buffer in use, and the palette, under HEADS read rights. -/
def State.regBoundsOk (s : State) (r : Reg) : Bool :=
  ((r.addrs.take r.bufs).all (fun a => (r.lineRuns a).all (fun p => s.granted .heads false p.1 p.2)))
    && (r.format != fmtIndex8 || s.granted .heads false r.aux 1024)

/-- Two registrations that differ only in what REPLACE may change (R39). -/
def Reg.replaceable (old new : Reg) : Bool :=
  { old with deadline := new.deadline, warning := new.warning, cls := new.cls, frozenN := new.frozenN,
             flags := new.flags } == new
    && old.stampDevice == new.stampDevice && old.straight == new.straight

/-! ## The publication record (R40) -/

def pubId (b : List Byte) : Nat := getLE b 0 2 % 8192
def pubBuffer (b : List Byte) : Nat := getLE b 2 1 % 4
def pubStampValid (b : List Byte) : Bool := bit (getLE b 3 1) 0
def pubCrcValid (b : List Byte) : Bool := bit (getLE b 3 1) 1
def pubCrc (b : List Byte) : Nat := getLE b 4 4
def pubStamp (b : List Byte) : Nat := getLE b 8 8

/-- Reserved fields of a publication record are zero. -/
def pubReservedOk (b : List Byte) : Bool := getLE b 0 2 / 8192 == 0 && getLE b 2 1 / 4 == 0 && getLE b 3 1 / 4 == 0

/-- A publication record. -/
def pubBytes (id buf : Nat) (crc : Option Nat) (stamp : Nat) : List Byte :=
  leBytes 2 id ++ [byte buf, byte (1 + 2 * b2n crc.isSome)] ++ leBytes 4 (crc.getD 0) ++ leBytes 8 stamp

/-! ## What an entry carries -/

/-- Bytes of an entry from its unit `u` on. -/
def Exec.unitBytes (e : Exec) (u : Nat) : List Byte := e.body.drop (16 * u)

/-- All of a run of bytes is zero. -/
def allZero (l : List Byte) : Bool := l.all (fun b => b == 0#8)

end Sys2Proof.Machine
end

