-- ==== Sys2Proof/Machine/Rings.lean ====
section
/-!
DEFINITION. Queues (R233 to R253): what a ring accepts, execution and retirement, completion rings and the Sump, the
doorbell, enabling, stopping, halting and restarting.
-/

namespace Sys2Proof.Machine

/-! ## What a ring accepts -/

/-- CLASS in force or as written: 0 SCENE, 1 BLIT, 2 MGMT, 3 SIPHON (R253). -/
def ringScene : Nat := 0
def ringBlit : Nat := 1
def ringMgmt : Nat := 2
def ringSiphon : Nat := 3

/-- Entries executing at once (R233, R254). -/
def ringLimit (cls : Nat) : Nat := if cls = ringBlit then 16 else if cls = ringSiphon then 4 else 1

/-- The OPFLAGS bits an opcode defines (R235, R256). -/
def opFlagMask (cls op : Nat) : Nat :=
  if cls = ringSiphon then (if op = 0x10 ∨ op = 0x12 then 3 else if op = 0x14 then 1 else 0) else 0

/-- Whether a ring of class `cls` accepts opcode `op` with LENGTH `len`; `unit0` is the entry's first unit (R63, R236, R256,
R279). -/
def opAccepted (cls op len flags : Nat) (unit0 : List Byte) : Bool :=
  match op with
  | 0x00 => true
  | 0x01 => true
  | 0x10 => cls == ringSiphon &&
      (if flags.testBit 0 then len == 2 else len == 1 + getLE unit0 8 2 + getLE unit0 10 2)
  | 0x11 => cls == ringSiphon && len == 2
  | 0x12 => cls == ringSiphon && len == 1
  | 0x13 => cls == ringSiphon && len == 2
  | 0x14 => cls == ringSiphon && len == 1
  | 0x15 => cls == ringSiphon && len == 1
  | 0x16 => cls == ringSiphon && len == 1
  | 0x20 => cls == ringScene && len == 6
  | 0x21 => cls == ringScene && len == 1
  | 0x22 => cls == ringScene && len == 2
  | 0x23 => cls == ringScene && len == 2
  | 0x30 => cls == ringScene && len == 3
  | 0x31 => cls == ringScene && len == 3
  | 0x32 => cls == ringScene && len == 2
  | 0x40 => cls == ringMgmt && len == 2
  | 0x50 => cls == ringBlit && len == 3
  | 0x51 => cls == ringBlit && len == 3
  | 0x52 => cls == ringBlit && len == 4
  | 0x53 => cls == ringBlit && len == 3
  | _ => false

/-- Fields of the header word (R235). -/
def hdrLen (w : Nat) : Nat := field w 23 16
def hdrOwn (w : Nat) : Bool := bit w 31

/-- The header checks of R237 that need no bus: reserved bits, LENGTH, OPCODE, OPFLAGS and the ring's end. -/
def headerOk (cls pos size w : Nat) (unit0 : List Byte) : Bool :=
  decide (1 ≤ hdrLen w ∧ hdrLen w ≤ 64) && field w 28 24 == 0 &&
    opAccepted cls (field w 7 0) (hdrLen w) (field w 15 8) unit0 &&
    clearMask (field w 15 8) (opFlagMask cls (field w 7 0)) == 0 &&
    decide (pos + hdrLen w ≤ size)

/-- Units of the submission ring and records of the completion ring in force (R234). -/
def Ring.size (r : Ring) : Nat := 2 ^ r.force.sqLog2
def Ring.cqSize (r : Ring) : Nat := 2 ^ r.force.cqLog2

/-- Records outstanding in the completion ring (R246). -/
def cqUsed (n pi ci : Nat) (pw cw : Bool) : Nat := if pw == cw then pi - ci else n + pi - ci
def Ring.used (r : Ring) : Nat := cqUsed r.cqSize r.prodIdx r.consIdx r.prodWrap r.consWrap
def Ring.cqFull (r : Ring) : Bool := r.force.cls != ringSiphon && r.consIdx == r.prodIdx && r.prodWrap != r.consWrap

/-! ## Levels of the ring events -/

/-- A ring's bit of QUE_HALTMAP and of QUE_BLOCKMAP (R253). -/
def Ring.haltBit (r : Ring) : Bool := r.state == .halted || r.enFault
def Ring.blockBit (r : Ring) : Bool := r.state == .blocked || r.state == .held

/-- QUEUE_HALTED and COMPLETION_BACKPRESSURE follow the maps (R403). -/
def State.queueLevels (s : State) : State :=
  let s := s.level .queueHalted (s.que.rings.any (fun p => p.2.haltBit))
  s.level .completionBackpressure (s.que.rings.any (fun p => p.2.blockBit))

/-! ## State of a ring -/

/-- Halt a ring at a position with a code (R237, R249). -/
def State.haltRing (s : State) (q code pos : Nat) : State :=
  (s.modRing q (fun r => { r with state := .halted, haltCode := code, haltPos := pos, inline := [], reread := true })).queueLevels

/-- The records in the Sump, PAD places not counted (R248). -/
def Ring.sumpCount (r : Ring) : Nat := (r.sump.filter (fun x => !x.noRec)).length

/-- The state a ring that is not halted settles in (R248, R250): DISABLED or STOPPED once it has drained, BLOCKED while its
completion ring is full or its Sump holds a record, HELD while a finished entry keeps its record; otherwise RUNNING when
there is something to do or IDLE. -/
def Ring.settle (r : Ring) : Ring :=
  if r.state == .halted ∧ (r.enable || !r.sump.isEmpty || !r.inflight.isEmpty) then r
  else if !r.enable && r.inflight.isEmpty && r.sump.isEmpty then
    { r with state := .disabled, inline := [], dbPending := false, byField := false }
  else if decide (8 ≤ r.sumpCount) && r.inflight.any (fun e => match e.phase with | .finished _ _ => true | _ => false) then
    { r with state := .held }
  else if r.cqFull || !r.sump.isEmpty then { r with state := .blocked }
  else if r.stop && r.inflight.isEmpty then { r with state := .stopped }
  else if r.state == .idle && !r.dbPending then { r with state := .idle }
  else { r with state := .running }

/-- Bring a ring's state and the map events up to date. -/
def State.settleRing (s : State) (q : Nat) : State := (s.modRing q Ring.settle).queueLevels

/-! ## Entries in execution -/

/-- The oldest entry of a ring that has not finished. -/
def Ring.current? (r : Ring) : Option Exec :=
  r.inflight.find? (fun e => match e.phase with | .finished _ _ => false | _ => true)

/-- Replace the entry at a position. -/
def Ring.setExec (r : Ring) (pos : Nat) (f : Exec → Exec) : Ring :=
  { r with inflight := r.inflight.map (fun e => if e.pos = pos then f e else e) }

/-- Finish the entry at a position with its status and RESULT; it retires with ENTRY_RETIRE or DESCRIPTOR_RETIRE. -/
def State.finishAt (s : State) (q pos : Nat) (st : Status) (result : Nat) : State :=
  s.modRing q (fun r => r.setExec pos (fun e => { e with phase := .finished st result }))

/-- The function that owns a ring while it runs, and its rights class (R212). -/
def State.ringFn (s : State) (q : Nat) : Fn := (s.ring q).force.owner
def State.ringCls (s : State) (q : Nat) : Cls := fnCls (s.ringFn q)

/-- Finish the entry in execution on a ring of one entry at a time. -/
def State.finish (s : State) (q : Nat) (st : Status) (result : Nat) : State :=
  match (s.ring q).current? with
  | some e => s.finishAt q e.pos st result
  | none => s

/-! ## Retirement -/

/-- The record of a finished entry (R247). -/
def Exec.record (e : Exec) (st : Status) (result : Nat) : Record :=
  { pos := e.pos, len := e.len, tag := e.tag, status := st, result := result, notify := e.notify, hdrDone := false,
    hdr := getLE e.body 0 4, noRec := e.opcode == 0 }

/-- The 16 bytes of a completion record (R247). -/
def Record.bytes (x : Record) (phase sumped : Bool) : List Byte :=
  leBytes 4 x.tag ++ leBytes 2 x.pos ++ [byte x.status.code, byte (b2n phase + 2 * b2n sumped)] ++ leBytes 8 x.result

/-- The header write of R245: bytes 0 to 3 with OWN clear. It fails when its window check fails. -/
def State.writeHeader (s : State) (q : Nat) (x : Record) (busFails : Bool) : State × Option Status :=
  let r := s.ring q
  let a := r.force.sqBase + 16 * x.pos
  if !s.granted (fnCls r.force.owner) true a 4 then (s.countBounds, some .bounds)
  else if busFails then (s, some .busError)
  else (s.busWrite a (leBytes 4 (withBit x.hdr 31 false)), none)

/-- The record write of R245 to R247 at CQPROD, which then advances. -/
def State.writeRecord (s : State) (q : Nat) (x : Record) (sumped busFails : Bool) : State × Option Status :=
  let r := s.ring q
  let a := r.force.cqBase + 16 * r.prodIdx
  if x.noRec then (s, none)
  else if !s.granted (fnCls r.force.owner) true a 16 then (s.countBounds, some .bounds)
  else if busFails then (s, some .busError)
  else
    let s := s.busWrite a (x.bytes (!r.prodWrap) sumped)
    let last := r.prodIdx + 1 == r.cqSize
    (s.modRing q (fun r => { r with prodIdx := if last then 0 else r.prodIdx + 1,
                                    prodWrap := if last then !r.prodWrap else r.prodWrap }), none)

/-- Retire one entry: header, record, then events (R244, R245). On a failure its record stands at the head of the Sump and
the ring halts. COMMANDS counts 2D commands (R295). -/
def State.retireRecord (s : State) (q : Nat) (x : Record) (sumped : Bool) (wr : RetireWrites) : State × Bool :=
  let fail (s : State) (x : Record) (st : Status) : State × Bool :=
    ((s.modRing q (fun r => { r with sump := x :: r.sump })).haltRing q st.code x.pos, false)
  let (s, h) := if x.hdrDone then (s, none) else s.writeHeader q x (wr == .headerFails)
  match h with
  | some st => fail s x st
  | none =>
    let x := { x with hdrDone := true }
    let (s, w) := s.writeRecord q x sumped (wr == .recordFails)
    match w with
    | some st => fail s x st
    | none =>
      let s := s.modRing q (fun r => { r with retiredN := wrapInc 32 r.retiredN })
      let s := if (s.ring q).force.cls = ringBlit ∧ 0x50 ≤ field x.hdr 7 0 then
          { s with blit := { s.blit with commands := wrapInc 64 s.blit.commands } } else s
      (if x.notify || x.status != .ok then s.raiseNum q else s, true)

/-- Move finished entries into the Sump, oldest first, while it has room for 8 records (R248). -/
def Ring.fillSump (r : Ring) : Nat → Ring
  | 0 => r
  | fuel + 1 =>
    match r.inflight with
    | [] => r
    | e :: rest =>
      match e.phase with
      | .finished st res =>
        let x := e.record st res
        if x.noRec || decide (r.sumpCount < 8) then
          Ring.fillSump { r with inflight := rest, sump := r.sump ++ [x] } fuel
        else r
      | _ => r

/-- ENTRY_RETIRE (R245, R248): the oldest entry, once finished, retires, or its record enters the Sump when the completion
ring is full or earlier records wait. SIPHON rings retire through DESCRIPTOR_RETIRE. -/
def execEntryRetire (q : Fin 256) (wr : RetireWrites) (s : State) : Host.Outcome State Fault Refusal :=
  let r := s.ring q
  .next (if r.force.cls = ringSiphon then s
    else match r.inflight with
      | [] => s
      | e :: rest =>
        match e.phase with
        | .finished st res =>
          if !r.sump.isEmpty || (r.cqFull && e.opcode != 0) then (s.modRing q (fun r => r.fillSump 17)).settleRing q
          else
            let s := s.modRing q (fun r => { r with inflight := rest })
            (s.retireRecord q (e.record st res) false wr).1.settleRing q
        | _ => s)

/-- Retire the records of the Sump, oldest first, while the completion ring has space (R248). -/
def State.drainSump (s : State) (q : Nat) : Nat → State
  | 0 => s
  | fuel + 1 =>
    let r := s.ring q
    match r.sump with
    | [] => s
    | x :: rest =>
      if r.cqFull && !x.noRec then s
      else
        let (s, ok) := (s.modRing q (fun r => { r with sump := rest })).retireRecord q x true .ok
        if ok then s.drainSump q fuel else s

/-- SUMP_DRAIN (R248): freed space retires the Sump's records, then moves held records into the Sump in ring order, then the
ring begins entries again. A halted ring waits for RESTART (R249). -/
def execSumpDrain (q : Fin 256) (s : State) : Host.Outcome State Fault Refusal :=
  let r := s.ring q
  .next (if r.sump.isEmpty && !r.blockBit || r.state == .halted then s
    else
      let s := (s.drainSump q 64).modRing q (fun r => if r.sump.isEmpty then r else r.fillSump 17)
      s.settleRing q)

/-! ## Who writes a ring's page -/

/-- PF1 writes only the pages of the rings it owns (R385, R389). -/
def State.ringReach (s : State) (fn : Fn) (q : Nat) : Bool := fn == .pf0 || (s.ring q).cfg.owner == .pf1

/-- BAR0 offset of ring q's registers (R253). -/
def ringOffset (q : Nat) : Nat := 0x20_0000 + 0x1000 * q

/-! ## Enabling, stopping, restarting -/

/-- The checks of R234 at enable. -/
def State.enableCheck (s : State) (c : RingCfg) : Option Status :=
  let cq := c.cls != ringSiphon
  if c.sqBase % 4096 ≠ 0 ∨ c.sqLog2 < 6 ∨ 16 < c.sqLog2 then some .format
  else if cq && (c.cqBase % 4096 != 0 || decide (c.cqLog2 < 4) || decide (16 < c.cqLog2)) then some .format
  else
    let n := 16 * 2 ^ c.sqLog2
    let o := fnCls c.owner
    if !(s.granted o false c.sqBase n && s.granted o true c.sqBase n) then some .bounds
    else if cq && !s.granted o true c.cqBase (16 * 2 ^ c.cqLog2) then some .bounds
    else none

/-- The write of ENABLE from 0 to 1 on a ring that a function reaches. A ring still draining a disable resumes. -/
def State.enableRing (s : State) (q : Nat) : State :=
  let r := s.ring q
  let s := s.modRing q (fun r => { r with enFault := false })
  if r.enable then s.queueLevels
  else if r.state != .disabled then ((s.modRing q (fun r => { r with enable := true })).settleRing q)
  else
    match s.enableCheck r.cfg with
    | some st =>
      let s := if st = .bounds then s.countBounds else s
      (s.modRing q (fun r => { r with haltCode := st.code, enFault := true })).queueLevels
    | none =>
      (s.modRing q (fun r =>
        { r with enable := true, force := r.cfg, head := 0, prodIdx := 0, prodWrap := false, consIdx := 0,
                 consWrap := false, state := if r.stop then .stopped else .idle, byField := false, reread := false,
                 inline := [], dbPending := false, sump := [], inflight := [] })).queueLevels

/-- RING_DISABLE (R250): ENABLE written to 0. -/
def execRingDisable (fn : Fn) (q : Fin 256) (s : State) : Host.Outcome State Fault Refusal :=
  .next (if !s.hostUp fn then s else if !s.ringReach fn q then s.privIgnore (ringOffset q)
    else ((s.fixParity (ringOffset q)).modRing q (fun r => { r with enable := false, enFault := false })).settleRing q)

/-- RING_STOP (R250): STOP written to 1. -/
def execRingStop (fn : Fn) (q : Fin 256) (s : State) : Host.Outcome State Fault Refusal :=
  .next (if !s.hostUp fn then s else if !s.ringReach fn q then s.privIgnore (ringOffset q)
    else
      let s := (s.fixParity (ringOffset q)).modRing q (fun r => { r with stop := true })
      if (s.ring q).state == .disabled then s else s.settleRing q)

/-- RING_RESUME (R250): clearing STOP returns the ring to reading HEAD. -/
def execRingResume (fn : Fn) (q : Fin 256) (s : State) : Host.Outcome State Fault Refusal :=
  .next (if !s.hostUp fn then s else if !s.ringReach fn q then s.privIgnore (ringOffset q)
    else
      let was := (s.ring q).stop
      let s := (s.fixParity (ringOffset q)).modRing q (fun r => { r with stop := false })
      if was && (s.ring q).state != .disabled then
        (s.modRing q (fun r => { r with dbPending := true, reread := true, inline := [] })).settleRing q
      else s)

/-- Resume a HALTED ring (R249): retry what failed, then read HEAD from the ring. -/
def State.restartRing (s : State) (q : Nat) : State :=
  let s := s.modRing q (fun r => { r with state := .running, inline := [], dbPending := true, reread := true })
  let s := s.drainSump q 64
  let s := if (s.ring q).state == .halted then s else s.modRing q (fun r => if r.sump.isEmpty then r else r.fillSump 17)
  s.settleRing q

/-! ## The doorbell page -/

/-- The LENGTHs of inline units end exactly at their last, every entry with OWN set (R243). -/
def inlineWhole (l : List Byte) (units : Nat) : Nat → Bool
  | 0 => false
  | fuel + 1 =>
    if units = 0 then true
    else
      let w := getLE l 0 4
      let n := hdrLen w
      hdrOwn w && decide (1 ≤ n ∧ n ≤ units) && inlineWhole (l.drop (16 * n)) (units - n) fuel

/-- DOORBELL (R241 to R243). -/
def execDoorbell (fn : Fn) (q : Fin 256) (inl pos : Nat) (win : List Byte) (s : State) : Host.Outcome State Fault Refusal :=
  let r := s.ring q
  let ignored := r.cfg.owner != fn || r.state == .disabled
  let n := if 1 ≤ inl ∧ inl ≤ 4 then inl else 0
  let units := padTo 0#8 (16 * n) win
  let use := n != 0 && pos == r.head && (r.state == .idle || r.state == .running) && r.inline.isEmpty
    && inlineWhole units n 5
  .next (if !s.hostUp fn then s else if ignored then s.modRing q (fun r => { r with dbIgnored := satInc 16 r.dbIgnored })
    else s.modRing q (fun r =>
      { r with dbPending := true, inline := if use then units else r.inline,
               reread := if use then false else r.reread,
               state := if r.state == .idle then .running else r.state }))

/-- CQCONS_WRITE (R242, R246). -/
def execCqconsWrite (fn : Fn) (q : Fin 256) (index : Nat) (wr : Bool) (s : State) : Host.Outcome State Fault Refusal :=
  let r := s.ring q
  let i := index % 2 ^ 16
  let n := r.cqSize
  let left := cqUsed n r.prodIdx i r.prodWrap wr
  let bad := decide (n ≤ i) || (r.prodWrap == wr && decide (r.prodIdx < i)) || (r.prodWrap != wr && decide (i < r.prodIdx))
    || decide (r.used < left)
  .next (if !s.hostUp fn then s else if r.cfg.owner != fn || r.state == .disabled then s.modRing q (fun r => { r with dbIgnored := satInc 16 r.dbIgnored })
    else if bad then s.modRing q (fun r => { r with consBad := satInc 16 r.consBad })
    else s.modRing q (fun r => { r with consIdx := i, consWrap := wr }))

/-! ## The common opcodes -/

/-- The entry in execution on a ring when it carries one of the given opcodes and has not finished. -/
def State.running? (s : State) (q : Nat) (op : Nat) : Option Exec :=
  match (s.ring q).current? with
  | some e => if e.opcode = op then some e else none
  | none => none

/-- PAD (R236): no action and no completion record. -/
def execPad (q : Fin 256) (s : State) : Host.Outcome State Fault Refusal :=
  match s.running? q 0x00 with
  | some e => .next (s.finishAt q e.pos .ok 0)
  | none => .next s

/-- NOP (R236): completes OK with RESULT 0. -/
def execNop (q : Fin 256) (s : State) : Host.Outcome State Fault Refusal :=
  match s.running? q 0x01 with
  | some e => .next (s.finishAt q e.pos .ok 0)
  | none => .next s

end Sys2Proof.Machine
end

