-- ==== Sys2Proof/Machine/Sources.lean ====
section
/-!
DEFINITION. Sources and freshness (R36 to R60) and the SCENE rings' firmware service (R63, R92, R96): registration,
withdrawal, publication, admission, the freshness judgement and the egress of stream frames (R315, R316).
-/

namespace Sys2Proof.Machine

/-! ## The firmware's service of SCENE rings -/

/-- SCENE opcodes that firmware executes (R63). -/
def sceneFirmwareOp (op : Nat) : Bool := op == 0x20 || op == 0x21 || op == 0x23 || op == 0x30 || op == 0x31 || op == 0x32

/-- R96: the modes that execute each SCENE command; the rings do not run in RESET and BOOT. -/
def sceneAllowed (m : Mode) (op : Nat) : Bool :=
  match m with
  | .reset | .boot => false
  | .configure => op != 0x31
  | .update => op == 0x22 || op == 0x23 || op == 0x32
  | .halt => op == 0x23 || op == 0x32
  | _ => true

/-- The ring's next entry is a firmware command of the SCENE class that waits. -/
def Ring.firmwareWaits (r : Ring) : Bool :=
  r.force.cls == ringScene && (match r.current? with
    | some e => sceneFirmwareOp e.opcode && e.phase == .waiting
    | none => false)

/-- The ring that firmware serves next: ascending from the ring after the one served last, wrapping (R92). -/
def State.sceneTurn (s : State) : Option Nat :=
  let w := (s.que.rings.filter (fun p => p.2.firmwareWaits)).map (fun p => p.1)
  match w.find? (fun q => decide (s.que.served < q)) with
  | some q => some q
  | none => w.head?

/-- Serve a firmware command of a SCENE ring: `body` is its body check, `run` its effect once the mode allows it. Without a
core in service to serve it the command waits (R23); with both retired it completes RETIRED (R342). The order of a command's
checks is R96's: its body before the mode. -/
def State.serveScene (s : State) (q op : Nat) (body : Exec → Option Status) (run : State → Exec → State) : State :=
  match s.running? q op with
  | none => s
  | some e =>
    if e.phase != .waiting then s
    else if s.bothCoresRetired then s.finishAt q e.pos .retired 0
    else if s.sceneTurn != some q || !s.coreUp 0 then s
    else
      let s := { s with que := { s.que with served := q } }
      match body e with
      | some st => s.finishAt q e.pos st 0
      | none => if sceneAllowed s.sys.mode op then run s e else s.finishAt q e.pos .state 0

/-- Mark an entry as running, with what its command keeps. -/
def State.keepRunning (s : State) (q pos : Nat) (aux : List Nat) : State :=
  s.modRing q (fun r => r.setExec pos (fun e => { e with phase := .running, aux := aux }))

/-! ## Freshness states (R48) -/

/-- The states of R48, numbered by their order. -/
def frWithdrawn : Nat := 1
def frNever : Nat := 2
def frCancelled : Nat := 3
def frFrozen : Nat := 4
def frStale : Nat := 5
def frAging : Nat := 6
def frFresh : Nat := 7

/-- The judgement of R48 for a sampled buffer at time `g`. -/
def Source.judge (x : Source) (m : Option Sample) (g : Nat) : Nat :=
  if x.withdrawn then frWithdrawn
  else match x.cur, m with
    | some _, some m =>
      if (Tbl.get Buf.reset x.bufs m.buf).cancel then frCancelled
      else if m.frozen then frFrozen
      else if m.stamp + x.reg.deadline * 1000 < g then frStale
      else if x.reg.warning ≠ 0 ∧ m.stamp + x.reg.warning * 1000 < g then frAging
      else frFresh
    | _, _ => frNever

/-- The sample of a source's current buffer. -/
def Source.sample (x : Source) (id : Nat) : Option Sample :=
  if x.withdrawn then none
  else match x.cur with
    | some b => let y := Tbl.get Buf.reset x.bufs b; some { src := id, buf := b, stamp := y.stamp, frozen := y.frozen }
    | none => none

/-- The reported state of R53 at wall time `now`; a cancelled current buffer reports STALE (R52). -/
def Source.report (x : Source) (now : Nat) : SState :=
  match x.judge (x.sample 0) now with
  | 1 => .withdrawn
  | 2 => .never
  | 3 => .stale
  | 4 => .frozen
  | 5 => .stale
  | 6 => .aging
  | _ => .fresh

/-- Codes of R53. -/
def SState.code (x : SState) : Nat :=
  match x with
  | .never => 0 | .fresh => 1 | .aging => 2 | .stale => 3 | .withdrawn => 4 | .frozen => 5

/-- The event that a transition of the reported state raises (R53). -/
def reportEvent (old new : SState) : Option DevEvent :=
  if old = new then none
  else match new with
    | .aging => some .sourceAging
    | .stale => some .sourceStale
    | .frozen => some .sourceFrozen
    | .fresh => if old = .aging ∨ old = .stale ∨ old = .frozen then some .sourceFresh else none
    | _ => none

/-- Bring a source's reported state up to date and raise the event of its transition. -/
def State.updateReported (s : State) (id : Nat) : State :=
  match s.source? id with
  | none => s
  | some x =>
    let new := x.report s.now
    let s := s.setSource id { x with reported := new }
    match reportEvent x.reported new with
    | some e => s.freshEvent e id new.code 0
    | none => s

/-! ## Held buffers (R44, R53) -/

/-- The buffers of a source that a band's decision record names. -/
def Band.buffersOf (b : Band) (id : Nat) : List Nat :=
  b.decs.filterMap (fun d => match d.sample with
    | some m => if m.src = id then some m.buf else none
    | none => none)

/-- The buffers of a source that bands in composition hold: until the gallery has finished or abandoned the band and Echo has
finished its parts of it (R44, R191). -/
def State.bandHolds (s : State) (id : Nat) : List Nat :=
  s.heads.heads.flatMap (fun p => p.2.bands.flatMap (fun b => if b.finished || b.abandon then [] else b.buffersOf id))
    ++ s.lant.parts.flatMap (fun p => p.2.2.buffersOf id)

/-- The buffers of a source that are held: by the heads' frame-mode layers, by bands in composition, and by the egress of a
stream frame (R44, R316). -/
def State.holds (s : State) (id : Nat) : List Nat :=
  (s.heads.heads.flatMap (fun p => p.2.samples.filterMap (fun m => if m.2.src = id then some m.2.buf else none)))
    ++ s.bandHolds id
    ++ (match Tbl.find? s.fab.tx id with | some t => [t.buffer] | none => [])

/-- The source status record of R53. -/
def State.statusRecord (s : State) (id : Nat) (x : Source) : List Byte :=
  let b := Tbl.get Buf.reset x.bufs (x.cur.getD 0)
  let held := maskOf (s.holds id) % 8
  [byte x.reported.code, byte (x.cur.getD 0 + 8 * b2n (x.cur.isSome && b.cancel) + 16 * held), byte (Nat.min 255 x.repeats),
    0#8] ++ leBytes 4 x.rejects ++ leBytes 8 (if x.cur.isSome then b.stamp else 0) ++ leBytes 4 x.conflicts
    ++ leBytes 4 x.pubs

/-! ## Buffers in memory -/

/-- Where buffer `b` of a source lies on this member: its own buffer at home, a replica elsewhere (R314). -/
def State.bufferAddr (s : State) (x : Source) (b : Nat) : Nat :=
  if x.reg.home = s.ownAddress then x.reg.addrs.getD b 0 else x.replicas.getD b 0

/-- Buffers a publication may name: BUFFER_COUNT at home, three replicas elsewhere. -/
def State.bufferCount (s : State) (x : Source) : Nat := if x.reg.home = s.ownAddress then x.reg.bufs else 3

/-- A buffer touches an unusable granule (R231). -/
def State.bufferUnusable (s : State) (x : Source) (b : Nat) : Bool :=
  !s.health.unusable.isEmpty && ((x.reg.lineRuns (s.bufferAddr x b)).any (fun p =>
    s.health.unusable.any (fun g => decide (granuleOf p.1 ≤ g ∧ g ≤ granuleOf (p.1 + p.2 - 1)))))

/-- Cancel the publication of a buffer (R52). -/
def State.cancelBuffer (s : State) (id b : Nat) : State :=
  (s.modSource id (fun x => { x with bufs := Tbl.modify Buf.reset x.bufs b (fun y => { y with cancel := true }) })).updateReported id

/-- Count an uncorrectable read: MemUncorrectable, MemLastError and the event (R229). -/
def State.countUncorrectable (s : State) (a : Nat) : State :=
  State.raise { s with mem := { s.mem with uncorr := satInc 32 s.mem.uncorr, lastError := a } } .memUncorrectable

/-- A read and its one repeat both return an uncorrectable error, and each counts (R106, R192, R229, R291). -/
def State.countRepeated (s : State) (a : Nat) : State := (s.countUncorrectable a).countUncorrectable a

/-! ## Egress of stream frames (R315, R316) -/

/-- Message types of R323. -/
def msgIdent : Nat := 0x01
def msgLinkStatus : Nat := 0x02
def msgLop : Nat := 0x03
def msgTimeSync : Nat := 0x10
def msgHeartbeat : Nat := 0x11
def msgSummary : Nat := 0x12
def msgRouteUpdate : Nat := 0x13
def msgOffer : Nat := 0x20
def msgPrepare : Nat := 0x21
def msgAnswer : Nat := 0x22
def msgDecision : Nat := 0x23
def msgRegistry : Nat := 0x30
def msgSubscribe : Nat := 0x31
def msgUnsubscribe : Nat := 0x32
def msgStreamStart : Nat := 0x40
def msgStreamData : Nat := 0x41

/-- The bytes a stream frame reads of a buffer: every line of its planes, then the palette of INDEX8 (R315). -/
def Reg.contentRuns (r : Reg) (a : Nat) : List (Nat × Nat) :=
  r.lineRuns a ++ (if r.format = fmtIndex8 then [(r.aux, 1024)] else [])

/-- The STREAM_DATA flits of a content: 228 bytes each. -/
def State.sendData (s : State) (id seq : Nat) (content : List Byte) : Nat → State
  | 0 => s
  | fuel + 1 =>
    if content.isEmpty then s
    else (s.sendTree id msgStreamData vcStreamLow (leBytes 4 seq ++ padTo 0#8 228 content)).sendData id seq (content.drop 228) fuel

/-- Send a buffer of a source homed here as one stream frame. A buffer that cannot be read is not sent (R229), nor is one
outside the FABRIC class's read windows (R214). -/
def State.startFrame (s : State) (id b : Nat) (pub : List Byte) : State :=
  match s.source? id with
  | none => s
  | some x =>
    let runs := x.reg.contentRuns (x.reg.addrs.getD b 0)
    if (Tbl.get Buf.reset x.bufs b).cancel then s
    else if !(runs.all (fun p => s.granted .fabric false p.1 p.2)) then s.countBounds
    else match runs.findSome? (fun p => s.badRead p.1 p.2) with
    | some a => (s.countRepeated a).cancelBuffer id b
    | none =>
      let seq := Tbl.get 0 s.fab.txSeq id
      let content := runs.flatMap (fun p => s.devRead p.1 p.2)
      let s := { s with fab := { s.fab with txSeq := Tbl.set s.fab.txSeq id (wrapInc 32 seq),
                                            tx := Tbl.set s.fab.tx id { buffer := b, pub := pub, seq := seq, next := none } } }
      let s := s.sendTree id msgStreamStart vcStreamLow (pub ++ leBytes 4 content.length ++ leBytes 4 seq)
      s.sendData id seq content (content.length / 228 + 1)

/-- A publication of a source with subscribers goes out: at once, or as the newest that waits for the frame in transit. -/
def State.egress (s : State) (id b : Nat) (pub : List Byte) : State :=
  if (Tbl.get [] s.fab.subs id).isEmpty then s
  else match Tbl.find? s.fab.tx id with
    | some t => { s with fab := { s.fab with tx := Tbl.set s.fab.tx id { t with next := some (b, pub) } } }
    | none => s.startFrame id b pub

/-! ## Admission (R42) -/

/-- PUBLISH_REJECTED: the status goes to the freshness log and to REJECTS of a known identity. -/
def State.rejectPub (s : State) (id : Nat) (st : Status) : State :=
  (s.modSource id (fun x => { x with rejects := satInc 32 x.rejects })).freshEvent .publishRejected id 0x11 st.code

/-- Step 1 of R42. -/
def State.pubStep1 (s : State) (p : Pub) : Option Status :=
  if !pubReservedOk p.raw then some .format
  else match s.source? (pubId p.raw) with
    | none => some .state
    | some x =>
      let foreign := match p.path with | .siphon _ => x.reg.home != s.ownAddress | _ => false
      if x.withdrawn || foreign then some .state
      else if s.bufferCount x ≤ pubBuffer p.raw then some .format
      else none

/-- The stamp of step 2, and whether PUBLISH_FUTURE_STAMP is due. A stream frame keeps the home device's stamp (R41). -/
def pubStampAt (p : Pub) (stampDevice : Bool) (now : Nat) : Nat × Bool :=
  let t := pubStamp p.raw
  let own := !pubStampValid p.raw || (stampDevice && p.path != .stream)
  if own then (now, false)
  else if now < t then (now, decide (now + 1000 < t))
  else (t, false)

/-- The frozen repeat count after a publication with a valid CRC (R51). -/
def Source.countRepeat (x : Source) (crc : Nat) : Nat := if x.lastCrc = some crc then x.repeats + 1 else 0

/-- Steps 4 and 5: what the table keeps of an admitted publication. Remote sources at Ilelle generation 1 carry no CRC, so
no frozen detection runs for them (R51). -/
def Source.admitted (x : Source) (b stamp : Nat) (crc : Option Nat) : Source :=
  let detect := x.reg.mustChange && crc.isSome
  let reps := match crc with
    | some c => if x.reg.mustChange then x.countRepeat c else x.repeats
    | none => x.repeats
  let frozen := detect && decide (x.reg.frozenN ≤ reps)
  { x with cur := some b, repeats := reps, lastCrc := if crc.isSome then crc else x.lastCrc,
           bufs := Tbl.set x.bufs b { stamp := stamp, crc := crc, frozen := frozen, cancel := false },
           pubs := wrapInc 32 x.pubs }

/-- Finish the PUBLISH command that handed a publication over. -/
def State.answerPub (s : State) (p : Pub) (st : Status) : State :=
  match p.path with
  | .host q => match s.running? q 0x22 with
    | some e => if e.phase = .running then s.finishAt q e.pos st 0 else s
    | none => s
  | _ => s

/-- Admit one publication (R42), cancel it at once where it touches an unusable granule (R231), and send it to subscribers
(R316). -/
def State.admitPub (s : State) (p : Pub) : State :=
  let id := pubId p.raw
  match s.pubStep1 p with
  | some st => (s.rejectPub id st).answerPub p st
  | none =>
    match s.source? id with
    | none => s
    | some x =>
      let (stamp, future) := pubStampAt p x.reg.stampDevice s.now
      let s := if future then s.freshEvent .publishFutureStamp id 0x10 0 else s
      let stale := match x.cur with
        | some b => decide (stamp ≤ (Tbl.get Buf.reset x.bufs b).stamp)
        | none => false
      if stale then (s.rejectPub id .staleSource).answerPub p .staleSource
      else
        let b := pubBuffer p.raw
        let crc := if pubCrcValid p.raw then some (pubCrc p.raw) else none
        let conflict := x.cur != some b && (s.holds id).contains b
        let s := s.setSource id { x.admitted b stamp crc with
          conflicts := if conflict then satInc 32 x.conflicts else x.conflicts }
        let s := if conflict then s.freshEvent .sourceBufferConflict id 0x12 b else s
        let s := if s.bufferUnusable x b then s.cancelBuffer id b else s
        let s := s.updateReported id
        let s := if x.reg.home = s.ownAddress then s.egress id b (pubBytes id b crc stamp) else s
        s.answerPub p .ok

/-- ADMISSION (R42): the source table admits the publication that arrived first. -/
def execAdmission (s : State) : Host.Outcome State Fault Refusal :=
  match s.src.arrivals with
  | [] => .next s
  | p :: rest => .next ({ s with src := { s.src with arrivals := rest } }.admitPub p)

/-- SOURCE_STATE_CHECK (R53): the reported state of every source is judged against the present wall time. -/
def execSourceStateCheck (s : State) : Host.Outcome State Fault Refusal :=
  .next (s.forEach (s.src.table.map (fun p => p.1)) (fun s i => s.updateReported i))

/-! ## Registration (R36 to R39) -/

/-- Row 4 of R38. -/
def State.regStateOk (s : State) (b : List Byte) : Bool :=
  let r := Reg.ofBytes b
  (match s.source? (recordId b) with
    | some x => if x.withdrawn then !recordReplace b else recordReplace b && x.reg.replaceable r
    | none => !recordReplace b)
  && s.isMember r.home

/-- The rows of R38 in their order. The buffers of a source whose HOME is another member lie in that member's memory, so row 3
is judged there (DEDUCED, log entry 67). -/
def State.regCheck (s : State) (b : List Byte) : Option Status :=
  match regRecordCheck b with
  | some st => some st
  | none =>
    let r := Reg.ofBytes b
    let elsewhere := r.home != s.ownAddress && s.isMember r.home
    if !elsewhere && !s.regBoundsOk r then some .bounds
    else if !s.regStateOk b then some .state
    else none

/-- Enter an accepted registration: REPLACE changes what R39 names; otherwise the source is new, in state NEVER, and what
heads had sampled of an earlier one is released. -/
def State.install (s : State) (b : List Byte) : State :=
  let id := recordId b
  let r := Reg.ofBytes b
  match s.source? id, recordReplace b with
  | some x, true => (s.setSource id { x with reg := r }).updateReported id
  | _, _ =>
    let s := s.setSource id
      { reg := r, withdrawn := false, cur := none, bufs := [], lastCrc := none, repeats := 0, rejects := 0, conflicts := 0,
        pubs := 0, reported := .never, replicas := [] }
    { s with heads := { s.heads with heads := Tbl.mapVals s.heads.heads (fun _ h =>
      { h with samples := h.samples.filter (fun m => m.2.src != id) }) } }

/-- Send a registry message to every other member of the latest present map. -/
def State.distribute (s : State) (payload : List Byte) : State :=
  if s.domainMembers ≤ 1 then s
  else s.forEach (s.fab.present.filter (fun a => a != s.ownAddress)) (fun s a => s.sendTo a msgRegistry payload)

/-- REGISTER_SOURCE (R36 to R39). On the home device the registration is entered and distributed; elsewhere it goes to the
home device, and the command waits for that device's answer. -/
def execRegisterSource (q : Fin 256) (s : State) : Host.Outcome State Fault Refusal :=
  .next (s.serveScene q 0x20
    (fun e => if allZero ((e.body.drop 8).take 8) && regReservedOk (e.unitBytes 1) then none else some .format)
    (fun s e =>
      let b := (e.unitBytes 1).take 80
      match s.regCheck b with
      | some st => (if st = .bounds then s.countBounds else s).finishAt q e.pos st 0
      | none =>
        if (Reg.ofBytes b).home = s.ownAddress then ((s.install b).distribute b).finishAt q e.pos .ok 0
        else (s.sendTo (Reg.ofBytes b).home msgRegistry b).keepRunning q e.pos []))

/-! ## Withdrawal (R60) -/

/-- Flits of a source's stream that wait for a port go no further. -/
def isStreamFlit (id : Nat) (f : List Byte) : Bool :=
  getLE f 0 2 == routeTree id && (getLE f 4 1 == msgStreamStart || getLE f 4 1 == msgStreamData)

/-- Count a discarded stream frame (R317). -/
def State.discardFrame (s : State) : State :=
  { s with fab := { s.fab with streamDisc := satInc 32 s.fab.streamDisc } }.raise .streamDiscarded

/-- Execute a withdrawal on this member: the source is WITHDRAWN, its egress stops, an incomplete incoming frame is
discarded and its replicas are given up (R60, R314, R317). Commands that wait for it note its execution. -/
def State.withdrawHere (s : State) (id : Nat) : State :=
  let s := (s.modSource id (fun x => { x with withdrawn := true })).updateReported id
  let s := { s with
    fab := { s.fab with
      tx := Tbl.erase s.fab.tx id
      ports := Tbl.mapVals s.fab.ports (fun _ p => { p with waiting := p.waiting.filter (fun f => !isStreamFlit id f) })
      subscribed := s.fab.subscribed.filter (fun i => i != id) }
    que := { s.que with rings := Tbl.mapVals s.que.rings (fun _ r => { r with inflight := r.inflight.map (fun e =>
      if e.opcode = 0x21 ∧ e.phase = .running ∧ getLE e.body 8 2 = id then { e with aux := [1] } else e) }) } }
  match Tbl.find? s.fab.rx id with
  | some _ => { s with fab := { s.fab with rx := Tbl.erase s.fab.rx id } }.discardFrame
  | none => s

/-- The message that a member sends for a withdrawal: SOURCE_ID alone (DESIGN CHOICE, log entry 10). -/
def withdrawMessage (id : Nat) : List Byte := leBytes 2 id

/-- WITHDRAW_SOURCE (R60). Firmware's part ends at execution; WITHDRAWAL_COMPLETE ends the command. -/
def execWithdrawSource (q : Fin 256) (s : State) : Host.Outcome State Fault Refusal :=
  .next (s.serveScene q 0x21
    (fun e => if allZero ((e.body.drop 10).take 6) && getLE e.body 8 2 / 8192 == 0 then none else some .format)
    (fun s e =>
      let id := getLE e.body 8 2
      match s.source? id with
      | none => s.finishAt q e.pos .state 0
      | some x =>
        if x.withdrawn then s.finishAt q e.pos .state 0
        else if x.reg.home = s.ownAddress then
          ((s.keepRunning q e.pos []).withdrawHere id).distribute (withdrawMessage id)
        else (s.keepRunning q e.pos []).sendTo x.reg.home msgRegistry (withdrawMessage id)))

/-- WITHDRAWAL_COMPLETE (R60): once executed, the command completes when no band in composition on any local head holds one
of the source's buffers and no read for a stream frame of it is outstanding. -/
def execWithdrawalComplete (q : Fin 256) (s : State) : Host.Outcome State Fault Refusal :=
  .next (match s.running? q 0x21 with
    | some e =>
      let id := getLE e.body 8 2
      if e.phase = .running ∧ e.aux = [1] ∧ (s.bandHolds id).isEmpty ∧ (Tbl.find? s.fab.tx id).isNone
      then s.finishAt q e.pos .ok 0 else s
    | none => s)

/-! ## PUBLISH and QUERY_SOURCE -/

/-- The refusals of a host PUBLISH before admission (R41, R42, R96): its body, the mode, the home device and CRC_VALID. -/
def State.publishRefusal (s : State) (e : Exec) : Option Status :=
  let b := (e.unitBytes 1).take 16
  if !(allZero ((e.body.drop 8).take 8)) || !pubReservedOk b then some .format
  else if !sceneAllowed s.sys.mode 0x22 then some .state
  else match s.source? (pubId b) with
    | none => none
    | some x =>
      if x.reg.home ≠ s.ownAddress then some .state
      else if !x.withdrawn && x.reg.mustChange && !pubCrcValid b then some .format
      else none

/-- PUBLISH (R41): the queue engine hands the publication to the source table; ADMISSION completes the command. -/
def execPublish (q : Fin 256) (s : State) : Host.Outcome State Fault Refusal :=
  .next (match s.running? q 0x22 with
    | none => s
    | some e =>
      if e.phase ≠ .waiting then s
      else match s.publishRefusal e with
        | some st => s.finishAt q e.pos st 0
        | none =>
          let p : Pub := { raw := (e.unitBytes 1).take 16, path := .host q, at_ := s.now }
          { s.keepRunning q e.pos [] with src := { s.src with arrivals := s.src.arrivals ++ [p] } })

/-- The body of QUERY_SOURCE and QUERY_SCENE: reserved bytes of units 0 and 1. -/
def queryBodyOk (e : Exec) : Bool := allZero ((e.body.drop 10).take 6) && allZero ((e.body.drop 24).take 8)

/-- QUERY_SOURCE (R53, R63). -/
def execQuerySource (q : Fin 256) (s : State) : Host.Outcome State Fault Refusal :=
  .next (s.serveScene q 0x23
    (fun e => if queryBodyOk e && getLE e.body 8 2 / 8192 == 0 then none else some .format)
    (fun s e =>
      let a := getLE e.body 16 8
      if !s.granted (s.ringCls q) true a 24 then s.countBounds.finishAt q e.pos .bounds 0
      else match s.source? (getLE e.body 8 2) with
        | none => s.finishAt q e.pos .state 0
        | some x => (s.busWrite a (s.statusRecord (getLE e.body 8 2) x)).finishAt q e.pos .ok 0))

end Sys2Proof.Machine
end

