-- ==== Sys2Proof/Machine/Descriptor.lean ====
section
/-!
DEFINITION. The scene descriptor (R67 to R77) and rows 3 and 4 of R78: its header, its records in descriptor order, its
counts, limits and references. A failure carries its status and the RECORD_OFFSET of R85.
-/

namespace Sys2Proof.Machine

/-- No record is to blame (R85). -/
def noOffset : Nat := 0xFFFFFFFF

/-- STEP 1.0 and the greatest STEP (R72). -/
def unitStep : Nat := 0x10000
def maxStep : Nat := 0x80000
/-- No coefficient set, COLOUR or TONE_CURVE record (R71). -/
def noSet : Nat := 0xFF

/-- A working value of R58: red in [47:32], green in [31:16], blue in [15:0]. -/
def working (v : Nat) : Px := { r := field v 47 32, g := field v 31 16, b := field v 15 0 }

/-- Record lengths in units by TYPE (R69). -/
def recordLengthOk (typ units : Nat) : Bool :=
  match typ with
  | 1 => units == 2
  | 2 => units == 6
  | 3 => units == 2
  | 4 => units == 3 || units == 131
  | 5 => units == 513
  | _ => false

/-- The STEP rules of R72, in their order. -/
def stepCheck (step set : Nat) : Option Status :=
  if step = 0 then some .format
  else if maxStep < step then some .size
  else if step ≠ unitStep ∧ set = noSet then some .format
  else none

/-- Bytes from `lo` up to `hi` are zero. -/
def zeroIn (r : List Byte) (lo hi : Nat) : Bool := allZero ((r.drop lo).take (hi - lo))

/-- A rectangle of four signed 32-bit coordinates. -/
def getRect (r : List Byte) (o : Nat) : Rect :=
  { x0 := getSLE r o 4, y0 := getSLE r (o + 4) 4, x1 := getSLE r (o + 8) 4, y1 := getSLE r (o + 12) 4 }

/-- The HEAD record of R74. -/
def parseHead (sc : Scene) (r : List Byte) (off : Nat) : Except Status Scene :=
  let h := getLE r 4 1
  let bg := getLE r 0x10 8
  if 16 ≤ h ∨ !zeroIn r 6 0x10 ∨ 2 ^ 48 ≤ bg ∨ !zeroIn r 0x18 0x20 ∨ 1 < getLE r 5 1 then .error .format
  else if !sc.mask.testBit h || sc.heads.any (fun x => x.head == h) then .error .format
  else .ok { sc with heads := sc.heads ++
    [{ head := h, linear := getLE r 5 1 == 1, background := working bg, offset := off }] }

/-- The fields of a LAYER record (R71). -/
def layerOf (r : List Byte) (off : Nat) : Layer :=
  { id := getLE r 4 2, head := getLE r 6 1, cls := getLE r 7 1, z := getLE r 8 2, src := getLE r 10 2,
    blend := getLE r 12 1, band := bit (getLE r 13 1) 0, opaq := bit (getLE r 13 1) 1, zero := bit (getLE r 13 1) 2,
    alpha := getLE r 14 2, dst := getRect r 0x10, mark := getRect r 0x20, cropX := getLE r 0x30 2, cropY := getLE r 0x32 2,
    cropW := getLE r 0x34 2, cropH := getLE r 0x36 2, stepH := getLE r 0x38 4, stepV := getLE r 0x3C 4,
    initH := getSLE r 0x40 4, initV := getSLE r 0x44 4, coefH := getLE r 0x48 1, coefV := getLE r 0x49 1,
    colour := getLE r 0x4A 1, tone := getLE r 0x4B 1, key := working (getLE r 0x50 8), offset := off }

/-- Reserved fields of a LAYER record. -/
def layerReservedOk (r : List Byte) : Bool :=
  getLE r 4 2 / 4096 == 0 && getLE r 6 1 / 16 == 0 && getLE r 10 2 / 8192 == 0 && getLE r 13 1 / 8 == 0
    && zeroIn r 0x4C 0x50 && zeroIn r 0x58 0x60 && decide (getLE r 0x50 8 < 2 ^ 48)

/-- Field values of a LAYER record that fail with FORMAT whatever the STEPs are (R70, R71, R77). -/
def layerValuesOk (sc : Scene) (l : Layer) (key : Nat) : Bool :=
  !(sc.layers.any (fun x => x.id == l.id)) && sc.mask.testBit l.head && decide (l.cls ≤ 3) && decide (l.blend ≤ 4)
    && decide (l.dst.x0 < l.dst.x1 ∧ l.dst.y0 < l.dst.y1 ∧ l.mark.x0 < l.mark.x1 ∧ l.mark.y0 < l.mark.y1)
    && l.cropW != 0 && l.cropH != 0
    && (decide (l.coefH ≤ 15) || l.coefH == noSet) && (decide (l.coefV ≤ 15) || l.coefV == noSet)
    && (l.tone == noSet || (sc.generation != 1 && decide (l.tone ≤ 63)))
    && (l.blend == 4 || key == 0)

/-- A KEY layer is never scaled (R116). -/
def keyLayerOk (l : Layer) : Bool :=
  l.blend != 4 || (l.coefH == noSet && l.coefV == noSet && l.stepH == unitStep && l.stepV == unitStep && l.initH == 0
    && l.initV == 0)

/-- The LAYER record. -/
def parseLayer (sc : Scene) (r : List Byte) (off : Nat) : Except Status Scene :=
  let l := layerOf r off
  if !layerReservedOk r || !layerValuesOk sc l (getLE r 0x50 8) then .error .format
  else match stepCheck l.stepH l.coefH with
    | some st => .error st
    | none => match stepCheck l.stepV l.coefV with
      | some st => .error st
      | none => if keyLayerOk l then .ok { sc with layers := sc.layers ++ [l] } else .error .format

/-- The REGION record of R73, within the active area `dims` of its head. -/
def parseRegion (dims : Nat → Nat × Nat) (sc : Scene) (r : List Byte) (off : Nat) : Except Status Scene :=
  let x : Region :=
    { id := getLE r 4 1, head := getLE r 5 1, expect := getLE r 6 1, policy := getLE r 7 1, x0 := getLE r 8 2,
      y0 := getLE r 10 2, x1 := getLE r 12 2, y1 := getLE r 14 2, expected := getLE r 0x10 4,
      onSame := bit (getLE r 0x14 1) 0, offset := off }
  let (ha, va) := dims x.head
  if 64 ≤ x.id ∨ 16 ≤ x.head ∨ 2 ≤ getLE r 0x14 1 ∨ !zeroIn r 0x15 0x20 then .error .format
  else if !sc.mask.testBit x.head || decide (3 < x.expect) || decide (3 < x.policy) || (x.expect != 1 && x.expected != 0)
      || !decide (x.x0 < x.x1 ∧ x.x1 ≤ ha ∧ x.y0 < x.y1 ∧ x.y1 ≤ va)
      || sc.regions.any (fun y => y.head == x.head && y.id == x.id) then .error .format
  else .ok { sc with regions := sc.regions ++ [x] }

/-- The 16-bit entries of a table at offset `o`. -/
def getTable (r : List Byte) (o n : Nat) : List Nat :=
  let rec go (l : List Byte) : Nat → List Nat
    | 0 => []
    | k + 1 => getLE l 0 2 :: go (l.drop 2) k
  go (r.drop o) n

/-- The COLOUR record of R75. -/
def parseColour (sc : Scene) (r : List Byte) (units : Nat) : Except Status Scene :=
  let fl := getLE r 6 1
  let id := getLE r 4 1
  if 16 ≤ fl ∨ getLE r 7 1 ≠ 0 ∨ !zeroIn r 0x1A 0x30 ∨ (sc.generation = 1 ∧ field fl 3 2 ≠ 0) then .error .format
  else if 4 < getLE r 5 1 ∨ field fl 3 2 = 3 ∨ (bit fl 0 != (units == 131)) || sc.colours.any (fun c => c.id == id) then
    .error .format
  else .ok { sc with colours := sc.colours ++
    [{ id := id, transfer := getLE r 5 1, ycc := field fl 3 2,
       matrix := if bit fl 1 then some ((List.range 9).map (fun i => getSLE r (8 + 2 * i) 2)) else none,
       lut := if bit fl 0 then some (getTable r 0x30 1024) else none }] }

/-- The TONE_CURVE record of R76; generation 1 has none (R70). -/
def parseTone (sc : Scene) (r : List Byte) : Except Status Scene :=
  let id := getLE r 4 1
  if sc.generation = 1 ∨ !zeroIn r 5 0x10 ∨ 63 < id ∨ sc.tones.any (fun t => t.id == id) then .error .format
  else .ok { sc with tones := sc.tones ++ [{ id := id, lut := getTable r 0x10 4096 }] }

/-- One record: its header, then its body. -/
def parseRecord (dims : Nat → Nat × Nat) (sc : Scene) (rest : List Byte) (off left : Nat) : Except Status (Scene × Nat) :=
  let typ := getLE rest 0 1
  let units := getLE rest 2 2
  if getLE rest 1 1 ≠ 0 ∨ !recordLengthOk typ units ∨ left < 16 * units then .error .format
  else
    let r := rest.take (16 * units)
    let res := match typ with
      | 1 => parseHead sc r off
      | 2 => parseLayer sc r off
      | 3 => parseRegion dims sc r off
      | 4 => parseColour sc r units
      | _ => parseTone sc r
    res.map (fun x => (x, 16 * units))

/-- The records one by one: the scene and their number, or the first failure with its offset. -/
def parseRecords (dims : Nat → Nat × Nat) (sc : Scene) (rest : List Byte) (off left n : Nat) :
    Nat → Except (Status × Nat) (Scene × Nat)
  | 0 => .ok (sc, n)
  | fuel + 1 =>
    if left = 0 then .ok (sc, n)
    else match parseRecord dims sc rest off left with
      | .error st => .error (st, off)
      | .ok (sc, k) => parseRecords dims sc (rest.drop k) (off + k) (left - k) (n + 1) fuel

/-- The first layer whose COLOUR_ID or TONE_ID names no record of the descriptor. -/
def unresolved (sc : Scene) : Option Nat :=
  (sc.layers.find? (fun l => (l.colour != noSet && !(sc.colours.any (fun c => c.id == l.colour)))
    || (l.tone != noSet && !(sc.tones.any (fun t => t.id == l.tone))))).map (fun l => l.offset)

/-- A count over its limit (R77). -/
def overLimits (sc : Scene) : Bool :=
  decide (4096 < sc.layers.length) || decide (256 < sc.colours.length) || decide (64 < sc.tones.length)
    || (List.range 16).any (fun h =>
      let rs := sc.regions.filter (fun r => r.head == h)
      decide (64 < rs.length) || decide (16 < (rs.filter (fun r => r.expect == 2)).length))

/-- Row 3 of R78: GENERATION under R70. -/
def generationOk (gen top : Nat) : Bool := decide (1 ≤ gen ∧ gen ≤ top)

/-- Rows 3 and 4 of R78 over the descriptor's bytes, `top` being the generation accepted. -/
def parseDescriptor (dims : Nat → Nat × Nat) (top : Nat) (d : List Byte) : Except (Status × Nat) Scene :=
  let len := getLE d 8 4
  let zeroed := d.take 0x14 ++ [0#8, 0#8, 0#8, 0#8] ++ d.drop 0x18
  if !generationOk (getLE d 0 1) top then .error (.version, 0)
  else if d.length ≠ len then .error (.format, 0)
  else if crc32c zeroed ≠ getLE d 0x14 4 then .error (.format, 0)
  else if getLE d 1 1 ≠ 0 ∨ !zeroIn d 0x18 0x20 ∨ getLE d 2 2 = 0 ∨ getLE d 4 4 = 0 then .error (.format, 0)
  else
    let sc : Scene :=
      { generation := getLE d 0 1, mask := getLE d 2 2, epoch := getLE d 4 4, layers := [], regions := [], heads := [],
        colours := [], tones := [] }
    match parseRecords dims sc (d.drop 32) 32 (len - 32) 0 (len / 16 + 1) with
    | .error e => .error e
    | .ok (sc, n) =>
      if getLE d 12 2 ≠ sc.layers.length ∨ getLE d 14 2 ≠ sc.regions.length ∨ getLE d 16 4 ≠ n then .error (.format, 0)
      else if overLimits sc then .error (.size, 0)
      else match unresolved sc with
        | some o => .error (.format, o)
        | none => .ok sc

end Sys2Proof.Machine
end

