-- ==== Sys2Proof/Machine/Feasibility.lean ====
section
/-!
DEFINITION. Visibility (R72, R79, R80, R100) and the feasibility model (R81 to R88): clipped layers, contributing layers of
each tile, the charged lines, bursts, groups, cycles and bytes, and the eight checks with their detail record.
-/

namespace Sys2Proof.Machine

/-! ## Exact fractions -/

/-- A non-negative fraction: numerator and positive denominator. -/
structure Frac where
  num : Nat
  den : Nat
  deriving DecidableEq, Repr

def Frac.zero : Frac := { num := 0, den := 1 }
def Frac.add (a b : Frac) : Frac :=
  if a.den = b.den then { num := a.num + b.num, den := a.den } else { num := a.num * b.den + b.num * a.den, den := a.den * b.den }
def Frac.le (a b : Frac) : Bool := ratLe a.num a.den b.num b.den
def Frac.ceil (a : Frac) : Nat := ceilDiv a.num a.den
def Frac.floor (a : Frac) : Nat := a.num / a.den
def Frac.scale (a : Frac) (n d : Nat) : Frac := { num := a.num * n, den := a.den * d }

/-! ## A head's active area -/

/-- The active area of a head and its hatch origin (R56, R59, R153). -/
structure Area where
  ox : Nat
  oy : Nat
  ha : Nat
  va : Nat
  deriving DecidableEq, Repr

/-- Tiles of a band and bands of a frame (R100). -/
def Area.tiles (a : Area) : Nat := ceilDiv a.ha 128
def Area.bands (a : Area) : Nat := ceilDiv a.va 8

/-- The area from an origin entry. -/
def areaOf (origin ha va : Nat) : Area := { ox := field origin 15 0, oy := field origin 31 16, ha := ha, va := va }

/-- The head whose timing entries a head takes: the odd head of a bonded pair takes its partner's (R172). -/
def State.timeHead (s : State) (h : Nat) : Nat :=
  if h % 2 = 1 ∧ s.hcfgBool (h - 1) 3 5 ∧ s.hcfgBool (h - 1) 0 14 then h - 1 else h

/-- A timing entry of R153 as head `h` takes it. -/
def State.tcfg (s : State) (h sub : Nat) : Nat := s.hcfg (s.timeHead h) 0 sub

/-- HACTIVE and VACTIVE in force. -/
def State.dims (s : State) (h : Nat) : Nat × Nat := (s.tcfg h 1, s.tcfg h 6)

/-- The area a head is judged with: its written origin when the scene names it, else the one in force (R59). -/
def State.areaFor (s : State) (h : Nat) (named : Bool) : Area :=
  areaOf (if named then s.written 0x3110 (h + 1) else s.cfg 0x3110 (h + 1)) (s.dims h).1 (s.dims h).2

/-- A destination rectangle clipped to the area, in active coordinates (R72). -/
def clipTo (a : Area) (r : Rect) : Option Rect :=
  let mn (x y : Int) : Int := if x < y then x else y
  let mx (x y : Int) : Int := if x < y then y else x
  let c : Rect :=
    { x0 := mx r.x0 a.ox - a.ox, y0 := mx r.y0 a.oy - a.oy, x1 := mn r.x1 (a.ox + a.ha) - a.ox,
      y1 := mn r.y1 (a.oy + a.va) - a.oy }
  if c.x0 < c.x1 ∧ c.y0 < c.y1 then some c else none

/-! ## Layers of a head -/

/-- A layer of a head as it is stacked: its index in the scene, record, source's registration, clipped rectangle, effective
class (R72) and whether it is shed. -/
structure Use where
  idx  : Nat
  lay  : Layer
  reg  : Option Reg
  x0   : Nat
  y0   : Nat
  x1   : Nat
  y1   : Nat
  cls  : Nat
  cut  : Bool
  deriving DecidableEq, Repr

/-- Stacking order (R72): by Z, then by LAYER_ID. -/
def Use.below (a b : Use) : Bool := decide (a.lay.z < b.lay.z) || (a.lay.z == b.lay.z && decide (a.lay.id < b.lay.id))

/-- Insert a layer into the stack, bottom first. -/
def insertUse (u : Use) (l : List Use) : List Use :=
  match l with
  | [] => [u]
  | v :: r => if u.below v then u :: v :: r else v :: insertUse u r

/-- The effective class: the lower-ranked of the layer's and its source's (R31, R72). -/
def effClass (l : Layer) (r : Option Reg) : Nat := match r with | some r => Nat.max l.cls r.cls | none => l.cls

/-- The stack of head `h` in a scene, bottom to top, clipped; `cut` says which classes are shed (SAFETY never is). -/
def stackOf (sc : Scene) (regs : Nat → Option Reg) (h : Nat) (a : Area) (cut : Nat → Bool) : List Use :=
  ((sc.layers.zip (List.range sc.layers.length)).filter (fun p => p.1.head == h)).foldl
    (fun acc p =>
      let l := p.1
      match clipTo a l.dst with
      | none => acc
      | some c =>
        let r := regs l.src
        let cls := effClass l r
        insertUse { idx := p.2, lay := l, reg := r, x0 := c.x0.toNat, y0 := c.y0.toNat, x1 := c.x1.toNat, y1 := c.y1.toNat,
                    cls := cls, cut := cls != 0 && cut cls } acc)
    []

/-- The registration of a source in the table, withdrawn or not. -/
def State.regOf (s : State) (i : Nat) : Option Reg := (s.source? i).map (fun x => x.reg)

/-- The conditions of R79 but for covering the tile. -/
def Use.occludes (u : Use) : Bool :=
  decide (u.lay.blend ≤ 1) && u.lay.alpha == 65535 && !u.lay.zero
    && (u.lay.opaq || (match u.reg with | some r => opaqueFormat r.format | none => false))

/-- Lines of band `b` that are present. -/
def Area.bandEnd (a : Area) (b : Nat) : Nat := Nat.min (8 * b + 8) a.va

/-- The layers that meet a band. -/
def bandUses (a : Area) (b : Nat) (l : List Use) : List Use :=
  l.filter (fun u => decide (u.y0 < a.bandEnd b ∧ 8 * b < u.y1))

/-- The contributing layers of tile `k` of band `b`, bottom to top: everything below the highest occluder is culled. -/
def contributing (a : Area) (b k : Nat) (l : List Use) : List Use :=
  let tx0 := 128 * k
  let tx1 := Nat.min (128 * k + 128) a.ha
  l.foldl
    (fun acc u =>
      if u.x1 ≤ tx0 ∨ tx1 ≤ u.x0 ∨ u.y1 ≤ 8 * b ∨ a.bandEnd b ≤ u.y0 then acc
      else if u.occludes ∧ u.x0 ≤ tx0 ∧ tx1 ≤ u.x1 ∧ u.y0 ≤ 8 * b ∧ a.bandEnd b ≤ u.y1 then [u]
      else acc ++ [u])
    []

/-! ## What a band of a layer costs (R81, R82) -/

/-- c(ℓ) of R82; a shed layer costs 2 (R88). -/
def layerCost (sc : Scene) (u : Use) : Nat :=
  if u.cut then 2
  else
    let l := u.lay
    let up (st : Nat) : Nat := Nat.max 1 (ceilDiv st unitStep)
    let f := match u.reg with | some r => r.format | none => 0
    let c := sc.colours.find? (fun c => l.colour != noSet && c.id == l.colour)
    1 + up l.stepH * up l.stepV
      + b2n (f == fmtNv12 || f == fmtP010 || f == fmtIndex8 || f == fmtRgba16f)
      + (match c with
          | some c => b2n (c.transfer != 4 || c.lut.isSome) + b2n c.matrix.isSome
          | none => 0)
      + b2n (l.tone != noSet) + 2 * b2n (l.coefH != noSet) + 2 * b2n (l.coefV != noSet)

/-- The destination lines of a band that are charged (R100): the missing lines of the last band count as copies of line
VACTIVE − 1. -/
def chargedRows (a : Area) (b : Nat) (u : Use) : Nat × Nat :=
  (Nat.max (8 * b) u.y0, if a.va ≤ u.y1 then 8 * b + 8 else Nat.min u.y1 (8 * b + 8))

/-- Source line m of destination line y, before edge handling (R129). -/
def sourceLine (a : Area) (l : Layer) (y : Nat) : Int := (l.initV + ((y : Int) + a.oy - l.dst.y0) * l.stepV) / 65536
/-- Source column n of destination column x, before edge handling. -/
def sourceCol (a : Area) (l : Layer) (x : Nat) : Int := (l.initH + ((x : Int) + a.ox - l.dst.x0) * l.stepH) / 65536

/-- The distinct source lines that destination lines of a band reach with the given vertical taps, as buffer lines (R130). -/
def linesFor (a : Area) (b : Nat) (u : Use) (taps : List Int) : List Nat :=
  let l := u.lay
  let y0 := Nat.max (8 * b) u.y0
  let y1 := Nat.min u.y1 (a.bandEnd b)
  sortDedup ((List.range (y1 - y0)).flatMap (fun j =>
    let m := sourceLine a l (y0 + j)
    taps.filterMap (fun t =>
      if l.zero && (decide (m + t < 0) || decide ((l.cropH : Int) ≤ m + t)) then none
      else some (l.cropY + clampN (m + t) 0 (l.cropH - 1)))))

/-- The vertical taps of a layer, and how far its horizontal ones reach to the left and right (R132, R139). -/
def Layer.tapsV (l : Layer) (two : Bool) : List Int :=
  if l.coefV = noSet then [0] else if two then [0, 1] else [-2, -1, 0, 1, 2, 3]
def Layer.reachH (l : Layer) (two : Bool) : Nat × Nat :=
  if l.coefH = noSet then (0, 0) else if two then (0, 1) else (3, 4)

/-- The distinct source lines that a band reads (R132). -/
def reachedLines (a : Area) (b : Nat) (u : Use) : List Nat := linesFor a b u (u.lay.tapsV false)

/-- lines(ℓ, plane, b) of R81: of the first plane and of the chroma plane. -/
def chargedLines (a : Area) (b : Nat) (u : Use) (f : Nat) : Nat × Nat :=
  let l := u.lay
  let two := isTwoPlane f
  if l.coefV = noSet ∧ 8 * b + 8 ≤ a.va then
    let m := clampN (sourceLine a l (Nat.max (8 * b) u.y0)) 0 (l.cropH - 1)
    (8, if two then 4 + (l.cropY + m) % 2 else 0)
  else
    let r := reachedLines a b u
    (r.length, if two then (sortDedup (r.map (fun x => x / 2))).length else 0)

/-- The buffer columns that tile `k` reads, first and last, if any (R130, R132). -/
def colsFor (a : Area) (k : Nat) (u : Use) (two : Bool) : Option (Nat × Nat) :=
  let l := u.lay
  let x0 := Nat.max (128 * k) u.x0
  let x1 := Nat.min (128 * k + 128) u.x1
  let n0 := sourceCol a l x0 - (l.reachH two).1
  let n1 := sourceCol a l (x1 - 1) + (l.reachH two).2
  let w := l.cropW
  if l.zero then
    let lo := if n0 < 0 then 0 else n0
    let hi := if (w : Int) - 1 < n1 then (w : Int) - 1 else n1
    if hi < lo then none else some (l.cropX + lo.toNat, l.cropX + hi.toNat)
  else some (l.cropX + clampN n0 0 (w - 1), l.cropX + clampN n1 0 (w - 1))

/-- The columns that the model charges. -/
def readCols (a : Area) (k : Nat) (u : Use) : Option (Nat × Nat) := colsFor a k u false

/-- Groups of 4 pixels that the clipped rectangle meets on one line of tile `k`. -/
def tileGroups (k : Nat) (u : Use) : Nat :=
  ceilDiv (Nat.min (128 * k + 128) u.x1) 4 - Nat.max (128 * k) u.x0 / 4

/-- The bytes of a line that columns c0 to c1 occupy: first and past the last (R108, R110). -/
def colBytes (f : Nat) (chroma : Bool) (c0 c1 : Nat) : Nat × Nat :=
  if chroma then
    let w := if f = fmtNv12 then 2 else 4
    (w * (c0 / 2), w * (c1 / 2) + w)
  else (bitsPerPixel f * c0 / 8, ceilDiv (bitsPerPixel f * (c1 + 1)) 8)

/-- bursts(ℓ, plane, k) of R81: line starts are 64-byte aligned. -/
def bursts (f : Nat) (chroma : Bool) (cols : Option (Nat × Nat)) : Nat :=
  match cols with
  | none => 0
  | some (c0, c1) =>
    let (lo, hi) := colBytes f chroma c0 c1
    ceilDiv hi 64 - lo / 64

/-- What one band's charge of a layer needs beyond the tile. -/
structure BandUse where
  use    : Use
  rows   : Nat
  luma   : Nat
  chroma : Nat
  cost   : Nat
  deriving DecidableEq, Repr

/-- A tile's charge: cycles, bytes without palettes, and the INDEX8 layers it contributes. -/
structure TileCost where
  cycles : Nat
  bytes  : Nat
  pals   : List Nat
  depth  : Nat
  scaled : Nat
  deriving DecidableEq, Repr

/-- A band's charge of each layer that meets it. -/
def bandCharges (sc : Scene) (a : Area) (b : Nat) (l : List Use) : List BandUse :=
  (bandUses a b l).map (fun u =>
    let f := match u.reg with | some r => r.format | none => 0
    let (y0, y1) := chargedRows a b u
    let (n0, n1) := if u.cut || u.reg.isNone then (0, 0) else chargedLines a b u f
    { use := u, rows := y1 - y0, luma := n0, chroma := n1, cost := layerCost sc u })

/-- The charge of tile `k` of band `b` (R81). -/
def tileCost (a : Area) (b k : Nat) (bu : List BandUse) : TileCost :=
  let ids := (contributing a b k (bu.map (fun x => x.use))).map (fun u => u.idx)
  (bu.filter (fun x => ids.contains x.use.idx)).foldl
    (fun t x =>
      let u := x.use
      let read := !u.cut && u.reg.isSome
      let f := match u.reg with | some r => r.format | none => 0
      let cols := if read then readCols a k u else none
      { cycles := t.cycles + 8 + tileGroups k u * x.rows * x.cost
        bytes := t.bytes + 64 * (x.luma * bursts f false cols + x.chroma * (if isTwoPlane f then bursts f true cols else 0))
        pals := if read && f == fmtIndex8 then insertSorted u.idx t.pals else t.pals
        depth := t.depth + 1
        scaled := t.scaled + b2n (u.lay.coefV != noSet && !u.cut) })
    { cycles := 32, bytes := 0, pals := [], depth := 0, scaled := 0 }

/-- The charges of every tile of band `b`. -/
def bandTiles (sc : Scene) (a : Area) (b : Nat) (l : List Use) : List TileCost :=
  let bu := bandCharges sc a b l
  (List.range a.tiles).map (fun k => tileCost a b k bu)

/-- bytes(h, b) over some tiles of a band: each INDEX8 layer's palette once. -/
def tilesBytes (l : List TileCost) : Nat :=
  (l.map (fun t => t.bytes)).sum + 1024 * (sortDedup (l.flatMap (fun t => t.pals))).length

/-- cycles(h, b). -/
def tilesCycles (l : List TileCost) : Nat := (l.map (fun t => t.cycles)).sum

/-! ## The judged heads -/

/-- A head with the scene it is judged with: tiles of every band, and its timing. -/
structure Judged where
  head  : Nat
  scene : Scene
  area  : Area
  bands : List (List TileCost)
  vt    : Nat
  num   : Nat
  den   : Nat
  w     : Nat
  deriving DecidableEq, Repr

/-- VTOTAL and HTOTAL in force. -/
def State.vtotal (s : State) (h : Nat) : Nat := s.tcfg h 6 + s.tcfg h 7 + s.tcfg h 8 + s.tcfg h 9
def State.htotal (s : State) (h : Nat) : Nat := s.tcfg h 1 + s.tcfg h 2 + s.tcfg h 3 + s.tcfg h 4

/-- One head's part of the model. -/
def State.judgeHead (s : State) (h : Nat) (sc : Scene) (named : Bool) (cut : Nat → Bool) : Judged :=
  let a := s.areaFor h named
  let l := stackOf sc s.regOf h a cut
  { head := h, scene := sc, area := a, bands := (List.range a.bands).map (fun b => bandTiles sc a b l), vt := s.vtotal h,
    num := s.tcfg h 11, den := s.tcfg h 12, w := s.hcfg h 0x20 1 }

/-- The heads the model judges: those a new scene names with it, every other enabled head with its pending scene or else its
current one. A head whose rate entries are 0 composes nothing (R154). -/
def State.judged (s : State) (new : Option Scene) (cut : Nat → Bool) : List Judged :=
  (List.range 16).filterMap (fun h =>
    let pick : Option (Scene × Bool) :=
      match new with
      | some sc => if sc.mask.testBit h then some (sc, true)
          else if s.hcfgBool h 0 14 then ((s.head h).pend.orElse (fun _ => (s.head h).cur)).map (fun x => (x, false)) else none
      | none => if s.hcfgBool h 0 14 then ((s.head h).pend.orElse (fun _ => (s.head h).cur)).map (fun x => (x, false)) else none
    match pick with
    | some (sc, named) =>
      if s.tcfg h 11 = 0 ∨ s.tcfg h 12 = 0 ∨ s.vtotal h = 0 then none else some (s.judgeHead h sc named cut)
    | none => none)

/-- Per second and per band: the rate of bands, 1 / t_band(h), as a fraction. -/
def Judged.bandRate (j : Judged) : Frac := { num := j.vt * j.num, den := 8 * j.den }

/-- t_band(h) in ns. -/
def Judged.bandNs (j : Judged) : Frac := { num := 8 * j.den * 1000000000, den := j.vt * j.num }

/-- The greatest of a list and its first place. -/
def peak (l : List Nat) : Nat × Nat :=
  ((l.zip (List.range l.length)).foldl (fun (best : Nat × Nat) p => if best.1 < p.1 then p else best) (l.headD 0, 0))

/-! ## The detail record (R85) -/

/-- The detail record's fields. -/
structure Detail where
  resource : Nat
  head     : Nat
  band     : Nat
  tile     : Nat
  status   : Status
  offset   : Nat
  demand   : Nat
  limit    : Nat
  deriving DecidableEq, Repr

def Detail.bytes (d : Detail) : List Byte :=
  [byte d.resource, byte d.head] ++ leBytes 2 d.band ++ leBytes 2 d.tile ++ [byte d.status.code, 0#8] ++ leBytes 4 d.offset
    ++ leBytes 4 0 ++ leBytes 8 (sat 64 d.demand) ++ leBytes 8 (sat 64 d.limit)

/-- A detail record of a completion that feasibility did not decide. -/
def plainDetail (st : Status) (off : Nat) : Detail :=
  { resource := 0, head := 0xFF, band := 0xFFFF, tile := 0xFFFF, status := st, offset := off, demand := 0, limit := 0 }

/-- A feasibility failure: DEMAND rounded up, LIMIT rounded down. -/
def shortfall (code h b k : Nat) (demand limit : Frac) : Detail :=
  { resource := code, head := h, band := b, tile := k, status := .infeasible, offset := noOffset, demand := demand.ceil,
    limit := limit.floor }

/-! ## The eight checks (R83, R84) -/

/-- A summed check: fails when the sum exceeds the limit, naming the greatest contributor, the lowest head among equals. -/
def sumCheck (code : Nat) (parts : List (Nat × Nat × Frac)) (limit : Frac) : Option Detail :=
  let total := parts.foldl (fun t p => t.add p.2.2) Frac.zero
  if total.le limit then none
  else
    match parts with
    | [] => none
    | p :: rest =>
      let m := rest.foldl (fun (b : Nat × Nat × Frac) q => if q.2.2.le b.2.2 then b else q) p
      some (shortfall code m.1 m.2.1 0xFFFF total limit)

/-- The margins, reservations and engines a check is judged with, in thousandths and engines. -/
structure Capacity where
  mf   : Nat
  me   : Nat
  mx   : Nat
  scan : Nat
  echo : Nat
  sum  : Nat
  min  : Nat
  deriving DecidableEq, Repr

/-- 273 GB/s × 31/32, times a reservation and a margin in thousandths (R81). -/
def bandwidth (reserve m : Nat) : Frac := { num := 273000000000 * 31 * reserve * (1000 - m), den := 32 * 1000000 }

/-- Checks 1 and 2. -/
def checkFetch (c : Capacity) (l : List Judged) : Option Detail :=
  sumCheck 1 (l.map (fun j =>
    let (v, b) := peak (j.bands.map tilesBytes)
    (j.head, b, (j.bandRate.scale (33 * v) 32)))) (bandwidth c.scan c.mf)
def checkEngine (c : Capacity) (l : List Judged) : Option Detail :=
  sumCheck 2 (l.map (fun j =>
    let (v, b) := peak (j.bands.map tilesCycles)
    (j.head, b, j.bandRate.scale v 1))) { num := c.sum * 1100000000 * (1000 - c.me), den := 1000 }

/-- Check 3: the first failing head and band, and the lowest tile that carries c_max. -/
def checkLatency (c : Capacity) (l : List Judged) : Option Detail :=
  l.findSome? (fun j =>
    let t := j.bandNs
    let limit := t.scale (j.w * (1000 - c.me)) 1000
    let chain := ceilDiv j.area.tiles (Nat.max 1 c.min)
    (j.bands.zip (List.range j.bands.length)).findSome? (fun p =>
      let (v, k) := peak (p.1.map (fun x => x.cycles))
      let demand := t.add { num := chain * v * 10, den := 11 }
      if demand.le limit then none else some (shortfall 3 j.head p.2 k demand limit)))

/-- Check 4: distinct coefficient sets of all heads' scenes. -/
def checkSets (l : List Judged) : Option Detail :=
  let sets := sortDedup (l.flatMap (fun j => (j.scene.layers.filter (fun x => x.head == j.head)).flatMap (fun x =>
    [x.coefH, x.coefV].filter (fun n => n != noSet))))
  if sets.length ≤ 16 then none
  else some (shortfall 4 0xFF 0xFFFF 0xFFFF { num := sets.length, den := 1 } { num := 16, den := 1 })

/-- Checks 5 and 8: the first failing head, band and tile. -/
def checkTiles (code limit : Nat) (f : TileCost → Nat) (l : List Judged) : Option Detail :=
  l.findSome? (fun j => (j.bands.zip (List.range j.bands.length)).findSome? (fun p =>
    (p.1.zip (List.range p.1.length)).findSome? (fun q =>
      if f q.1 ≤ limit then none
      else some (shortfall code j.head p.2 q.2 { num := f q.1, den := 1 } { num := limit, den := 1 }))))

/-- The tiles and bands of an ECHO region: the tile-bands that meet it (R191). -/
def regionTiles (r : Region) (b : Nat) (tiles : List TileCost) : List TileCost :=
  if r.y0 / 8 ≤ b ∧ b ≤ (r.y1 - 1) / 8 then (tiles.drop (r.x0 / 128)).take ((r.x1 - 1) / 128 + 1 - r.x0 / 128) else []

/-- The ECHO regions of a head. -/
def Judged.echoRegions (j : Judged) : List Region := j.scene.regions.filter (fun r => r.head == j.head && r.expect == 2)

/-- Checks 6 and 7, charged per frame. -/
def checkEchoRate (c : Capacity) (l : List Judged) : Option Detail :=
  sumCheck 6 ((l.filter (fun j => !j.echoRegions.isEmpty)).map (fun j =>
    (j.head, 0xFFFF, { num := (j.echoRegions.map (fun r => (r.x1 - r.x0) * (r.y1 - r.y0))).sum * j.num, den := j.den })))
    { num := 2000000000 * (1000 - c.mx), den := 1000 }
def checkEchoFetch (c : Capacity) (l : List Judged) : Option Detail :=
  sumCheck 7 ((l.filter (fun j => !j.echoRegions.isEmpty)).map (fun j =>
    let n := (j.echoRegions.map (fun r =>
      ((j.bands.zip (List.range j.bands.length)).map (fun p => tilesBytes (regionTiles r p.2 p.1))).sum)).sum
    (j.head, 0xFFFF, { num := 33 * n * j.num, den := 32 * j.den })))
    (bandwidth c.echo c.mf)

/-- The checks in code order; DEPTH is reported only when no lower code fails. -/
def feasible (c : Capacity) (l : List Judged) : Option Detail :=
  (checkFetch c l).orElse (fun _ =>
  (checkEngine c l).orElse (fun _ =>
  (checkLatency c l).orElse (fun _ =>
  (checkSets l).orElse (fun _ =>
  (checkTiles 5 32 (fun t => t.scaled) l).orElse (fun _ =>
  (checkEchoRate c l).orElse (fun _ =>
  (checkEchoFetch c l).orElse (fun _ =>
  checkTiles 8 256 (fun t => t.depth) l)))))))

/-- The heads with their current scenes, whatever is pending. -/
def State.judgedCurrent (s : State) (cut : Nat → Bool) : List Judged :=
  (List.range 16).filterMap (fun h =>
    match (s.head h).cur with
    | some sc =>
      if !s.hcfgBool h 0 14 || s.tcfg h 11 == 0 || s.tcfg h 12 == 0 || s.vtotal h == 0 then none
      else some (s.judgeHead h sc false cut)
    | none => none)

/-- The capacity a check of a scene is judged with: the written margins and reservations (R95, R221). -/
def State.capacityWritten (s : State) : Capacity :=
  { mf := s.written 0x3000 1, me := s.written 0x3000 2, mx := s.written 0x3000 3, scan := s.written 0x2200 1,
    echo := s.written 0x2200 2, sum := s.engineSum, min := s.engineMin }

/-- The capacity a re-check of accepted scenes is judged with: the values in force (R88). -/
def State.capacityForce (s : State) : Capacity :=
  { mf := s.cfg 0x3000 1, me := s.cfg 0x3000 2, mx := s.cfg 0x3000 3, scan := s.cfg 0x2200 1, echo := s.cfg 0x2200 2,
    sum := s.engineSum, min := s.engineMin }

end Sys2Proof.Machine
end

