-- ==== Sys2Proof/Machine/MemOps.lean ====
section
/-!
DEFINITION. Errors of device memory as every reader meets them (R227 to R231): an uncorrectable read, the retirement of a
granule, and a granule for which no spare remains.
-/

namespace Sys2Proof.Machine

/-- A granule that is being copied, or is unusable. -/
def State.granuleBusy (s : State) (g : Nat) : Bool :=
  s.mem.copying.any (fun c => c.granule == g) || s.health.unusable.contains g

/-- The lowest-numbered free spare (R230). -/
def State.freeSpare (s : State) : Option Nat := (List.range 2048).find? (fun k => s.spareFree k)

/-- Every publication whose buffer touches an unusable granule is cancelled (R52, R231). -/
def State.cancelUnusable (s : State) : State :=
  s.forEach s.src.table (fun s p =>
    s.forEach (p.2.bufs.map (fun b => b.1)) (fun s b =>
      if s.bufferUnusable p.2 b && !(Tbl.get Buf.reset p.2.bufs b).cancel then s.cancelBuffer p.1 b else s))

/-- A granule for which no spare remains becomes unusable (R231). -/
def State.loseGranule (s : State) (g : Nat) : State :=
  let first := s.health.unusable.isEmpty
  let s := { s with health := { s.health with unusable := insertSorted g s.health.unusable,
                                              retiredSeq := s.health.retiredSeq ++ [g] } }
  let s := s.raise .memGranuleUnusable
  let s := if first then (s.raise .memSparesExhausted).raise .capacityLost else s
  (s.cancelUnusable.noteConditions).healthDue

/-- MEM_SPARES_LOW follows SparesRemaining (R231, R403). -/
def State.sparesLevel (s : State) : State := s.level .memSparesLow (decide (s.sparesLeft < 128))

/-- The decision to retire a granule (R228, R230): the copy to the lowest-numbered free spare begins. GRANULE_REMAP ends it. -/
def State.retireGranule (s : State) (g : Nat) : State :=
  if s.granuleBusy g || s.bothCoresRetired then s
  else match s.freeSpare with
    | some k =>
      let s := { s with mem := { s.mem with copying := s.mem.copying ++ [({ granule := g, spare := k } : Copying)] } }
      s.sparesLevel.noteReplacement
    | none => s.loseGranule g

/-- An uncorrectable error at a device address. A block known as poisoned is no new fault; a new one is poisoned when its
repeat fails too, and its granule is retired (R228, R230). -/
def State.meetError (s : State) (a : Nat) (repeatOk : Bool) : State :=
  let s := s.countUncorrectable a
  if s.mem.poisoned.contains (blockOf a) || s.health.unusable.contains (granuleOf a) then s
  else
    let s := if repeatOk then s
      else { s with mem := { s.mem with poisoned := insertSorted (blockOf a) s.mem.poisoned } }
    s.retireGranule (granuleOf a)

/-- A read of an object that software supplies for a command, by firmware or the queue engine: its bytes, or none after an
uncorrectable error, on which the command completes BUS_ERROR (R229). -/
def State.fetchObject (s : State) (a n : Nat) : State × Option (List Byte) :=
  match s.busBad a n with
  | some bad => (s.countUncorrectable bad, none)
  | none => (s, some (s.busRead a n))

end Sys2Proof.Machine
end

