-- ==== Sys2Proof/Machine/Commit.lean ====
section
/-!
DEFINITION. Checking and accepting scenes (R63 to R66, R78, R85, R89 to R92): the rows of R78, acceptance by each named
head, replicas of the remote sources a scene shows (R314), CHECK_SCENE and QUERY_SCENE.
-/

namespace Sys2Proof.Machine

/-! ## Replicas of remote sources (R314) -/

/-- The bytes one replica buffer takes: its planes, then the palette of INDEX8. -/
def Reg.replicaPlanes (r : Reg) : Nat := ceilDiv r.extent 256 * 256
def Reg.replicaBytes (r : Reg) : Nat := r.replicaPlanes + (if r.format = fmtIndex8 then 1024 else 0)

/-- Replicas given up whose buffers no band holds any more are free. -/
def State.freeReplicas (s : State) : State :=
  { s with fab := { s.fab with replicaAt := s.fab.replicaAt.filter (fun p =>
      s.fab.subscribed.contains p.1 || !(s.bandHolds p.1).isEmpty) } }

/-- The first free place of `n` bytes in the firmware region (first fit; DESIGN CHOICE, log entry 11). -/
def firstFit (lo hi n : Nat) (taken : List (Nat × Nat)) : Option Nat :=
  let fits (a : Nat) : Bool := decide (lo ≤ a ∧ a + n ≤ hi) && taken.all (fun t => decide (a + n ≤ t.1 ∨ t.1 + t.2 ≤ a))
  (sortDedup (lo :: taken.map (fun t => t.1 + t.2))).find? fits

/-- Reserve three replica buffers for a remote source. -/
def State.reserve (s : State) (id : Nat) : Option State :=
  match s.source? id with
  | none => none
  | some x =>
    let n := x.reg.replicaBytes
    (firstFit s.fwBase spareBase (3 * n) (s.fab.replicaAt.map (fun p => p.2))).map (fun a =>
      { s.setSource id { x with replicas := [a, a + n, a + 2 * n] } with
        fab := { s.fab with replicaAt := Tbl.set s.fab.replicaAt id (a, 3 * n), subscribed := insertSorted id s.fab.subscribed } })

/-- The remote sources a scene shows, with the offset of the first layer that shows each. -/
def State.remoteShown (s : State) (sc : Scene) : List (Nat × Nat) :=
  sc.layers.foldl (fun acc l =>
    if acc.any (fun p => p.1 == l.src) then acc
    else match s.source? l.src with
      | some x => if x.reg.home = s.ownAddress then acc else acc ++ [(l.src, l.offset)]
      | none => acc) []

/-- The first layer whose source finds no room for its replicas. -/
def State.noRoom (s : State) (l : List (Nat × Nat)) : Option Nat :=
  match l with
  | [] => none
  | (id, off) :: rest =>
    if s.fab.subscribed.contains id then s.noRoom rest
    else match s.reserve id with
      | some s => s.noRoom rest
      | none => some off

/-- Subscribe to the remote sources a scene shows. -/
def State.subscribeScene (s : State) (sc : Scene) : State :=
  s.freeReplicas.forEach (s.remoteShown sc) (fun s p =>
    if s.fab.subscribed.contains p.1 then s
    else match s.reserve p.1, s.source? p.1 with
      | some t, some x => t.sendTo x.reg.home msgSubscribe (leBytes 2 p.1)
      | _, _ => s)

/-- A remote source that some head shows now or is about to show. -/
def State.showsSource (s : State) (id : Nat) : Bool :=
  s.heads.heads.any (fun p =>
    let has (sc : Option Scene) : Bool := sc.elim false (fun sc => sc.layers.any (fun l => l.src == id && l.head == p.1))
    has p.2.cur || has p.2.pend)

/-- Unsubscribe from every source that no current or pending scene shows (R314). -/
def State.unsubscribeUnused (s : State) : State :=
  (s.forEach (s.fab.subscribed.filter (fun id => !s.showsSource id)) (fun s id =>
    let s := match s.source? id with | some x => s.sendTo x.reg.home msgUnsubscribe (leBytes 2 id) | none => s
    { s with fab := { s.fab with subscribed := s.fab.subscribed.filter (fun j => j != id), rx := Tbl.erase s.fab.rx id } })).freeReplicas

/-! ## The rows of R78 -/

/-- Row 0: the command body, in the order listed. -/
def sceneBody (e : Exec) : Option Status :=
  let a := getLE e.body 0x10 8
  let n := getLE e.body 0x18 4
  if !zeroIn e.body 8 16 ∨ 2 ≤ getLE e.body 0x1C 4 ∨ !zeroIn e.body 0x28 0x30 ∨ a % 64 ≠ 0 ∨ n % 16 ≠ 0 ∨ n < 32 then some .format
  else if 2 ^ 22 < n then some .size
  else none

/-- DETAIL_ADDRESS and NO_LATE of a command. -/
def Exec.detailAddr (e : Exec) : Nat := getLE e.body 0x20 8
def Exec.noLate (e : Exec) : Bool := bit (getLE e.body 0x1C 4) 0

/-- The detail record is written where its address is granted (R85). -/
def State.writeDetail (s : State) (q : Nat) (e : Exec) (d : Detail) : State :=
  if e.detailAddr ≠ 0 ∧ s.granted (s.ringCls q) true e.detailAddr 32 then s.busWrite e.detailAddr d.bytes else s

/-- The heads a scene names, in ascending order. -/
def Scene.named (sc : Scene) : List Nat := bitsOf 16 sc.mask

/-- Row 5: EPOCH is later than the current and pending epochs of every named head; 0 sets no bound. -/
def State.epochOk (s : State) (sc : Scene) : Bool :=
  sc.named.all (fun h =>
    let x := s.head h
    (x.curEpoch == 0 || epochLater sc.epoch x.curEpoch) && (x.pendEpoch == 0 || epochLater sc.epoch x.pendEpoch))

/-- A head that runs or is starting (R157). -/
def Head.runs (x : Head) : Bool := x.state != .off || x.starting

/-- KIND of coefficient set `n` (R136); an unwritten set is EMPTY. -/
def State.coefKind (s : State) (n : Nat) : Nat :=
  match s.cfgBytes 0x3410 (n + 1) with
  | [] => 0xFF
  | b :: _ => b.toNat

/-- The offset of a head's HEAD record, 0 when it has none (R85). -/
def Scene.headOffset (sc : Scene) (h : Nat) : Nat := ((sc.heads.find? (fun x => x.head == h)).map (fun x => x.offset)).getD 0

/-- A region of a head meets a layer's clipped rectangle. -/
def regionMeets (a : Area) (r : Region) (l : Layer) : Bool :=
  l.head == r.head && (match clipTo a l.dst with
    | some c => decide (c.x0 < r.x1 ∧ (r.x0 : Int) < c.x1 ∧ c.y0 < r.y1 ∧ (r.y0 : Int) < c.y1)
    | none => false)

/-- Row 6, its conditions in the order listed. -/
def State.row6 (s : State) (sc : Scene) : Option Detail :=
  let badHead := sc.named.find? (fun h => !(s.hcfgBool h 0 14 && (s.head h).runs))
  let badSource := sc.layers.find? (fun l => (s.source? l.src).elim true (fun x => x.withdrawn))
  let badCrop := sc.layers.find? (fun l => (s.regOf l.src).elim false (fun r =>
    decide (r.width < l.cropX + l.cropW ∨ r.height < l.cropY + l.cropH)))
  let badSet := sc.layers.find? (fun l =>
    (l.coefH != noSet && s.coefKind l.coefH != 0) || (l.coefV != noSet && s.coefKind l.coefV != 1))
  let remote (l : Layer) : Bool := (s.regOf l.src).elim false (fun r => r.home != s.ownAddress)
  let badRegion := if s.ilelleGen ≠ 1 then none
    else sc.regions.find? (fun r => r.expect == 3 && sc.layers.any (fun l => remote l && regionMeets (s.areaFor r.head true) r l))
  match badHead, badSource, badCrop, badSet, badRegion with
  | some h, _, _, _, _ => some (plainDetail .state (sc.headOffset h))
  | _, some l, _, _, _ => some (plainDetail .state l.offset)
  | _, _, some l, _, _ => some (plainDetail .format l.offset)
  | _, _, _, some l, _ => some (plainDetail .state l.offset)
  | _, _, _, _, some r => some (plainDetail .version r.offset)
  | _, _, _, _, _ => (s.freeReplicas.noRoom (s.remoteShown sc)).map (fun o => plainDetail .state o)

/-- Row 7 for a scene, with the capacity of this moment (R88). -/
def State.row7 (s : State) (sc : Scene) : Option Detail := feasible s.capacityWritten (s.judged (some sc) (fun _ => false))

/-- Rows 1 to 4 of R78 on a command: the compiled scene, or the failure. -/
def State.readScene (s : State) (q : Nat) (e : Exec) : State × Except Detail Scene :=
  let a := getLE e.body 0x10 8
  let n := getLE e.body 0x18 4
  let c := s.ringCls q
  if !sceneAllowed s.sys.mode e.opcode then (s, .error (plainDetail .state noOffset))
  else if !(e.detailAddr == 0 || s.granted c true e.detailAddr 32) || !isDevAddr a || !s.granted c false a n then
    (s.countBounds, .error (plainDetail .bounds noOffset))
  else match s.fetchObject a n with
    | (s, none) => (s, .error (plainDetail .busError noOffset))
    | (s, some d) =>
      match parseDescriptor s.dims s.sdfGen d with
      | .ok sc => (s, .ok sc)
      | .error (st, off) => (s, .error (plainDetail st off))

/-- The record of a check that passed. -/
def okDetail : Detail := plainDetail .ok noOffset

/-- Note the latest check in the scene block (R396). -/
def State.noteCheck (s : State) (d : Detail) (ns : Nat) : State :=
  { s with scn := { s.scn with checkState := 0, lastStatus := d.status.code, lastResource := d.resource,
                               lastCheckNs := sat 32 ns } }

/-! ## Acceptance (R90 to R92) -/

/-- The number of the next frame of a head (R155). -/
def Head.nextFrame (x : Head) : Nat := if x.counted then wrapInc 48 x.frame else 0

/-- A head would take a scene accepted now late: the latch of the frame under way has passed (R90). -/
def Head.lateNow (x : Head) : Bool := x.runs && x.latched

/-- The frame from which a head shows a scene accepted now. -/
def Head.targetNow (x : Head) : Nat := if x.lateNow then wrapInc 48 x.nextFrame else x.nextFrame

/-- The values of the entries that a scene check judges: the margins, the reservations and the head's origin (R59, R95, R221). -/
def State.checkedCfg (s : State) (h : Nat) : List (Nat × List Byte) :=
  [dkey 0x2200 1, dkey 0x2200 2, dkey 0x3000 1, dkey 0x3000 2, dkey 0x3000 3, dkey 0x3110 (h + 1)].map (fun k =>
    (k, s.writtenBytes (k / 256) (k % 256)))

/-- Replace a head's pending scene, if it has one: COMMIT_SUPERSEDED (R92). -/
def State.supersede (s : State) (h : Nat) : State :=
  if (s.head h).pend.isSome then
    (s.modHead h (fun x => { x with superseded := satInc 32 x.superseded })).raiseHead h .commitSuperseded
  else s

/-- One named head takes an accepted scene (R90). -/
def State.acceptHead (s : State) (sc : Scene) (h : Nat) : State :=
  let s := s.supersede h
  let x := s.head h
  let late := x.lateNow
  let s := s.setHead h { x with pend := some sc, pendEpoch := sc.epoch, pendCfg := s.checkedCfg h, pendLate := late,
                                target := x.targetNow, late := if late then satInc 32 x.late else x.late,
                                lateRc := if late then satInc 16 x.lateRc else x.lateRc }
  if late then s.raiseHead h .commitLate else s

/-- RESULT of an acceptance (R65): the frame of the lowest-numbered head, and how many heads were late. -/
def State.commitResult (s : State) (sc : Scene) : Nat :=
  let late := (sc.named.filter (fun h => (s.head h).lateNow)).length
  (match sc.named with | h :: _ => (s.head h).targetNow | [] => 0) + late * 2 ^ 48

/-- Count an accepted COMMIT_SCENE (R95, R396); a scene accepted while layers are shed is judged again (R430). -/
def State.countAccepted (s : State) (epoch : Nat) : State :=
  { s with scn := { s.scn with accepted := satInc 16 s.scn.accepted, acceptedTot := wrapInc 32 s.scn.acceptedTot,
                               lastEpoch := epoch, recheckDue := s.scn.recheckDue || s.scn.spareShed != 0 } }

/-- Count a rejected COMMIT_SCENE. -/
def State.countRejected (s : State) : State :=
  { s with scn := { s.scn with rejected := satInc 16 s.scn.rejected, rejectedTot := wrapInc 32 s.scn.rejectedTot } }

/-- Acceptance of a scene outside a coherent commit. -/
def State.acceptScene (s : State) (sc : Scene) : State :=
  ((s.forEach sc.named (fun s h => s.acceptHead sc h)).countAccepted sc.epoch).subscribeScene sc

/-- Serve CHECK_SCENE or COMMIT_SCENE: `decide` judges the scene after rows 0 to 4. No check begins while a coefficient set is
being written (R137). -/
def State.serveCheck (s : State) (q op : Nat) (decide : State → Exec → Except Detail Scene → State) : State :=
  match s.running? q op with
  | none => s
  | some e =>
    if e.phase != .waiting then s
    else if s.bothCoresRetired then s.finishAt q e.pos .retired 0
    else if s.sceneTurn != some q || !s.coreUp 0 || !s.gal.coefPending.isEmpty then s
    else
      let s := { s with que := { s.que with served := q } }
      match sceneBody e with
      | some st => decide s e (.error (plainDetail st noOffset))
      | none =>
        let (s, r) := s.readScene q e
        match r with
        | .ok sc => decide s e (.ok sc)
        | .error d => decide s e (.error d)

/-- CHECK_SCENE (R64): every check but rows 5 and 8; it changes nothing on any head. -/
def execCheckScene (q : Fin 256) (ns : Nat) (s : State) : Host.Outcome State Fault Refusal :=
  .next (s.serveCheck q 0x30 (fun s e r =>
    let d := match r with
      | .error d => d
      | .ok sc => ((s.row6 sc).orElse (fun _ => s.row7 sc)).getD okDetail
    ((s.noteCheck d ns).writeDetail q e d).finishAt q e.pos d.status 0))

/-! ## The latch line (R89, R159) -/

/-- VTOTAL_n of the frame under way, or VTOTAL while the head does not run. -/
def State.vtotalNow (s : State) (h : Nat) : Nat :=
  let x := s.head h
  if x.runs && x.vtotalN != 0 then x.vtotalN else s.vtotal h

/-- G_eff and L_latch. -/
def State.gEff (s : State) (h : Nat) : Nat := Nat.min (s.hcfg h 0x20 2) (s.vtotalNow h - (s.dims h).2 + 7)
def State.latchLine (s : State) (h : Nat) : Nat := s.vtotalNow h - 8 * s.hcfg h 0x20 1 - s.gEff h

/-- The line of COMMIT_AHEAD (R94). -/
def State.aheadLine (s : State) (h : Nat) : Nat :=
  let v := s.vtotalNow h
  if v = 0 then 0 else (s.latchLine h + v - s.hcfg h 0x20 3 % v) % v

/-- The QUERY_SCENE record of a head (R66). -/
def State.queryRecord (s : State) (h : Nat) : List Byte :=
  let x := s.head h
  leBytes 4 x.shown ++ leBytes 4 x.pendEpoch ++ leBytes 8 (wrap 48 x.frame)
    ++ leBytes 8 (if x.pendEpoch = 0 then 0 else wrap 48 x.target) ++ leBytes 4 x.late
    ++ [byte (s.hcfg h 0x20 1), byte (s.gEff h)] ++ leBytes 2 (s.latchLine h)

/-- QUERY_SCENE (R63, R66): one record for each named head, in ascending order. -/
def execQueryScene (q : Fin 256) (s : State) : Host.Outcome State Fault Refusal :=
  .next (s.serveScene q 0x32
    (fun e => if queryBodyOk e then none else some .format)
    (fun s e =>
      let heads := bitsOf 16 (getLE e.body 8 2)
      let a := getLE e.body 16 8
      if !s.granted (s.ringCls q) true a (32 * heads.length) then s.countBounds.finishAt q e.pos .bounds 0
      else (s.busWrite a (heads.flatMap (fun h => s.queryRecord h))).finishAt q e.pos .ok 0))

end Sys2Proof.Machine
end

