-- ==== Sys2Proof/Machine/DictOps.lean ====
section
/-!
DEFINITION. How dictionary values are stored and come into force (R357 to R359): the written value, the overlay of the
current mode (R350 to R353), staging, the latch (R150, R221) and the mode boundary (R347).
-/

namespace Sys2Proof.Machine

/-! ## The table -/

/-- A key's index and subindex. -/
def keyIndex (k : Nat) : Nat := k / 256
def keySub (k : Nat) : Nat := k % 256

/-- The row of a key; the first overlay block is that of mode 2 and the last that of mode 11. -/
def entryOf (k : Nat) : Option EntryDef := findEntry (keyIndex k) (keySub k)

/-- Apply timing of a key: 0 live, 1 commit, 2 mode (R358). -/
def applyOf (k : Nat) : Nat := (entryOf k).elim 0 (fun e => e.apply)

/-- The head whose entry a key is, if it is one: 0x4h00 to 0x4hFF, and the origins of 0x3110 (R59, R150). -/
def headOfKey (k : Nat) : Option Nat :=
  let i := keyIndex k
  if 0x4000 ≤ i ∧ i < 0x5000 then some (i / 256 % 16)
  else if i = 0x3110 then some (keySub k - 1)
  else none

/-- Entries that a scene check judges take only the values a scene was checked with (R59, R95, R221). -/
def judgedKey (k : Nat) : Bool :=
  let i := keyIndex k
  i == 0x3110 || (i == 0x2200 && decide (keySub k ≤ 2)) || i == 0x3000

/-- The head entries of the colour path (R152), but for OutputDepth. -/
def colourKey (k : Nat) : Bool :=
  let i := keyIndex k
  decide (0x4000 ≤ i ∧ i < 0x5000) && i % 256 == 0x30 && decide (keySub k ≤ 7)

/-! ## Domain defaults -/

/-- The octave table's inputs x_i (R141). -/
def octaveInput (i : Nat) : Nat := if i < 512 then i else 2 ^ (9 + (i - 512) / 512) + i % 512 * 2 ^ ((i - 512) / 512)

/-- The default 3D LUT (R147). -/
def defaultLut3D : List Byte :=
  let v (a : Nat) : List Byte := leBytes 2 (roundDivN (a * 65535) 32)
  (List.range 33).flatMap (fun c => (List.range 33).flatMap (fun b => (List.range 33).flatMap (fun a => v a ++ v b ++ v c)))

/-- The default of a DOMAIN entry that software may write (R136, R147, R148, R152, R350). -/
def domainDefault (index sub : Nat) : List Byte :=
  let i := canonIndex index
  if i = 0x4030 ∧ sub = 1 then defaultLut3D
  else if i = 0x4030 ∧ sub = 3 then leBytes 8 0
  else if i = 0x4030 ∧ sub = 5 then (List.range 4096).flatMap (fun k => leBytes 2 (octaveInput k))
  else if i = 0x3410 then 0xFF#8 :: leBytes 15 0
  else if i = 0x7200 then leBytes 16 0
  else []

/-- The default of an entry. -/
def entryDefault (k : Nat) : List Byte :=
  match entryOf k with
  | some e => if e.typ = 13 then domainDefault (keyIndex k) (keySub k) else e.dfltBytes
  | none => []

/-! ## Values in force -/

/-- Changes that a live value makes at once: a write of LogBase or LogRecords resumes logging (R200). -/
def State.onLive (s : State) (k : Nat) : State :=
  if keyIndex k = 0x5000 ∧ keySub k ≤ 2 then { s with lant := { s.lant with stopped := false } } else s

/-- Put a value into force; an entry whose written value is in force is staged no more. A GPIO_EV pin that becomes a Siphon
output holds its source low from then on (R403). -/
def State.putForce (s : State) (k : Nat) (v : List Byte) : State :=
  let s := { s with dict := { s.dict with force := Tbl.set s.dict.force k v } }
  let s := if k = dkey 0x5801 1 then s.forEach (bitsOf 16 (leNat v)) (fun s n => s.levelTo (evGpio n) false) else s
  let done := s.writtenBytes (keyIndex k) (keySub k) == v
  if done then { s with dict := { s.dict with staged := s.dict.staged.filter (fun j => j != k),
                                              freeKeys := s.dict.freeKeys.filter (fun j => j != k) } } else s

/-- Bring the written value of a key towards force as its apply timing says; `free` lets the next latch take it without a
scene. -/
def State.settleKey (s : State) (k : Nat) (free : Bool) : State :=
  let v := s.writtenBytes (keyIndex k) (keySub k)
  if applyOf k = 0 then (s.putForce k v).onLive k
  else
    let staged := insertSorted k s.dict.staged
    let fr := if free && !judgedKey k then insertSorted k s.dict.freeKeys else s.dict.freeKeys
    { s with dict := { s.dict with staged := staged, freeKeys := fr } }

/-- Note a changed P value (R380). -/
def State.noteDirty (s : State) : State :=
  { s with dict := { s.dict with dirty := true, changedAt := some s.now,
                                 dirtyAfter := s.dict.dirtyAfter || s.dict.storing.isSome } }

/-- Write an entry's base value after every check has passed (R358, R359). -/
def State.writeEntry (s : State) (k : Nat) (v : List Byte) : State :=
  let old := (Tbl.find? s.dict.base k).getD (entryDefault k)
  let s := { s with dict := { s.dict with base := Tbl.set s.dict.base k v } }
  let s := if (entryOf k).elim false (fun e => e.p) && old != v then s.noteDirty else s
  s.settleKey k (s.sys.mode == .calibrate && colourKey k)

/-! ## The latch -/

/-- What a latch of head `h` puts into force: with a scene, every staged commit entry of the head and every device-wide one,
the judged ones at the values the scene was checked with; without one, only those that a mode boundary or CALIBRATE freed
(R150, R221, R347, R348, R358). -/
def State.latchEntries (s : State) (h : Nat) (scene : Bool) (checked : List (Nat × List Byte)) : State :=
  let mine := s.dict.staged.filter (fun k => applyOf k == 1 && ((headOfKey k).elim true (fun j => j == h)))
  let take := mine.filter (fun k => !judgedKey k && (scene || s.dict.freeKeys.contains k))
  let s := s.forEach take (fun s k => s.putForce k (s.writtenBytes (keyIndex k) (keySub k)))
  if scene then
    s.forEach (checked.filter (fun p => s.dict.staged.contains p.1 || s.writtenBytes (keyIndex p.1) (keySub p.1) != p.2
        || s.cfgBytes (keyIndex p.1) (keySub p.1) != p.2))
      (fun s p => s.putForce p.1 p.2)
  else s

/-! ## Overlays (R350 to R353) -/

/-- The records of an overlay as keys and values, each cut to its entry's size. -/
def overlayPairs (b : List Byte) : Tbl (List Byte) :=
  (List.range (getLE b 0 2)).foldl (fun t k =>
    let o := 0x10 + 16 * k
    let key := dkey (getLE b o 2) (getLE b (o + 2) 1)
    match entryOf key with
    | some e => Tbl.set t key (((b.drop (o + 8)).take 8).take e.size)
    | none => t) []

/-- The overlay in store for a mode; RESET and BOOT own none. -/
def State.overlayOf (s : State) (m : Mode) : Tbl (List Byte) :=
  if m = .reset ∨ m = .boot then [] else overlayPairs (s.writtenBytes (0x7000 + 0x100 * m.code) 1)

/-- The keys of two tables together. -/
def keysOf {α : Type} (a b : Tbl α) : List Nat := sortDedup (a.map (fun p => p.1) ++ b.map (fun p => p.1))

/-- Revert one overlay and apply another: entries take their new effective values as their apply timing says (R347 step 3,
R352). -/
def State.switchOverlay (s : State) (new : Tbl (List Byte)) : State :=
  let keys := keysOf s.dict.overlay new
  let s := { s with dict := { s.dict with overlay := new } }
  s.forEach keys (fun s k => s.settleKey k true)

/-- Put every staged entry of apply timing mode into force (R347, R358). -/
def State.applyModeEntries (s : State) : State :=
  s.forEach (s.dict.staged.filter (fun k => applyOf k == 2)) (fun s k => s.putForce k (s.writtenBytes (keyIndex k) (keySub k)))

/-- From a boundary on, every head's next latch takes the staged commit entries, with or without a scene, but those that a
scene's check judges (R347 step 4). -/
def State.freeStaged (s : State) : State :=
  { s with dict := { s.dict with freeKeys := s.dict.staged.filter (fun k => applyOf k == 1 && !judgedKey k) } }

/-- The state as it would stand with a mode's overlay and staged mode entries in force, for the checks of R347 step 2. -/
def State.withMode (s : State) (m : Mode) : State := ((s.switchOverlay (s.overlayOf m)).applyModeEntries).freeStaged

/-- Heads whose entries of apply timing mode differ between two states (R347 step 4). -/
def headsRetimed (a b : State) : List Nat :=
  let changed := (keysOf a.dict.force b.dict.force).filter (fun k =>
    applyOf k == 2 && (headOfKey k).isSome && a.cfgBytes (keyIndex k) (keySub k) != b.cfgBytes (keyIndex k) (keySub k))
  sortDedup (changed.filterMap headOfKey)

end Sys2Proof.Machine
end

