-- ==== Sys2Proof/Machine/Transfer.lean ====
section
/-!
DEFINITION. The built-in transfer tables of R143: 1,025 entries of 16 bits each, entry k in bits [16k+15:16k] of one number,
formed as R143 says: round(65,535 F(k / 1,024)), clamped.
-/

namespace Sys2Proof.Machine

/-- The table of sRGB (IEC 61966-2-1). -/
def tableSrgb : Nat :=
  0xFFFFFF6EFEDCFE4BFDBAFD29FC99FC08FB78FAE8FA59F9C9F939F8AAF81BF78CF6FEF66FF5E1F553F4C5F437F3AAF31CF28FF202F175F0E9F05CEFD0EF44EEB8EE2CEDA1ED16EC8AEBFFEB75EAEAEA60E9D6E94CE8C2E838E7AFE725E69CE613E58BE502E47AE3F2E36AE2E2E25AE1D3E14CE0C5E03EDFB7DF31DEAADE24DD9EDD19DC93DC0EDB88DB03DA7FD9FAD975D8F1D86DD7E9D765D6E2D65ED5DBD558D4D6D453D3D0D34ED2CCD24AD1C8D147D0C6D044CFC3CF43CEC2CE42CDC1CD41CCC1CC42CBC2CB43CAC4CA45C9C6C947C8C9C84AC7CCC74EC6D1C653C5D6C559C4DCC45FC3E2C366C2E9C26DC1F1C176C0FAC07FC004BF89BF0EBE93BE19BD9EBD24BCAABC30BBB7BB3EBAC4BA4BB9D2B95AB8E1B869B7F1B779B701B689B612B59BB524B4ADB436B3BFB349B2D3B25DB1E7B171B0FCB087B011AF9DAF28AEB3AE3FADCBAD56ACE3AC6FABFBAB88AB15AAA2AA2FA9BCA94AA8D8A865A7F4A782A710A69FA62EA5BCA54CA4DBA46AA3FAA38AA31AA2AAA23AA1CBA15BA0ECA07DA00F9FA09F319EC39E559DE79D799D0C9C9F9C319BC49B579AEB9A7E9A1299A6993A98CE986297F7978B972096B5964A95E09575950B94A1943793CD936492FA9291922891BF915690EE9085901D8FB58F4D8EE58E7E8E178DAF8D488CE28C7B8C148BAE8B488AE28A7C8A1689B1894C88E68881881D87B8875486EF868B862785C3856084FC8499843683D38370830E82AB824981E78185812380C280607FFF7F9E7F3D7EDC7E7C7E1B7DBB7D5B7CFB7C9B7C3C7BDC7B7D7B1E7ABF7A607A0279A3794578E77889782B77CE7770771376B6765975FC75A0754374E7748B742F73D37378731C72C17266720B71B0715670FB70A170476FED6F936F3A6EE06E876E2E6DD56D7C6D236CCB6C736C1B6BC36B6B6B136ABC6A646A0D69B6695F690968B2685C680667B0675A670466AF6659660465AF655A650564B1645C640863B46360630C62B96265621261BF616C611960C7607460225FD05F7E5F2C5EDA5E895E375DE65D955D445CF45CA35C535C035BB25B635B135AC35A745A2459D55986593858E9589A584C57FE57B05762571456C7567A562C55DF5592554654F954AD5460541453C8537C533152E5529A524F520451B9516E512450D9508F50454FFB4FB14F674F1E4ED54E8C4E424DFA4DB14D684D204CD84C904C484C004BB84B714B2A4AE24A9B4A554A0E49C74981493B48F548AF4869482347DE47994753470E46CA4685464045FC45B84574453044EC44A84465442143DE439B4358431642D34291424E420C41CA41884147410540C44082404140003FC03F7F3F3F3EFE3EBE3E7E3E3E3DFE3DBF3D7F3D403D013CC23C833C443C063BC73B893B4B3B0D3ACF3A923A543A1739DA399D3960392338E638AA386D383137F537B9377E3742370636CB36903655361A35DF35A5356A353034F634BC34823448340F33D5339C3363332A32F132B832803248320F31D7319F3167313030F830C130893052301B2FE42FAE2F772F412F0B2ED42E9E2E692E332DFD2DC82D932D5E2D292CF42CBF2C8A2C562C222BEE2BBA2B862B522B1E2AEB2AB82A852A522A1F29EC29B929872955292228F028BE288D285B282A27F827C7279627652734270326D326A326722642261225E225B325832554252424F524C624972469243A240C23DD23AF23812353232522F822CA229D22702242221521E921BC218F21632137210A20DE20B32087205B203020041FD91FAE1F831F581F2D1F031ED81EAE1E841E5A1E301E061DDD1DB31D8A1D601D371D0E1CE61CBD1C941C6C1C431C1B1BF31BCB1BA31B7C1B541B2D1B061ADE1AB71A901A6A1A431A1D19F619D019AA1984195E1938191318ED18C818A3187D18591834180F17EA17C617A2177D17591735171216EE16CA16A716831660163D161A15F715D515B21590156D154B1529150714E514C414A21481145F143E141D13FC13DB13BB139A137A13591339131912F912D912B9129A127A125B123C121D11FE11DF11C011A11183116411461128110A10EC10CE10B1109310761058103B101E10010FE40FC80FAB0F8E0F720F560F3A0F1E0F020EE60ECA0EAF0E930E780E5D0E420E270E0C0DF10DD70DBC0DA20D880D6E0D540D3A0D200D060CED0CD30CBA0CA10C870C6E0C560C3D0C240C0C0BF30BDB0BC30BAB0B930B7B0B630B4B0B340B1D0B050AEE0AD70AC00AA90A920A7C0A650A4F0A390A220A0C09F609E009CB09B509A0098A09750960094B09360921090C08F708E308CE08BA08A60892087E086A08560842082F081B080807F407E107CE07BB07A8079607830770075E074C073907270715070306F206E006CE06BD06AB069A06890678066706560645063506240614060305F305E305D305C305B305A305930584057405650556054705370528051A050B04FC04EE04DF04D104C204B404A60498048A047C046F0461045404460439042C041E0411040403F803EB03DE03D203C503B903AC03A003940388037C037003650359034D03420337032B03200315030A02FF02F402EA02DF02D402CA02BF02B502AB02A10297028D0283027902700266025C0253024A02400237022E0225021C0214020B020201FA01F101E901E001D801D001C801C001B801B001A801A101990192018A0183017C0175016D0166016001590152014B0145013E01380131012B0125011E01180112010C0107010100FB00F500F000EA00E500E000DA00D500D000CB00C600C100BC00B700B200AD00A800A3009F009A00950090008B00860081007C00770072006D00680063005E00590054004F004A00450040003B00360032002D00280023001E00190014000F000A00050000

/-- The table of BT.709 (the BT.1886 EOTF, E^2.4). -/
def tableBt709 : Nat :=
  0xFFFFFF66FECCFE33FD9AFD02FC69FBD1FB39FAA1FA0AF972F8DBF844F7ADF717F680F5EAF554F4BEF429F394F2FFF26AF1D5F140F0ACF018EF84EEF1EE5DEDCAED37ECA4EC12EB7FEAEDEA5BE9C9E938E8A6E815E784E6F3E663E5D2E542E4B2E423E393E304E275E1E6E157E0C9E03ADFACDF1FDE91DE03DD76DCE9DC5CDBD0DB43DAB7DA2BD99FD914D888D7FDD772D6E7D65DD5D2D548D4BED434D3ABD321D298D20FD186D0FED075CFEDCF65CEDECE56CDCFCD48CCC1CC3ACBB3CB2DCAA7CA21C99BC916C890C80BC786C702C67DC5F9C575C4F1C46DC3EAC366C2E3C260C1DEC15BC0D9C057BFD5BF53BED2BE50BDCFBD4EBCCEBC4DBBCDBB4DBACDBA4DB9CEB94EB8CFB850B7D2B753B6D5B657B5D9B55BB4DDB460B3E3B366B2E9B26DB1F0B174B0F8B07DB001AF86AF0BAE90AE15AD9AAD20ACA6AC2CABB2AB39AABFAA46A9CDA954A8DCA863A7EBA773A6FBA684A60CA595A51EA4A7A430A3BAA344A2CEA258A1E2A16DA0F7A082A00D9F999F249EB09E3C9DC89D549CE19C6D9BFA9B879B149AA29A3099BD994B98DA986897F79785971496A4963395C2955294E2947294039393932492B5924691D7916990FA908C901E8FB08F438ED58E688DFB8D8E8D228CB58C498BDD8B718B068A9A8A2F89C4895988EE8884881987AF874586DB86728608859F853684CD846583FC8394832C82C4825C81F5818D812680BF80587FF27F8B7F257EBF7E597DF47D8E7D297CC47C5F7BFA7B967B317ACD7A697A0579A2793E78DB7878781577B3775076EE768C762A75C87567750574A4744373E27381732172C17261720171A1714170E2708370246FC56F666F086EAA6E4C6DEE6D906D336CD56C786C1B6BBE6B626B056AA96A4D69F16995693A68DE6883682867CD6773671866BE6664660A65B0655764FD64A4644B63F2639A634162E96291623961E1618A613260DB6084602D5FD65F805F2A5ED35E7D5E285DD25D7D5D275CD25C7D5C295BD45B805B2C5AD75A845A3059DC5989593658E35890583E57EB5799574756F556A35652560055AF555E550D54BD546C541C53CC537C532C52DC528D523D51EE519F5151510250B4506550174FC94F7C4F2E4EE14E944E474DFA4DAD4D604D144CC84C7C4C304BE44B994B4E4B024AB84A6D4A2249D8498D494348F948AF4866481C47D3478A474146F846B04667461F45D7458F4547450044B84471442A43E3439C4356431042C94283423D41F841B2416D412740E2409E405940143FD03F8C3F483F043EC03E7C3E393DF63DB33D703D2D3CEB3CA83C663C243BE23BA03B5F3B1D3ADC3A9B3A5A3A1939D939983958391838D838983859381937DA379B375C371D36DE36A03662362435E635A8356A352D34EF34B23475343833FC33BF33833346330A32CF32933257321C31E131A6316B313030F530BB30813046300C2FD32F992F602F262EED2EB42E7B2E422E0A2DD22D992D612D292CF22CBA2C832C4B2C142BDD2BA62B702B392B032ACD2A972A612A2B29F629C0298B2956292128EC28B72883284F281A27E627B3277F274B271826E526B2267F264C261925E725B425822550251E24ED24BB248A2458242723F623C6239523642334230422D422A422742244221521E621B721882159212A20FB20CD209F2071204320151FE71FBA1F8C1F5F1F321F051ED81EAC1E7F1E531E271DFB1DCF1DA31D781D4C1D211CF61CCB1CA01C751C4B1C201BF61BCC1BA21B781B4E1B251AFB1AD21AA91A801A571A2E1A0619DD19B5198D1965193D191518EE18C6189F18781851182A180417DD17B71790176A1744171E16F916D316AE16881663163E161915F515D015AC15871563153F151B14F714D414B0148D146A14471424140113DE13BC139A137713551333131112F012CE12AD128B126A12491228120811E711C711A61186116611461126110710E710C810A81089106A104B102D100E0FF00FD10FB30F950F770F590F3B0F1E0F000EE30EC60EA90E8C0E6F0E530E360E1A0DFE0DE10DC50DAA0D8E0D720D570D3B0D200D050CEA0CCF0CB50C9A0C800C650C4B0C310C170BFD0BE40BCA0BB10B970B7E0B650B4C0B330B1B0B020AEA0AD10AB90AA10A890A710A590A420A2A0A1309FC09E509CE09B709A0098A0973095D09470930091B090508EF08D908C408AE08990884086F085A08450830081C080707F307DF07CB07B707A3078F077C076807550741072E071B070806F606E306D006BE06AB069906870675066306510640062E061D060B05FA05E905D805C705B605A6059505850574056405540544053405250515050504F604E704D704C804B904AA049B048D047E047004610453044504370429041B040D040003F203E503D703CA03BD03B003A30396038A037D037103640358034C034003340328031C0310030502F902EE02E302D802CD02C202B702AC02A10297028C02820278026D02630259024F0246023C02320229021F0216020D020401FA01F201E901E001D701CF01C601BE01B501AD01A5019D0195018D0185017E0176016F0167016001590152014A0144013D0136012F01280122011B0115010F0109010200FC00F600F100EB00E500DF00DA00D400CF00CA00C500BF00BA00B500B000AC00A700A2009E009900950090008C008800840080007C007800740070006C006900650062005E005B005800540051004E004B0048004500430040003D003B0038003600330031002F002C002A00280026002400220021001F001D001B001A0018001700150014001300110010000F000E000D000C000B000A00090008000700070006000500050004000400030003000200020002000100010001000100000000000000000000000000000000

/-- The table of PQ (SMPTE ST 2084). -/
def tablePq : Nat :=
  0xFFFFFD9EFB44F8EFF6A0F457F213EFD5ED9CEB69E93BE713E4F0E2D2E0B9DEA6DC97DA8ED88AD68AD490D29AD0A9CEBDCCD5CAF2C914C73BC565C395C1C8C001BE3DBC7EBAC3B90CB759B5ABB400B25AB0B7AF19AD7EABE8AA55A8C6A73BA5B3A42FA2AFA1339FBA9E449CD39B6499F99892972E95CD946F931591BE906A8F1A8DCC8C828B3B89F788B68777863C850483CF829C816D80407F167DEF7CCB7BA97A8A796E7854773D76297517740772FB71F070E86FE36EE06DE06CE16BE56AEC69F56900680D671D662E654264596371628B61A860C75FE75F0A5E2F5D565C7F5BA95AD65A0559365868579D56D3560B5545548153BE52FE523F518250C6500D4F554E9E4DEA4D374C854BD64B284A7B49D04927487F47D84734469045EE454E44AF4412437642DB424241AA4113407E3FEB3F583EC73E373DA93D1C3C903C053B7C3AF43A6D39E7396338E0385D37DD375D36DE366135E5356934EF347633FE33883312329D322931B7314530D530652FF72F892F1D2EB12E462DDD2D742D0C2CA62C402BDB2B772B132AB12A5029EF298F293128D32875281927BE2763270926B02658260025AA255424FF24AA2457240423B22360230F22BF2270222221D42187213A20EE20A32059200F1FC61F7D1F361EEE1EA81E621E1D1DD81D941D501D0D1CCB1C891C481C081BC81B881B4A1B0B1ACE1A901A541A1819DC19A11967192D18F318BA1882184A181217DB17A5176F1739170416CF169B16681634160215CF159E156C153B150B14DA14AB147B144D141E13F013C213951368133C131012E412B9128E12641239121011E611BD1195116C1144111D10F610CF10A81082105C103610110FEC0FC80FA30F800F5C0F390F160EF30ED10EAF0E8D0E6B0E4A0E290E090DE80DC80DA90D890D6A0D4B0D2C0D0E0CF00CD20CB40C970C7A0C5D0C410C240C080BED0BD10BB60B9B0B800B650B4B0B310B170AFD0AE40ACA0AB10A990A800A680A500A380A200A0809F109DA09C309AC09960980096A0954093E0928091308FE08E908D408C008AB08970883086F085C084808350821080E07FC07E907D607C407B207A0078E077C076B07590748073707260715070506F406E406D406C406B406A40694068506750666065706480639062A061C060D05FF05F105E305D505C705B905AC059E059105840577056A055D055005440537052B051E0512050604FA04EE04E204D704CB04C004B404A9049E04930488047D04720468045D04530448043E0434042A04200416040C040203F803EF03E503DC03D303C903C003B703AE03A5039C0393038B0382037A0371036903610358035003480340033803300328032103190311030A030302FB02F402ED02E502DE02D702D002C902C202BC02B502AE02A802A1029A0294028E02870281027B0275026F02680262025D02570251024B02450240023A0234022F02290224021F02190214020F020A020401FF01FA01F501F001EB01E701E201DD01D801D401CF01CA01C601C101BD01B801B401B001AB01A701A3019F019A01960192018E018A01860182017E017B01770173016F016C016801640161015D015901560152014F014C014801450142013E013B013801350131012E012B012801250122011F011C0119011601130110010E010B010801050102010000FD00FA00F800F500F300F000EE00EB00E900E600E400E100DF00DD00DA00D800D600D300D100CF00CD00CA00C800C600C400C200C000BE00BC00BA00B800B600B400B200B000AE00AC00AA00A800A600A500A300A1009F009D009C009A009800970095009300920090008E008D008B008A008800870085008400820081007F007E007C007B007A0078007700760074007300720070006F006E006C006B006A00690068006600650064006300620061005F005E005D005C005B005A0059005800570056005500540053005200510050004F004E004D004C004B004A004900480048004700460045004400430042004200410040003F003E003E003D003C003B003B003A003900380038003700360036003500340034003300320032003100300030002F002F002E002D002D002C002C002B002A002A002900290028002800270027002600260025002500240024002300230022002200210021002000200020001F001F001E001E001D001D001D001C001C001B001B001B001A001A001900190019001800180018001700170017001600160016001500150015001400140014001400130013001300120012001200120011001100110010001000100010000F000F000F000F000F000E000E000E000E000D000D000D000D000D000C000C000C000C000C000B000B000B000B000B000A000A000A000A000A000A000900090009000900090009000800080008000800080008000800070007000700070007000700070006000600060006000600060006000600060005000500050005000500050005000500050005000400040004000400040004000400040004000400040003000300030003000300030003000300030003000300030003000300030002000200020002000200020002000200020002000200020002000200020002000200020002000100010001000100010001000100010001000100010001000100010001000100010001000100010001000100010001000100010001000100010001000100010001000000000000000000000000000000000000000000000000000000000000000000000000000000000000000000000000000000000000000000000000000000000000000000000000000000000000000000000000000000000000000000000000000000000000000000000000000000000000

/-- The table of HLG (the inverse OETF of BT.2100). -/
def tableHlg : Nat :=
  0xFFFFFEA3FD48FBEFFA99F944F7F1F69FF550F403F2B7F16DF025EEDFED9AEC57EB16E9D7E899E75EE623E4EBE3B4E27FE14CE01ADEEADDBCDC90DB64DA3BD913D7EDD6C9D5A6D484D364D246D129D00ECEF5CDDDCCC6CBB1CA9EC98CC87BC76CC65FC552C448C33FC237C131C02CBF28BE26BD26BC26BB29BA2CB931B837B73FB648B552B45EB36BB279B189B09AAFACAEC0ADD5ACEBAC02AB1BAA35A950A86CA78AA6A9A5C9A4EAA40DA331A256A17CA0A39FCC9EF59E209D4C9C799BA89AD79A089939986C97A096D5960B9543947B93B592EF922B916790A58FE48F248E658DA78CEA8C2E8B738AB98A008948889187DB8726867285BF850D845C83AC82FD824F81A280F5804A7FA07EF67E4E7DA67CFF7C5A7BB57B117A6E79CB792A788A77EA774B76AD7610757474D9743F73A5730C727471DD714770B1701D6F896EF66E646DD26D426CB26C236B946B076A7A69EE696368D9684F67C6673E66B6662F65A9652464A0641C639963166295621461936114609560175F995F1D5EA05E255DAA5D305CB75C3E5BC65B4E5AD75A6159EC59775903588F581C57AA573856C7565655E655775508549A542D53C0535452E8527D521251A8513F50D6506E50064F9F4F394ED34E6D4E084DA44D404CDD4C7A4C184BB64B554AF54A954A3549D64978491A48BC485F480347A7474C46F14696463C45E3458A453144D94482442B43D4437E432942D3427F422A41D74183413140DE408C403B3FEA3F993F493EF93EAA3E5B3E0C3DBE3D713D233CD73C8A3C3E3BF33BA83B5D3B133AC93A7F3A3639EE39A5395D391638CF3888384237FC37B63771372C36E836A43660361D35DA35973555351334D13490344F340F33CF338F3350331032D232933255321831DA319D3161312430E830AC307130362FFB2FC12F872F4D2F132EDA2EA12E692E312DF92DC12D8A2D532D1C2CE62CAF2C7A2C442C0F2BDA2BA52B712B3D2B092AD52AA22A6F2A3C2A0A29D829A629742943291228E128B128802850282127F127C2279327642736270826DA26AC267F2651262425F825CB259F25732547251C24F124C6249B24702446241C23F223C8239F2376234D232422FB22D322AB2283225B2234220D21E621BF21982172214C2126210020DB20B52090206B204720221FFE1FDA1FB61F921F6E1F4B1F281F051EE21EBF1E9D1E7B1E591E371E151DF41DD31DB11D911D701D4F1D2F1D0F1CEF1CCF1CAF1C8F1C701C511C321C131BF41BD61BB81B991B7B1B5E1B401B221B051AE81ACB1AAE1A911A751A581A3C1A201A0419E819CC19B11995197A195F1944192A190F18F418DA18C018A6188C18721859183F1826180D17F417DB17C217A9179117781760174817301718170016E916D116BA16A3168C1675165E16471631161A160415ED15D715C115AC15961580156B15551540152B1515150014EB14D614C114AC14971482146D14581443142F141A140513F113DC13C713B3139E138A13761361134D13391324131012FC12E812D412C012AC129812841270125C124912351221120E11FA11E611D311BF11AC119911851172115F114B11381125111210FF10EC10D910C610B310A0108D107B1068105510431030101D100B0FF80FE60FD40FC10FAF0F9D0F8A0F780F660F540F420F300F1E0F0C0EFA0EE80ED60EC50EB30EA10E900E7E0E6C0E5B0E490E380E270E150E040DF30DE10DD00DBF0DAE0D9D0D8C0D7B0D6A0D590D480D370D270D160D050CF50CE40CD30CC30CB20CA20C920C810C710C610C500C400C300C200C100C000BF00BE00BD00BC00BB00BA10B910B810B720B620B520B430B330B240B150B050AF60AE70AD70AC80AB90AAA0A9B0A8C0A7D0A6E0A5F0A500A410A330A240A150A0709F809E909DB09CC09BE09B009A10993098509760968095A094C093E093009220914090608F808EA08DD08CF08C108B408A60898088B087D0870086308550848083B082D08200813080607F907EC07DF07D207C507B807AB079F079207850779076C075F07530746073A072E07210715070906FC06F006E406D806CC06C006B406A8069C069006840679066D06610656064A063E06330627061C0611060505FA05EF05E305D805CD05C205B705AC05A10596058B05800575056B05600555054B05400536052B05210516050C050104F704ED04E304D804CE04C404BA04B004A6049C04920488047F0475046B04610458044E0445043B04320428041F0415040C040303FA03F003E703DE03D503CC03C303BA03B103A803A00397038E0385037D0374036C0363035B0352034A03410339033103290320031803100308030002F802F002E802E002D902D102C902C102BA02B202AB02A3029C0294028D0285027E0277027002680261025A0253024C0245023E02370230022A0223021C0215020F0208020201FB01F501EE01E801E101DB01D501CF01C801C201BC01B601B001AA01A4019E01980193018D01870181017C01760171016B01660160015B01550150014B01460140013B01360131012C01270122011D01180114010F010A0105010100FC00F800F300EF00EA00E600E100DD00D900D500D000CC00C800C400C000BC00B800B400B000AD00A900A500A1009E009A009700930090008C008900850082007F007C007800750072006F006C0069006600630060005E005B0058005500530050004E004B0049004600440041003F003D003B00380036003400320030002E002C002A002800270025002300210020001E001D001B001A0018001700150014001300120010000F000E000D000C000B000A0009000800080007000600050005000400040003000300020002000100010001000100000000000000000000

/-- Entry `k` of the table of a TRANSFER code (R75): 0 sRGB, 1 BT.709, 2 PQ, 3 HLG. -/
def transferEntry (t k : Nat) : Nat :=
  (match t with | 0 => tableSrgb | 1 => tableBt709 | 2 => tablePq | _ => tableHlg) >>> (16 * k) % 65536

/-- TransferTable as a dictionary entry reads it (R151). -/
def transferBytes (t : Nat) : List Byte := (List.range 1025).flatMap (fun k => leBytes 2 (transferEntry t k))

end Sys2Proof.Machine
end

