-- ==== Sys2Proof/Machine/Pixels.lean ====
section
/-!
DEFINITION. The pixels of a band to the bit: unpacking (R108 to R111), interpolated tables (R140, R141), the per-layer colour
path (R142 to R145), alpha and premultiplication (R112), the scaler (R129 to R139), layer alpha (R113), the Drapery (R56 to
R58), blending (R114 to R117), and the fault drapery and the fault card (R121, R178).
-/

namespace Sys2Proof.Machine

/-! ## Values -/

/-- A pixel with its alpha. -/
structure Smp where
  c : Px
  a : Nat
  deriving DecidableEq, Repr

def Px.zero : Px := { r := 0, g := 0, b := 0 }
def Smp.zero : Smp := { c := Px.zero, a := 0 }
def Px.map (f : Nat → Nat) (p : Px) : Px := { r := f p.r, g := f p.g, b := f p.b }
def Px.zip (f : Nat → Nat → Nat) (p q : Px) : Px := { r := f p.r q.r, g := f p.g q.g, b := f p.b q.b }

/-- round(x × y / 65,535). -/
def mul16 (x y : Nat) : Nat := roundDivN (x * y) 65535

/-! ## Unpacking -/

/-- A word of ARGB8888. -/
def unpackArgb (w : Nat) : Smp :=
  { c := { r := field w 23 16 * 257, g := field w 15 8 * 257, b := field w 7 0 * 257 }, a := field w 31 24 * 257 }

/-- A binary16 value as a 16-bit component: clamp(round(f × 65,535), 0, 65,535); NaN gives 0 (R108). -/
def unpackHalf (w : Nat) : Nat :=
  let e := field w 14 10
  let m := field w 9 0
  if e = 31 then (if m ≠ 0 ∨ bit w 15 then 0 else 65535)
  else if bit w 15 then 0
  else
    let v := if e = 0 then m else 1024 + m
    let k := if e = 0 then 1 else e
    Nat.min 65535 (if 25 ≤ k then 65535 * v * 2 ^ (k - 25) else roundDivN (65535 * v) (2 ^ (25 - k)))

/-- The YCbCr coefficients of R109: k_rv, k_gu, k_gv, k_bu; `wide` chooses BT.2020. -/
def yccCoef (wide : Bool) : Int × Int × Int × Int := if wide then (6040, 674, 2340, 7706) else (6450, 767, 1917, 7601)

/-- The YCbCr conversion of R109: each expression exact, rounded once. -/
def unpackYcc (wide : Bool) (y cb cr : Nat) : Px :=
  let (rv, gu, gv, bu) := yccCoef wide
  let luma : Int := ((y : Int) - 64) * 3670016
  let u : Int := (cb : Int) - 512
  let v : Int := (cr : Int) - 512
  let out (chroma : Int) : Nat := clampN (roundDiv (65535 * (luma + chroma * 876)) (876 * 3670016)) 0 65535
  { r := out (rv * v), g := out (-(gu * u + gv * v)), b := out (bu * u) }

/-- Which YCbCr set a layer uses. -/
def wideYcc (c : Option Colour) : Bool :=
  match c with
  | none => false
  | some c => c.ycc == 2 || (c.ycc == 0 && (c.transfer == 2 || c.transfer == 3))

/-- Unpack pixel (x, y) of a buffer at `addr`, its palette at `pal` (R108, R110, R111). -/
def unpackPixel (mem : List Host.Cell) (r : Reg) (addr pal : Nat) (wide : Bool) (x y : Nat) : Smp :=
  let line := addr + y * r.stride
  let get (a n : Nat) : Nat := leNat (Memory.read mem a n)
  let chroma := addr + r.chroma + y / 2 * r.stride
  match r.format with
  | 0 => unpackArgb (get (line + 4 * x) 4)
  | 1 => { unpackArgb (get (line + 4 * x) 4) with a := 65535 }
  | 2 =>
    let w := get (line + 4 * x) 4
    let up (v : Nat) : Nat := roundDivN (v * 65535) 1023
    { c := { r := up (field w 29 20), g := up (field w 19 10), b := up (field w 9 0) }, a := field w 31 30 * 21845 }
  | 3 =>
    let w := get (line + 2 * x) 2
    { c := { r := roundDivN (field w 15 11 * 65535) 31, g := roundDivN (field w 10 5 * 65535) 63,
             b := roundDivN (field w 4 0 * 65535) 31 }, a := 65535 }
  | 4 =>
    let p := line + 8 * x
    { c := { r := unpackHalf (get p 2), g := unpackHalf (get (p + 2) 2), b := unpackHalf (get (p + 4) 2) },
      a := unpackHalf (get (p + 6) 2) }
  | 5 =>
    let q := chroma + 2 * (x / 2)
    { c := unpackYcc wide (4 * get (line + x) 1) (4 * get q 1) (4 * get (q + 1) 1), a := 65535 }
  | 6 =>
    let q := chroma + 4 * (x / 2)
    { c := unpackYcc wide (get (line + 2 * x) 2 / 64) (get q 2 / 64) (get (q + 2) 2 / 64), a := 65535 }
  | 7 => unpackArgb (get (pal + 4 * get (line + x) 1) 4)
  | _ => unpackArgb (if (get (line + x / 8) 1).testBit (x % 8) then r.maskFg else r.maskBg)

/-! ## Interpolated tables -/

/-- D[k] + round((D[k + 1] − D[k]) × r / w). -/
def interpolate (a b r w : Nat) : Nat := clampN ((a : Int) + roundDiv (((b : Int) - a) * r) w) 0 65535

/-- The entry past the end of a stored table: clamp(2·last − last but one). -/
def beyond (last prev : Nat) : Nat := clampN (2 * (last : Int) - prev) 0 65535

/-- A uniform table (R140) of entries `d` k, entry 1,024 included. -/
def uniform (d : Nat → Nat) (x : Nat) : Nat := interpolate (d (x / 64)) (d (x / 64 + 1)) (x % 64) 64

/-- A stored list as a uniform table of 1,024 entries. -/
def listUniform (l : List Nat) (k : Nat) : Nat := if k < 1024 then l.getD k 0 else beyond (l.getD 1023 0) (l.getD 1022 0)

/-- An octave table (R141) of 4,096 entries `t` i. -/
def octave (t : Nat → Nat) (x : Nat) : Nat :=
  let at4 (i : Nat) : Nat := if i < 4096 then t i else beyond (t 4095) (t 4094)
  if x < 512 then t x
  else
    let e := Nat.log2 x
    let w := 2 ^ (e - 9)
    let i := 512 * (e - 8) + (x - 2 ^ e) / w
    interpolate (at4 i) (at4 (i + 1)) ((x - 2 ^ e) % w) w

/-! ## The per-layer colour path (R142) -/

/-- Output row of the matrix (R144). -/
def matrixRow (m : List Int) (row : Nat) (p : Px) : Nat :=
  let c (k : Nat) : Int := m.getD (3 * row + k) 0
  clampN (roundDiv (c 0 * p.r + c 1 * p.g + c 2 * p.b) 4096) 0 65535

/-- Stage 2 of R107. -/
def colourPath (c : Option Colour) (tone : Option Tone) (p : Px) : Px :=
  let p := match c with
    | none => p
    | some c =>
      let p := if c.transfer < 4 then p.map (uniform (transferEntry c.transfer)) else p
      let p := match c.lut with | some l => p.map (uniform (listUniform l)) | none => p
      match c.matrix with
      | some m => { r := matrixRow m 0 p, g := matrixRow m 1 p, b := matrixRow m 2 p }
      | none => p
  match tone with
  | some t => p.map (octave (fun i => t.lut.getD i 0))
  | none => p

/-! ## What a layer's pixels are made of -/

/-- A layer as a band composes it: the records it names, its source and buffer, and the coefficient sets it uses. -/
structure LayerSrc where
  lay  : Layer
  reg  : Reg
  addr : Nat
  pal  : Nat
  col  : Option Colour
  tone : Option Tone
  setH : Option (List Byte)
  setV : Option (List Byte)
  two  : Bool
  deriving DecidableEq, Repr

/-- Stages 1 to 4 at column `x` and line `y` of the buffer: the premultiplied sample, and whether it is a key pixel (R112,
R116). -/
def LayerSrc.source (mem : List Host.Cell) (l : LayerSrc) (x y : Nat) : Smp × Bool :=
  let u := unpackPixel mem l.reg l.addr l.pal (wideYcc l.col) x y
  let c := colourPath l.col l.tone u.c
  let key := l.lay.blend == 4 && c == l.lay.key
  let plain := l.lay.opaq || opaqueFormat l.reg.format || l.lay.blend == 4
  let a := if plain then 65535 else u.a
  let pm := if plain then c else if l.reg.straight then c.map (fun v => mul16 v a) else c.map (fun v => Nat.min v a)
  ({ c := pm, a := a }, key)

/-- The edge rule of R130 for one direction: the position sampled, none under ZERO outside the crop. -/
def edge (zero : Bool) (n : Int) (size : Nat) : Option Nat :=
  if zero ∧ (n < 0 ∨ (size : Int) ≤ n) then none else some (clampN n 0 (size - 1))

/-- The sample s(n, m) of R133. -/
def LayerSrc.sample (mem : List Host.Cell) (l : LayerSrc) (n m : Int) : Smp × Bool :=
  match edge l.lay.zero n l.lay.cropW, edge l.lay.zero m l.lay.cropH with
  | some x, some y => l.source mem (l.lay.cropX + x) (l.lay.cropY + y)
  | _, _ => (Smp.zero, false)

/-- Coefficient `t` of phase `φ` of a set with `k` taps (R136). -/
def coefficient (set : List Byte) (k φ t : Nat) : Int := getSLE set (0x10 + 2 * (φ * k + t)) 2

/-- The taps of one direction: offset and weight; `first` is the offset of tap 0 and the two-tap set stands at taps `−first`
and `1 − first` (R132, R139). One tap of weight 1 when the direction is point-sampled. -/
def taps (set : Option (List Byte)) (two : Bool) (k : Nat) (first : Int) (φ : Nat) : List (Int × Int) :=
  match set with
  | none => [(0, 1)]
  | some b =>
    if two then [(0, 1024 - 16 * (φ : Int)), (1, 16 * (φ : Int))]
    else (List.range k).map (fun (t : Nat) => (first + (t : Int), coefficient b k φ t))

/-- Stage 5: the scaled values at a source position p, q in 1/65,536 pixel (R129, R133). -/
def LayerSrc.scaled (mem : List Host.Cell) (l : LayerSrc) (p q : Int) : Smp × Bool :=
  let n := p / 65536
  let m := q / 65536
  let φ (v : Int) : Nat := ((v % 65536) / 1024).toNat
  if l.setH.isNone ∧ l.setV.isNone then l.sample mem n m
  else
    let th := taps l.setH l.two 8 (-3) (φ p)
    let tv := taps l.setV l.two 6 (-2) (φ q)
    let den := (if l.setH.isSome then 1024 else 1) * (if l.setV.isSome then 1024 else 1)
    let sum := tv.foldl (fun acc v => th.foldl (fun (acc : Int × Int × Int × Int) h =>
      let x := (l.sample mem (n + h.1) (m + v.1)).1
      let w := v.2 * h.2
      (acc.1 + w * x.c.r, acc.2.1 + w * x.c.g, acc.2.2.1 + w * x.c.b, acc.2.2.2 + w * x.a)) acc)
      ((0, 0, 0, 0) : Int × Int × Int × Int)
    let a := clampN (roundDiv sum.2.2.2 den) 0 65535
    let c (v : Int) : Nat := clampN (roundDiv v den) 0 a
    ({ c := { r := c sum.1, g := c sum.2.1, b := c sum.2.2.1 }, a := a }, false)

/-- Stages 1 to 6 for the pixel at wall coordinates (xw, yw) (R113, R129). -/
def LayerSrc.pixel (mem : List Host.Cell) (l : LayerSrc) (xw yw : Int) : Smp × Bool :=
  let (s, key) := l.scaled mem (l.lay.initH + (xw - l.lay.dst.x0) * l.lay.stepH) (l.lay.initV + (yw - l.lay.dst.y0) * l.lay.stepV)
  if key then (Smp.zero, true)
  else ({ c := s.c.map (fun v => mul16 v l.lay.alpha), a := mul16 s.a l.lay.alpha }, false)

/-! ## Drapery (R56, R57) -/

/-- The value of an entry in a frame's snapshot of the values in force. -/
def cfgIn (t : Tbl (List Byte)) (index sub : Nat) : Nat :=
  leNat (match Tbl.find? t (dkey index sub) with
    | some v => v
    | none => match findEntry index sub with | some e => e.dfltBytes | none => [])

/-- The value of a DOMAIN entry in the snapshot, none while it holds its default. -/
def domainIn (t : Tbl (List Byte)) (index sub : Nat) : Option (List Byte) := Tbl.find? t (dkey index sub)

/-- A colour entry. -/
def colourIn (t : Tbl (List Byte)) (index sub : Nat) : Px := working (cfgIn t index sub)

/-- Inside a rectangle. -/
def Rect.has (r : Rect) (x y : Int) : Bool := decide (r.x0 ≤ x ∧ x < r.x1 ∧ r.y0 ≤ y ∧ y < r.y1)

/-- In the border of width k of a rectangle (R56). -/
def Rect.border (r : Rect) (k : Nat) (x y : Int) : Bool :=
  decide (x < r.x0 + k ∨ r.x1 - k ≤ x ∨ y < r.y0 + k ∨ r.y1 - k ≤ y)

/-- How a layer is treated in a band. -/
inductive Treat where
  | normal | aging | stale | withheld | noData
  deriving DecidableEq, Repr

/-- The treatment a decision record calls for (R48, R105, R117, R177). -/
def LayerDec.treat (d : LayerDec) : Treat :=
  if d.shed || d.bounds then .withheld
  else match d.state with
    | 1 => .withheld
    | 2 => .noData
    | 3 => .withheld
    | 4 => .stale
    | 5 => .stale
    | 6 => if d.reg.elim false (fun r => r.agingBorder) then .aging else .normal
    | _ => .normal

/-- A layer that draws no source content. -/
def Treat.reads (t : Treat) : Bool := t != .withheld && t != .noData

/-- Stage 7 (R57): the pixel, and whether it blends with OVER whatever BLEND says. -/
def drape (cfg : Tbl (List Byte)) (mark : Rect) (t : Treat) (xw yw : Int) (s : Smp) : Smp × Bool :=
  let inside := mark.has xw yw
  let solid (i k : Nat) : Smp × Bool := ({ c := colourIn cfg i k, a := 65535 }, true)
  match t with
  | .normal => (s, false)
  | .aging => if inside && mark.border 2 xw yw then solid 0x3104 1 else (s, false)
  | .stale =>
    if !inside then (s, false)
    else if mark.border 4 xw yw then solid 0x3101 3
    else if (xw + yw) % 16 < 4 then
      let ah := cfgIn cfg 0x3101 2
      let h := colourIn cfg 0x3101 1
      ({ c := h.zip (fun v c => mul16 v ah + mul16 c (65535 - ah)) s.c, a := ah + mul16 s.a (65535 - ah) }, true)
    else (s, true)
  | .withheld =>
    if inside && mark.border 4 xw yw then solid 0x3102 3
    else if inside && decide ((xw - yw) % 16 < 4) then solid 0x3102 2
    else solid 0x3102 1
  | .noData =>
    if inside && mark.border 4 xw yw then solid 0x3103 3
    else if inside && decide ((xw + yw) % 32 < 2 ∨ (xw - yw) % 32 < 2) then solid 0x3103 2
    else solid 0x3103 1

/-! ## Blending (R115) -/

/-- Stage 8 for a layer's pixel over the stack. -/
def blend (mode : Nat) (atop key : Bool) (s : Smp) (d : Px) : Px :=
  let below (v : Nat) : Nat := mul16 v (65535 - s.a)
  if atop then s.c.zip (fun c v => c + below v) d
  else match mode with
    | 1 => s.c
    | 2 => s.c.zip (fun c v => Nat.min 65535 (v + c)) d
    | 3 => s.c.zip (fun c v => mul16 c v + below v) d
    | 4 => if key then d else s.c.zip (fun c v => c + below v) d
    | _ => s.c.zip (fun c v => c + below v) d

/-! ## A tile -/

/-- What a band composes a layer from: its place, its decision and its source when it reads one. -/
structure Drawn where
  use : Use
  dec : LayerDec
  src : Option LayerSrc
  deriving DecidableEq, Repr

/-- One layer's contribution at active pixel (x, y). -/
def Drawn.onto (mem : List Host.Cell) (cfg : Tbl (List Byte)) (a : Area) (x y : Nat) (d : Px) (l : Drawn) : Px :=
  if x < l.use.x0 ∨ l.use.x1 ≤ x ∨ y < l.use.y0 ∨ l.use.y1 ≤ y then d
  else
    let xw : Int := (x : Int) + a.ox
    let yw : Int := (y : Int) + a.oy
    let t := l.dec.treat
    let (s, key) := match l.src with
      | some src => if t.reads then src.pixel mem xw yw else (Smp.zero, false)
      | none => (Smp.zero, false)
    let (s, atop) := drape cfg l.use.lay.mark t xw yw s
    blend l.use.lay.blend atop key s d

/-- The pixels of tile `k` of band `b`, line by line (R100, R103, R114): only the lines that are present. -/
def composeTile (mem : List Host.Cell) (cfg : Tbl (List Byte)) (a : Area) (b k : Nat) (background : Px) (l : List Drawn) : List Px :=
  let keep := (contributing a b k (l.map (fun d => d.use))).map (fun u => u.idx)
  let l := l.filter (fun d => keep.contains d.use.idx)
  let x0 := 128 * k
  let w := Nat.min (128 * k + 128) a.ha - x0
  (List.range (a.bandEnd b - 8 * b)).flatMap (fun j => (List.range w).map (fun i =>
    l.foldl (fun d u => u.onto mem cfg a (x0 + i) (8 * b + j) d) background))

/-- The fault drapery of R121 at wall coordinates. -/
def faultPixel (cfg : Tbl (List Byte)) (xw yw : Nat) : Px :=
  if (xw / 8 + yw / 8) % 2 = 0 then colourIn cfg 0x3105 1 else colourIn cfg 0x3105 2

/-- The fault card of R178 at active pixel (x, y). -/
def cardPixel (cfg : Tbl (List Byte)) (a : Area) (x y : Nat) : Px :=
  let xw : Int := (x : Int) + a.ox
  let yw : Int := (y : Int) + a.oy
  if x < 16 ∨ a.ha ≤ x + 16 ∨ y < 16 ∨ a.va ≤ y + 16 ∨ (xw - yw) % 64 < 8 then colourIn cfg 0x3105 1 else colourIn cfg 0x3105 2

end Sys2Proof.Machine
end

