-- ==== Sys2Proof/Machine/HeadPath.lean ====
section
/-!
DEFINITION. The per-head colour path to the bit (R146 to R149): the 3D LUT, the uniformity gain, the output encode, dither
and depth; and the Lantern pixel word (R185).
-/

namespace Sys2Proof.Machine

/-- OutputDepth in bits (R152). -/
def depthBits (code : Nat) : Nat := match code with | 0 => 6 | 1 => 8 | 2 => 10 | _ => 12

/-- A component of node (a, b, c) of the 3D LUT (R147); `k` 0 red, 1 green, 2 blue. -/
def lutNode (t : Option (List Byte)) (a b c k : Nat) : Nat :=
  match t with
  | some l => getLE l (6 * (a + 33 * b + 1089 * c) + 2 * k) 2
  | none => roundDivN ((match k with | 0 => a | 1 => b | _ => c) * 65535) 32

/-- Order three fractions, the greatest first; equal ones red, then green, then blue (R147). -/
def sortFractions (fr fg fb : Nat) : List (Nat × Nat) :=
  let ins (x : Nat × Nat) (l : List (Nat × Nat)) : List (Nat × Nat) :=
    (l.takeWhile (fun y => decide (x.2 ≤ y.2))) ++ [x] ++ l.dropWhile (fun y => decide (x.2 ≤ y.2))
  ins (2, fb) (ins (1, fg) [(0, fr)])

/-- Stage 1: tetrahedral interpolation (R147). -/
def lut3D (t : Option (List Byte)) (p : Px) : Px :=
  let idx (x : Nat) : Nat := Nat.min (32 * x / 65535) 31
  let fr (x : Nat) : Nat := 32 * x - 65535 * idx x
  let s := sortFractions (fr p.r) (fr p.g) (fr p.b)
  let f (k : Nat) : Nat := (s.getD k (0, 0)).2
  let top (n : Nat) (comp : Nat) : Nat := if (s.take n).any (fun x => x.1 == comp) then 1 else 0
  let node (n k : Nat) : Nat := lutNode t (idx p.r + top n 0) (idx p.g + top n 1) (idx p.b + top n 2) k
  let out (k : Nat) : Nat :=
    roundDivN ((65535 - f 0) * node 0 k + (f 0 - f 1) * node 1 k + (f 1 - f 2) * node 2 k + f 2 * node 3 k) 65535
  { r := out 0, g := out 1, b := out 2 }

/-- The grid a gain map of an active area needs (R148). -/
def gainGrid (ha va : Nat) : Nat × Nat := (ceilDiv ha 16 + 1, ceilDiv va 16 + 1)

/-- GW and GH of a map. -/
def mapGrid (l : List Byte) : Nat × Nat := (getLE l 0 2, getLE l 2 2)

/-- A map is the empty map. -/
def mapEmpty (l : List Byte) : Bool := mapGrid l == (0, 0)

/-- A gain: component `k` (0 red, 1 green, 2 blue) of node (u, v), laid out as R58. -/
def gainNode (l : List Byte) (gw u v k : Nat) : Nat := getLE l (8 + 8 * (u + gw * v) + (4 - 2 * k)) 2

/-- Stage 2: bilinear gain (R148). -/
def gainPixel (l : List Byte) (x y : Nat) (p : Px) : Px :=
  let gw := (mapGrid l).1
  let u := x / 16
  let v := y / 16
  let gx := x % 16
  let gy := y % 16
  let s (k : Nat) : Nat :=
    (16 - gx) * (16 - gy) * gainNode l gw u v k + gx * (16 - gy) * gainNode l gw (u + 1) v k
      + (16 - gx) * gy * gainNode l gw u (v + 1) k + gx * gy * gainNode l gw (u + 1) (v + 1) k
  let out (c k : Nat) : Nat := Nat.min 65535 (roundDivN (c * s k) 8388608)
  { r := out p.r 0, g := out p.g 1, b := out p.b 2 }

/-- The dither table of R149, row by row. -/
def ditherB (x y : Nat) : Nat := [0, 8, 2, 10, 12, 4, 14, 6, 3, 11, 1, 9, 15, 7, 13, 5].getD (4 * y + x) 0

/-- Stage 4: the value at `n` bits (R149). -/
def ditherValue (ordered : Bool) (n frame x y v : Nat) : Nat :=
  let q := v * (2 ^ n - 1)
  if ordered then
    let p := frame % 16
    (32 * q + 65535 * (2 * ditherB ((x + p) % 4) ((y + p / 4) % 4) + 1)) / 2097120
  else roundDivN q 65535

/-- The head colour path of R146 for one pixel, with the entries in force for its frame. -/
def headPixel (cfg : Tbl (List Byte)) (h depth frame : Nat) (a : Area) (x y : Nat) (p : Px) : Px :=
  let i := 0x4030 + 0x100 * h
  let on (sub : Nat) : Bool := cfgIn cfg i sub != 0
  let p := if on 2 then lut3D (domainIn cfg i 1) p else p
  let p := match domainIn cfg i 3 with
    | some m => if on 4 && mapGrid m == gainGrid a.ha a.va then gainPixel m x y p else p
    | none => p
  let enc (k : Nat) : Nat := match domainIn cfg i 5 with | some l => getLE l (2 * k) 2 | none => octaveInput k
  let p := if on 6 then p.map (octave enc) else p
  let n := depthBits depth
  p.map (ditherValue (cfgIn cfg i 7 == 1) n frame x y)

/-- The Lantern pixel word of R185 at output depth `n`. -/
def pixelWord (n : Nat) (p : Px) : Nat :=
  let f (v : Nat) : Nat := match n with | 6 => v * 16 | 8 => v * 4 | 10 => v | _ => v / 4
  f p.r * 2 ^ 20 + f p.g * 2 ^ 10 + f p.b

end Sys2Proof.Machine
end

