-- ==== Sys2Proof/Machine/Galleries.lean ====
section
/-!
DEFINITION. The band dispatcher and the galleries (R98 to R128): sampling and judging a band at its composition start,
assigning it, tiles taken and written, memory and engine faults, reserves, retirement, and the re-check of the scenes in
force with the spare policy's shedding (R88, R430).
-/

namespace Sys2Proof.Machine

/-! ## A running head's geometry and times -/

/-- HTOTAL and VTOTAL of the timing in force. -/
def Timing.htotal (t : Timing) : Nat := t.hActive + t.hFront + t.hSync + t.hBack
def Timing.vtotal (t : Timing) : Nat := t.vActive + t.vFront + t.vSync + t.vBack

/-- `k` lines at the head PLL's present rate, in ns (R155): t_line is the frame period over VTOTAL, at a trim in ppm. -/
def Head.lineNs (x : Head) (k : Nat) : Nat :=
  roundDivN (k * x.timing.den * 10 ^ 15) (Nat.max 1 (x.timing.vtotal * x.timing.num * (1000000 + x.trim).toNat))

/-- The start of the frame after the one under way, as predicted (R155, R157). -/
def Head.nextF (x : Head) : Nat := if x.starting then x.startAt else x.f + x.lineNs x.vtotalN

/-- The active area with the origin of a snapshot of the values in force. -/
def Head.areaIn (x : Head) (h : Nat) (cfg : Tbl (List Byte)) : Area :=
  areaOf (cfgIn cfg 0x3110 (h + 1)) x.timing.hActive x.timing.vActive

/-- Bands of a frame (R100). -/
def Head.bandCount (x : Head) : Nat := ceilDiv x.timing.vActive 8

/-- The state that an enabled head takes in each device mode. -/
def Mode.headState (m : Mode) : HState :=
  match m with
  | .reset | .boot | .configure => .off
  | .standby => .idle
  | .operate | .degraded | .maintain | .calibrate | .isolated | .update => .active
  | .safeDisplay => .safe
  | .halt => .halted

/-- The state a head takes in the current mode, R176 aside. -/
def State.modeState (s : State) (h : Nat) : HState := if s.hcfgBool h 0 14 then s.sys.mode.headState else .off

/-- What calls for a change of head state at a line 0; on a bonded pair a call on either head holds for both (R172). -/
structure Calls where
  safe   : Bool
  halt   : Bool
  resume : Bool
  deriving DecidableEq, Repr
def Head.calls (x : Head) : Calls := { safe := x.wantSafe, halt := x.wantHalt, resume := x.resume }
def Calls.or (a b : Calls) : Calls := { safe := a.safe || b.safe, halt := a.halt || b.halt, resume := a.resume || b.resume }

/-- The state a head takes at a line 0: a mode entry or HeadResume first, then what a verdict or parity calls for, HALTED
before SAFE (R176, R197). DEDUCED (log entry 68): a head that is OFF or IDLE composes nothing and takes neither. -/
def State.stateAt (s : State) (h : Nat) (c : Calls) : HState :=
  let x := s.head h
  let base := match x.next with
    | some t => t
    | none => if c.resume && (x.state == .safe || x.state == .halted) then s.modeState h else x.state
  if base == .off || base == .idle then base                             -- a dark head stays dark (log entry 68)
  else if c.halt || (c.safe && base == .halted) then .halted else if c.safe then .safe else base

/-- What a head is called to, its bonded neighbour's calls included. -/
def State.callsOf (s : State) (h : Nat) : Calls :=
  if (s.head h).timing.bond then (s.head (h / 2 * 2)).calls.or (s.head (h / 2 * 2 + 1)).calls else (s.head h).calls

/-- The state whose treatment a band now beginning gets: from the latch on, and before a head's first line 0, that of the next
frame as it is called for so far (R176, R197). A head that stops at its next line 0 composes nothing. -/
def State.composingState (s : State) (h : Nat) : HState :=
  let x := s.head h
  if x.latched || x.starting then (if x.restart then .off else s.stateAt h (s.callsOf h)) else x.state

/-- The states in which galleries compose (R173). -/
def HState.composes (x : HState) : Bool := x == .active || x == .safe

/-! ## A head's bands -/

/-- Change the band of a frame in a head's band buffer. -/
def State.modBand (s : State) (h frame b : Nat) (f : Band → Band) : State :=
  s.modHead h (fun x => { x with bands := x.bands.map (fun y => if y.frame = frame ∧ y.band = b then f y else y) })

/-- A band in the band buffer. -/
def State.band? (s : State) (h frame b : Nat) : Option Band :=
  (s.head h).bands.find? (fun y => y.frame == frame && y.band == b)

/-- A gallery's queue: its unfinished bands with their heads, in the order of assignment (R103). -/
def insertBand (p : Nat × Band) (l : List (Nat × Band)) : List (Nat × Band) :=
  match l with
  | [] => [p]
  | q :: r => if p.2.seq < q.2.seq then p :: q :: r else q :: insertBand p r
def State.queueOf (s : State) (g : Nat) : List (Nat × Band) :=
  (s.heads.heads.flatMap (fun p => (p.2.bands.filter (fun b => b.gallery == g && !b.finished && !b.abandon)).map
    (fun b => (p.1, b)))).foldl (fun l p => insertBand p l) []

/-- Outstanding charged cycles of a gallery (R102). -/
def State.outstanding (s : State) (g : Nat) : Nat := ((s.queueOf g).map (fun p => p.2.cycles)).sum

/-- No gallery. -/
def noGalleryId : Nat := 12

/-- Step 4 of R102: the gallery of the mask with the smallest outstanding work per active engine, the lower-numbered on a
tie; a gallery whose queue of 8 bands is full takes none (R98). -/
def State.chooseGallery (s : State) : Nat :=
  let ok := (List.range 12).filter (fun g => s.inGalleryMask g && !(s.gallery g).gated && decide ((s.queueOf g).length < 8))
  let ok := if ok.isEmpty then s.galsInService else ok
  match ok with
  | [] => noGalleryId
  | g :: r => r.foldl (fun best x =>
      if s.outstanding x * (s.gallery best).active < s.outstanding best * (s.gallery x).active then x else best) g

/-- Assign a band, which starts its tiles and fetch from the beginning. -/
def State.assignBand (s : State) (h : Nat) (b : Band) : State :=
  let g := s.chooseGallery
  let tiles := ceilDiv (s.head h).timing.hActive 128
  let b := { b with gallery := g, seq := s.gal.dispatched, untaken := List.range tiles, done := [], finished := false,
                    noReserve := false }
  let s := if g = noGalleryId then s else { s with gal := { s.gal with dispatched := wrapInc 64 s.gal.dispatched } }
  let x := s.head h
  let keep := x.bands.filter (fun y => !(y.frame == b.frame && y.band == b.band))
  s.setHead h { x with bands := keep ++ [b] }

/-! ## Sampling and judging (R43 to R50, R55, R102) -/

/-- What a layer of a band samples: at generation 1 a remote source samples at the latch (R55). -/
def State.sampleFor (s : State) (x : Head) (u : Use) : Option Sample :=
  match s.source? u.lay.src with
  | none => none
  | some y =>
    let remoteLatch := s.ilelleGen == 1 && y.reg.home != s.ownAddress
    if u.lay.band && !remoteLatch then y.sample u.lay.src else Tbl.find? x.samples u.idx

/-- The decision for one layer, but for its window check. -/
def State.judgeLayer (s : State) (x : Head) (glass : Nat) (safe : Bool) (u : Use) : LayerDec :=
  let m := s.sampleFor x u
  match s.source? u.lay.src with
  | none => { layer := u.idx, sample := none, reg := none, addr := 0, pal := 0, state := frWithdrawn, shed := false, bounds := false }
  | some y =>
    let a := match m with | some m => s.bufferAddr y m.buf | none => 0
    let home := y.reg.home == s.ownAddress
    { layer := u.idx, sample := m, reg := some y.reg, addr := a, pal := if home then y.reg.aux else a + y.reg.replicaPlanes,
      state := y.judge m glass, shed := u.cut || (safe && u.cls != 0), bounds := false }

/-- The bytes a layer reads in a band over some of its tiles: runs of address and length, and its palette (R105, R110,
R111). -/
def layerRuns (a : Area) (b : Nat) (two : Bool) (u : Use) (d : LayerDec) (tiles : List Nat) : List (Nat × Nat) :=
  match d.reg with
  | none => []
  | some r =>
    let cols := tiles.filterMap (fun k => colsFor a k u two)
    match cols with
    | [] => []
    | c :: cs =>
      let c0 := cs.foldl (fun m x => Nat.min m x.1) c.1
      let c1 := cs.foldl (fun m x => Nat.max m x.2) c.2
      let lines := linesFor a b u (u.lay.tapsV two)
      let run (chroma : Bool) (base : Nat) : Nat × Nat :=
        let (lo, hi) := colBytes r.format chroma c0 c1
        (base + lo, hi - lo)
      lines.map (fun y => run false (d.addr + y * r.stride))
        ++ (if isTwoPlane r.format then
              (sortDedup (lines.map (fun y => y / 2))).map (fun y => run true (d.addr + r.chroma + y * r.stride)) else [])
        ++ (if r.format = fmtIndex8 then [(d.pal, 1024)] else [])

/-- Whether a band's two-tap mark applies to a layer: DECOR only (R139). -/
def twoFor (mark : Bool) (u : Use) : Bool := mark && u.cls == 3

/-- The tiles of a band to which a layer contributes. -/
def tilesOf (a : Area) (b : Nat) (l : List Use) (idx : Nat) : List Nat :=
  (List.range a.tiles).filter (fun k => (contributing a b k l).any (fun u => u.idx == idx))

/-- The window check of each layer that reads, over the whole range it reads in the band (R105). -/
def State.checkFetches (s : State) (h : Nat) (a : Area) (b : Nat) (two : Bool) (l : List (Use × LayerDec)) : State × List LayerDec :=
  let uses := l.map (fun p => p.1)
  l.foldl (fun (acc : State × List LayerDec) p =>
    let (u, d) := p
    if !d.treat.reads then (acc.1, acc.2 ++ [d])
    else
      let runs := layerRuns a b (twoFor two u) u d (tilesOf a b uses u.idx)
      if runs.all (fun r => acc.1.granted .heads false r.1 r.2) then (acc.1, acc.2 ++ [d])
      else
        let s := acc.1.countBounds.modHead h (fun x => { x with fetchCount := satInc 32 x.fetchCount })
        (s.raiseHead h .fetchBounds, acc.2 ++ [{ d with bounds := true }])) (s, [])

/-! ## A band's composition start -/

/-- The stack of a scene as a band uses it: shed classes, and in SAFE every class but SAFETY, are cut (R177, R422, R430). -/
def State.bandStack (s : State) (sc : Scene) (h : Nat) (a : Area) (safe : Bool) : List Use :=
  stackOf sc s.regOf h a (fun c => safe || s.sheds c)

/-- Echo's parts of a band: one for each ECHO region that meets it (R191). -/
def echoPartsOf (sc : Scene) (h : Nat) (b : Band) : List (Nat × EchoPart × Band) :=
  (sc.regions.filter (fun r => r.head == h && r.expect == 2 && decide (r.y0 / 8 ≤ b.band ∧ b.band ≤ (r.y1 - 1) / 8))).map
    (fun r => (h, { frame := b.frame, region := r.id, band := b.band }, b))

/-- The two-tap mark: Lamp's stage is TWO_TAP or higher (R425). -/
def State.twoTapMark (s : State) : Bool := decide (2 ≤ s.lamp.stage)

/-- Steps 1 to 3 of R102 for band `b` of the frame `frame` that starts at `start`: its decisions and its grant. -/
def State.prepareBand (s : State) (h frame b start : Nat) (state : HState) : State × Band :=
  let x := s.head h
  let safe := state == .safe
  let glass := start + x.lineNs (8 * b)
  let a := x.areaIn h x.cfg
  let base : Band :=
    { frame := frame, band := b, gallery := noGalleryId, seq := 0, glass := glass, cycles := 32 * a.tiles, twoTap := s.twoTapMark,
      safe := safe, decs := [], untaken := [], done := [], finished := false, abandon := false, engFault := false,
      galLeft := false, scene := x.cur, cfg := x.cfg, noReserve := false, restarted := false }
  match x.cur with
  | none => (s, base)
  | some sc =>
    let l := bandUses a b (s.bandStack sc h a safe)
    let (s, decs) := s.checkFetches h a b base.twoTap (l.map (fun u => (u, s.judgeLayer x glass safe u)))
    (s, { base with decs := decs, cycles := tilesCycles (bandTiles sc a b l) })

/-- Discard the tiles of a band that engines have in hand. -/
def State.dropJobs (s : State) (h frame b : Nat) : State :=
  { s with gal := { s.gal with gals := Tbl.mapVals s.gal.gals (fun _ g =>
    { g with jobs := g.jobs.filter (fun j => !(j.head == h && j.frame == frame && j.band == b)) }) } }

/-- The composition start of a band (R102); Echo begins its parts of it (R191). A band composed again after a change of head
state keeps its place and begins anew (R176). -/
def State.composeBand (s : State) (h frame b start : Nat) (state : HState) (again : Bool) : State :=
  let (s, y) := s.prepareBand h frame b start state
  let y := { y with restarted := again }
  let s := if y.twoTap then { s with gal := { s.gal with reducedBands := wrapInc 64 s.gal.reducedBands } } else s
  let s := { s with lant := { s.lant with
    parts := s.lant.parts.filter (fun (p : Nat × EchoPart × Band) => !(p.1 == h && p.2.1.frame == frame && p.2.1.band == b))
      ++ (match y.scene with | some sc => if s.lant.echoRetired then [] else echoPartsOf sc h y | none => []) } }
  (s.dropJobs h frame b).assignBand h y

/-- The frame that a band now beginning belongs to, and its start: after the latch it is the next frame (R89, R101). -/
def Head.bandFrame (x : Head) : Nat × Nat := if x.latched || x.starting then (x.nextFrame, x.nextF) else (x.frame, x.f)

/-- BAND_COMPOSITION_START (R101, R102): the head's next band begins; a head that composes nothing passes the point. -/
def execBandCompositionStart (h : Fin 16) (s : State) : Host.Outcome State Fault Refusal :=
  let x := s.head h
  .next (if !x.runs || decide (x.bandCount ≤ x.nextBand) then s
    else
      let s := s.modHead h (fun x => { x with nextBand := x.nextBand + 1 })
      let state := s.composingState h
      if !state.composes then s else s.composeBand h x.bandFrame.1 x.nextBand x.bandFrame.2 state false)

/-! ## Tiles -/

/-- The coefficient set a layer names, as the galleries hold it. -/
def State.coefSet (s : State) (n : Nat) : Option (List Byte) := if n = noSet then none else some (s.cfgBytes 0x3410 (n + 1))

/-- What the band composes one layer from. -/
def State.layerSrc (s : State) (sc : Scene) (two : Bool) (u : Use) (d : LayerDec) : Option LayerSrc :=
  d.reg.map (fun r =>
    { lay := u.lay, reg := r, addr := d.addr, pal := d.pal, col := sc.colours.find? (fun c => u.lay.colour != noSet && c.id == u.lay.colour),
      tone := sc.tones.find? (fun t => u.lay.tone != noSet && t.id == u.lay.tone), setH := s.coefSet u.lay.coefH,
      setV := s.coefSet u.lay.coefV, two := twoFor two u })

/-- The band's layers as they were decided, bottom to top. -/
def Band.uses (b : Band) (h : Nat) (a : Area) : List Use :=
  match b.scene with
  | none => []
  | some sc =>
    let regs (src : Nat) : Option Reg :=
      (b.decs.find? (fun d => match sc.layers[d.layer]? with | some l => l.src == src | none => false)).bind (fun d => d.reg)
    bandUses a b.band (stackOf sc regs h a (fun _ => false))

/-- The band's layers with their decisions and sources. -/
def State.drawn (s : State) (h : Nat) (a : Area) (b : Band) : List Drawn :=
  (b.uses h a).filterMap (fun u => (b.decs.find? (fun d => d.layer == u.idx)).map (fun d =>
    { use := u, dec := d, src := b.scene.bind (fun sc => s.layerSrc sc b.twoTap u d) }))

/-- The background a head composes over (R74, R114). -/
def Scene.background (sc : Scene) (h : Nat) : Px := ((sc.heads.find? (fun x => x.head == h)).map (fun x => x.background)).getD Px.zero

/-- The composed pixels of a tile of a band. -/
def State.tilePixels (s : State) (h : Nat) (b : Band) (k : Nat) : List Px :=
  let a := (s.head h).areaIn h b.cfg
  composeTile s.mem.dev b.cfg a b.band k (b.scene.elim Px.zero (fun sc => sc.background h)) (s.drawn h a b)

/-- The first known uncorrectable block that a tile reads, with the layer that reads it. -/
def State.tileBad (s : State) (h : Nat) (b : Band) (k : Nat) : Option (Nat × LayerDec) :=
  if s.mem.poisoned.isEmpty && s.health.unusable.isEmpty then none
  else
    let a := (s.head h).areaIn h b.cfg
    let uses := contributing a b.band k (b.uses h a)
    uses.findSome? (fun u => match b.decs.find? (fun d => d.layer == u.idx) with
      | some d => if !d.treat.reads then none
          else (layerRuns a b.band (twoFor b.twoTap u) u d [k]).findSome? (fun r => (s.badRead r.1 r.2).map (fun e => (e, d)))
      | none => none)

/-- The buffer of a band that an address lies in, as source and buffer. -/
def Band.bufferAt (b : Band) (addr : Nat) : Option (Nat × Nat) :=
  b.decs.findSome? (fun d => match d.sample, d.reg with
    | some m, some r => if (r.lineRuns d.addr).any (fun p => decide (p.1 / 64 ≤ addr / 64 ∧ addr / 64 ≤ (p.1 + p.2 - 1) / 64))
        then some (m.src, m.buf) else none
    | _, _ => none)

/-- A gallery's repeated read has failed: the band is abandoned, and the publication of the buffer it read is cancelled
(R52, R106, R229). -/
def State.abandonBand (s : State) (h : Nat) (b : Band) (addr : Nat) : State :=
  let s := s.modBand h b.frame b.band (fun y => { y with abandon := true, untaken := [] })
  let s := s.dropJobs h b.frame b.band
  match b.bufferAt addr with
  | some (src, buf) => s.cancelBuffer src buf
  | none => s

/-- The band whose tile an idle engine takes: among the two oldest unfinished bands of the queue, the first with an untaken
tile (R103). The reserve engine takes no tile of a band taken before it became active (R125). -/
def State.nextTile (s : State) (g e : Nat) : Option (Nat × Band × Nat) :=
  ((s.queueOf g).take 2).findSome? (fun p =>
    if e == 16 && p.2.noReserve then none
    else match p.2.untaken with
      | k :: _ => some (p.1, p.2, k)
      | [] => none)

/-- TILE_TAKE (R103): an idle engine of gallery `g` takes a tile and composes it. -/
def execTileTake (g : Fin 12) (e : Fin 17) (s : State) : Host.Outcome State Fault Refusal :=
  let x := s.gallery g
  .next (if !x.inService || x.gated || !x.engineActive e || x.jobs.any (fun j => j.engine == e.val) then s
    else match s.nextTile g e with
      | none => s
      | some (h, b, k) =>
        match s.tileBad h b k with
        | some (addr, _) => (s.countRepeated addr).abandonBand h b addr
        | none =>
          let px := s.tilePixels h b k
          let s := s.modBand h b.frame b.band (fun y => { y with untaken := y.untaken.drop 1 })
          s.modGallery g (fun x => { x with jobs := x.jobs ++
            [({ engine := e, head := h, frame := b.frame, band := b.band, tile := k, pixels := px } : TileJob)] }))

/-! ## Retirement of engines and galleries (R124 to R128) -/

/-- Put an engine's tile back at the front of its band (R124). -/
def State.reissue (s : State) (g : Nat) (j : TileJob) : State :=
  let s := s.modGallery g (fun x => { x with jobs := x.jobs.filter (fun i => i.engine != j.engine), reissued := satInc 16 x.reissued })
  let s := { s with gal := { s.gal with reissued := satInc 32 s.gal.reissued } }
  s.modBand j.head j.frame j.band (fun y => { y with untaken := j.tile :: y.untaken, engFault := true })

/-- Excluded galleries return when a retirement would leave none in service (R127). -/
def State.keepOneGallery (s : State) : State :=
  if s.galsInService.isEmpty && !(List.range 12).any (fun g => let x := s.gallery g; !x.retired && x.faultOut) then
    { s with gal := { s.gal with gals := Tbl.mapVals s.gal.gals (fun _ x => if x.retired then x else { x with excluded := false }) } }
  else s

/-- A gallery leaves service: its tiles are discarded and its queue is re-dispatched, each band keeping what it sampled, its
decisions and its grant (R127). -/
def State.leaveService (s : State) (g : Nat) : State :=
  let q := s.queueOf g
  let s := (s.modGallery g (fun x => { x with jobs := [] })).keepOneGallery
  (s.forEach q (fun s p => s.assignBand p.1 { p.2 with galLeft := true })).noteMask

/-- A re-check is due after a change of E_sum, E_min or the galleries in service (R430). -/
def State.recheckDue (s : State) : State := { s with scn := { s.scn with recheckDue := true } }

/-- Retire a gallery (R127). -/
def State.retireGallery (s : State) (g : Nat) : State :=
  if (s.gallery g).retired then s
  else
    let s := (s.modGallery g (fun x => { x with retired := true })).leaveService g
    ((((s.raise .galleryRetired).raise .capacityLost).recheckDue).noteConditions).healthDue

/-- Retire an engine (R124 to R127): the reserve takes its place when it is unused; otherwise the gallery runs on fewer
engines, and retires below 12. -/
def State.retireEngine (s : State) (g e : Nat) : State :=
  let x := s.gallery g
  if x.retiredEng.testBit e then s
  else
    let s := match x.jobs.find? (fun j => j.engine == e) with | some j => s.reissue g j | none => s
    let s := s.modGallery g (fun x => { x with retiredEng := withBit x.retiredEng e true })
    let s := s.raise .engineRetired
    if e ≠ 16 ∧ !x.reserve ∧ !x.retiredEng.testBit 16 then
      let began := (s.queueOf g).filter (fun p => p.2.untaken.length < ceilDiv (s.head p.1).timing.hActive 128)
      let s := s.modGallery g (fun x => { x with reserve := true })
      let s := s.forEach began (fun s p => s.modBand p.1 p.2.frame p.2.band (fun y => { y with noReserve := true }))
      ((s.raise .reserveEngaged).noteConditions).healthDue
    else if e = 16 ∧ !x.reserve then s.noteConditions.healthDue
    else if (s.gallery g).active < 12 then s.retireGallery g
    else (((s.raise .capacityLost).recheckDue).noteConditions).healthDue

/-- A detected fault on an engine (R124, R432): the second within 1 s of the first is permanent. -/
def State.engineFault (s : State) (g e : Nat) : State :=
  let x := s.gallery g
  let again := match Tbl.find? x.engFaults e with | some t => decide (s.now ≤ t + 1000000000) | none => false
  let s := s.modGallery g (fun x => { x with faults := satInc 16 x.faults, engFaults := Tbl.set x.engFaults e s.now })
  let s := State.raise { s with gal := { s.gal with engineFaults := satInc 32 s.gal.engineFaults } } .engineFault
  if again then s.retireEngine g e else s

/-- The key of a tile-band in an analysis. -/
def subKey (frame b k : Nat) : Nat := frame % 2 * 65536 + b * 64 + k

/-- Localisation keeps which engine wrote each tile of a region under analysis (R203). -/
def State.noteWriter (s : State) (h frame b k g e : Nat) : State :=
  match s.lant.analysis with
  | some a => if a.head = h then
      { s with lant := { s.lant with analysis := some { a with writers := Tbl.set a.writers (subKey frame b k) (g * 32 + e) } } } else s
  | none => s

/-- TILE_WRITE (R103, R120, R124): the engine's checks pass and it writes its tile, or one fails and the tile is reissued. A
tile of a band that has been drained or abandoned is discarded. -/
def execTileWrite (g : Fin 12) (e : Fin 17) (checkFails : Bool) (s : State) : Host.Outcome State Fault Refusal :=
  .next (match (s.gallery g).jobs.find? (fun j => j.engine == e.val) with
    | none => s
    | some j =>
      if checkFails then (s.reissue g j).engineFault g e
      else
        let s := s.modGallery g (fun x => { x with jobs := x.jobs.filter (fun i => i.engine != e.val) })
        match s.band? j.head j.frame j.band with
        | none => s
        | some b =>
          if b.abandon then s
          else
            let s := s.modGallery g (fun x => { x with tilesDone := wrapInc 64 x.tilesDone })
            let s := s.noteWriter j.head j.frame j.band j.tile g e
            let all := ceilDiv (s.head j.head).timing.hActive 128
            let done := Tbl.set b.done j.tile j.pixels
            let fin := decide (all ≤ done.length)
            let s := s.modBand j.head j.frame j.band (fun y => { y with done := done, finished := fin })
            if fin then s.modGallery g (fun x => { x with bandsDone := wrapInc 64 x.bandsDone }) else s)

/-- GALLERY_FAULT (R127): a fault in a shared part; one that recurs within 1 s retires the gallery, and any other
is transient: it is counted and raised, and the gallery is out of service until it has been reloaded. -/
def execGalleryFault (g : Fin 12) (s : State) : Host.Outcome State Fault Refusal :=
  let x := s.gallery g
  .next (if x.retired || x.excluded then s
    else
      let again := match x.lastShared with | some t => decide (s.now ≤ t + 1000000000) | none => false
      let s := s.modGallery g (fun x => { x with lastShared := some s.now })
      if again then s.retireGallery g
      else
        let s := State.raise { s with gal := { s.gal with galFaults := satInc 32 s.gal.galFaults } } .galleryFault
        (s.modGallery g (fun x => { x with faultOut := true })).leaveService g)

/-- The coefficient sets loaded, as COEFLOADED shows them (R137, R397). -/
def State.loadedSets (s : State) : Nat := maskOf ((List.range 16).filter (fun n => s.coefKind n ≤ 1))

/-- GALLERY_RETURN (R127, R137): the gallery has been reloaded and returns to service. -/
def execGalleryReturn (g : Fin 12) (s : State) : Host.Outcome State Fault Refusal :=
  .next (if (s.gallery g).faultOut then
      (s.modGallery g (fun x => { x with faultOut := false, coefLoaded := s.loadedSets })).noteMask
    else s)

/-! ## The re-check of the scenes in force (R88, R430) -/

/-- The current scenes, and the pending ones in their heads' places, are feasible with some classes shed. -/
def State.scenesFit (s : State) (c : Capacity) (cut : Nat → Bool) : Bool :=
  (feasible c (s.judgedCurrent cut)).isNone && (feasible c (s.judged none cut)).isNone

/-- The classes shed at each step of R430: a bit mask as SpareShedClasses codes it. -/
def State.shedSet (s : State) : Nat :=
  let c := s.capacityForce
  let cut (n : Nat) : Nat → Bool := fun cls => (cls == 3 && decide (1 ≤ n)) || (cls == 2 && decide (2 ≤ n)) || (cls == 1 && decide (3 ≤ n))
  if s.scenesFit c (cut 0) then 0
  else if s.scenesFit c (cut 1) then 0b0011
  else if s.scenesFit c (cut 2) then 0b0111
  else 0b1111

/-- Bring E_sum and E_min of the scene block up to date (R396). -/
def State.noteEngines (s : State) : State := { s with scn := { s.scn with eSum := s.engineSum, eMin := s.engineMin } }

/-- Run the steps of R430. -/
def State.runRecheck (s : State) : State :=
  let s := s.noteEngines
  let s := { s with scn := { s.scn with spareShed := s.shedSet, recheckDue := false } }
  s.noteConditions

/-- SCENE_RECHECK (R430). -/
def execSceneRecheck (s : State) : Host.Outcome State Fault Refusal :=
  .next (if s.scn.recheckDue && s.coreUp 0 && !s.bothCoresRetired then s.runRecheck else s)

end Sys2Proof.Machine
end

