-- ==== Sys2Proof/Machine/Lamp.lean ====
section
/-!
DEFINITION. Lamp (R418 to R431): sensors, the 1 ms evaluation, stages and the gallery mask, core voltage, the life model,
the thermal trip, and the health record (R433).
-/

namespace Sys2Proof.Machine

/-! ## Limits and targets -/

/-- The grade's upper limit in °C (R2), and in 1/16 °C. -/
def gradeLimit : Nat := if Config.gradeCA then 95 else 105
def gradeLimit16 : Int := 16 * gradeLimit

/-- ThermalTarget and T_eff in °C (R421). -/
def State.thermalTarget (s : State) : Nat := s.cfg 0x2100 2
def State.effTarget (s : State) : Nat := s.thermalTarget - s.lamp.lifeOffset

/-- Sensor i of R418. -/
def State.sensor (s : State) (i : Nat) : Sensor := Tbl.get Sensor.reset s.lamp.sensors i

/-- Bring the dead time of R293 to what the stage asks for (R422). -/
def State.noteSqueeze (s : State) : State :=
  { s with blit := { s.blit with lampDead := if 1 ≤ s.lamp.stage then s.cfg 0x2100 4 else 0 } }

/-! ## Sensors (R418, R419) -/

/-- The zone groups of R419, as first sensor, number and tolerance in °C. -/
def zoneGroup (i : Nat) : Nat × Nat × Nat := if i < 12 then (0, 12, 20) else if i < 16 then (12, 4, 20) else (16, 8, 25)

/-- A reading within −55 °C to +150 °C. -/
def readingInRange (r : Int) : Bool := decide (-880 ≤ r ∧ r ≤ 2400)

/-- A reading is more than `tol` °C away from the mean of others. -/
def farFrom (r : Int) (others : List Int) (tol : Nat) : Bool :=
  let n : Int := others.length
  let d := r * n - others.foldl (fun a x => a + x) 0
  decide (16 * tol * n < d ∨ d < -(16 * tol * n))

/-- A reading is valid (R419). The other valid sensors are those that are in range and not excluded (DEDUCED, log entry 16). -/
def State.readingValid (s : State) (rs : List Int) (i : Nat) : Bool :=
  let r := rs.getD i 0
  let good (j : Nat) : Bool := j != i && readingInRange (rs.getD j 0) && !(s.sensor j).excluded
  let (lo, n, tol) := zoneGroup i
  let mine := ((List.range n).map (fun k => lo + k)).filter good
  let all := (List.range 24).filter good
  let val (l : List Nat) : List Int := l.map (fun j => rs.getD j 0)
  if !readingInRange r then false
  else if 2 ≤ mine.length then !farFrom r (val mine) tol
  else !farFrom r (val all) 25

/-- One sensor after a reading. -/
def State.readSensor (s : State) (rs : List Int) (valid : List Bool) (i : Nat) : State :=
  let x := { s.sensor i with reading := rs.getD i 0 }
  let put (s : State) (x : Sensor) : State := { s with lamp := { s.lamp with sensors := Tbl.set s.lamp.sensors i x } }
  if valid.getD i false then
    if !x.excluded || x.barred then put s { x with validFrom := none }
    else match x.validFrom with
      | none => put s { x with validFrom := some s.now }
      | some t => put s (if t + 1000000000 ≤ s.now then { x with excluded := false, validFrom := none } else x)
  else if x.excluded then put s { x with validFrom := none }
  else
    let times := match x.exclTimes with
      | [] => [s.now]
      | t :: _ => if s.now ≤ t + 3600000000000 then x.exclTimes ++ [s.now] else [s.now]
    (put s { x with excluded := true, validFrom := none, exclTimes := times, barred := decide (3 ≤ times.length) }).raise .sensorFault

/-- The valid sensors, and the hottest of them. -/
def State.validSensors (s : State) : List Nat := (List.range 24).filter (fun i => !(s.sensor i).excluded)
def hottestOf (s : State) (l : List Nat) : Option Nat :=
  l.foldl (fun best i => match best with
    | none => some i
    | some j => if (s.sensor j).reading < (s.sensor i).reading then some i else some j) none

/-- Form T_hot and judge the trip limit of R426: the grade's upper limit plus 10 °C, in every mode. A tripped device leaves
RESET when every valid sensor is 10 °C below the grade's upper limit. -/
def State.noteHottest (s : State) : State :=
  match hottestOf s s.validSensors with
  | none => { s with lamp := { s.lamp with tripSince := none } }
  | some i =>
    let t := (s.sensor i).reading
    let since := if gradeLimit16 + 160 < t then (match s.lamp.tripSince with | some u => some u | none => some s.now) else none
    { s with lamp := { s.lamp with hottest := i, tHot := t, tripSince := since },
             sys := { s.sys with tripped := s.sys.tripped && decide (gradeLimit16 - 160 < t) } }

/-- SENSOR_READ (R418, R419): the sensors are read, validated or excluded, and T_hot is formed. -/
def execSensorRead (readings : List Int) (s : State) : Host.Outcome State Fault Refusal :=
  let valid := (List.range 24).map (fun i => s.readingValid readings i)
  .next (s.forEach (List.range 24) (fun s i => s.readSensor readings valid i)).noteHottest

/-- The temperature of a sensor's zone: an excluded sensor's zone is at the hottest valid sensor plus 5 °C (R419). -/
def State.zoneTemp (s : State) (i : Nat) : Int := if (s.sensor i).excluded then s.lamp.tHot + 80 else (s.sensor i).reading

/-! ## The life model (R428, R429) -/

/-- exp(x) for x in units of 2^-64, in units of 2^-32: twenty terms of the series at x / 64, then six squarings, each
rounded down at 80 bits (DEDUCED, log entry 17: the manual gives r_d exactly and no rounding). -/
def expTerms (y : Int) (term acc : Int) (k : Nat) : Nat → Int
  | 0 => acc
  | fuel + 1 =>
    let t := term * y / 2 ^ 80 / ((k : Int) + 1)
    expTerms y t (acc + t) (k + 1) fuel
def squareTimes (v : Int) : Nat → Int
  | 0 => v
  | n + 1 => squareTimes (v * v / 2 ^ 80) n
def expFixed (x : Int) : Nat := ((squareTimes (expTerms (x * 1024) (2 ^ 80) (2 ^ 80) 0 20) 6) / 2 ^ 48).toNat

/-- The exponent of r_d (R428) for a zone at `t16` 1/16 °C and a rail `dv` mV above nominal, in units of 2^-64. -/
def ageExponent (t16 : Int) (dv : Int) : Int :=
  let den : Int := 100 * t16 + 437040
  let k : Int := 81235 * 2 ^ 64 / 10
  k * 100 / 35315 - k * 1600 / den + dv * 2 ^ 64 / 100

/-- The sensors of the life domains CORE, SRAM, SER and IO (R418). -/
def lifeSensors (d : Nat) : List Nat :=
  match d with
  | 0 => List.range 12 ++ [16, 17, 22]
  | 1 => [21]
  | 2 => [12, 13, 14, 15, 18, 19, 20]
  | _ => [23]

/-- r_d now: the hottest zone of the domain and the CORE setpoint, 0.80 V while the regulator is lost (R427). -/
def State.ageRate (s : State) (d : Nat) : Nat :=
  let l := lifeSensors d
  let ok := l.filter (fun i => !(s.sensor i).excluded)
  let temps := (if ok.isEmpty then l else ok).map (fun i => s.zoneTemp i)
  let t := temps.foldl (fun a x => if a < x then x else a) (temps.headD 0)
  let dv : Int := if d = 0 then ((if s.lamp.vcoreLost then 800 else s.lamp.vcore : Nat) : Int) - 750 else 0
  expFixed (ageExponent t dv)

/-- One millisecond of life: at rate r_d, or at 1 in RESET and BOOT. -/
def State.ageOneMs (s : State) : State :=
  let idle := s.sys.mode == .reset || s.sys.mode == .boot
  let c := (List.range 4).map (fun d => s.health.consumed.getD d 0 + if idle then 2 ^ 32 else s.ageRate d)
  { s with health := { s.health with powered := s.health.powered + 1, consumed := c } }

/-- The greatest C_d. -/
def State.maxConsumed (s : State) : Nat := s.health.consumed.foldl Nat.max 0

/-- Hours of powered time. -/
def State.poweredHours (s : State) : Nat := s.health.powered / 3600000

/-- LIFE_EVALUATION (R429): each hour once H reaches 168 hours. -/
def execLifeEvaluation (s : State) : Host.Outcome State Fault Refusal :=
  let h := s.poweredHours
  .next (if h < 168 ∨ h ≤ s.lamp.lifeHour ∨ !s.coreUp 1 ∨ s.sys.mode = .reset ∨ s.sys.mode = .boot then s
    else
      let p := s.health.powered * 2 ^ 32
      let c := s.maxConsumed
      let goal := if !s.cfgBool 0x2100 5 then 0 else Nat.min 10 (40 * (c - p) / p)
      let old := s.lamp.lifeOffset
      let off := if !s.cfgBool 0x2100 5 then 0 else if old < goal then old + 1 else if goal < old then old - 1 else old
      let ratio := c * 65536 / p
      let left := if c = 0 then 350640 else (350640 * 3600000 * 2 ^ 32 - c) * p / c / (3600000 * 2 ^ 32)
      let ahead := off == 10 && decide (5 * p < 4 * c)
      let s := { s with lamp := { s.lamp with lifeHour := h, lifeOffset := off, lifeRatio := sat 31 ratio, lifeRemain := sat 32 left,
                                              lifeAhead := s.lamp.lifeAhead || ahead } }
      let s := if off = old then s else s.raise .lifeOffsetChanged
      (if ahead then s.raise .lifeAhead else s).noteReplacement)

/-! ## Stages (R421 to R424) -/

/-- Over, hard-over and under (R421). -/
def State.lampOver (s : State) : Bool := decide (s.cfg 0x2100 1 < s.lamp.power ∨ 16 * (s.effTarget : Int) < s.lamp.tHot)
def State.lampHard (s : State) : Bool := decide (s.cfg 0x2100 1 < s.lamp.power ∨ 16 * (s.thermalTarget : Int) < s.lamp.tHot)
def State.lampUnder (s : State) : Bool :=
  decide (s.lamp.power + s.cfg 0x2100 3 ≤ s.cfg 0x2100 1 ∧ s.lamp.tHot ≤ 16 * ((s.effTarget : Int) - 3))

/-- Move to a stage: its event, its count, the dead time and the conditions that follow (R422, R423). -/
def State.setStage (s : State) (n : Nat) : State :=
  if n = s.lamp.stage then s
  else
    let s := { s with lamp := { s.lamp with stage := n, stageAt := s.now, underRun := 0, stageChg := wrapInc 32 s.lamp.stageChg } }
    ((s.raise .lampStageChanged).noteSqueeze).noteConditions

/-- The stage an evaluation calls for (R423). -/
def State.nextStage (s : State) : Nat :=
  let l := s.lamp
  if gradeLimit16 < l.tHot then 5
  else if 1000 ≤ l.underRun ∧ 0 < l.stage then l.stage - 1
  else if l.stage < 5 ∧ l.stageAt + 100000000 ≤ s.now ∧ 10 ≤ (if l.stage < 3 then l.overRun else l.hardRun) then l.stage + 1
  else l.stage

/-- POWER_LIMIT_UNMET once for each minute in which DECOR_SHED does not suffice (R423). -/
def State.noteUnmet (s : State) : State :=
  if s.lamp.stage = 5 ∧ 10 ≤ s.lamp.hardRun then
    (match s.lamp.unmetAt with
      | some t => if s.now < t + 60000000000 then s else { s with lamp := { s.lamp with unmetAt := some s.now } }.raise .powerLimitUnmet
      | none => { s with lamp := { s.lamp with unmetAt := some s.now } }.raise .powerLimitUnmet)
  else { s with lamp := { s.lamp with unmetAt := none } }

/-- THERMAL_OVER_GRADE when T_hot first exceeds the grade's upper limit and once per minute while it does; OVERGRADE counts the
seconds (R433, R435). -/
def State.noteOverGrade (s : State) : State :=
  if gradeLimit16 < s.lamp.tHot then
    let ms := s.health.overMs + 1
    let s := { s with health := { s.health with overMs := ms % 1000, overGrade := wrap 32 (s.health.overGrade + ms / 1000) } }
    match s.lamp.overGradeAt with
    | some t =>
      if s.now < t + 60000000000 then s else { s with lamp := { s.lamp with overGradeAt := some s.now } }.raise .thermalOverGrade
    | none => { s with lamp := { s.lamp with overGradeAt := some s.now } }.raise .thermalOverGrade
  else { s with lamp := { s.lamp with overGradeAt := none } }

/-! ## The gallery mask (R425) -/

/-- The scenes in force, current and pending, pass checks 2 and 3 with some galleries' engines removed from E_sum. -/
def State.maskFits (s : State) (out : List Nat) : Bool :=
  let lost := ((out.filter (fun g => (s.gallery g).counts)).map (fun g => (s.gallery g).active)).sum
  let c := { s.capacityForce with sum := s.engineSum - lost }
  let ok (l : List Judged) : Bool := (checkEngine c l).isNone && (checkLatency c l).isNone
  ok (s.judgedCurrent s.sheds) && ok (s.judged none s.sheds)

/-- Put a set of removed galleries in force: a returning gallery is ungated first. -/
def State.setMaskOut (s : State) (out : List Nat) : State :=
  let back := s.lamp.maskOut.filter (fun g => !out.contains g)
  let s := s.forEach back (fun s g => s.modGallery g (fun x => { x with gated := false }))
  { s with lamp := { s.lamp with maskOut := out } }.noteMask

/-- Return galleries to the mask until the scenes pass, the one removed last first (DESIGN CHOICE, log entry 18). -/
def State.returnUntil (s : State) (out : List Nat) : Nat → List Nat
  | 0 => out
  | fuel + 1 => if out.isEmpty || s.maskFits out then out else s.returnUntil out.dropLast fuel

/-- After an acceptance: galleries return while the condition of R425 fails. -/
def State.maskForScenes (s : State) : State :=
  if s.lamp.maskOut.isEmpty then s
  else
    let out := s.returnUntil s.lamp.maskOut 4
    if out = s.lamp.maskOut then s else s.setMaskOut out

/-- Lamp's part of the mask at an evaluation: cool galleries return, the hottest may be removed, a removed one with an empty
queue is clock-gated. -/
def State.moveMask (s : State) : State :=
  let teff := 16 * (s.effTarget : Int)
  let out := s.lamp.maskOut.filter (fun g => decide (teff - 48 < s.zoneTemp g) && (s.gallery g).inService)
  let s := if out = s.lamp.maskOut then s else s.setMaskOut out
  let hot := (List.range 12).foldl (fun b g => if s.zoneTemp b < s.zoneTemp g then g else b) 0
  let ready := match s.lamp.removedAt with | some t => decide (t + 10000000 ≤ s.now) | none => true
  let s := if ready && s.inGalleryMask hot && decide (teff < s.zoneTemp hot ∧ out.length < 4) && s.maskFits (out ++ [hot]) then
      State.setMaskOut { s with lamp := { s.lamp with removedAt := some s.now } } (out ++ [hot])
    else s
  s.forEach s.lamp.maskOut (fun s g => if (s.queueOf g).isEmpty then s.modGallery g (fun x => { x with gated := true }) else s)

/-- The power estimate (R420): the VDD_CORE power the regulator reports, or a model of it, plus the model of the other rails.
The models are the part's own (free values, log entry 2). -/
def State.formPower (s : State) (reported : Option Nat) : State :=
  let (n, s) := s.draw
  let core := match reported with | some p => p | none => Config.value (2 * n + 1)
  { s with lamp := { s.lamp with power := sat 16 (core + Config.value (2 * n)) } }

/-- Lamp takes no new action while the parity of a PWR_ register is wrong (R392). -/
def State.powerHeld (s : State) : Bool := s.sys.parityBad.any (fun o => decide (0xD0_0000 ≤ o ∧ o < 0xE0_0000))

/-- LAMP_EVALUATION (R420 to R425, R428): every 1 ms. In RESET and BOOT only the time is charged (R339, R428); without a core
Lamp's policy waits. -/
def execLampEvaluation (vcorePowerReported : Option Nat) (s : State) : Host.Outcome State Fault Refusal :=
  let s := s.ageOneMs
  .next (if s.sys.mode = .reset ∨ s.sys.mode = .boot ∨ !s.coreUp 1 ∨ s.powerHeld then s
    else
      let s := s.formPower vcorePowerReported
      let run (b : Bool) (n : Nat) : Nat := if b then sat 16 (n + 1) else 0
      let s := { s with lamp := { s.lamp with overRun := run s.lampOver s.lamp.overRun, hardRun := run s.lampHard s.lamp.hardRun,
                                              underRun := run s.lampUnder s.lamp.underRun } }
      let s := (s.setStage s.nextStage).noteSqueeze
      ((s.noteUnmet).noteOverGrade).moveMask)

/-! ## Core voltage (R427) -/

/-- The setpoint Lamp aims at, in mV, before and after its clamp. -/
def vcoreWanted (fused monitor : Nat) : Nat := ceilDiv (Nat.max fused monitor + 10) 5 * 5
def vcoreGoal (fused monitor : Nat) : Nat := Nat.max 700 (Nat.min 800 (vcoreWanted fused monitor))

/-- VCORE_STEP (R427): one step of at most 5 mV towards the goal, when the regulator acknowledges it. The third command in
turn that is not acknowledged loses the regulator, until it answers. -/
def execVcoreStep (monitorMv : Nat) (acked : Bool) (s : State) : Host.Outcome State Fault Refusal :=
  .next (if s.sys.mode = .reset ∨ s.sys.mode = .boot ∨ !s.coreUp 1 ∨ s.powerHeld then s
    else if s.lamp.vcoreLost then
      (if acked then { s with lamp := { s.lamp with vcoreLost := false, vcoreFails := 0 } } else s)
    else
      let v := s.lamp.vcore
      let s := if v = 800 ∧ 800 < monitorMv + 10 then s.raise .vcoreMargin else s
      let goal := vcoreGoal (Config.vcoreMin s.lamp.tHot) monitorMv
      if goal = v then s
      else if acked then
        { s with lamp := { s.lamp with vcore := if v < goal then Nat.min goal (v + 5) else Nat.max goal (v - 5), vcoreFails := 0 } }
      else if s.lamp.vcoreFails < 2 then { s with lamp := { s.lamp with vcoreFails := s.lamp.vcoreFails + 1 } }
      else { s with lamp := { s.lamp with vcoreFails := 3, vcoreLost := true } }.raise .vcoreControlLost)

/-! ## The health record (R433) -/

/-- A retired engine's word of the record. -/
def Gal.engineWord (g : Gal) : Nat := g.retiredEng % 2 ^ 17 + 2 ^ 17 * b2n g.reserve

/-- The record as R433 lays it out, with its CRC field at 0. -/
def State.healthBody (s : State) (crc : Nat) : List Byte :=
  let retired := maskOf ((List.range 12).filter (fun g => (s.gallery g).retired))
  let units := b2n s.lant.echoRetired + 2 * maskOf ((List.range 4).filter (fun u => (s.unit u).state == .retired))
  leBytes 4 s.health.sequence ++ leBytes 2 retired ++ [byte units, 0#8]
    ++ (List.range 12).flatMap (fun g => leBytes 4 (s.gallery g).engineWord)
    ++ leBytes 8 s.health.powered ++ (List.range 4).flatMap (fun d => leBytes 8 (s.health.consumed.getD d 0 / 2 ^ 32))
    ++ leBytes 4 s.health.trips ++ leBytes 4 s.health.overGrade ++ [byte s.lamp.lifeOffset] ++ leBytes 7 0
    ++ leBytes 4 crc ++ leBytes 12 0
    ++ (List.range 2048).flatMap (fun k => leBytes 4 ((Tbl.find? s.health.remap k).getD 0xFFFFFFFF))
    ++ leBytes 4 s.health.unusable.length ++ s.health.unusable.flatMap (fun g => leBytes 4 g)
def State.healthBytes (s : State) : List Byte := s.healthBody (crc32c (s.healthBody 0))

/-- Append the record: it becomes the one in force. The hourly one keeps C_d for R485. -/
def State.appendHealth (s : State) (hourly : Bool) : State :=
  let s := { s with health := { s.health with sequence := nextEpoch s.health.sequence, dueAt := none, failOnce := false } }
  let s := { s with health := { s.health with journal := s.healthBytes } }
  if hourly then
    { s with health := { s.health with lastHour := s.poweredHours, hourlyC := (s.health.consumed :: s.health.hourlyC).take 2 } }
  else s

/-- HEALTH_RECORD_APPEND (R433): when a record is due, or a powered hour has passed. An append that fails is repeated once. -/
def execHealthRecordAppend (ok : Bool) (s : State) : Host.Outcome State Fault Refusal :=
  let hourly := decide (s.health.lastHour < s.poweredHours)
  .next (if !(hourly || s.health.dueAt.isSome) || !s.coreUp 1 || s.sys.mode == .reset || s.sys.mode == .boot then s
    else if ok then s.appendHealth hourly
    else if !s.health.failOnce then { s with health := { s.health with failOnce := true } }
    else
      State.raise { s with health := { s.health with failOnce := false, dueAt := none,
                                                     lastHour := if hourly then s.poweredHours else s.health.lastHour } } .healthStoreFailed)

end Sys2Proof.Machine
end

