-- ==== Sys2Proof/Machine/Lantern.lean ====
section
/-!
DEFINITION. What leaves a head and what watches it: the drain of a band (R120, R161, R163, R178), Lantern's signatures,
verdicts and log (R184 to R202), Echo (R190 to R193), localisation (R203, R204) and writeback (R179 to R182).
-/

namespace Sys2Proof.Machine

/-! ## Regions -/

/-- The regions of the frame that head `h` is sending, in ascending REGION_ID order (R184). -/
def insertRegion (r : Region) (l : List Region) : List Region :=
  match l with
  | [] => [r]
  | x :: rest => if r.id < x.id then r :: x :: rest else x :: insertRegion r rest
def sceneRegions (sc : Option Scene) (h : Nat) : List Region :=
  match sc with
  | some sc => (sc.regions.filter (fun r => r.head == h)).foldl (fun l r => insertRegion r l) []
  | none => []
def State.regionsOf (s : State) (h : Nat) : List Region := sceneRegions (s.head h).shownScene h

/-- Change every listed region state of a head. -/
def State.mapRegions (s : State) (h : Nat) (f : RegSt → RegSt) : State :=
  { s with lant := { s.lant with regs := Tbl.mapVals s.lant.regs (fun k x => if k / 64 = h then f x else x) } }

/-- Clear every stored reference of a head and its runs (R189). -/
def State.clearRefs (s : State) (h : Nat) : State := s.mapRegions h (fun x => { x with refs := [], run := 0 })

/-- A region's CRC registers at the start of a frame: Echo's work on that frame so far carries over. -/
def RegSt.begin (x : RegSt) (keepEcho : Bool) : RegSt :=
  let x := if keepEcho then { x with echoReg := x.nextReg, echoNext := x.nextNext, echoBad := x.nextBad }
    else { x with echoReg := crcInit, echoNext := 0, echoBad := false }
  { x with crcReg := crcInit, missed := false, final := false, nextReg := crcInit, nextNext := 0, nextBad := false }

/-! ## Changes of head state (R176, R197) -/

/-- The bands of a frame, after a change of head state: discarded, or composed again from the beginning. -/
def State.recompose (s : State) (h frame start : Nat) (new : HState) : State :=
  let n := (s.head h).nextBand
  let s := { s with
    gal := { s.gal with gals := Tbl.mapVals s.gal.gals (fun _ g =>
      { g with jobs := g.jobs.filter (fun j => !(j.head == h && j.frame == frame)) }) }
    lant := { s.lant with parts := s.lant.parts.filter (fun (p : Nat × EchoPart × Band) => !(p.1 == h && p.2.1.frame == frame)) } }
  let s := (s.modHead h (fun x => { x with bands := x.bands.filter (fun b => b.frame != frame) })).mapRegions h
    (fun r => { r with nextReg := crcInit, nextNext := 0, nextBad := false })
  if !new.composes then s
  else s.forEach (List.range n) (fun s b => s.composeBand h frame b start new true)

/-- Whether the bands of a head's next frame were begun for the state `new`. -/
def Head.composedFor (x : Head) (new : HState) : Bool :=
  let l := x.bands.filter (fun b => b.frame == x.bandFrame.1)
  if new.composes then decide (l.length = x.nextBand) && l.all (fun b => b.safe == (new == .safe)) else l.isEmpty

/-- After a call for a change of head state: bands of the next frame whose composition began under the old state are discarded
or begin again. -/
def State.followCall (s : State) (h : Nat) : State :=
  let x := s.head h
  let new := s.composingState h
  if !x.runs || !x.latched || x.composedFor new then s else s.recompose h x.bandFrame.1 x.bandFrame.2 new

/-- Something calls for a change of a head's state at its next line 0. -/
def State.callHead (s : State) (h : Nat) (f : Head → Head) : State :=
  let s := s.modHead h f
  if (s.head h).timing.bond then (s.followCall (h / 2 * 2)).followCall (h / 2 * 2 + 1) else s.followCall h

/-! ## The log (R200 to R202) -/

/-- The 32 bytes of a record (R201). -/
def LogRec.bytes (x : LogRec) : List Byte :=
  leBytes 8 (wrap 48 x.frame + x.head * 2 ^ 48 + x.region * 2 ^ 52) ++ leBytes 8 x.glass ++ leBytes 4 x.crc
    ++ leBytes 4 x.expected ++ leBytes 4 x.epoch ++ [byte x.verdict, byte x.mode] ++ leBytes 2 x.gap

/-- LANTERN_MISMATCH of the head of a record that calls for it. -/
def State.recordEvent (s : State) (x : LogRec) : State := if x.event then s.raiseHead x.head .lanternMismatch else s

/-- A record that is not written: it counts in LogDropped and in the GAP of the next, and its event follows (R196, R202). -/
def State.dropRecord (s : State) (x : LogRec) : State :=
  let l := s.lant
  let s := State.raise { s with lant := { l with dropped := satInc 32 l.dropped, droppedRc := satInc 16 l.droppedRc,
                                                 gap := satInc 16 l.gap } } .logDropped
  s.recordEvent x

/-- LogBase and LogRecords in force. -/
def State.logBase (s : State) : Nat := s.cfg 0x5000 1
def State.logRecords (s : State) : Nat := s.cfg 0x5000 2

/-- Logging is stopped: by LOG_BOUNDS until LogBase or LogRecords is written (R200), or while the parity of a shared
configuration register is wrong (R398). -/
def State.logStopped (s : State) : Bool :=
  s.lant.stopped || s.sys.parityBad.any (fun o => decide (0x92_0000 ≤ o ∧ o < 0xA0_0000))

/-- Hand a verdict's record to the log writer. -/
def State.logRecord (s : State) (x : LogRec) : State :=
  if s.logRecords = 0 then s.recordEvent x
  else if s.logStopped || decide (2048 ≤ s.lant.fifo.length) then s.dropRecord x
  else { s with lant := { s.lant with fifo := s.lant.fifo ++ [{ x with gap := s.lant.gap }], gap := 0 } }

/-- LOG_WRITE_DONE (R196, R200): the log writer's oldest record reaches the ring, and its event follows. A write outside a
window that grants HEADS write access stops logging; the records that wait are lost (log entry 12). -/
def execLogWriteDone (s : State) : Host.Outcome State Fault Refusal :=
  match s.lant.fifo with
  | [] => .next s
  | x :: rest =>
    let n := s.logRecords
    let a := s.logBase + 32 * (s.lant.writeIdx % Nat.max 1 n)
    .next (if n = 0 then State.recordEvent { s with lant := { s.lant with fifo := rest } } x
      else if s.granted .heads true a 32 && isDevAddr a then
        let s := { s with lant := { s.lant with fifo := rest, writeIdx := wrapInc 32 s.lant.writeIdx } }
        (s.devWrite a x.bytes).recordEvent x
      else
        let s := State.raise { s.countBounds with lant := { s.lant with fifo := [], stopped := true } } .logBounds
        s.forEach (x :: rest) (fun s x => s.dropRecord x))

/-! ## Signing (R185, R186) -/

/-- The bytes of a run of pixel words at output depth `n`. -/
def wordBytes (n : Nat) (l : List Px) : List Byte := l.flatMap (fun p => leBytes 4 (pixelWord n p))

/-- Add the lines of a band, line `y0` first, to a region's CRC; the CRC is final with the region's last line (R195). -/
def State.signLines (s : State) (h n frame : Nat) (r : Region) (lines : List (List Px)) (y0 : Nat) : State :=
  (lines.zip (List.range lines.length)).foldl (fun s p =>
    let y := y0 + p.2
    if y < r.y0 ∨ r.y1 ≤ y then s
    else s.modRegion h r.id (fun x =>
      { x with crcReg := crcUpdate x.crcReg (wordBytes n ((p.1.drop r.x0).take (r.x1 - r.x0))), final := y + 1 == r.y1,
               finalFrame := frame })) s

/-- The sub-signatures of a band's tile-bands within a region (R203): key and CRC. -/
def subSignatures (n frame b : Nat) (r : Region) (lines : List (List Px)) : List (Nat × Nat) :=
  let y0 := Nat.max r.y0 (8 * b)
  let y1 := Nat.min r.y1 (8 * b + lines.length)
  if y1 ≤ y0 then []
  else (List.range ((r.x1 - 1) / 128 + 1 - r.x0 / 128)).map (fun i =>
    let k := r.x0 / 128 + i
    let x0 := Nat.max r.x0 (128 * k)
    let x1 := Nat.min r.x1 (128 * k + 128)
    (subKey frame b k, crc32c (((lines.drop (y0 - 8 * b)).take (y1 - y0)).flatMap (fun l => wordBytes n ((l.drop x0).take (x1 - x0))))))

/-- Keep sub-signatures of the region under analysis; `echo` says whose. -/
def State.noteSubs (s : State) (h rid frame : Nat) (echo : Bool) (l : List (Nat × Nat)) : State :=
  match s.lant.analysis with
  | some a =>
    if a.head = h ∧ a.region = rid ∧ a.first ≤ frame then
      let put (t : Tbl Nat) : Tbl Nat := l.foldl (fun t p => Tbl.set t p.1 p.2) t
      { s with lant := { s.lant with analysis := some (if echo then { a with echo := put a.echo } else { a with tiles := put a.tiles }) } }
    else s
  | none => s

/-! ## Writeback (R179 to R182) -/

/-- The entries of a stream in force. -/
def State.wbEntries (s : State) (w : Nat) : WbCfg :=
  let i := 0x5300 + w
  let r := s.cfgBytes i 4
  { head := s.cfg i 1, mode := s.cfg i 2, format := s.cfg i 3, x0 := getLE r 0 2, y0 := getLE r 2 2, x1 := getLE r 4 2,
    y1 := getLE r 6 2, decimate := s.cfg i 5, count := s.cfg i 6,
    bases := (List.range 8).map (fun k => getLE (s.cfgBytes i 7) (8 * k) 8), stride := s.cfg i 8, trigger := s.cfg i 9,
    post := s.cfg i 10 }

/-- Bytes of one buffer with its trailer, at its greatest (R179, R181). -/
def WbCfg.bufferBytes (c : WbCfg) : Nat := (c.y1 - c.y0) * c.stride + 0x40 + 32 * 64

/-- The check at enable: every buffer lies in a window that grants HEADS write access. -/
def State.wbBoundsOk (s : State) (c : WbCfg) : Bool :=
  (c.bases.take c.count).all (fun a => isDevAddr a && s.granted .heads true a c.bufferBytes)

/-- The frame numbers and flags a capture begins with. -/
def Wb.capture (x : Wb) (hd : Head) (link : DpLink) : Wb :=
  let n := Nat.max 1 x.cfg.count
  { x with capturing := true, buffer := x.nextBuf % n, nextBuf := (x.nextBuf + 1) % n, frame := hd.frame, fstart := hd.f,
           epoch := hd.shown, flags := 4 * b2n (hd.state == .safe) + 8 * b2n (hd.state == .halted) + 16 * b2n (!link.carrying),
           crcReg := crcInit, incomplete := false, finishing := false }

/-- At line 0 of its head a stream samples its entries and decides whether to capture the frame (R179, R182). -/
def State.wbLineZero (s : State) (w h : Nat) : State :=
  let c := s.wbEntries w
  let x := s.stream w
  let mine := c.head == h
  if !mine && x.cfg.head != h then s
  else
    let x := { x with cfg := c, capturing := false, finishing := false }
    if c.mode = 0 then s.setStream w { x with wasOn := false, off := false, frozen := false, triggered := false, skip := 0 }
    else if !mine then s.setStream w x
    else
      let fresh := !x.wasOn
      let bad := fresh && !s.wbBoundsOk c
      let x := if fresh then { x with wasOn := true, off := bad, frozen := false, triggered := false, skip := 0, nextBuf := 0 } else x
      if bad then (s.countBounds.setStream w x).raiseNum (evWb w 3)
      else
        let hd := s.head h
        let sends := hd.state == .active || hd.state == .safe || hd.state == .halted
        let step := c.decimate * (if 1 ≤ s.lamp.stage then 2 else 1)
        let go (x : Wb) : State := s.setStream w (x.capture hd (s.link h))
        if x.off || !sends then s.setStream w x
        else match c.mode with
          | 2 => if x.armed then go { x with armed := false } else s.setStream w x
          | 3 =>
            if x.frozen then s.setStream w x
            else if x.triggered ∧ x.postLeft = 0 then (s.setStream w { x with frozen := true }).raiseNum (evWb w 2)
            else if x.skip = 0 then go { x with skip := step - 1, postLeft := if x.triggered then x.postLeft - 1 else x.postLeft }
            else s.setStream w { x with skip := x.skip - 1 }
          | _ =>
            if x.skip = 0 then go { x with skip := step - 1 } else s.setStream w { x with skip := x.skip - 1 }

/-- The bytes of a captured run of pixels (R180). -/
def wbBytes (format n : Nat) (l : List Px) : List Byte :=
  if format = 0 then wordBytes n l else l.flatMap (fun p => leBytes 2 p.b ++ leBytes 2 p.g ++ leBytes 2 p.r ++ leBytes 2 0)

/-- Capture the lines of a band, line `y0` first; a full FIFO ends the frame's pixels (R182). -/
def State.wbLines (s : State) (w n : Nat) (lines : List (List Px)) (y0 : Nat) (full : Bool) : State :=
  let x := s.stream w
  let meets := decide (x.cfg.y0 < y0 + lines.length ∧ y0 < x.cfg.y1)
  let s := if full && meets then s.setStream w { x with incomplete := true } else s
  (lines.zip (List.range lines.length)).foldl (fun s p =>
    let x := s.stream w
    let y := y0 + p.2
    if y < x.cfg.y0 ∨ x.cfg.y1 ≤ y then s
    else
      let last := y + 1 == x.cfg.y1
      if x.incomplete then s.setStream w { x with finishing := x.finishing || last }
      else
        let d := wbBytes x.cfg.format n ((p.1.drop x.cfg.x0).take (x.cfg.x1 - x.cfg.x0))
        let s := s.devWrite (x.cfg.bases.getD x.buffer 0 + (y - x.cfg.y0) * x.cfg.stride) d
        s.setStream w { x with crcReg := crcUpdate x.crcReg d, finishing := x.finishing || last }) s

/-- The signature log records of a frame, in ascending REGION_ID order. -/
def insertRec (x : LogRec) (l : List LogRec) : List LogRec :=
  match l with
  | [] => [x]
  | y :: r => if x.region < y.region then x :: y :: r else y :: insertRec x r
def State.recordsOf (s : State) (h frame : Nat) : List LogRec :=
  (s.lant.frameRecs.filter (fun x => x.head == h && x.frame == frame)).foldl (fun l x => insertRec x l) []

/-- The trailer of R181. -/
def State.trailer (s : State) (w : Nat) (x : Wb) : List Byte :=
  let recs := s.recordsOf x.cfg.head x.frame
  let flags := x.flags + b2n x.incomplete + 2 * b2n (s.head x.cfg.head).missInFrame
  let rect := leBytes 2 x.cfg.x0 ++ leBytes 2 x.cfg.y0 ++ leBytes 2 x.cfg.x1 ++ leBytes 2 x.cfg.y1
  leBytes 8 (wrap 48 x.frame) ++ leBytes 8 x.fstart ++ leBytes 4 x.epoch
    ++ [byte (x.cfg.head + 16 * w), byte x.cfg.format, byte flags, byte recs.length] ++ rect ++ leBytes 4 (crcFinal x.crcReg)
    ++ leBytes 4 x.sequence ++ leBytes 24 0 ++ recs.flatMap (fun r => r.bytes)

/-- The stream writes its trailer and the frame is done (R181, R182). -/
def State.wbFinish (s : State) (w : Nat) : State :=
  let x := s.stream w
  let s := s.devWrite (x.cfg.bases.getD x.buffer 0 + (x.cfg.y1 - x.cfg.y0) * x.cfg.stride) (s.trailer w x)
  let s := s.setStream w { x with
    capturing := false, finishing := false, sequence := wrapInc 32 x.sequence, written := wrapInc 32 x.written,
    incompleteN := if x.incomplete then satInc 32 x.incompleteN else x.incompleteN,
    lastBuffer := if x.incomplete then x.lastBuffer else x.buffer }
  let s := if x.incomplete then s.raiseNum (evWb w 1) else s
  s.raiseNum (evWb w 0)

/-- WB_FRAME_DONE (R181): every pixel write is done and the frame's last verdict has been formed. -/
def execWbFrameDone (w : Fin 4) (s : State) : Host.Outcome State Fault Refusal :=
  let x := s.stream w
  let h := x.cfg.head
  let all := decide ((s.regionsOf h).length ≤ (s.recordsOf h x.frame).length)
  .next (if x.capturing && x.finishing && all then s.wbFinish w else s)

/-- A write of TRUE to WbCapture (R179, R182). -/
def State.wbArm (s : State) (w : Nat) : State :=
  s.modStream w (fun x => { x with armed := true, frozen := false, triggered := false })

/-- WB_CAPTURE (R182): SINGLE captures the next frame; FREEZE_ON_EVENT is armed again. -/
def execWbCapture (w : Fin 4) (s : State) : Host.Outcome State Fault Refusal := .next (s.wbArm w)

/-! ## The drain of a band (R120 to R123, R161) -/

/-- The cause of a missed band (R123). -/
def Band.cause (b : Option Band) : Nat :=
  match b with
  | none => 1
  | some b => if b.abandon then 2 else if b.engFault then 3 else if b.galLeft then 4 else 1

/-- Split a tile's pixels into its lines. -/
def tileLine (w j : Nat) (l : List Px) : List Px := (l.drop (w * j)).take w

/-- The working values of a composed band, line by line. -/
def Band.rows (b : Band) (a : Area) : List (List Px) :=
  (List.range (a.bandEnd b.band - 8 * b.band)).map (fun j => (List.range a.tiles).flatMap (fun k =>
    tileLine (Nat.min (128 * k + 128) a.ha - 128 * k) j (Tbl.get [] b.done k)))

/-- What a head draws itself over the lines of band `b`: a working value for each pixel. -/
def drawRows (a : Area) (b : Nat) (f : Nat → Nat → Px) : List (List Px) :=
  (List.range (a.bandEnd b - 8 * b)).map (fun j => (List.range a.ha).map (fun x => f x (8 * b + j)))

/-- The working rows through the head colour path. -/
def toOutput (cfg : Tbl (List Byte)) (h depth frame : Nat) (a : Area) (b : Nat) (rows : List (List Px)) : List (List Px) :=
  (rows.zip (List.range rows.length)).map (fun p => (p.1.zip (List.range p.1.length)).map (fun q =>
    headPixel cfg h depth frame a q.2 (8 * b + p.2) q.1))

/-- Count a missed band and raise BAND_MISS; every region that meets it is MISSED (R120, R122, R194). -/
def State.missBand (s : State) (h b : Nat) (y : Option Band) : State :=
  let s := s.modHead h (fun x =>
    { x with missCount := satInc 32 x.missCount, missRc := satInc 16 x.missRc, lastMiss := wrap 48 x.frame + b * 2 ^ 48,
             missCause := Band.cause y, missInFrame := true })
  let s := s.forEach ((s.regionsOf h).filter (fun r => decide (r.y0 < 8 * b + 8 ∧ 8 * b < r.y1)))
    (fun s r => s.modRegion h r.id (fun x => { x with missed := true }))
  s.raiseHead h .bandMiss

/-- The head's test of band `b` (R120): the rows it sends as working values, and the state after the band has left the
buffer. -/
def State.drainRows (s : State) (h b : Nat) : State × Tbl (List Byte) × List (List Px) :=
  let x := s.head h
  let y := s.band? h x.frame b
  let cfg := match y with | some y => y.cfg | none => x.shownCfg
  let a := x.areaIn h cfg
  let leave (s : State) : State :=
    (s.dropJobs h x.frame b).modHead h (fun x => { x with bands := x.bands.filter (fun y => !(y.frame == x.frame && y.band == b)) })
  match y with
  | some z =>
    if z.finished && !z.abandon then (leave s, cfg, z.rows a)
    else
      let s := { s with lant := { s.lant with parts := s.lant.parts.filter (fun (p : Nat × EchoPart × Band) =>
        !(p.1 == h && p.2.1.frame == x.frame && p.2.1.band == b)) } }
      (leave (s.missBand h b y), cfg, drawRows a b (fun i j => faultPixel cfg (i + a.ox) (j + a.oy)))
  | none => (s.missBand h b none, cfg, drawRows a b (fun i j => faultPixel cfg (i + a.ox) (j + a.oy)))

/-- The lines of band `b` at the output depth (R163): composed or fault drapery, or a HALTED head's own output (R178). -/
def State.drainLines (s : State) (h b : Nat) : State × List (List Px) :=
  let x := s.head h
  if x.state = .halted then
    let a := x.areaIn h x.shownCfg
    if cfgIn x.shownCfg (0x4004 + 0x100 * h) 4 = 1 then (s, drawRows a b (fun _ _ => Px.zero))
    else (s, toOutput x.shownCfg h x.timing.depth x.frame a b (drawRows a b (fun i j => cardPixel x.shownCfg a i j)))
  else
    let (s, cfg, rows) := s.drainRows h b
    (s, toOutput cfg h x.timing.depth x.frame (x.areaIn h cfg) b rows)

/-- The head's own test CRC over the lines sent (R183). -/
def testLines (c : Nat × Nat × Nat) (lines : List (List Px)) : Nat × Nat × Nat :=
  lines.foldl (fun (c : Nat × Nat × Nat) l =>
    let t := l.map (fun p => (p.r, p.g, p.b))
    (Config.testCrc 0 c.1 t, Config.testCrc 1 c.2.1 t, Config.testCrc 2 c.2.2 t)) c

/-- BAND_DRAIN (R120, R161): the next band of the frame leaves the band buffer: it is tested, formatted, signed, captured and
sent. `wbFull` names the streams whose FIFO is full. An IDLE head sends and signs nothing (R173, R198). -/
def execBandDrain (h : Fin 16) (wbFull : List (Fin 4)) (s : State) : Host.Outcome State Fault Refusal :=
  let x := s.head h
  let b := x.nextDrain
  .next (if x.state == .off || !x.counted || decide (x.bandCount ≤ b) then s
    else
      let s := s.modHead h (fun x => { x with nextDrain := b + 1 })
      if x.state = .idle then s
      else
        let (s, lines) := s.drainLines h b
        let n := depthBits x.timing.depth
        let s := s.modHead h (fun x => { x with lineOut := lines })
        let s := s.modLink h (fun l => { l with ownCrc := testLines l.ownCrc lines })
        let s := s.forEach (s.regionsOf h) (fun s r =>
          (s.signLines h n x.frame r lines (8 * b)).noteSubs h r.id x.frame false (subSignatures n x.frame b r lines))
        s.forEach [0, 1, 2, 3] (fun s w =>
          let y := s.stream w
          if y.capturing && y.cfg.head == h.val then s.wbLines w n lines (8 * b) (wbFull.any (fun v => v.val == w)) else s))

/-! ## Echo (R190 to R193) -/

/-- Echo's CRC of a region cannot be completed for a frame. -/
def State.echoFails (s : State) (h rid frame : Nat) : State :=
  let x := s.head h
  s.modRegion h rid (fun r => if frame = x.frame ∧ x.counted then { r with echoBad := true } else { r with nextBad := true })

/-- A fault in Echo's own work: the second within 1 s retires it (R192). -/
def State.echoFault (s : State) : State :=
  let l := s.lant
  let again := match l.echoLast with | some t => decide (s.now ≤ t + 1000000000) | none => false
  let s := { s with lant := { l with echoFaults := satInc 32 l.echoFaults, echoFaultsRc := satInc 16 l.echoFaultsRc,
                                     echoLast := some s.now } }
  let s := s.raise .echoFault
  if again && !l.echoRetired then
    let s := { s with lant := { s.lant with echoRetired := true, parts := [] } }
    ((s.raise .echoRetired).noteConditions).healthDue
  else s

/-- A band's part of a region, the earliest of those outstanding. -/
def State.echoPart (s : State) (h rid : Nat) : Option (Nat × EchoPart × Band) :=
  (s.lant.parts.filter (fun p => p.1 == h && p.2.1.region == rid)).foldl
    (fun (best : Option (Nat × EchoPart × Band)) p =>
      match best with
      | none => some p
      | some q => if p.2.1.frame = q.2.1.frame ∧ p.2.1.band < q.2.1.band then some p else some q) none

/-- What refuses or fails a read of Echo's part: the layers of the tile-bands its region meets (R191). -/
inductive EchoRead where
  | ok
  | refused
  | failed (addr : Nat)
  deriving DecidableEq, Repr
def State.echoReads (s : State) (h : Nat) (r : Region) (b : Band) : EchoRead :=
  let a := (s.head h).areaIn h b.cfg
  let all := b.uses h a
  let tiles := (List.range ((r.x1 - 1) / 128 + 1 - r.x0 / 128)).map (fun i => r.x0 / 128 + i)
  let runs := all.flatMap (fun u => match b.decs.find? (fun d => d.layer == u.idx) with
    | some d => if d.treat.reads then
        layerRuns a b.band (twoFor b.twoTap u) u d (tiles.filter (fun k => (contributing a b.band k all).any (fun v => v.idx == u.idx)))
      else []
    | none => [])
  if runs.any (fun p => !s.granted .heads false p.1 p.2) then .refused
  else match runs.findSome? (fun p => s.badRead p.1 p.2) with
    | some e => .failed e
    | none => .ok

/-- Echo recomputes the band's lines of a region: the same arithmetic over the same decisions (R190). -/
def State.echoLines (s : State) (h : Nat) (b : Band) : List (List Px) :=
  let x := s.head h
  let a := x.areaIn h b.cfg
  let done := (List.range a.tiles).map (fun k => (k, s.tilePixels h b k))
  toOutput b.cfg h x.timing.depth b.frame a b.band (Band.rows { b with done := done } a)

/-- The bursts read for the tile-bands of a region in a band (R191). -/
def State.echoBytes (s : State) (h : Nat) (r : Region) (b : Band) : Nat :=
  match b.scene with
  | none => 0
  | some sc =>
    let a := (s.head h).areaIn h b.cfg
    let l := (b.uses h a).map (fun u => { u with cut := u.cut || (b.decs.find? (fun d => d.layer == u.idx)).elim false (fun d => !d.treat.reads) })
    tilesBytes (regionTiles r b.band (bandTiles sc a b.band l))

/-- Add a band's lines to Echo's CRC register: register, lines passed and whether it is spoilt. -/
def echoAdd (n : Nat) (r : Region) (b : Nat) (lines : List (List Px)) (c : Word32 × Nat × Bool) : Word32 × Nat × Bool :=
  let y0 := Nat.max r.y0 (8 * b)
  let y1 := Nat.min r.y1 (8 * b + lines.length)
  let bad := c.2.2 || (if c.2.1 = 0 then y0 != r.y0 else y0 != c.2.1)
  (((lines.drop (y0 - 8 * b)).take (y1 - y0)).foldl (fun c l => crcUpdate c (wordBytes n ((l.drop r.x0).take (r.x1 - r.x0)))) c.1, y1, bad)

/-- Echo finishes its part of a band of a region. -/
def State.echoDone (s : State) (h : Nat) (r : Region) (frame : Nat) (b : Band) : State :=
  let x := s.head h
  let n := depthBits x.timing.depth
  let lines := s.echoLines h b
  let bytes := s.echoBytes h r b
  let s := s.modRegion h r.id (fun q =>
    if frame = x.frame ∧ x.counted then
      let c := echoAdd n r b.band lines (q.echoReg, q.echoNext, q.echoBad)
      { q with echoReg := c.1, echoNext := c.2.1, echoBad := c.2.2 }
    else
      let c := echoAdd n r b.band lines (q.nextReg, q.nextNext, q.nextBad)
      { q with nextReg := c.1, nextNext := c.2.1, nextBad := c.2.2 })
  let s := { s with lant := { s.lant with partsDone := wrapInc 64 s.lant.partsDone, bytesRead := wrap 64 (s.lant.bytesRead + bytes) } }
  s.noteSubs h r.id frame true (subSignatures n frame b.band r lines)

/-- ECHO_PART_DONE (R191, R192): the earliest outstanding part of a region ends. A read that a window refuses or that meets a
known uncorrectable block ends it without its CRC, whatever the operand says. -/
def execEchoPartDone (h : Fin 16) (rid : Fin 64) (out : EchoOutcome) (s : State) : Host.Outcome State Fault Refusal :=
  .next (match s.echoPart h rid with
    | none => s
    | some (_, part, b) =>
      let s := { s with lant := { s.lant with parts := s.lant.parts.filter (fun (p : Nat × EchoPart × Band) =>
        !(p.1 == h.val && decide (p.2.1 = part))) } }
      match b.scene.bind (fun sc => sc.regions.find? (fun r => r.head == h.val && r.id == rid.val)) with
      | none => s
      | some r =>
        let fail := s.echoFails h rid part.frame
        match out, s.echoReads h r b with
        | .fault, _ => fail.echoFault
        | _, .refused => fail.countBounds
        | _, .failed e =>
          let s := fail.countRepeated e
          (match b.bufferAt e with | some (src, buf) => s.cancelBuffer src buf | none => s)
        | .done, .ok => s.echoDone h r part.frame b
        | _, .ok => fail)

/-! ## Verdicts (R187 to R197) -/

/-- The reference frame distance of PREVIOUS (R188). -/
def Head.refDistance (x : Head) (h : Nat) : Nat := if cfgIn x.shownCfg (0x4030 + 0x100 * h) 7 = 1 then 16 else 1

/-- Echo's CRC of a region is complete. -/
def State.echoComplete (s : State) (r : Region) (x : RegSt) : Bool :=
  !s.lant.echoRetired && !x.echoBad && decide (r.y1 ≤ x.echoNext)

/-- The verdict of R194, with the run it leaves and the value compared with. -/
def State.verdict (s : State) (h : Nat) (r : Region) (x : RegSt) : Nat × Nat × Nat :=
  let hd := s.head h
  let crc := crcFinal x.crcReg
  let prev := (x.refs.find? (fun p => hd.refDistance h ≤ x.finalFrame && p.1 == x.finalFrame - hd.refDistance h)).map (fun p => p.2)
  if hd.state = .halted then (6, 0, if r.expect = 1 then r.expected else 0)
  else if x.missed then (5, 0, if r.expect = 1 then r.expected else 0)
  else match r.expect with
    | 0 => (0, 0, 0)
    | 1 => (if crc = r.expected then 1 else 2, 0, r.expected)
    | 2 =>
      if !s.echoComplete r x then (4, 0, 0)
      else (if crc = crcFinal x.echoReg then 1 else 2, 0, crcFinal x.echoReg)
    | _ =>
      match prev with
      | none => (3, 0, 0)
      | some p =>
        let run := if crc = p then x.run + 1 else 0
        let bad := if r.onSame then decide (cfgIn hd.shownCfg (0x4040 + 0x100 * h) 1 ≤ run) else crc != p
        (if bad then 2 else 1, run, p)

/-- The head state that a mismatch's policy calls for from the next line 0; in CALIBRATE it calls for none (R196, R348). -/
def State.applyPolicy (s : State) (h policy : Nat) : State :=
  if s.sys.mode = .calibrate then s
  else match policy with
    | 2 => s.callHead h (fun x => { x with wantSafe := true })
    | 3 => s.callHead h (fun x => { x with wantHalt := true })
    | _ => s

/-- LastMismatch names the lowest REGION_ID of the frame's mismatches (R196). -/
def lastMismatch (old frame rid : Nat) : Nat :=
  if old % 2 ^ 48 = frame % 2 ^ 48 ∧ old ≠ 0 ∧ old / 2 ^ 48 < rid then old else wrap 48 frame + rid * 2 ^ 48

/-- The counts and the policy of a mismatch. -/
def State.countMismatch (s : State) (h frame : Nat) (r : Region) : State :=
  let l := s.lant
  let s := { s with lant := { l with
    mismatches := Tbl.set l.mismatches h (satInc 32 (Tbl.get 0 l.mismatches h)),
    mismRc := Tbl.set l.mismRc h (satInc 16 (Tbl.get 0 l.mismRc h)),
    lastMism := Tbl.set l.lastMism h (lastMismatch (Tbl.get 0 l.lastMism h) frame r.id) } }
  s.applyPolicy h r.policy

/-- End an analysis with its result (R204). -/
def State.endAnalysis (s : State) (code g e : Nat) : State :=
  let s := { s with lant := { s.lant with analysis := none, localise := code + g * 2 ^ 8 + e * 2 ^ 12 } }
  if code = 1 then (s.retireEngine g e).raise .localised else s.raise .localiseInconclusive

/-- Evaluate one frame of an analysis (R203, R204). -/
def State.evaluateFrame (s : State) (a : Analysis) (frame verdict : Nat) : State :=
  let mine (k : Nat) : Bool := k / 65536 == frame % 2
  let keys := ((a.tiles.map (fun p => p.1)).filter mine).filter (fun k => (Tbl.find? a.echo k).isSome)
  let bad := if verdict = 1 ∨ verdict = 2 then keys.filter (fun k => Tbl.find? a.tiles k != Tbl.find? a.echo k) else []
  let hit := match bad.filterMap (fun k => Tbl.find? a.writers k) with
    | w :: rest => if rest.all (fun v => v == w) && rest.length + 1 == bad.length then [w] else []
    | [] => []
  let drop (t : Tbl Nat) : Tbl Nat := t.filter (fun p => !mine p.1)
  let a := { a with frames := a.frames + 1, engHits := a.engHits ++ hit, whole := a.whole + b2n (!bad.isEmpty && bad.length == keys.length),
                    tiles := drop a.tiles, echo := drop a.echo, writers := drop a.writers }
  match a.engHits.find? (fun w => decide (2 ≤ (a.engHits.filter (fun v => v == w)).length)) with
  | some w => s.endAnalysis 1 (w / 32) (w % 32)
  | none =>
    if 2 ≤ a.whole then s.endAnalysis 2 0 0
    else if 8 ≤ a.frames then s.endAnalysis 3 0 0
    else { s with lant := { s.lant with analysis := some a } }

/-- A mismatch of an ECHO region starts an analysis when none runs; a frame of one under way is evaluated (R203). -/
def State.localise (s : State) (h : Nat) (r : Region) (frame verdict : Nat) : State :=
  match s.lant.analysis with
  | some a => if a.head = h ∧ a.region = r.id ∧ a.first ≤ frame then s.evaluateFrame a frame verdict else s
  | none =>
    if r.expect = 2 ∧ verdict = 2 ∧ s.cfgBool 0x5001 1 then
      let a : Analysis :=
        { head := h, region := r.id, first := frame + 1, frames := 0, tiles := [], echo := [], writers := [], engHits := [],
          whole := 0 }
      { s with lant := { s.lant with analysis := some a } }
    else s

/-- An UNCHECKED verdict counts and is raised (R192). -/
def State.countUnchecked (s : State) : State :=
  State.raise { s with lant := { s.lant with unchecked := satInc 32 s.lant.unchecked, uncheckedRc := satInc 16 s.lant.uncheckedRc } }
    .echoUnchecked

/-- The log record of a verdict (R201). -/
def State.verdictRecord (s : State) (h : Nat) (r : Region) (x : RegSt) (v : Nat) (expected : Nat) : LogRec :=
  let hd := s.head h
  let analysed := match s.lant.analysis with | some a => a.head == h && a.region == r.id && decide (a.first ≤ x.finalFrame) | none => false
  { frame := x.finalFrame, head := h, region := r.id, glass := hd.f + hd.lineNs r.y0, crc := crcFinal x.crcReg, expected := expected,
    epoch := hd.shown, verdict := v, mode := r.expect + 4 * r.policy + 16 * b2n (hd.state == .safe) + 32 * b2n analysed, gap := 0,
    event := v == 2 && decide (1 ≤ r.policy) }

/-- REGION_VERDICT (R194 to R197): the verdict of a region whose CRC is final. -/
def execRegionVerdict (h : Fin 16) (rid : Fin 64) (s : State) : Host.Outcome State Fault Refusal :=
  let x := s.region h rid
  .next (match (s.regionsOf h).find? (fun r => r.id == rid.val) with
    | none => s
    | some r =>
      if !x.final then s
      else
        let (v, run, expected) := s.verdict h r x
        let crc := crcFinal x.crcReg
        let stored := r.expect == 3 && v != 5 && v != 6
        let rec_ := s.verdictRecord h r x v expected
        let s := s.setRegion h rid { x with
          final := false, crc := crc, verdict := v, run := run, frame := x.finalFrame,
          refs := if stored then ((x.finalFrame, crc) :: x.refs).take 16 else x.refs }
        let s := if v = 4 then s.countUnchecked else s
        let s := if v = 2 then s.countMismatch h x.finalFrame r else s
        let s := { s with lant := { s.lant with frameRecs := s.lant.frameRecs ++ [rec_] } }
        (s.logRecord rec_).localise h r x.finalFrame v)

end Sys2Proof.Machine
end

