-- ==== Sys2Proof/Machine/Heads.lean ====
section
/-!
DEFINITION. Scan heads (R153 to R178, R183): the timing checks, the start and stop of a head, the latch, line 0 with its
genlock, head states and link stream, SYNC_IN, and the DisplayPort link's plug, loss, training and retirement.
-/

namespace Sys2Proof.Machine

/-! ## Timing checks (R154, R164, R170, R172) -/

/-- Head `h` is the odd half of a bonded pair: its transmitter, HPD and AUX are off (R172). -/
def State.bondedOdd (s : State) (h : Nat) : Bool := s.timeHead h != h

/-- The timing entries of a head as they stand in force. -/
def State.timingOf (s : State) (h : Nat) : Timing :=
  let t := s.timeHead h
  { hActive := s.tcfg h 1, hFront := s.tcfg h 2, hSync := s.tcfg h 3, hBack := s.tcfg h 4, hPos := s.tcfg h 5 != 0,
    vActive := s.tcfg h 6, vFront := s.tcfg h 7, vSync := s.tcfg h 8, vBack := s.tcfg h 9, vPos := s.tcfg h 10 != 0,
    num := s.tcfg h 11, den := s.tcfg h 12, phase := s.tcfg h 13, genlock := s.hcfg t 1 1, dsc := s.hcfgBool t 3 1,
    bond := t % 2 == 0 && s.hcfgBool t 3 5 && s.hcfgBool (t + 1) 0 14, depth := s.hcfg h 0x30 8, window := s.hcfg h 0x20 1,
    guard := s.hcfg h 0x20 2 }

/-- A pair has been asked for on the even head of `h`'s pair (R172). -/
def State.bondAsked (s : State) (h : Nat) : Bool := s.hcfgBool (h / 2 * 2) 3 5

/-- Check 4 of R154. -/
def State.bondOk (s : State) (h : Nat) : Bool :=
  let e := h / 2 * 2
  let a := s.cfg 0x3110 (e + 1)
  let b := s.cfg 0x3110 (e + 2)
  !s.bondAsked h || (h % 2 == 1 && !s.hcfgBool e 0 14)
    || (s.hcfgBool (e + 1) 0 14 && s.hcfgBool e 3 1 && field b 15 0 == field a 15 0 + s.hcfg e 0 1 && field b 31 16 == field a 31 16)

/-- Check 6 of R154: the DSC parameters of R170. -/
def State.dscOk (s : State) (t : Nat) : Bool :=
  let slices := s.hcfg t 3 3
  let bits := depthBits (s.hcfg t 0x30 8)
  !s.hcfgBool t 3 1
    || ((slices == 1 || slices == 2 || slices == 4) && s.hcfg t 0 1 % (4 * slices) == 0 && decide (8 ≤ s.hcfg t 3 4)
        && s.hcfg t 0 6 % s.hcfg t 3 4 == 0 && decide (8 ≤ bits) && decide (128 ≤ s.hcfg t 3 2)
        && decide (s.hcfg t 3 2 ≤ 16 * (3 * bits) - 16))

/-- Bit rates of R164 per lane, by the code of LinkRateMax. -/
def linkBitRate (code : Nat) : Nat :=
  match code with
  | 0 => 1620000000 | 1 => 2700000000 | 2 => 5400000000 | 3 => 8100000000 | 4 => 10000000000 | _ => 13500000000

/-- Coding efficiency e of R164 in ten-thousandths. -/
def linkEfficiency (code : Nat) (fec : Bool) : Nat := if 4 ≤ code then 9671 else if fec then 7805 else 8000

/-- A head's stream fits `lanes` lanes at a rate: S ≤ 0.98 · L · r · e (R164). -/
def State.streamFits (s : State) (h code lanes : Nat) : Bool :=
  let t := s.timeHead h
  let x := s.timingOf t
  let pix := x.htotal * x.vtotal * x.num * (if x.bond then 2 else 1)
  let (sn, sd) := if x.dsc then (pix * s.hcfg t 3 2, x.den * 16) else (pix * 3 * depthBits x.depth, x.den)
  decide (sn * 1000000 ≤ 98 * lanes * linkBitRate code * linkEfficiency code x.dsc * sd)

/-- The first failing check of R154, 0 when all pass. -/
def State.headFault (s : State) (h : Nat) : Nat :=
  let x := s.timingOf h
  let hs := [x.hActive, x.hFront, x.hSync, x.hBack]
  let pix := x.htotal * x.vtotal * x.num
  let t := s.timeHead h
  if !(decide (640 ≤ x.hActive ∧ x.hActive ≤ 5120 ∧ x.htotal ≤ 8192) && hs.all (fun v => v % 4 == 0)
      && (hs.drop 1).all (fun v => decide (4 ≤ v))) then 1
  else if !(decide (480 ≤ x.vActive ∧ x.vActive ≤ 4320 ∧ x.vtotal ≤ 8191 ∧ 8 ≤ x.vtotal - x.vActive)
      && [x.vFront, x.vSync, x.vBack].all (fun v => decide (1 ≤ v))) then 2
  else if x.den = 0 ∨ ¬ (23 * x.den ≤ x.num ∧ x.num ≤ 240 * x.den ∧ 25000000 * x.den ≤ pix ∧ pix ≤ 1250000000 * x.den) then 3
  else if !s.bondOk h then 4
  else if x.genlock = 2 ∧ s.coherent then 5
  else if !s.dscOk t then 6
  else if !s.streamFits h (s.hcfg t 2 1) (s.hcfg t 2 2) then 7
  else 0

/-- Run the checks of R154 on a head and report them; HEAD_CONFIG_INVALID is raised at each evaluation that fails. -/
def State.checkHead (s : State) (h : Nat) : State × Bool :=
  let c := s.headFault h
  let s := s.modHead h (fun x => { x with configFault := c })
  if c = 0 then (s, true) else (s.raiseHead h .headConfigInvalid, false)

/-! ## Head states by mode (R174) -/

/-- States in which a head sends a stream (R173). -/
def HState.sends (x : HState) : Bool := x == .active || x == .safe || x == .halted

/-! ## The link (R164 to R169) -/

/-- LINK_INSUFFICIENT follows LinkState (R403). -/
def State.linkLevel (s : State) (h : Nat) : State := s.levelHead h .linkInsufficient ((s.link h).state == .insufficient)

/-- The configurations of an attempt, in its order: rates downwards, then 4, 2 and 1 lanes, without those that cannot carry
the stream (R165). A sink whose DSC capability does not admit the parameters has none (R170); DSC on 8b/10b needs FEC. -/
def State.linkConfigs (s : State) (h : Nat) (c : SinkCaps) : List Trained :=
  let dsc := s.hcfgBool h 3 1
  let top := Nat.min (s.hcfg h 2 1) c.rateMax
  let lanes := Nat.min (s.hcfg h 2 2) c.lanesMax
  if dsc && !c.dsc then []
  else ((List.range 6).reverse.filter (fun r => decide (r ≤ top) && (!dsc || decide (4 ≤ r) || c.fec))).flatMap (fun r =>
    ([4, 2, 1].filter (fun l => decide (l ≤ lanes) && s.streamFits h r l)).map (fun l => { rate := r, lanes := l }))

/-- A head whose state calls for a link, on a transmitter of its own. -/
def State.wantsLink (s : State) (h : Nat) : Bool := (s.head h).state.sends && !s.bondedOdd h

/-- Begin a training attempt where a sink is present: INSUFFICIENT when no configuration of its capabilities fits (R165). -/
def State.beginTraining (s : State) (h : Nat) : State :=
  match (s.link h).sink with
  | none => s
  | some c =>
    let st : Link := if (s.linkConfigs h c).isEmpty then .insufficient else .training
    (s.modLink h (fun l => { l with state := st, attemptAt := s.now, retryAt := none, carrying := false, lanes := 0,
                                    auxOn := true, sinkD3 := false })).linkLevel h

/-- Stop the main link of a head that no longer sends; a link that is retired or without sink stays so. The sink is set to D3
while the head is IDLE (R173). -/
def State.linkOff (s : State) (h : Nat) (idle : Bool) : State :=
  (s.modLink h (fun l =>
    { l with state := if l.state == .retired || l.state == .noSink then l.state else .down, carrying := false, lanes := 0,
             retryAt := none, irqWaits := none, sinkD3 := l.sinkD3 || idle })).linkLevel h

/-- One failed attempt or loss: it counts, and the fifth within 2 s retires the link (R166). -/
def State.linkFailure (s : State) (h : Nat) (retry : Bool) : State :=
  let l := s.link h
  let times := l.failTimes.filter (fun t => decide (s.now ≤ t + 2000000000)) ++ [s.now]
  let s := s.modHead h (fun x => { x with lossRc := satInc 16 x.lossRc })
  let l := { l with events := satInc 32 l.events, failTimes := times, carrying := false, lanes := 0 }
  if 5 ≤ times.length then
    (s.setLink h { l with state := .retired, retryAt := none, irqWaits := none, auxOn := false }).raiseHead h .linkRetired
  else if retry then (s.setLink h { l with state := .down, retryAt := some (s.now + 100000000) })
  else (s.setLink h l).beginTraining h

/-- A loss of a trained link (R166, R167): LINK_DOWN, then an attempt. -/
def State.linkLoss (s : State) (h : Nat) : State := (s.raiseHead h .linkDown).linkFailure h false

/-- An IRQ_HPD is handled: the head reads the sink and, on a lost link, starts an attempt (R167). -/
def State.handleIrq (s : State) (h : Nat) (lost : Bool) : State :=
  let s := s.raiseHead h .sinkIrq
  if lost && (s.link h).state == .up then s.linkLoss h else s

/-- An attempt has ended: an IRQ_HPD that waited is handled now. -/
def State.afterAttempt (s : State) (h : Nat) : State :=
  match (s.link h).irqWaits with
  | some lost => (s.modLink h (fun l => { l with irqWaits := none })).handleIrq h lost
  | none => s

/-- HPD is sampled in every mode but RESET and BOOT (R174), and on no transmitter that is powered down (R172). -/
def State.hpdRead (s : State) (h : Nat) : Bool := s.sys.mode != .reset && s.sys.mode != .boot && !s.bondedOdd h

/-- HPD_UNPLUG (R167): the main link and AUX stop; an attempt under way is abandoned without count. -/
def execHpdUnplug (h : Fin 16) (s : State) : Host.Outcome State Fault Refusal :=
  .next (if !s.hpdRead h || (s.link h).state == .noSink then s
    else
      let s := s.modLink h (fun l => { l with state := .noSink, carrying := false, lanes := 0, retryAt := none, irqWaits := none,
                                              auxOn := false, sink := none })
      (s.linkLevel h).raiseHead h .sinkDetached)

/-- HPD_PLUG (R166, R167): the sink is read and the window cleared; the link trains where the head's state calls for one. -/
def execHpdPlug (h : Fin 16) (caps : SinkCaps) (s : State) : Host.Outcome State Fault Refusal :=
  .next (if !s.hpdRead h || (s.link h).sink.isSome then s
    else
      let s := s.modLink h (fun l => { l with state := .down, sink := some caps, failTimes := [], retryAt := none, auxOn := true,
                                              sinkD3 := (s.head h).state == .idle })
      let s := (s.linkLevel h).raiseHead h .sinkAttached
      if s.wantsLink h then s.beginTraining h else s)

/-- IRQ_HPD (R167): one that arrives during an attempt waits for its end. -/
def execIrqHpd (h : Fin 16) (lost : Bool) (s : State) : Host.Outcome State Fault Refusal :=
  let l := s.link h
  .next (if !s.hpdRead h || !l.auxOn || l.sink.isNone then s
    else if l.state = .training then s.modLink h (fun l => { l with irqWaits := some (lost || l.irqWaits.getD false) })
    else s.handleIrq h lost)

/-- TRAINING_ATTEMPT_END (R165): the attempt ends at the first configuration that trains, or fails with its list exhausted. A
configuration that the attempt does not try cannot train. -/
def execTrainingAttemptEnd (h : Fin 16) (res : Option Trained) (s : State) : Host.Outcome State Fault Refusal :=
  let l := s.link h
  .next (if l.state ≠ .training then s
    else match res, l.sink with
      | some t, some c =>
        if (s.linkConfigs h c).contains t then
          ((s.modLink h (fun l => { l with state := .up, rate := t.rate, lanes := t.lanes, retryAt := none })).raiseHead h .linkUp).afterAttempt h
        else (s.linkFailure h true).afterAttempt h
      | _, _ => (s.linkFailure h true).afterAttempt h)

/-- TRAINING_TIMEOUT (R165): an attempt ends 300 ms after it began. -/
def execTrainingTimeout (h : Fin 16) (s : State) : Host.Outcome State Fault Refusal :=
  let l := s.link h
  .next (if l.state = .training ∧ l.attemptAt + 300000000 ≤ s.now then (s.linkFailure h true).afterAttempt h else s)

/-- TRAINING_RETRY (R165): 100 ms after a failed attempt the next begins. -/
def execTrainingRetry (h : Fin 16) (s : State) : Host.Outcome State Fault Refusal :=
  .next (match (s.link h).retryAt with
    | some t => if t ≤ s.now ∧ s.wantsLink h then s.beginTraining h else s
    | none => s)

/-- A write of TRUE to LinkReenable clears the window and tries a RETIRED link again (R166). -/
def State.linkReenable (s : State) (h : Nat) : State :=
  let l := s.link h
  let s := s.modLink h (fun l => { l with failTimes := [] })
  if l.state ≠ .retired then s
  else
    let s := s.modLink h (fun l => { l with state := .down, auxOn := true })
    if s.wantsLink h then s.beginTraining h else s

/-- LINK_REENABLE (R166). -/
def execLinkReenable (h : Fin 16) (s : State) : Host.Outcome State Fault Refusal := .next (s.linkReenable h)

/-! ## Starting and stopping (R155, R157) -/

/-- The first moment t0 + k · period that is at least `t`, k whole, for a period of den · 10⁹ / num ns. -/
def projected (t0 num den t : Nat) : Nat :=
  if t ≤ t0 then t0 else t0 + roundDivN (ceilDiv ((t - t0) * num) (den * 1000000000) * den * 1000000000) (Nat.max 1 num)

/-- The first wall frame of a grid that starts at or after `t` (R156, R157). -/
def gridFrom (num den phase t : Nat) : Nat :=
  let n := (t - phase) * num / (den * 1000000000)
  (([n - 1, n, n + 1, n + 2].map (fun k => gridTime num den phase k)).find? (fun g => decide (t ≤ g))).getD t

/-- Where a starting head puts its first line 0 (R157). A SYNC_IN head that has seen no edge starts as a free one (DESIGN
CHOICE, log entry 13). -/
def Head.startPoint (x : Head) (now : Nat) : Nat :=
  let t := now + 1000000
  match x.timing.genlock with
  | 0 => gridFrom x.timing.num x.timing.den x.timing.phase t
  | 1 => (match x.syncTarget with | some e => projected e x.timing.num x.timing.den t | none => t)
  | _ => t

/-- Discard every tile in hand and every Echo part of a head. -/
def State.dropHead (s : State) (h : Nat) : State :=
  { s with
    gal := { s.gal with gals := Tbl.mapVals s.gal.gals (fun _ g => { g with jobs := g.jobs.filter (fun j => j.head != h) }) }
    lant := { s.lant with parts := s.lant.parts.filter (fun (p : Nat × EchoPart × Band) => p.1 != h) } }

/-- A head leaves OFF towards a state (R157): it is starting until its first line 0. Its references are cleared (R189). -/
def State.startHead (s : State) (h : Nat) (target : HState) : State :=
  let t := s.timingOf h
  let s := s.modHead h (fun x =>
    let x := { x with timing := t }
    { x with
      state := .off, next := some target, starting := true, restart := false, startAt := x.startPoint s.now, vtotalN := t.vtotal,
      wantSafe := false, wantHalt := false, resume := false, latched := false, nextBand := x.bandCount, nextDrain := 0, bands := [],
      samples := [], trim := 0, goodFrames := 0, phaseErr := 0, missInFrame := false,
      lock := if t.genlock = 2 then .free else .acquiring })
  (s.clearRefs h).levelHead h .genlockLost false

/-- A head stops: its scan ends, it releases every buffer it holds (R44), and its link goes off. A scene that waited for a
late latch waits for the head's next latch (R90). -/
def State.stopHead (s : State) (h : Nat) : State :=
  let s := (s.dropHead h).modHead h (fun x =>
    { x with state := .off, next := none, starting := false, restart := false, wantSafe := false, wantHalt := false, resume := false,
             bands := [], samples := [], lineOut := [], latched := false,
             target := if x.pendLate then x.nextFrame else x.target, pendLate := false })
  let s := { s with lant := { s.lant with frameRecs := s.lant.frameRecs.filter (fun r => r.head != h) } }
  let s := (s.levelHead h .headSafe false).levelHead h .headHalted false
  (s.levelHead h .genlockLost false).linkOff h false

/-- What a device mode entry calls for on a head (R174, R347 step 4): a stopped head starts, a running one takes its state at
its next line 0, and one whose entries of apply timing mode changed stops there and restarts. An enabled head that fails
R154 is OFF. -/
def State.enterMode (s : State) (retimed : List Nat) (h : Nat) : State :=
  let want := s.modeState h
  let (s, ok) := if want = .off then (s, true) else s.checkHead h
  let want := if ok then want else .off
  let x := s.head h
  let again := retimed.contains h || retimed.contains (s.timeHead h) || x.timing != s.timingOf h
  if !x.runs then (if want = .off then s else s.startHead h want)
  else s.callHead h (fun x => { x with next := some want, restart := want != .off && again, resume := false })

/-! ## The latch (R89 to R93, R97) -/

/-- The head has reached the frame from which its pending scene may be shown: outside a coherent commit the next latch always
takes it (R90); within one, the latch before the target frame (R93). -/
def Head.dueAt (x : Head) : Bool := decide ((x.nextFrame + 2 ^ 48 - x.target % 2 ^ 48) % 2 ^ 48 < 2 ^ 47)

/-- A gain map fits a head's timing (R148). -/
def gainFits (l : List Byte) (t : Timing) : Bool := mapEmpty l || mapGrid l == gainGrid t.hActive t.vActive

/-- Bring GainMapMisfit up to date: at the first line 0 it is judged, at a latch it may only end (R148). -/
def State.judgeMisfit (s : State) (h : Nat) (first : Bool) : State :=
  let x := s.head h
  let bad := !gainFits ((domainIn x.cfg (0x4030 + 0x100 * h) 3).getD []) x.timing
  let now := if first then bad else x.misfit && bad
  (s.modHead h (fun x => { x with misfit := now })).levelHead h .gainMapMisfit now

/-- The samples of a scene's frame-mode layers, and at generation 1 those of its remote layers (R19, R44, R55). -/
def State.latchSamples (s : State) (h : Nat) (sc : Option Scene) : Tbl Sample :=
  match sc with
  | none => []
  | some sc => ((sc.layers.zip (List.range sc.layers.length)).filter (fun p => p.1.head == h)).foldl
      (fun t p =>
        let l := p.1
        match s.source? l.src with
        | some y =>
          if l.band && !(s.ilelleGen == 1 && y.reg.home != s.ownAddress) then t
          else (match y.sample l.src with | some m => Tbl.set t p.2 m | none => t)
        | none => t) []

/-- An analysis ends when the region set of its head changes at a latch (R203). -/
def State.endAnalysisAt (s : State) (h : Nat) (old new : Option Scene) : State :=
  match s.lant.analysis with
  | some a =>
    let bare (sc : Option Scene) : List Region := (sceneRegions sc h).map (fun r => { r with offset := 0 })
    if a.head = h ∧ bare old ≠ bare new then s.endAnalysis 3 0 0 else s
  | none => s

/-- The pending scene was accepted for this head, and is not its content relabelled with a new epoch (R321). -/
def Head.namesHead (x : Head) (h : Nat) : Bool := x.pend.elim false (fun sc => sc.mask.testBit h)

/-- The scene of a latch becomes the head's current one; a new epoch clears its references (R189). -/
def State.takeScene (s : State) (h : Nat) : State :=
  let x := s.head h
  let s := s.modHead h (fun x =>
    { x with cur := x.pend, curEpoch := x.pendEpoch, pend := none, pendEpoch := 0, pendCfg := [], pendLate := false })
  let s := (s.clearRefs h).endAnalysisAt h x.cur x.pend
  let s := { s with scn := { s.scn with recheckDue := s.scn.recheckDue || s.scn.spareShed != 0 } }
  if s.sys.working = .standby && x.namesHead h then { s with sys := { s.sys with working := .operate, autoCause := some 3 } } else s

/-- What a head does at L_latch (R89, R90): a pending scene becomes current with the staged commit entries; frame-mode layers
sample; the bands of the next frame begin from here. -/
def State.latchHead (s : State) (h : Nat) : State :=
  let x := s.head h
  if !x.runs || x.latched then s
  else
    let take := x.pend.isSome && x.dueAt
    let s := s.latchEntries h (take && x.namesHead h) x.pendCfg
    let s := s.modHead h (fun x => { x with cfg := s.dict.force })
    let s := if take then (s.takeScene h).unsubscribeUnused else s
    let samples := s.latchSamples h (s.head h).cur
    let s := s.modHead h (fun x => { x with samples := samples, latched := true, nextBand := 0 })
    s.judgeMisfit h false

/-- COMMIT_AHEAD (R94): the event of a running head's scan. -/
def execCommitAhead (h : Fin 16) (s : State) : Host.Outcome State Fault Refusal :=
  .next (if (s.head h).state = .off then s else s.raiseHead h .commitAhead)

/-- A write of TRUE to HeadResume (R176). -/
def State.headResume (s : State) (h : Nat) : State := s.callHead h (fun x => { x with resume := x.runs })

/-- HEAD_RESUME (R176). -/
def execHeadResume (h : Fin 16) (s : State) : Host.Outcome State Fault Refusal := .next (s.headResume h)

/-! ## Genlock (R155 to R160) -/

/-- The wall frame of a head's frame (R156). -/
def Head.wallFrame (x : Head) : Nat := gridNearest x.timing.num (Nat.max 1 x.timing.den) x.timing.phase x.f

/-- The moment t0 + k · period nearest `t`, k a whole number of either sign. -/
def nearestProjected (t0 num den t : Nat) : Int :=
  let per : Int := ((den * 1000000000 : Nat) : Int)
  let k := roundDiv (((t : Int) - t0) * (num : Int)) (Nat.max 1 (den * 1000000000))
  (t0 : Int) + roundDiv (k * per) (Nat.max 1 num)

/-- F(h, n) less its target moment (R158); a FREE head, or a SYNC_IN head that has seen no edge, has none. -/
def Head.phaseAt (x : Head) (f : Nat) : Option Int :=
  let t := x.timing
  match t.genlock with
  | 0 => some ((f : Int) - (gridTime t.num t.den t.phase (gridNearest t.num (Nat.max 1 t.den) t.phase f) : Nat))
  | 1 => x.syncTarget.map (fun e => (f : Int) - nearestProjected e t.num t.den f)
  | _ => none

/-- The whole lines that a slip takes off the frame: nearest error / t_line, within ±SlipLinesMax, leaving 8 lines of blanking;
0 when |error| does not exceed one line (R159). -/
def slipLines (t : Timing) (most : Nat) (err : Int) : Int :=
  let line := t.den * 1000000000
  if err.natAbs * (t.vtotal * t.num) ≤ line then 0
  else
    let k := clampI (roundDiv (err * ((t.vtotal * t.num : Nat) : Int)) (Nat.max 1 line)) (-(most : Int)) most
    let room : Int := (t.vtotal : Int) - t.vActive - 8
    if room < k then room else k

/-- The lock state after a frame with a phase error, with the run of good frames (R158). -/
def lockAfter (l : Lock) (good : Nat) (err : Int) : Lock × Nat :=
  let e := err.natAbs
  if 1000 < e then (if l == .holdover then l else .acquiring, 0)
  else if 50 < e then (l, 0)
  else if l == .acquiring ∧ 8 ≤ good + 1 then (.locked, 8)
  else (l, Nat.min 8 (good + 1))

/-- Steering at a line 0 (R157 to R159). How the PLL is trimmed within its limits is a free value (log entry 2). -/
def State.steer (s : State) (h f : Nat) : State :=
  let x := s.head h
  let t := x.timing
  match x.phaseAt f with
  | none =>
    let (k, s) := s.draw
    s.setHead h { x with phaseErr := satSigned 32 (Config.signed k), vtotalN := t.vtotal, lock := if t.genlock = 2 then .free else x.lock }
  | some err =>
    let (k, s) := s.draw
    let hold := x.lock == .holdover || s.sys.refLost            -- a lost REF25 holds the PLLs (R437)
    let (lock, good) := if s.sys.refLost then (x.lock, x.goodFrames) else lockAfter x.lock x.goodFrames err
    let trim := if hold then x.trim else clampI (clampI (Config.signed k) (x.trim - 10) (x.trim + 10)) (-100) 100
    let slip := if hold then 0 else slipLines t (s.hcfg (s.timeHead h) 1 2) err
    let s := s.setHead h { x with
      phaseErr := satSigned 32 err, lock := lock, goodFrames := good, trim := trim, vtotalN := ((t.vtotal : Int) - slip).toNat,
      slips := if slip = 0 then x.slips else satInc 32 x.slips, slipsRc := if slip = 0 then x.slipsRc else satInc 16 x.slipsRc }
    let s := if slip = 0 then s else s.raiseHead h .genlockSlip
    if lock == .locked && x.lock != .locked then s.raiseHead h .genlockLocked else s

/-- A head falls into HOLDOVER (R158). -/
def State.enterHoldover (s : State) (h : Nat) : State :=
  let x := s.head h
  let s := s.setHead h { x with lock := .holdover, goodFrames := 0, syncEdges := 0 }
  if x.lock = .holdover then s else (s.levelHead h .genlockLost true).raiseHead h .syncInLost

/-- A running head that locks to SYNC_IN. -/
def Head.onSyncIn (x : Head) : Bool := x.runs && x.timing.genlock == 1

/-- SyncInOffset. -/
def State.syncInOffset (s : State) (h : Nat) : Int := toSigned 32 (s.hcfg (s.timeHead h) 1 3)

/-- One head's part of a SYNC_IN edge (R157, R158): an edge is valid when its period is within 0.1 % of the nominal one. -/
def State.syncEdge (s : State) (last : Option Nat) (h : Nat) : State :=
  let x := s.head h
  let t := x.timing
  let ok := match last with
    | none => true
    | some e =>
      let p := (s.now - e) * t.num
      let nom := t.den * 1000000000
      decide (((p - nom) + (nom - p)) * 1000 ≤ nom)
  if !x.onSyncIn then s
  else if !ok then s.enterHoldover h
  else
    let target := ((s.now : Int) + s.syncInOffset h).toNat
    let n := if last.isNone then 0 else Nat.min 2 (x.syncEdges + 1)
    let back := x.lock == .holdover && decide (2 ≤ n)
    let s := s.setHead h { x with syncTarget := some target, syncEdges := n, lock := if back then .acquiring else x.lock,
                                  goodFrames := if back then 0 else x.goodFrames }
    if back then s.levelHead h .genlockLost false else s

/-- SYNC_IN_EDGE (R157, R158, R160). -/
def execSyncInEdge (s : State) : Host.Outcome State Fault Refusal :=
  let last := s.heads.syncLast
  let s := s.forEach (List.range 16) (fun s h => s.syncEdge last h)
  .next { s with heads := { s.heads with syncLast := some s.now } }

/-- SYNC_IN_LOST (R158): heads that have had no edge for 2 frame periods. -/
def execSyncInLost (s : State) : Host.Outcome State Fault Refusal :=
  .next (s.forEach (List.range 16) (fun s h =>
    let x := s.head h
    let ref := s.heads.syncLast.getD x.startAt
    if x.onSyncIn && decide (2 * x.timing.den * 1000000000 ≤ (s.now - ref) * x.timing.num) then s.enterHoldover h else s))

/-! ## Line 0 (R155, R168, R173 to R176, R183, R197) -/

/-- The sink's test CRC of the frame just sent is compared (R183). -/
def State.compareSink (s : State) (h : Nat) (sent : Bool) (c : SinkCrc) : State :=
  let l := s.link h
  let on := s.hcfgBool h 5 1
  let st := if !on then 0 else if (s.head h).timing.dsc then 2 else if !(l.sink.elim false (fun k => k.testCrc)) then 3
    else if l.state != .up then 4 else 1
  let l := { l with crcState := st, frameCrc := l.ownCrc, ownCrc := (0, 0, 0) }
  let s := s.setLink h l
  if st = 0 ∨ st = 2 ∨ st = 3 ∨ !sent then s
  else if !l.carrying then s.setLink h { l with skipped := satInc 32 l.skipped }
  else if c.advance = 0 then s
  else if c.advance = 1 then
    if (c.red % 65536, c.green % 65536, c.blue % 65536) = (l.frameCrc.1 % 65536, l.frameCrc.2.1 % 65536, l.frameCrc.2.2 % 65536) then
      s.setLink h { l with compared := wrapInc 32 l.compared }
    else (s.setLink h { l with compared := wrapInc 32 l.compared, mismatched := satInc 32 l.mismatched }).raiseHead h .sinkCrcMismatch
  else s.setLink h { l with skipped := satInc 32 l.skipped }

/-- The link at a line 0: a newly trained link starts its stream, training begins with the first state that sends, and the link
goes off with the last (R168, R173, R175). -/
def State.linkLineZero (s : State) (h : Nat) (old : HState) : State :=
  let x := s.head h
  let l := s.link h
  if s.bondedOdd h then s
  else if !x.state.sends then (if old.sends || x.state == .idle && !l.sinkD3 then s.linkOff h (x.state == .idle) else s)
  else if l.state = .up then
    (if l.carrying then s else s.setLink h { l with carrying := true, upFrame := x.frame })
  else if !old.sends && (l.state == .down || l.state == .insufficient) then s.beginTraining h
  else s

/-- The writeback streams of a head: what is still due of the frame that ends, then the frame that begins. -/
def State.wbAtLineZero (s : State) (h : Nat) : State :=
  let s := s.forEach [0, 1, 2, 3] (fun s w =>
    let x := s.stream w
    if x.capturing && x.finishing && x.cfg.head == h then s.wbFinish w else s)
  { s with lant := { s.lant with frameRecs := s.lant.frameRecs.filter (fun r => r.head != h) } }

/-- What the frame that begins shows, and COMMIT_APPLIED with a new epoch (R65). -/
def State.showFrame (s : State) (h : Nat) : State :=
  let x := s.head h
  let s := s.setHead h { x with shown := x.curEpoch, shownScene := x.cur, shownCfg := x.cfg }
  if x.shown = x.curEpoch then s else s.raiseHead h .commitApplied

/-- Line 0 of a head that goes on running (R155). -/
def State.lineZero (s : State) (h : Nat) (c : Calls) (sink : SinkCrc) : State :=
  let x := s.head h
  let old := x.state
  let was := s.composingState h
  let new := s.stateAt h c
  let n := x.nextFrame
  let f := s.now
  let s := (s.wbAtLineZero h).compareSink h (old.sends && !x.starting) sink
  let s := s.setHead h { s.head h with
    state := new, next := none, starting := false, wantSafe := false, wantHalt := false, resume := false, frame := n, counted := true,
    f := f, latched := false, nextDrain := 0, missInFrame := false, nextBand := if x.latched then x.nextBand else 0,
    bands := x.bands.filter (fun b => b.frame == n) }
  let s := s.steer h f
  let s := if new = was then s else s.recompose h n f new
  let s := s.mapRegions h (fun r => r.begin (new == was))
  let held (y : HState) : Bool := y == .safe || y == .halted
  let s := if new != old && (held new || held old) then s.clearRefs h else s
  let s := (s.levelHead h .headSafe (new == .safe)).levelHead h .headHalted (new == .halted)
  let s := s.showFrame h
  let s := if x.starting then s.judgeMisfit h true else s
  let s := s.linkLineZero h old
  let s := if s.cfg 0x1440 2 = h then { s with heads := { s.heads with syncOut := some (f + s.cfg 0x1440 3) } } else s
  s.forEach [0, 1, 2, 3] (fun s w => s.wbLineZero w h)

/-- A head reaches line 0: it stops there when its mode calls for OFF or its timing changed (R347), else the frame begins. -/
def State.frameStart (s : State) (h : Nat) (c : Calls) (sink : SinkCrc) : State :=
  let x := s.head h
  if !x.runs then s
  else if x.next = some .off then (s.wbAtLineZero h).stopHead h
  else if x.restart then ((s.wbAtLineZero h).stopHead h).startHead h (x.next.getD .off)
  else s.lineZero h c sink

/-- FRAME_START (R155): the scan of a head reaches line 0; the two heads of a bonded pair reach it together (R172). -/
def execFrameStart (h : Fin 16) (sink : SinkCrc) (s : State) : Host.Outcome State Fault Refusal :=
  let x := s.head h
  let pair := x.timing.bond && (s.head (h / 2 * 2)).runs && (s.head (h / 2 * 2 + 1)).runs
  .next (if !pair then s.frameStart h x.calls sink
    else if h.val % 2 = 1 then s
    else
      let c := x.calls.or (s.head (h + 1)).calls
      let s := (s.frameStart h c sink).frameStart (h + 1) c sink
      s.modHead (h + 1) (fun y => { y with trim := (s.head h).trim }))

end Sys2Proof.Machine
end

