-- ==== Sys2Proof/Machine/Domain.lean ====
section
/-!
DEFINITION. The wall domain (R319 to R334): COMMIT_SCENE and the coherent commit, heartbeats and summaries, the election of
a coordinator, the time root, and what a member loses and keeps.
-/

namespace Sys2Proof.Machine

/-! ## COMMIT_SCENE outside a coherent domain (R65, R78, R90) -/

/-- Row 8: NO_LATE is set and some named head would take the scene late. -/
def State.row8 (s : State) (e : Exec) (sc : Scene) : Option Detail :=
  if e.noLate && sc.named.any (fun h => (s.head h).lateNow) then some (plainDetail .late noOffset) else none

/-- Row 5 as a detail: EPOCH is a header field (R85). -/
def State.row5 (s : State) (sc : Scene) : Option Detail := if s.epochOk sc then none else some (plainDetail .state 0)

/-- A check that ended in acceptance or rejection leaves its record, its counts and its completion. -/
def State.endCommit (s : State) (q : Nat) (e : Exec) (d : Detail) (result : Nat) : State :=
  (s.writeDetail q e d).finishAt q e.pos d.status result

/-- COMMIT_SCENE in an elastic domain, or on a member in ISOLATED (R320, R334). -/
def State.commitElastic (s : State) (q ns : Nat) (e : Exec) (r : Except Detail Scene) : State :=
  match r with
  | .error d => (((s.noteCheck d ns).countRejected).endCommit q e d 0)
  | .ok sc =>
    match (s.row5 sc).orElse (fun _ => (s.row6 sc).orElse (fun _ => (s.row7 sc).orElse (fun _ => s.row8 e sc))) with
    | some d => (((s.noteCheck d ns).countRejected).endCommit q e d 0)
    | none =>
      let result := s.commitResult sc
      ((((s.noteCheck okDetail ns).acceptScene sc).maskForScenes).endCommit q e okDetail result)

/-! ## Members and roles -/

/-- The domain frame in which now lies: the latest N with t_N at or before it (R319). -/
def State.domainFrame (s : State) : Nat :=
  let n := gridNearest (s.cfg 0x6001 5) (Nat.max 1 (s.cfg 0x6001 6)) (s.cfg 0x6001 7) s.now
  if s.now < s.domainTime n then n - 1 else n

/-- The epoch a member shows: that of its lowest-numbered enabled head (R321). -/
def State.enabledHeads (s : State) : List Nat := (List.range 16).filter (fun h => s.hcfgBool h 0 14 && (s.head h).runs)
def State.memberEpoch (s : State) : Nat := match s.enabledHeads with | h :: _ => (s.head h).curEpoch | [] => 0

/-- This member is eligible (R331). -/
def State.eligible (s : State) : Bool :=
  s.isParticipant && s.cfgBool 0x6001 2 && !s.sys.cores.2.retired && decide (s.ilelleGen ≤ 2)

/-- Firmware of the fabric runs: core 1 or what stands in for it, in a mode with the fabric up. -/
def State.fabricUp (s : State) : Bool := s.coreUp 1 && s.sys.mode != .reset && s.sys.mode != .boot

/-- The latest heartbeats of members that are still heard: of the present frame or the one before. -/
def State.heard (s : State) : List (Nat × Beat) := s.fab.beats.filter (fun p => decide (s.fab.wallFrame ≤ p.2.frame + 1))

/-- Fields of a heartbeat's FLAGS. -/
def Beat.eligible (b : Beat) : Bool := bit b.flags 0
def Beat.participant (b : Beat) : Bool := bit b.flags 1
def Beat.goReceived (b : Beat) : Bool := bit b.flags 3

/-- The participants the coordinator knows. -/
def State.participants (s : State) : List Nat :=
  sortDedup ((s.heard.filter (fun p => p.1 != s.ownAddress && p.2.participant)).map (fun p => p.1)
    ++ (if s.isParticipant then [s.ownAddress] else []))

/-- A quorum (R332): more than half of DomainMembers, or half with the lowest address of the previous present map. -/
def State.quorum (s : State) (l : List Nat) : Bool :=
  decide (s.domainMembers < 2 * l.length) ||
    (2 * l.length == s.domainMembers && l.contains (minOr s.ownAddress s.fab.present))

/-! ## Taking an epoch on the heads (R321, R327, R329) -/

/-- An empty scene, for a head that has no content to relabel. -/
def emptyScene (gen epoch : Nat) : Scene :=
  { generation := gen, mask := 0, epoch := epoch, layers := [], regions := [], heads := [], colours := [], tones := [] }

/-- A head's content relabelled with a new epoch: no head is named by it. -/
def Head.relabelled (x : Head) (epoch : Nat) : Scene :=
  match x.pend.orElse (fun _ => x.cur) with
  | some sc => { sc with epoch := epoch, mask := 0 }
  | none => emptyScene 2 epoch

/-- Frames from the head's next one to its first frame n with F(h, n) ≥ t_F − P_h / 2 (R321). -/
def Head.framesUntil (x : Head) (tF : Nat) : Nat :=
  let per : Nat := 1000000000 * x.timing.den
  let d : Int := 2 * ((tF : Int) - x.nextF) * x.timing.num - per
  if d ≤ 0 then 0 else ceilDiv d.toNat (2 * per)

/-- The latch that would take an epoch for wall frame F has passed on this head. -/
def Head.latchGone (x : Head) (tF : Nat) : Bool := x.latched && x.framesUntil tF == 0

/-- One head takes an epoch at the latch before a frame. -/
def State.scheduleHead (s : State) (a : Offer) (target h : Nat) : State :=
  let named := a.scene.elim false (fun sc => sc.mask.testBit h)
  let x := s.head h
  let sc := match a.scene with
    | some sc => if named then sc else x.relabelled a.epoch
    | none => x.relabelled a.epoch
  let s := if named then s.supersede h else s
  s.modHead h (fun x => { x with pend := some sc, pendEpoch := a.epoch, target := target, pendLate := false,
                                 pendCfg := if named then ((a.checked.find? (fun p => p.1 == h)).map (fun p => p.2)).getD [] else [] })

/-- The lowest-numbered head that an offer's scene names, for RESULT. -/
def Offer.firstHead (a : Offer) : Nat := match a.scene with | some sc => sc.named.headD 0 | none => 0

/-- Complete the COMMIT_SCENE of an offer, if one waits. -/
def State.offerDone (s : State) (a : Offer) (d : Detail) (result : Nat) : State :=
  match a.ring with
  | some q => (match s.running? q 0x31 with
    | some e => if e.phase = .running then s.endCommit q e d result else s
    | none => s)
  | none => s

/-- Every enabled head takes the answered epoch; `late` for the first latch from now on. -/
def State.takeEpoch (s : State) (a : Offer) (late : Bool) : State :=
  let tF := s.domainTime a.target
  let target (h : Nat) : Nat :=
    let x := s.head h
    if late then x.targetNow else (x.nextFrame + x.framesUntil tF) % 2 ^ 48
  let result := target a.firstHead
  let heads := s.enabledHeads
  let s := (heads.map (fun h => (h, target h))).foldl (fun s p => s.scheduleHead a p.2 p.1) s
  let s := { s with fab := { s.fab with answer := none } }
  let s := match a.scene with
    | some sc => ((s.countAccepted a.epoch).subscribeScene sc).maskForScenes
    | none => s
  s.offerDone a okDetail result

/-- An ABORT ends an answered epoch (R327). -/
def State.abortAnswer (s : State) (a : Offer) : State :=
  let s := { s with fab := { s.fab with answer := none, aborts := satInc 32 s.fab.aborts } }
  (s.offerDone a (plainDetail .aborted noOffset) 0).raise .coherentAbort

/-- LastDecision (R337): 1 GO, 2 ABORT, 3 INFERRED_GO. -/
def lastDecision (epoch verdict : Nat) : Nat := epoch + verdict * 2 ^ 32

/-- A participant whose ACCEPT has met no GO in time learns that the domain shows the epoch (R329). -/
def State.splitFlip (s : State) (a : Offer) : State :=
  let s := { s with fab := { s.fab with splits := satInc 32 s.fab.splits, lastDec := lastDecision a.epoch 3 } }
  let tNext := s.domainTime (a.target + 1)
  let after := s.enabledHeads.any (fun h => (s.head h).latchGone tNext)
  let s := (s.takeEpoch a true).raise .epochSplit
  if after then s.raise .epochDiverged else s

/-- A report that a frame shows an epoch, judged against what this member has answered. -/
def State.reportShows (s : State) (frame epoch : Nat) : State :=
  match s.fab.answer with
  | some a => if a.epoch = epoch ∧ a.target ≤ frame then s.splitFlip a else s
  | none => s

/-! ## Messages of the commit (R323) -/

def prepareBytes (epoch target : Nat) : List Byte := leBytes 4 epoch ++ leBytes 4 0 ++ leBytes 8 target
def answerBytes (epoch verdict : Nat) (st : Status) : List Byte := leBytes 4 epoch ++ [byte verdict, byte st.code]
def decisionBytes (epoch verdict tree target : Nat) : List Byte :=
  leBytes 4 epoch ++ [byte verdict, byte tree] ++ leBytes 2 0 ++ leBytes 8 target
def offerBytes (epoch mask : Nat) : List Byte := leBytes 4 epoch ++ leBytes 2 mask

/-! ### A participant's part -/

/-- The check of an offer at PREPARE: rows 5, 6 and 7 with the capacity of this moment (R325). -/
def State.offerCheck (s : State) (sc : Scene) : Option Detail :=
  (s.row5 sc).orElse (fun _ => (s.row6 sc).orElse (fun _ => s.row7 sc))

/-- The relabelled current scene is acceptable when E is later than the epoch of every enabled head. -/
def State.relabelOk (s : State) (epoch : Nat) : Bool :=
  s.enabledHeads.all (fun h => let x := s.head h; x.curEpoch == 0 || epochLater epoch x.curEpoch)

/-- An offer that a later one or a later PREPARE replaces: ABORTED and COMMIT_SUPERSEDED (R322, R325). -/
def State.dropOffer (s : State) : State :=
  match s.fab.offer with
  | none => s
  | some a =>
    let heads := (a.scene.map (fun sc => sc.named)).getD []
    let s := s.forEach heads (fun s h => s.raiseHead h .commitSuperseded)
    { s with fab := { s.fab with offer := none } }.offerDone a (plainDetail .aborted noOffset) 0

/-- A participant's answer to PREPARE(E, F), with the state it leaves (R325). -/
def State.judgePrepare (s : State) (epoch target : Nat) : State × Nat × Status :=
  let s := match s.fab.offer with
    | some a => if a.epoch != epoch && epochLater epoch a.epoch then s.dropOffer else s
    | none => s
  match s.fab.offer with
  | some a =>
    if a.epoch ≠ epoch then
      (if s.relabelOk epoch then
        ({ s with fab := { s.fab with answer := some { scene := none, epoch := epoch, ring := none, go := false, target := target,
                                                       checked := [] } } }, 0, .ok)
      else (s, 1, .state))
    else match a.scene with
      | none => (s, 1, .state)
      | some sc =>
        match s.offerCheck sc with
        | some d =>
          let s := { s with fab := { s.fab with offer := none } }
          ((((s.noteCheck d s.scn.lastCheckNs).countRejected).offerDone a d 0), 1, d.status)
        | none =>
          let checked := sc.named.map (fun h => (h, s.checkedCfg h))
          let s := (s.noteCheck okDetail s.scn.lastCheckNs).subscribeScene sc
          ({ s with fab := { s.fab with offer := none, answer := some { a with target := target, checked := checked } } }, 0, .ok)
  | none =>
    if s.relabelOk epoch then
      ({ s with fab := { s.fab with answer := some { scene := none, epoch := epoch, ring := none, go := false, target := target,
                                                     checked := [] } } }, 0, .ok)
    else (s, 1, .state)

/-- A decision reaches a participant (R327). One that repeats what the other tree brought changes nothing. -/
def State.takeDecision (s : State) (epoch verdict target : Nat) : State :=
  if s.fab.lastDec = lastDecision epoch verdict then s
  else
    let s := { s with fab := { s.fab with lastDec := lastDecision epoch verdict, lastTarget := target } }
    match s.fab.answer with
    | none => s
    | some a =>
      if a.epoch ≠ epoch then s
      else if verdict = 2 then s.abortAnswer a
      else if s.enabledHeads.any (fun h => (s.head h).latchGone (s.domainTime a.target)) then
        { s with fab := { s.fab with answer := some { a with go := true } } }
      else s.takeEpoch a false

/-! ### The coordinator's part -/

/-- Decide the epoch in flight: on both trees, in LastDecision and on this member (R326). -/
def State.decideFlight (s : State) (f : Flight) (verdict : Nat) : State :=
  let s := s.sendTree 8192 msgDecision vcControl (decisionBytes f.epoch verdict 0 f.target)
  let s := s.sendTree 8193 msgDecision vcControl (decisionBytes f.epoch verdict 1 f.target)
  { s with fab := { s.fab with flight := none } }.takeDecision f.epoch verdict f.target

/-- Note an answer; GO when every named participant accepts, ABORT at the first REJECT (R326). -/
def State.noteAnswer (s : State) (sender epoch verdict : Nat) : State :=
  match s.fab.flight with
  | none => s
  | some f =>
    if f.epoch ≠ epoch then s
    else if verdict ≠ 0 then s.decideFlight f 2
    else
      let acc := insertSorted sender f.accepts
      let f := { f with accepts := acc }
      let s := { s with fab := { s.fab with flight := some f } }
      if f.named.all (fun a => acc.contains a) then s.decideFlight f 1 else s

/-- PREPARE for the latest offered epoch; this member answers like any other (R322, R325). -/
def State.sendPrepare (s : State) : State :=
  match s.fab.offers with
  | [] => s
  | (_, e0) :: rest =>
    let epoch := rest.foldl (fun e p => if epochLater p.2 e then p.2 else e) e0
    let target := s.domainFrame + s.cfg 0x6001 3 + 1
    let f : Flight := { epoch := epoch, target := target, named := s.participants, accepts := [] }
    let s := { s with fab := { s.fab with flight := some f, offers := [], gatherAt := none } }
    let s := s.sendTreesAB msgPrepare (prepareBytes epoch target)
    if s.isParticipant then
      let (s, verdict, _) := s.judgePrepare epoch target
      s.noteAnswer s.ownAddress epoch verdict
    else s

/-- The coordinator sends PREPARE once every participant has offered (R322). -/
def State.prepareIfAll (s : State) : State :=
  if s.fab.flight.isNone && !s.fab.offers.isEmpty && s.participants.all (fun a => s.fab.offers.any (fun o => o.1 == a)) then
    s.sendPrepare
  else s

/-- The coordinator receives an offer: the first starts GatherTime (R322). -/
def State.noteOffer (s : State) (sender epoch : Nat) : State :=
  let offers := s.fab.offers.filter (fun o => o.1 != sender) ++ [(sender, epoch)]
  let gather := match s.fab.gatherAt with | some t => some t | none => some (s.now + s.cfg 0x6001 4 * 1000)
  State.prepareIfAll { s with fab := { s.fab with offers := offers, gatherAt := gather } }

/-- COMMIT_SCENE in a COHERENT domain: rows 0 to 6 at once, then the member's offer (R322). -/
def State.commitCoherent (s : State) (q ns : Nat) (e : Exec) (r : Except Detail Scene) : State :=
  let d : Option Detail := match r with
    | .error d => some d
    | .ok sc => (s.row5 sc).orElse (fun _ => (s.row6 sc).orElse (fun _ =>
        if s.fab.coord.isNone || !s.isParticipant then some (plainDetail .state noOffset) else none))
  match d, r with
  | some d, _ => (((s.noteCheck d ns).countRejected).endCommit q e d 0)
  | none, .error d => (((s.noteCheck d ns).countRejected).endCommit q e d 0)
  | none, .ok sc =>
    let s := (s.dropOffer).keepRunning q e.pos []
    let a : Offer := { scene := some sc, epoch := sc.epoch, ring := some q, go := false, target := 0, checked := [] }
    let s := { s with fab := { s.fab with offer := some a } }
    if s.fab.office then s.noteOffer s.ownAddress sc.epoch
    else match s.fab.coord with
      | some c => s.sendTo c msgOffer (offerBytes sc.epoch sc.mask)
      | none => s

/-- COMMIT_SCENE (R65, R78). -/
def execCommitScene (q : Fin 256) (ns : Nat) (s : State) : Host.Outcome State Fault Refusal :=
  .next (s.serveCheck q 0x31 (fun s e r =>
    if s.coherent && s.sys.mode != .isolated then s.commitCoherent q ns e r else s.commitElastic q ns e r))

/-- Leaving a participating mode: an answered epoch ends on this member, which keeps its own (R330); what waits completes
ABORTED (DEDUCED, log entry 24). -/
def State.leaveDomain (s : State) : State :=
  let s := s.dropOffer
  match s.fab.answer with
  | none => s
  | some a => (({ s with fab := { s.fab with answer := none } }.offerDone a (plainDetail .aborted noOffset) 0).raise .epochDiverged)

/-! ## Rows of the coherent commit -/

/-- OFFER (R322). -/
def execOffer (m : Msg) (s : State) : Host.Outcome State Fault Refusal :=
  .next (if s.fab.office && s.fabricUp && s.coherent then s.noteOffer m.sender (getLE m.payload 0 4) else s)

/-- GATHER_TIMEOUT (R322). -/
def execGatherTimeout (s : State) : Host.Outcome State Fault Refusal :=
  .next (match s.fab.gatherAt with
    | some t => if s.fab.office && s.fabricUp && s.fab.flight.isNone && decide (t ≤ s.now) then s.sendPrepare else s
    | none => s)

/-- PREPARE (R325). The same PREPARE arrives on both trees and is answered once. -/
def execPrepare (m : Msg) (s : State) : Host.Outcome State Fault Refusal :=
  let epoch := getLE m.payload 0 4
  let target := getLE m.payload 8 8 % 2 ^ 48
  .next (if !s.fabricUp || !s.isParticipant || !s.coherent || s.fab.coord != some m.sender.val then s
    else if s.fab.answer.elim false (fun a => a.epoch == epoch && a.target == target) then s
    else
      let (s, verdict, st) := s.judgePrepare epoch target
      s.sendTo m.sender msgAnswer (answerBytes epoch verdict st))

/-- ANSWER (R326). -/
def execAnswer (m : Msg) (s : State) : Host.Outcome State Fault Refusal :=
  .next (if s.fab.office && s.fabricUp then s.noteAnswer m.sender (getLE m.payload 0 4) (getLE m.payload 4 1) else s)

/-- DECISION_DEADLINE (R326): an answer is missing at t_(F−1). -/
def execDecisionDeadline (s : State) : Host.Outcome State Fault Refusal :=
  .next (match s.fab.flight with
    | some f => if s.fab.office && s.fabricUp && decide (s.domainTime (f.target - 1) ≤ s.now) then s.decideFlight f 2 else s
    | none => s)

/-- DECISION (R327). -/
def execDecision (m : Msg) (s : State) : Host.Outcome State Fault Refusal :=
  let v := getLE m.payload 4 1
  .next (if s.fabricUp && (v == 1 || v == 2) then s.takeDecision (getLE m.payload 0 4) v (getLE m.payload 8 8 % 2 ^ 48) else s)

/-! ## Time root (R311) -/

/-- WALL_TIME_UNSYNC follows TIMESTATE once the member has a time root (R313, R403). -/
def State.setTimeState (s : State) (t : Nat) : State :=
  let was := s.isSynced
  let s := { s with fab := { s.fab with timeState := t } }
  if was && !s.isSynced then s.level .wallTimeUnsync true
  else if !was && s.isSynced then (s.level .wallTimeUnsync false).raise .wallTimeSync
  else s

/-- A time root is announced or chosen. A root that stops being one goes on SYNCED (DEDUCED, log entry 22). -/
def State.setTimeRoot (s : State) (r : Nat) : State :=
  let changed := r != s.fab.timeRoot
  let s := { s with fab := { s.fab with timeRoot := r } }
  let s := if r = s.ownAddress then s.setTimeState 3
    else if s.fab.timeState = 3 then s.setTimeState 2
    else if s.fab.timeState = 0 then s.setTimeState 1 else s
  if changed then s.raise .timeRootChanged else s

/-- This member's own reference is valid (R311). -/
def State.refValid (s : State) : Bool := (s.fab.ptpState == 2 || (s.fab.ppsValid && s.fab.ptpTai)) && s.cfg 0x6003 1 != 0

/-- The root without a valid reference: the lowest address among those able to be coordinator, this member among them. -/
def State.lowestAble (s : State) : Nat :=
  let own := if s.cfgBool 0x6001 2 && !s.sys.cores.2.retired then [s.ownAddress] else []
  minOr s.ownAddress (own ++ (s.heard.filter (fun p => p.1 != s.ownAddress)).map (fun p => p.1))

/-- The root the coordinator announces. Which other members hold a valid reference no message tells, so a present member is
taken as a free value (log entry 22). -/
def State.chooseRoot (s : State) : Nat × State :=
  let (n, s) := s.draw
  let v := Config.value n
  (if s.fab.present.contains v then v else if s.refValid then s.ownAddress else s.lowestAble, s)

/-! ## Heartbeats and summaries (R323, R328) -/

/-- The coordinator, or the candidate, to which a member reports; 0 while it knows none (DESIGN CHOICE, log entry 20). -/
def State.followed (s : State) : Nat := (s.fab.coord.orElse (fun _ => s.fab.candidate)).getD 0

/-- PENDING of this member: the epoch it has answered and that its heads have not taken. -/
def State.pendingEpoch (s : State) : Nat := (s.fab.answer.map (fun a => a.epoch)).getD 0

/-- This member's heartbeat for frame N. -/
def State.ownBeat (s : State) (n : Nat) : Beat :=
  { frame := n % 2 ^ 48, epoch := s.memberEpoch, pending := s.pendingEpoch,
    flags := b2n s.eligible + 2 * b2n s.isParticipant + 4 * b2n s.isSynced + 8 * b2n (s.fab.answer.elim false (fun a => a.go)),
    mode := s.sys.mode.code, genMax := 2, sdfMax := 2, lopMax := 2, coord := s.followed }
def Beat.bytes (b : Beat) : List Byte :=
  leBytes 8 b.frame ++ leBytes 4 b.epoch ++ leBytes 4 b.pending ++ [byte b.flags, byte b.mode, byte b.genMax,
    byte (b.sdfMax + 16 * b.lopMax)] ++ leBytes 2 b.coord
def oneAtLeast (n : Nat) : Nat := Nat.max 1 n
def beatOf (p : List Byte) : Beat :=
  { frame := getLE p 0 8 % 2 ^ 48, epoch := getLE p 8 4, pending := getLE p 12 4, flags := getLE p 16 1, mode := getLE p 17 1,
    genMax := getLE p 18 1, sdfMax := oneAtLeast (getLE p 19 1 % 16), lopMax := oneAtLeast (getLE p 19 1 / 16),
    coord := getLE p 20 2 % 4096 }

/-- The lowest of what the members heard report. -/
def State.lowestReported (s : State) (f : Beat → Nat) : Nat := (s.heard.map (fun p => f p.2)).foldl Nat.min 2

/-- Bring the domain's generations up to date; GENERATION_CHANGED when one of them changes (R307). The coordinator hears every
member; another member takes DOMAIN_GEN from the summary (log entry 21). -/
def State.setGenerations (s : State) (gen : Nat) : State :=
  let sdf := Nat.min (s.lowestReported (fun b => b.sdfMax)) (if gen = 1 then 1 else 2)
  let lop := s.lowestReported (fun b => b.lopMax)
  let changed := gen != s.fab.domGen || sdf != s.fab.domSdf
  let s := { s with fab := { s.fab with domGen := gen, domSdf := sdf, domLop := lop } }
  if changed then s.raise .generationChanged else s

/-- The ports whose link is UP. -/
def State.upPorts (s : State) : List Nat := (List.range 4).filter (fun p => (s.port p).state == .up)

/-- Send a heartbeat to the link neighbours and to the coordinator, and note it here. -/
def State.sendBeat (s : State) (b : Beat) : State :=
  let s := { s with fab := { s.fab with beats := Tbl.set s.fab.beats s.ownAddress b } }
  let s := s.forEach s.upPorts (fun s p => s.sendNeighbour p msgHeartbeat vcControl b.bytes)
  match s.fab.coord.orElse (fun _ => s.fab.candidate) with
  | some c => if c = s.ownAddress then s else s.sendTo c msgHeartbeat b.bytes
  | none => s

/-- DomainState (R337). -/
def State.noteDomainState (s : State) : State :=
  let v := if s.domainMembers ≤ 1 then 0
    else if s.sys.isolated then 5
    else if s.fab.domState = 4 ∧ s.fab.coord.isNone then 4
    else if s.fab.office then 3
    else if s.fab.coord.isSome then 2
    else 1
  { s with fab := { s.fab with domState := v } }

/-- A coordinator is followed from here on; COORDINATOR_CHANGED when it is a new one. -/
def State.follow (s : State) (c : Nat) : State :=
  let changed := s.fab.coord != some c
  let s := { s with fab := { s.fab with coord := some c, office := c == s.ownAddress, candidate := none, failedCoords := [],
                                        flight := if c = s.ownAddress then s.fab.flight else none, domState := 2 } }
  let s := (s.level .domainNoQuorum false).noteDomainState
  if changed then s.raise .coordinatorChanged else s

/-- This part of the fabric has no quorum (R332). -/
def State.loseQuorum (s : State) : State :=
  let s := { s with fab := { s.fab with coord := none, office := false, candidate := none, flight := none, domState := 4 } }
  (s.level .domainNoQuorum true).noteDomainState

/-- What a summary says. -/
structure SummaryMsg where
  frame   : Nat
  coord   : Nat
  root    : Nat
  gen     : Nat
  epochs  : List (Nat × Nat)
  present : List Nat

/-- The reports of a frame are in: an epoch answered without GO ends as the domain shows it (R329). -/
def State.judgeSplit (s : State) (frame : Nat) (epochs : List (Nat × Nat)) : State :=
  match s.fab.answer with
  | none => s
  | some a =>
    if frame < a.target then s
    else if epochs.any (fun e => e.1 == a.epoch) then s.splitFlip a
    else s.abortAnswer a

/-- The epoch most members show, the first listed among equals. -/
def commonest (l : List (Nat × Nat)) : Option Nat :=
  (l.foldl (fun (b : Option (Nat × Nat)) e => match b with
    | none => some e
    | some c => if c.2 < e.2 then some e else some c) none).map (fun e => e.1)

/-- A member takes a summary in (R323, R328, R331, R333, R334). -/
def State.takeSummary (s : State) (m : SummaryMsg) : State :=
  let s := s.follow m.coord
  let s := if s.fab.office then s else (s.setTimeRoot m.root).setGenerations m.gen
  let lost := s.fab.prevPresent.filter (fun a => !s.fab.present.contains a && !m.present.contains a)
  let s := { s with fab := { s.fab with prevPresent := s.fab.present, present := m.present, lastSummary := m.frame } }
  let s := if lost.isEmpty then s else s.raise .memberLost
  let s := if 1 < m.epochs.length && m.frame != s.fab.lastTarget then s.raise .epochDiverged else s
  let back := s.sys.isolated && !s.upPorts.isEmpty
  let s := if back then State.noteConditions { s with sys := { s.sys with isolated := false } } else s
  let s := if back && s.memberEpoch != 0 && commonest m.epochs != some s.memberEpoch then s.raise .epochDiverged else s
  let s := { s with fab := { s.fab with sumSeen := true } }
  (s.judgeSplit m.frame m.epochs).noteDomainState

/-- The distinct epochs members show, with their counts, at most four in rising order. -/
def epochCounts (l : List Nat) : List (Nat × Nat) :=
  ((sortDedup l).map (fun e => (e, (l.filter (fun x => x == e)).length))).take 4

/-- The heartbeats of a frame. -/
def State.beatsOf (s : State) (n : Nat) : List (Nat × Beat) := s.fab.beats.filter (fun p => p.2.frame == n % 2 ^ 48)

/-- The present map as 512 bytes. -/
def mapBytes (l : List Nat) : List Byte := leBytes 512 (maskOf l)

/-- The summary's four flits on both trees (R323). -/
def State.sendSummaryMsg (s : State) (m : SummaryMsg) : State :=
  let ents := padTo (0, 0) 4 m.epochs
  let one := leBytes 8 m.frame ++ leBytes 2 m.coord ++ leBytes 2 m.root ++ [byte m.gen, byte m.epochs.length] ++ leBytes 2 0
    ++ ents.flatMap (fun e => leBytes 4 e.1 ++ leBytes 2 e.2 ++ leBytes 2 0)
    ++ leBytes 4 (s.fab.lastDec % 2 ^ 32) ++ [byte (s.fab.lastDec / 2 ^ 32)]
  let map := mapBytes m.present
  ((((s.sendTreesAB msgSummary one).sendTreesAB msgSummary (map.take 232)).sendTreesAB msgSummary ((map.drop 232).take 232)).sendTreesAB
    msgSummary (map.drop 464))

/-- The coordinator sums up a frame; without a quorum it leaves office. -/
def State.summarise (s : State) (n : Nat) : State :=
  let beats := s.beatsOf n
  let present := beats.map (fun p => p.1)
  if !s.quorum present then s.loseQuorum
  else
    let s := s.setGenerations (s.lowestReported (fun b => b.genMax))
    let (root, s) := s.chooseRoot
    let s := s.setTimeRoot root
    let m : SummaryMsg := { frame := n % 2 ^ 48, coord := s.ownAddress, root := root, gen := s.fab.domGen,
                            epochs := epochCounts (beats.map (fun p => p.2.epoch)), present := present }
    (s.sendSummaryMsg m).takeSummary m

/-- WALL_FRAME_TICK (R328): at t_N the member sends its heartbeat. A member that has no root yet, and is the lowest it knows,
becomes one (R311, R313). -/
def execWallFrameTick (s : State) : Host.Outcome State Fault Refusal :=
  let n := s.domainFrame
  .next (if !s.fabricUp then s
    else
      let s := { s with fab := { s.fab with wallFrame := n } }
      let s := if s.fab.timeState ≠ 3 ∧ !s.fab.sumSeen ∧ s.lowestAble = s.ownAddress then s.setTimeRoot s.ownAddress else s
      (s.sendBeat (s.ownBeat n)).noteDomainState)

/-- HEARTBEAT (R328). -/
def execHeartbeat (m : Msg) (s : State) : Host.Outcome State Fault Refusal :=
  let b := beatOf m.payload
  .next (if !s.fabricUp then s
    else
      let s := { s with fab := { s.fab with beats := Tbl.set s.fab.beats m.sender b } }
      let s := if s.fab.office then s.setGenerations (s.lowestReported (fun b => b.genMax)) else s
      s.reportShows b.frame b.epoch)

/-- The parts of a summary come in order on each tree; they are kept by port until the fourth. -/
def State.summaryPart (s : State) (port : Nat) (p : List Byte) : State × Option (List Byte × List Byte) :=
  let key (k : Nat) : Nat := port * 4 + k
  let have_ (k : Nat) : Bool := (Tbl.find? s.fab.sumParts (key k)).isSome
  let put (s : State) (k : Nat) : State := { s with fab := { s.fab with sumParts := Tbl.set s.fab.sumParts (key k) p } }
  let clear (s : State) : State := { s with fab := { s.fab with sumParts := s.fab.sumParts.filter (fun e => e.1 / 4 != port) } }
  if p.length = 53 then (put (clear s) 0, none)
  else if !have_ 0 then (s, none)
  else if !have_ 1 then (put s 1, none)
  else if !have_ 2 then (put s 2, none)
  else
    let get (k : Nat) : List Byte := Tbl.get [] s.fab.sumParts (key k)
    (clear s, some (get 0, get 1 ++ get 2 ++ p))

/-- SUMMARY (R323, R328): one flit; the fourth completes it. The copy of the other tree changes nothing. -/
def execSummary (m : Msg) (s : State) : Host.Outcome State Fault Refusal :=
  .next (if !s.fabricUp then s
    else match s.summaryPart m.port m.payload with
      | (s, none) => s
      | (s, some (one, map)) =>
        let frame := getLE one 0 8 % 2 ^ 48
        if s.fab.sumSeen && frame == s.fab.lastSummary then s
        else s.takeSummary
          { frame := frame, coord := getLE one 8 2 % 4096, root := getLE one 10 2 % 4096,
            gen := Nat.max 1 (Nat.min 2 (getLE one 12 1)),
            epochs := (List.range (Nat.min 4 (getLE one 13 1))).map (fun k => (getLE one (16 + 8 * k) 4, getLE one (20 + 8 * k) 2)),
            present := bitsOf 4096 (leNat map) })

/-- SUMMARY_SEND (R328): once for each frame, by the coordinator. -/
def execSummarySend (s : State) : Host.Outcome State Fault Refusal :=
  .next (if s.fab.office && s.fabricUp && !(s.fab.sumSeen && s.fab.lastSummary == s.fab.wallFrame % 2 ^ 48) then
      s.summarise s.fab.wallFrame
    else s)

/-! ## Election (R331, R332) -/

/-- A member that may become coordinator, as far as this member knows: unless its heartbeat says otherwise (DEDUCED, log
entry 23). Before the first summary the present map is the members heard. -/
def State.mayLead (s : State) (a : Nat) : Bool :=
  if a = s.ownAddress then s.eligible
  else match s.heard.find? (fun p => p.1 == a) with
    | some p => p.2.eligible
    | none => true
def State.candidates (s : State) : List Nat :=
  let known := if s.fab.sumSeen then s.fab.present else sortDedup (s.ownAddress :: s.heard.map (fun p => p.1))
  known.filter (fun a => !s.fab.failedCoords.contains a && s.mayLead a)

/-- COORDINATOR_TIMEOUT (R331): no summary by t_N + 200 µs. The coordinator followed, or the candidate that did not take
office, is passed over. -/
def execCoordinatorTimeout (s : State) : Host.Outcome State Fault Refusal :=
  let n := s.fab.wallFrame
  .next (if !s.fabricUp || s.fab.office || decide (s.now < s.domainTime n + 200000)
      || (s.fab.sumSeen && s.fab.lastSummary == n % 2 ^ 48) then s
    else
      let failed := match s.fab.coord.orElse (fun _ => s.fab.candidate) with
        | some c => if c = s.ownAddress then s.fab.failedCoords else insertSorted c s.fab.failedCoords
        | none => s.fab.failedCoords
      let s := { s with fab := { s.fab with coord := none, failedCoords := failed } }
      let part := s.fab.present.filter (fun a => a == s.ownAddress || s.reachable a)
      if s.fab.sumSeen && !s.quorum part then s.loseQuorum
      else
        let c := match s.candidates with | [] => none | l => some (minOr 0 l)
        State.noteDomainState { s with fab := { s.fab with candidate := c } })

/-- An epoch the gathered heartbeats report as pending ends with the decision they prove (R332). The original target is the
one this member answered. -/
def State.settlePending (s : State) (beats : List (Nat × Beat)) (epoch : Nat) : State :=
  let go := beats.any (fun p => p.2.pending == epoch && p.2.goReceived)
  let target := match s.fab.answer with | some a => if a.epoch = epoch then a.target else s.fab.lastTarget | none => s.fab.lastTarget
  s.decideFlight { epoch := epoch, target := target, named := [], accepts := [] } (if go then 1 else 2)

/-- TAKE_OFFICE (R331, R332): the candidate, or an eligible member of a lower address than the coordinator's, holds heartbeats
that form a quorum. -/
def execTakeOffice (s : State) : Host.Outcome State Fault Refusal :=
  let n := s.fab.wallFrame
  let beats := s.beatsOf n
  let lower := match s.fab.coord with | some c => decide (s.ownAddress < c) | none => s.fab.candidate == some s.ownAddress
  .next (if !s.fabricUp || s.fab.office || !s.eligible || !lower || !s.quorum (beats.map (fun p => p.1))
      || decide (s.now < s.domainTime n + 150000) then s
    else
      let s := (s.follow s.ownAddress).summarise n
      s.forEach (sortDedup ((beats.filter (fun p => p.2.pending != 0)).map (fun p => p.2.pending)))
        (fun s e => s.settlePending beats e))

/-- ISOLATION (R334, R343): no port has been UP for 100 ms. -/
def execIsolation (s : State) : Host.Outcome State Fault Refusal :=
  let since := (List.range 4).foldl (fun m p => Nat.max m (s.port p).downAt) 0
  .next (if s.domainMembers ≤ 1 || s.sys.isolated || s.sys.mode == .reset || s.sys.mode == .boot || !s.upPorts.isEmpty
      || decide (s.now < since + 100000000) then s
    else
      let fab := { s.fab with sumSeen := false, coord := none, office := false, candidate := none, flight := none }
      (State.noteConditions { s with sys := { s.sys with isolated := true }, fab := fab }).noteDomainState)

/-! ## Domain entries (R319, R376) -/

/-- Name a domain entry's wall frame: three frames ahead. -/
def State.nameDomainWrite (s : State) (k : Nat) (v : List Byte) : State :=
  { s with fab := { s.fab with domWrites := s.fab.domWrites ++ [({ key := k, value := v, frame := s.domainFrame + 3 } : DomainWrite)] } }

/-- DOMAIN_ENTRY_APPLY (R319): the entries whose wall frame has begun take their values. -/
def execDomainEntryApply (s : State) : Host.Outcome State Fault Refusal :=
  let n := s.domainFrame
  let due := s.fab.domWrites.filter (fun w => decide (w.frame ≤ n))
  .next (if !s.fabricUp then s
    else
      let s := { s with fab := { s.fab with domWrites := s.fab.domWrites.filter (fun w => decide (n < w.frame)) } }
      s.forEach due (fun s w => s.writeEntry w.key w.value))

end Sys2Proof.Machine
end

