-- ==== Sys2Proof/Machine/LopBase.lean ====
section
/-!
DEFINITION. The Limor Object Protocol's messages (R362, R363, R377), where they arrive and how a response leaves
(R236, R373 to R375), and the replay set of R365.
-/

namespace Sys2Proof.Machine

/-! ## Abort codes (R377) -/

def abOk : Nat := 0
def abStatus (st : Status) : Nat := 0x1_0000 + st.code
def abNoIndex : Nat := 0x2_0001
def abNoSubindex : Nat := 0x2_0002
def abReadOnly : Nat := 0x2_0003
def abWriteOnly : Nat := 0x2_0004
def abSegmentedOnly : Nat := 0x2_0005
def abNotSegmented : Nat := 0x2_0006
def abNoSession : Nat := 0x3_0001
def abProofFailed : Nat := 0x3_0002
def abSessionLimit : Nat := 0x3_0003
def abNoTransfer : Nat := 0x4_0001
def abOffset : Nat := 0x4_0002
def abBusy : Nat := 0x4_0003
def abTransferLimit : Nat := 0x4_0004
def abUnreachable : Nat := 0x5_0001
def abRouteGeneration : Nat := 0x5_0002
def abForwardTimeout : Nat := 0x5_0003
def abHeader : Nat := 0x6_0001
def abService : Nat := 0x6_0002
def abGeneration : Nat := 0x6_0003

/-! ## Messages (R362) -/

/-- Fields of TARGET. -/
def isRemote (c : LopCtx) : Bool := bit c.target 15
def lopAddress (c : LopCtx) : Nat := c.target % 4096

/-- A message: header and payload. -/
def lopMessage (gen service target session rid abort : Nat) (payload : List Byte) : List Byte :=
  [byte gen, byte service] ++ leBytes 2 target ++ leBytes 4 session ++ leBytes 2 rid ++ leBytes 2 payload.length
    ++ leBytes 4 abort ++ payload

/-- The request a context stands for. -/
def lopRequest (c : LopCtx) (code : Nat) (payload : List Byte) : List Byte :=
  lopMessage c.generation code c.target c.session c.requestId 0 payload

/-- The header of a request, as bytes give it. -/
def lopCtxOf (via : Via) (m : List Byte) : LopCtx :=
  { via := via, generation := getLE m 0 1, session := getLE m 4 4, requestId := getLE m 8 2, target := getLE m 2 2 }
def lopService (m : List Byte) : Nat := getLE m 1 1
def lopPayload (m : List Byte) : List Byte := m.drop 16

/-- A header is malformed when the message is shorter than one, LENGTH does not match, ABORT is not 0 or a reserved bit of
TARGET is set (R362). -/
def headerGood (m : List Byte) : Bool :=
  decide (16 ≤ m.length) && getLE m 10 2 == m.length - 16 && getLE m 12 4 == 0 && field (getLE m 2 2) 14 12 == 0

/-! ## Sessions and levels (R369, R370, R372) -/

def lvlObserver : Nat := 0
def lvlApplication : Nat := 1
def lvlOperator : Nat := 2
def lvlPrivileged : Nat := 3

/-- What a session is bound to: its transport and function, the Ethernet peer with its association, or the origin member. -/
def viaKeyOf (v : Via) (owner : Fin 256 → Fn) : List Nat :=
  match v with
  | .window => [0]
  | .ring q => [1, fnCode (owner q)]
  | .ethernet ip port assoc => [2, ip, port, assoc.elim 0 (fun a => a + 1)]
  | .fabric origin _ => [3, origin]

/-- The key of a way in. -/
def State.viaKey (s : State) (v : Via) : List Nat := viaKeyOf v (fun q => s.ringFn q)

/-- The transport, for the count of failed proofs (R371). -/
def viaTransport (v : Via) : Nat := match v with | .window => 0 | .ring _ => 1 | .ethernet _ _ _ => 2 | .fabric _ _ => 3

/-- The session that a request names from the place it is bound to. -/
def State.session? (s : State) (c : LopCtx) : Option Session :=
  match Tbl.find? s.lop.sessions c.session with
  | some x => if s.viaKey x.via = s.viaKey c.via then some x else none
  | none => none

/-- The level of a session that has a NONCE outstanding is OBSERVER (R371). -/
def Session.acts (x : Session) : Nat := if x.nonce.isSome then lvlObserver else x.level

/-- The level a request acts at, none when it names no session of its own (R369, R370, R375). -/
def State.lopLevel (s : State) (c : LopCtx) : Option Nat :=
  match c.via with
  | .fabric _ level => some (Nat.min level 3)
  | v =>
    if c.session = 0 then
      some (match v with
        | .ring q => if s.ringFn q = .pf1 then lvlApplication else lvlOperator
        | .ethernet _ _ _ => lvlObserver
        | _ => lvlOperator)
    else (s.session? c).map Session.acts

/-- The set in which a request's responses are kept (R365, R375). -/
def State.replayKey (s : State) (c : LopCtx) : List Nat :=
  match c.via with
  | .fabric origin _ => [3, origin, c.session]
  | .ethernet _ _ _ => if c.session = 0 then [2] else [9, c.session]
  | v => if c.session = 0 then s.viaKey v else [9, c.session]

/-- The stored response of a repeated REQUEST_ID. -/
def State.stored? (s : State) (c : LopCtx) : Option (List Byte) :=
  (s.lop.replay.find? (fun e => e.1 == s.replayKey c && e.2.1 == c.requestId)).map (fun e => e.2.2)

/-- Keep at most `n` entries of a set, the newest first. -/
def keepNewest (key : List Nat) (l : List (List Nat × Nat × List Byte)) : Nat → List (List Nat × Nat × List Byte)
  | n => match l with
    | [] => []
    | e :: r =>
      if e.1 = key then (match n with | 0 => keepNewest key r 0 | n + 1 => e :: keepNewest key r n)
      else e :: keepNewest key r n

/-- Store a response as one of the last 16 of its set. -/
def State.storeResponse (s : State) (c : LopCtx) (r : List Byte) : State :=
  let key := s.replayKey c
  { s with lop := { s.lop with replay := keepNewest key ((key, c.requestId, r) :: s.lop.replay) 16 } }

/-! ## Ways out -/

/-- A LOP message cut into the payloads of its flits: up to 224 message bytes each (R375). -/
def lopFragments (level : Nat) (m : List Byte) : List (List Byte) :=
  let n := Nat.max 1 (ceilDiv m.length 224)
  (List.range n).map (fun k =>
    leBytes 2 k ++ leBytes 2 n ++ [byte level] ++ leBytes 3 0 ++ (m.drop (224 * k)).take 224)

/-- Send a LOP message to a member: on CONTROL, over a link held at generation 0 on MAINT (R323, R375). -/
def State.sendLop (s : State) (d level : Nat) (m : List Byte) : State :=
  match s.routePort d with
  | none => s
  | some p =>
    let vc := if (s.port p).state == .up then vcControl else vcMaint
    s.forEach (lopFragments level m) (fun s f => s.sendFlit p (flitBody (routeUnicast d) s.ownAddress msgLop vc f))

/-- The window's answer: RESPBUF, RESPLEN, BUSY, DONE and WINSTATUS, then LOP_WINDOW_DONE (R374). -/
def State.windowAnswer (s : State) (r : List Byte) (status : Status) : State :=
  if !s.lop.busy then s
  else
    let buf := if r.isEmpty then s.lop.respBuf else r ++ s.lop.respBuf.drop r.length
    State.raise { s with lop := { s.lop with respBuf := buf, respLen := r.length, busy := false, done := true,
                                             winStatus := status.code, taken := [] } } .lopWindowDone

/-- The LOP_EXCHANGE in execution on a ring (R236). -/
def State.exchange? (s : State) (q : Nat) : Option Exec := s.running? q 0x40

/-- The ring's answer: the response is written and the command completes with its length, or with SIZE when it is longer than
RESPONSE_CAPACITY. A command that is no longer there, after a function-level reset, gets none. -/
def State.exchangeAnswer (s : State) (q : Nat) (c : LopCtx) (r : List Byte) : State :=
  match s.exchange? q with
  | none => s
  | some e =>
    if e.phase != .running || e.aux != [c.session, c.requestId] then s
    else if getLE e.body 12 4 < r.length then s.finishAt q e.pos .size r.length
    else (s.busWrite (getLE e.body 24 8) r).finishAt q e.pos .ok r.length

/-- A response leaves by the way its request came. -/
def State.answerVia (s : State) (c : LopCtx) (r : List Byte) : State :=
  let s := { s with lop := { s.lop with lastResp := r } }
  match c.via with
  | .window => s.windowAnswer r .ok
  | .ring q => s.exchangeAnswer q c r
  | .ethernet _ _ _ => s
  | .fabric origin level => s.sendLop origin level r

/-- Count a response (R381). -/
def State.countResponse (s : State) (abort : Nat) : State :=
  { s with lop := { s.lop with requests := wrapInc 64 s.lop.requests,
                               aborts := if abort = 0 then s.lop.aborts else satInc 32 s.lop.aborts } }

/-- Answer a request: the response repeats the header with SERVICE [7] set, at generation `gen`. -/
def State.respond (s : State) (c : LopCtx) (code gen abort : Nat) (payload : List Byte) (store : Bool) : State :=
  let r := lopMessage gen (code ||| 0x80) c.target c.session c.requestId abort payload
  let s := s.countResponse abort
  let s := if store then s.storeResponse c r else s
  s.answerVia c r

/-- Answer a served request, keeping the response for repeats (R365). -/
def State.reply (s : State) (c : LopCtx) (code abort : Nat) (payload : List Byte) : State :=
  s.respond c code c.generation abort payload true

/-- Complete a request that was answered later. -/
def State.complete (s : State) (r : Reply) (abort : Nat) : State := s.reply r.ctx r.code abort []

/-- Count a datagram that is discarded (R381). -/
def State.discardDatagram (s : State) : State := { s with lop := { s.lop with aborts := satInc 32 s.lop.aborts } }

end Sys2Proof.Machine
end

