-- ==== Sys2Proof/Machine/Modes.lean ====
section
/-!
DEFINITION. Mode requests and mode boundaries (R339 to R349).
-/

namespace Sys2Proof.Machine

/-! ## Requests (R345, R346) -/

/-- What the table of R345 says of a request. -/
inductive Ask where
  | yes | state | same
  deriving DecidableEq, Repr

/-- An image or bank transfer is in progress (footnote 2). -/
def State.staging (s : State) : Bool :=
  s.boot.staging.isSome || s.lop.transfers.any (fun p => p.2.write && (p.2.key == dkey 0x1022 1 || p.2.key == dkey 0x1022 6))

/-- Every enabled head holds a current epoch other than 0 (footnote 1). -/
def State.headsHaveEpoch (s : State) : Bool :=
  (List.range 16).all (fun h => !s.hcfgBool h 0 14 || (s.head h).curEpoch != 0)

/-- A footnote's condition. -/
def ask (b : Bool) : Ask := if b then .yes else .state

/-- The table of R345 for a working mode and a target. -/
def State.askMode (s : State) (w t : Mode) : Ask :=
  if t = .boot ∨ t = .degraded ∨ t = .isolated ∨ w = .boot ∨ w = .reset then .state
  else if w = t then .same
  else if t = .reset ∨ t = .halt then .yes
  else match w, t with
    | .configure, .standby => .yes
    | .standby, .configure => .yes
    | .standby, .operate => ask s.headsHaveEpoch
    | .standby, .maintain => ask s.headsHaveEpoch
    | .standby, .calibrate => ask s.headsHaveEpoch
    | .standby, .update => ask s.headsHaveEpoch
    | .operate, .configure => .state
    | .operate, _ => .yes
    | .safeDisplay, .standby => .yes
    | .safeDisplay, .operate => .yes
    | .safeDisplay, .maintain => .yes
    | .maintain, _ => .yes
    | .calibrate, .update => .state
    | .calibrate, _ => .yes
    | .update, .configure => .state
    | .update, .calibrate => .state
    | .update, _ => ask (!s.staging)
    | .halt, .configure => ask (!s.haltCondition)
    | _, _ => .state

/-- Count a refusal (R346). -/
def State.countRefused (s : State) : State := { s with sys := { s.sys with modeRefused := satInc 32 s.sys.modeRefused } }

/-- Refuse a request with a status. -/
def State.refuseMode (s : State) (r : Reply) (st : Status) : State := s.countRefused.complete r (abStatus st)

/-- Serve one request: answered at once, or scheduled for its boundary. -/
def State.serveMode (s : State) (r : ModeReq) : State :=
  match Mode.ofCode r.target with
  | none => s.refuseMode r.reply .format
  | some t =>
    match s.askMode s.sys.working t with
    | .state => s.refuseMode r.reply .state
    | .same => s.complete r.reply abOk
    | .yes =>
      if t = .reset then
        { s with sys := { s.sys with resetDue := some (s.now + 10000000, 4) } }.complete r.reply abOk
      else { s with sys := { s.sys with scheduled := some r } }

/-- Requests that wait are served in order of arrival until one is scheduled; none while a forced transition is due (R346). -/
def State.serveModes (s : State) : Nat → State
  | 0 => s
  | fuel + 1 =>
    if s.sys.scheduled.isSome || s.deriveMode != s.sys.mode then s
    else match s.sys.modeQueue with
      | [] => s
      | r :: rest => State.serveModes ({ s with sys := { s.sys with modeQueue := rest } }.serveMode r) fuel

/-- A request arrives. -/
def State.requestMode (s : State) (r : ModeReq) : State :=
  State.serveModes { s with sys := { s.sys with modeQueue := s.sys.modeQueue ++ [r] } } (s.sys.modeQueue.length + 1)

/-! ## Boundaries (R347) -/

/-- Apply GalleryExclude at a mode entry; a gallery newly excluded leaves service (R127). -/
def State.applyExclude (s : State) : State :=
  let m := s.cfg 0x3404 0
  let old := s.galsInService
  let newly := (List.range 12).filter (fun g => m.testBit g && !(s.gallery g).excluded && !(s.gallery g).retired)
  let s := s.forEach (List.range 12) (fun s g =>
    let x := s.gallery g
    if x.excluded == m.testBit g then s
    else s.setGallery g { x with excluded := m.testBit g, coefLoaded := if m.testBit g then x.coefLoaded else s.loadedSets })
  let s := s.forEach newly (fun s g => s.leaveService g)
  let s := s.noteMask
  if s.galsInService = old then s else s.recheckDue.noteEngines

/-- The entries that a boundary into a mode leaves in force; with both cores retired the HALT overlay is not applied (R342). -/
def State.entriesFor (s : State) (t : Mode) : State := if s.bothCoresRetired then s else s.withMode t

/-- Pass a boundary into a current mode with a cause (R347 steps 1, 3 and 4). -/
def State.passBoundary (s : State) (t : Mode) (cause : Nat) : State :=
  let from_ := s.sys.mode
  let n := s.entriesFor t
  let retimed := headsRetimed s n
  let n := { n with sys := { n.sys with mode := t, prevMode := from_, lastFrom := from_.code, lastTo := t.code, lastCause := cause,
                                        lastTime := n.now, modeChanges := wrapInc 32 n.sys.modeChanges, autoCause := none } }
  let n := n.raise .modeChanged
  let n := if n.bothCoresRetired then n else n.applyExclude
  let n := if from_ = .halt ∨ from_ = .update then                       -- time there does not count for ConfirmDelay (R452)
      { n with boot := { n.boot with confirmFrom := n.boot.confirmFrom + (s.now - s.sys.lastTime) } }
    else n
  let n := n.forEach (List.range 16) (fun n h => n.enterMode retimed h)
  let n := if from_.participates && !t.participates then n.leaveDomain else n
  n.noteConditions

/-- The cause of a forced transition. -/
def State.forcedCause (s : State) : Nat :=
  let t := s.deriveMode
  if s.haltCondition ∧ t = .halt then 8
  else match s.sys.autoCause with
    | some c => c
    | none => if t = .isolated then 6 else if s.sys.mode = .isolated then 7 else if t = .degraded then 4 else 5

/-- Step 2 of R347: the checks of a requested transition that changes head entries of apply timing mode. -/
def State.boundaryCheck (s : State) (t : Mode) : Option Status :=
  let n := s.entriesFor t
  if (headsRetimed s n).isEmpty then none
  else if (List.range 16).any (fun h => n.hcfgBool h 0 14 && n.headFault h != 0) then some .state
  else if n.scenesFit n.capacityForce n.sheds then none
  else some .infeasible

/-- The scheduled request reaches its boundary: it is judged against the working mode as it stands now. -/
def State.requestBoundary (s : State) (r : ModeReq) : State :=
  let s := { s with sys := { s.sys with scheduled := none } }
  match Mode.ofCode r.target with
  | none => s.refuseMode r.reply .format
  | some t =>
    match s.askMode s.sys.working t with
    | .state => s.refuseMode r.reply .state
    | .same => s.complete r.reply abOk
    | .yes =>
      let n := { s with sys := { s.sys with working := t } }
      let d := n.deriveMode
      if d = s.sys.mode then n.complete r.reply abOk
      else match s.boundaryCheck d with
        | some st => s.refuseMode r.reply st
        | none => (n.passBoundary d 0).complete r.reply abOk

/-- A forced transition, if one is due. -/
def State.forcedBoundary (s : State) : State := s.passBoundary s.deriveMode s.forcedCause

/-- MODE_BOUNDARY (R347): a forced transition passes first, else the scheduled request; then the next request is served.
Without firmware only the transition into HALT of R342 passes. -/
def execModeBoundary (s : State) : Host.Outcome State Fault Refusal :=
  .next (if s.deriveMode ≠ s.sys.mode then
      (if s.coreUp 1 || s.bothCoresRetired then (s.forcedBoundary).serveModes (s.sys.modeQueue.length) else s)
    else if !s.coreUp 1 then s
    else
      let s := { s with sys := { s.sys with autoCause := none } }
      match s.sys.scheduled with
      | some r => (s.requestBoundary r).serveModes (s.sys.modeQueue.length)
      | none => s.serveModes (s.sys.modeQueue.length))

/-- The device enters OPERATE when the first named head latches an accepted scene (R97, R344); a boundary that needs firmware
waits for MODE_BOUNDARY while core 1 is down. -/
def State.firstLatch (s : State) : State :=
  if s.sys.autoCause.isNone then s
  else if s.deriveMode = s.sys.mode then { s with sys := { s.sys with autoCause := none } }
  else if s.coreUp 1 || s.bothCoresRetired then s.forcedBoundary
  else s

/-- LATCH (R89, R90, R97): the scan of a head reaches L_latch. -/
def execLatch (h : Fin 16) (s : State) : Host.Outcome State Fault Refusal := .next (s.latchHead h).firstLatch

/-! ## The self-test of a gallery (R349) -/

/-- A gallery may be tested: in MAINTAIN, excluded through GalleryExclude and not retired. -/
def State.mayTest (s : State) (g : Nat) : Bool :=
  s.sys.mode == .maintain && decide (g < 12) && (s.gallery g).excluded && !(s.gallery g).retired

/-- GALLERY_SELF_TEST (R349): engines that fail are retired and SelfTestResult reports the outcome; any other write completes
with STATE and changes nothing. -/
def execGallerySelfTest (g : Nat) (failing : List (Fin 17)) (s : State) : Host.Outcome State Fault Refusal :=
  .next (if !s.mayTest g || !s.coreUp 1 then s
    else
      let bad := failing.map (fun e => e.val)
      let v := g + 16 + 32 * b2n bad.isEmpty + 64 * maskOf bad
      let s := { s with sys := { s.sys with selfGallery := v } }
      s.forEach (sortDedup bad) (fun s e => s.retireEngine g e))

end Sys2Proof.Machine
end

