-- ==== Sys2Proof/Machine/DictChecks.lean ====
section
/-!
DEFINITION. What a value must pass before it becomes the written value of an entry (R356): its size and encoding, the range
of its own definition, the layouts of the DOMAIN entries (R136, R147, R148, R152, R350, R381), and the relations to other
entries and to the scenes that a write is judged by (R95, R137, R179, R232, R337, R351).
-/

namespace Sys2Proof.Machine

/-- Every chunk of `n` bytes satisfies `p`; the fuel is the number of chunks. -/
def everyChunk (n : Nat) (p : List Byte → Bool) (l : List Byte) : Nat → Bool
  | 0 => true
  | k + 1 => p (l.take n) && everyChunk n p (l.drop n) k

/-! ## DOMAIN layouts -/

/-- A coefficient set (R136), its four checks in order. -/
def coefCheck (v : List Byte) : Option Status :=
  if v.length < 16 then some .size
  else
    let kind := getLE v 0 1
    let taps := if kind = 0 then 8 else if kind = 1 then 6 else 0
    if kind ≠ 0 ∧ kind ≠ 1 ∧ kind ≠ 0xFF then some .format
    else if v.length ≠ 16 + 128 * taps then some .size
    else
      let phase (b : List Byte) : Bool :=
        let c := (List.range taps).map (fun i => getSLE b (2 * i) 2)
        c.all (fun x => decide (-2048 ≤ x ∧ x ≤ 2047)) && c.sum == 1024
      if !allZero ((v.drop 1).take 15) then some .format
      else if taps = 0 then none
      else if everyChunk (2 * taps) phase (v.drop 16) 64 then none else some .format

/-- A gain map (R148), its four rows in order; `grid` is what the head's timing in force needs, none where a map is judged
without a head. -/
def gainMapCheck (grid : Option (Nat × Nat)) (v : List Byte) : Option Status :=
  let g := mapGrid v
  let nodes := g.1 * g.2
  if v.length ≠ 8 + 8 * nodes ∨ 512 * 288 < nodes then some .size
  else if g = (0, 0) then none
  else if grid.elim false (fun x => x != g) then some .size
  else if !allZero ((v.drop 4).take 4) || !everyChunk 8 (fun b => allZero ((b.drop 6).take 2)) (v.drop 8) nodes then some .format
  else none

/-- TrustAnchors (R381): up to four records of a U32 length and a certificate. -/
def anchorsOk (v : List Byte) : Nat → Bool
  | 0 => v.isEmpty
  | n + 1 => v.isEmpty || (decide (4 + getLE v 0 4 ≤ v.length) && anchorsOk (v.drop (4 + getLE v 0 4)) n)

/-! ## Values of a fixed size -/

/-- A value of a fixed-size entry lies within its encoding, range and codes, and keeps reserved fields 0 (R356). -/
def fixedOk (e : EntryDef) (v : List Byte) : Bool :=
  let n := leNat v
  if e.typ = 11 ∨ e.typ = 12 then
    if e.index = 0x5300 ∧ e.subLo = 4 then                                     -- WbRect: half-open and not empty (R179)
      decide (getLE v 0 2 < getLE v 4 2 ∧ getLE v 2 2 < getLE v 6 2)
    else if e.index = 0x5300 ∧ e.subLo = 7 then                                -- WbBufferBase: multiples of 256
      (List.range 8).all (fun i => getLE v (8 * i) 8 % 256 == 0)
    else true
  else if e.typ = 6 ∨ e.typ = 7 ∨ e.typ = 8 then true
  else decide (e.lo ≤ n ∧ n ≤ e.hi) &&
    (if decide (0x3101 ≤ e.index ∧ e.index ≤ 0x3105) && e.size == 8 then decide (n < 2 ^ 48)      -- working values (R58)
     else if e.index = 0x5000 ∧ e.subLo = 1 then n % 256 == 0                                     -- LogBase (R205)
     else if e.index = 0x5000 ∧ e.subLo = 2 then n == 0 || decide (2048 ≤ n)                      -- LogRecords (R205)
     else if e.index = 0x4002 ∧ e.subLo = 2 then n != 3                                           -- LaneCountMax (R178)
     else if e.index = 0x4003 ∧ e.subLo = 3 then n != 3                                           -- DscSlicesPerLine (R178)
     else if e.index = 0x5300 ∧ e.subLo = 8 then n % 64 == 0                                      -- WbStride (R179)
     else if e.index = 0x3404 then decide (n < 2 ^ 12)                                            -- GalleryExclude (R128)
     else if e.index = 0x2100 ∧ e.subLo = 2 then decide (60 ≤ n ∧ n ≤ gradeLimit)                 -- ThermalTarget (R434)
     else true)

/-- An overlay may name an entry with a value (R351 row 4). -/
def overlayPairOk (k : Nat) (v : List Byte) : Bool :=
  match entryOf k with
  | some e => e.o && e.typ != 13 && allZero (v.drop e.size) && fixedOk e (v.take e.size)
  | none => false

/-- The key of an overlay's record. -/
def overlayKey (v : List Byte) (k : Nat) : Nat := dkey (getLE v (0x10 + 16 * k) 2) (getLE v (0x12 + 16 * k) 1)

/-- Rows 2 to 5 of R351 for the overlay of mode `m`. -/
def overlayCheck (m : Nat) (v : List Byte) : Option Status :=
  let n := getLE v 0 2
  let recs := List.range n
  let keys := recs.map (overlayKey v)
  if v.length < 16 ∨ 256 < n ∨ v.length ≠ 16 + 16 * n then some .size
  else if crc32c (v.drop 16) ≠ getLE v 4 4 || !allZero ((v.drop 2).take 2) || !allZero ((v.drop 8).take 8)
      || recs.any (fun k => !allZero ((v.drop (0x13 + 16 * k)).take 5))
      || (keys.zip keys.tail).any (fun p => decide (p.2 ≤ p.1)) then some .format
  else if !recs.all (fun k => overlayPairOk (overlayKey v k) ((v.drop (0x18 + 16 * k)).take 8)) then some .format
  else if (m = 5 ∨ m = 10 ∨ m = 11) ∧ keys.any (fun k => applyOf k == 2) then some .state
  else none

/-! ## The checks together -/

/-- What an entry's own definition says of a value, whatever the other entries hold; `grid` as in `gainMapCheck`. -/
def ownCheck (grid : Option (Nat × Nat)) (k : Nat) (v : List Byte) : Option Status :=
  match entryOf k with
  | none => some .format
  | some e =>
    if e.typ = 13 then
      if e.size < v.length then some .size
      else if e.index = 0x3410 then coefCheck v
      else if e.index = 0x4030 ∧ e.subLo = 3 then gainMapCheck grid v
      else if e.index = 0x4030 then (if v.length = e.size then none else some .size)       -- Lut3D, OutputEncodeLut (R152)
      else if e.index = 0x7200 then overlayCheck (keyIndex k / 256 - 0x70) v
      else if e.index = 0x1420 ∧ e.subLo = 3 then (if anchorsOk v 4 then none else some .format)
      else none
    else if v.length ≠ e.size then some .size
    else if fixedOk e v then none else some .format

/-- A current or pending scene of some head names coefficient set `n` (R137). -/
def State.setNamed (s : State) (n : Nat) : Bool :=
  let names (sc : Option Scene) : Bool := sc.elim false (fun x => x.layers.any (fun l => l.coefH == n || l.coefV == n))
  (List.range 16).any (fun h => names (s.head h).cur || names (s.head h).pend)

/-- The line size of a writeback stream in bytes (R180). -/
def State.wbLineSize (s : State) (index : Nat) : Nat :=
  let r := s.writtenBytes index 4
  (getLE r 4 2 - getLE r 0 2) * (if s.written index 3 = 1 then 8 else 4)

/-- The relations of a value to the other entries and the scenes. -/
def State.relationCheck (s : State) (k : Nat) (v : List Byte) : Option Status :=
  let i := keyIndex k
  let sub := keySub k
  let n := leNat v
  let ok (b : Bool) (st : Status) : Option Status := if b then none else some st
  if i = 0x2200 then                                                           -- the four reservations together (R232)
    ok (decide ((([1, 2, 3, 4] : List Nat).map (fun j => if j = sub then n else s.written 0x2200 j)).sum ≤ 950)) .format
  else if 0x4000 ≤ i ∧ i < 0x5000 ∧ i % 256 = 0x20 ∧ sub = 3 then              -- CommitAheadLead: 1 to VTOTAL − 1 (R95)
    ok (decide (n < s.vtotal (i / 256 % 16))) .format
  else if 0x5300 ≤ i ∧ i < 0x5304 ∧ sub = 8 then ok (decide (s.wbLineSize i ≤ n)) .format
  else if i = 0x6000 ∧ sub = 2 then ok (decide (n < s.written 0x6000 4)) .format
  else if i = 0x6000 ∧ sub = 3 then ok (decide (n < s.written 0x6000 5)) .format
  else if i = 0x3410 then ok (!s.setNamed (sub - 1)) .state
  else none

/-- The grid of the head whose gain map a key is. -/
def State.gridOf (s : State) (k : Nat) : Option (Nat × Nat) :=
  (headOfKey k).map (fun h => gainGrid (s.dims h).1 (s.dims h).2)

/-- Every check of a value that a write carries. -/
def State.valueCheck (s : State) (k : Nat) (v : List Byte) : Option Status :=
  match ownCheck (s.gridOf k) k v with
  | some st => some st
  | none => s.relationCheck k v

end Sys2Proof.Machine
end

