-- ==== Sys2Proof/Machine/Bank.lean ====
section
/-!
DEFINITION. The persistent banks of the dictionary (R378 to R380): their image, loading at boot, stores, and a staged bank
(R455).
-/

namespace Sys2Proof.Machine

/-! ## The image of a bank (R378) -/

/-- The capacity of a bank, 24 MiB. -/
def bankMax : Nat := 25165824

/-- One record: its value is padded with 0 to a multiple of 8. -/
def bankRecord (k : Nat) (v : List Byte) : List Byte :=
  leBytes 2 (keyIndex k) ++ [byte (keySub k), byte ((entryOf k).elim 0 (fun e => e.typ))] ++ leBytes 4 v.length ++ v
    ++ List.replicate ((8 - v.length % 8) % 8) 0#8

/-- The bytes over which a bank's CRC is taken: the CRC field counts 0. -/
def bankCrc (b : List Byte) : Nat := crc32c (b.take 0x1C ++ leBytes 4 0 ++ b.drop 0x20)

/-- A bank with its CRC. -/
def bankSeal (b : List Byte) : List Byte := b.take 0x1C ++ leBytes 4 (bankCrc b) ++ b.drop 0x20

/-- A bank of records, in rising order of their keys. -/
def bankImage (sequence stored : Nat) (recs : Tbl (List Byte)) : List Byte :=
  let body := recs.flatMap (fun p => bankRecord p.1 p.2)
  bankSeal (leBytes 4 0x42445753 ++ leBytes 2 1 ++ leBytes 2 0 ++ leBytes 4 sequence ++ leBytes 4 (0x20 + body.length)
    ++ leBytes 8 stored ++ leBytes 4 recs.length ++ leBytes 4 0 ++ body)

/-- A bank is valid when MAGIC, FORMAT, LENGTH and CRC are correct (R379). -/
def bankValid (b : List Byte) : Bool :=
  let n := getLE b 0xC 4
  decide (0x20 ≤ b.length) && getLE b 0 4 == 0x42445753 && getLE b 4 2 == 1 && decide (0x20 ≤ n ∧ n ≤ b.length ∧ n ≤ bankMax)
    && bankCrc (b.take n) == getLE b 0x1C 4

def bankSequence (b : List Byte) : Nat := getLE b 8 4
def bankStored (b : List Byte) : Nat := getLE b 0x10 8

/-- A record is taken when it names an entry that banks hold, with its type and a value that the entry does not refuse. -/
def recordOk (k typ : Nat) (v : List Byte) : Bool :=
  match entryOf k with
  | some e => e.p && e.typ == typ && (ownCheck none k v).isNone
  | none => false

/-- The records of a bank one by one: the values taken, and how many records were skipped. -/
def bankRecords (l : List Byte) (t : Tbl (List Byte)) (skipped : Nat) : Nat → Tbl (List Byte) × Nat
  | 0 => (t, skipped)
  | n + 1 =>
    let k := dkey (getLE l 0 2) (getLE l 2 1)
    let len := getLE l 4 4
    let v := (l.drop 8).take len
    let rest := l.drop (8 + 8 * ceilDiv len 8)
    if l.length < 8 + len then (t, skipped + 1)
    else if recordOk k (getLE l 3 1) v then bankRecords rest (Tbl.set t k v) skipped n
    else bankRecords rest t (skipped + 1) n

/-- The values a valid bank holds, and the records skipped (R379). -/
def bankValues (b : List Byte) : Tbl (List Byte) × Nat :=
  bankRecords ((b.take (getLE b 0xC 4)).drop 0x20) [] 0 (getLE b 0x18 4)

/-! ## The two banks -/

def State.bank (s : State) (n : Nat) : List Byte := if n = 0 then s.dict.bankA else s.dict.bankB
def State.setBank (s : State) (n : Nat) (b : List Byte) : State :=
  if n = 0 then { s with dict := { s.dict with bankA := b } } else { s with dict := { s.dict with bankB := b } }

/-- The bank to load: the valid one with the later SEQUENCE (R379). -/
def State.bankToLoad (s : State) : Option Nat :=
  match bankValid s.dict.bankA, bankValid s.dict.bankB with
  | true, true => if epochLater (bankSequence s.dict.bankB) (bankSequence s.dict.bankA) then some 1 else some 0
  | true, false => some 0
  | false, true => some 1
  | false, false => none

/-- Load a bank: every entry it holds takes its value, written and in force. -/
def State.loadBank (s : State) (n : Nat) : State :=
  let b := s.bank n
  let r := bankValues b
  { s with dict := { s.dict with base := r.1, force := r.1, active := n, seqN := bankSequence b, lastStore := bankStored b,
                                 ignored := r.2 } }

/-- Load the dictionary at boot; without a valid bank every entry takes its default. -/
def State.loadDictionary (s : State) : State :=
  match s.bankToLoad with
  | some n => s.loadBank n
  | none => s

/-- The bank that a store writes and the SEQUENCE it takes: the bank that is not current, one later; with none current, the
bank whose SEQUENCE is the earlier, one later than the other's (R380, R438). -/
def State.storePlace (s : State) : Nat × Nat :=
  if s.dict.active < 2 then (1 - s.dict.active, nextEpoch s.dict.seqN)
  else match s.bankToLoad with
    | some n => (1 - n, nextEpoch (bankSequence (s.bank n)))
    | none => (0, 1)

/-- The base as a bank holds it: every P entry whose base value differs from its default (R378). -/
def State.persistent (s : State) : Tbl (List Byte) :=
  s.dict.base.filter (fun p => (entryOf p.1).elim false (fun e => e.p) && p.2 != entryDefault p.1)

/-! ## Stores (R380) -/

/-- A store may begin now: none is under way or held, and 60 s have passed since the previous one began. -/
def State.storeFree (s : State) : Bool :=
  s.dict.storing.isNone && !s.boot.bankStaged && s.dict.beganAt.elim true (fun t => decide (t + 60000000000 ≤ s.now))

/-- A store begins: it takes a snapshot of the base; the bank it writes is not valid until it has been read back. -/
def State.beginStore (s : State) : State :=
  let p := s.storePlace
  let img := bankImage p.2 s.now s.persistent
  let s := s.setBank p.1 []
  { s with dict := { s.dict with storing := some (p.1, img), beganAt := some s.now, storeRetry := false, storeWaits := false,
                                 dirtyAfter := false, changedAt := none } }

/-- A store is called for: it begins, or waits. -/
def State.askStore (s : State) : State :=
  if s.storeFree then s.beginStore else { s with dict := { s.dict with storeWaits := true } }

/-- AutoStoreDelay has passed since the last change that no store has taken. -/
def State.autoDue (s : State) : Bool :=
  let d := s.cfg 0x1010 5
  d != 0 && s.dict.changedAt.elim false (fun t => decide (t + d * 1000000000 ≤ s.now))

/-- AUTO_STORE (R380): a store that is due begins. -/
def execAutoStore (s : State) : Host.Outcome State Fault Refusal :=
  .next (if s.coreUp 1 && s.storeFree && (s.autoDue || s.dict.storeWaits) then s.beginStore else s)

/-- Count a store into a bank; DICT_BANK_WEAR when its count reaches 90,000. -/
def State.countStore (s : State) (n : Nat) : State :=
  let c := satInc 32 (if n = 0 then s.dict.countA else s.dict.countB)
  let s := if n = 0 then { s with dict := { s.dict with countA := c } } else { s with dict := { s.dict with countB := c } }
  if c = 90000 then s.raise .dictBankWear else s

/-- A store is complete: the bank it wrote is current. -/
def State.completeStore (s : State) (n : Nat) (img : List Byte) : State :=
  let s := s.setBank n img
  let s := { s with dict := { s.dict with active := n, seqN := bankSequence img, lastStore := bankStored img, storing := none,
                                          storeRetry := false, dirty := s.dict.dirtyAfter } }
  (s.countStore n).raise .dictStoreDone

/-- A store has failed twice: the previous bank stays current, and what it held is not stored. -/
def State.failStore (s : State) : State :=
  State.raise { s with dict := { s.dict with storing := none, storeRetry := false } } .dictStoreFailed

/-- STORE_DONE (R380): the read-back of the store under way completes. -/
def execStoreDone (readBackOk : Bool) (s : State) : Host.Outcome State Fault Refusal :=
  .next (match s.dict.storing with
    | none => s
    | some (n, img) =>
      if !s.coreUp 1 then s
      else if readBackOk then s.completeStore n img
      else if s.dict.storeRetry then s.failStore
      else { s with dict := { s.dict with storeRetry := true } })

/-! ## A staged bank (R455) -/

/-- The last segment of DictionaryBankImage: the image is checked, written into the bank that is not current with SEQUENCE one
later and its CRC recomputed, and stores are held until reset. -/
def State.stageBank (s : State) (b : List Byte) : Option State :=
  if bankValid b ∧ getLE b 0xC 4 = b.length then
    let p := s.storePlace
    let img := bankSeal (b.take 8 ++ leBytes 4 p.2 ++ b.drop 12)
    let s := s.setBank p.1 img
    some { s with boot := { s.boot with bankStaged := true }, dict := { s.dict with storing := none, storeRetry := false } }
  else none

end Sys2Proof.Machine
end

