-- ==== Sys2Proof/Machine/Blit.lean ====
section
/-!
DEFINITION. The 2D engine (R278 to R297): its commands' checks, the blit units and the staging store, and what each command
writes. A command is computed from its whole source as it stands before the first write, which is what R289 requires.
-/

namespace Sys2Proof.Machine

/-! ## Command bodies (R280, R281) -/

def opCopy : Nat := 0x50
def opFill : Nat := 0x51
def opConvert : Nat := 0x52
def opTransform : Nat := 0x53

/-- A 2D command. -/
structure BlitCmd where
  op      : Nat
  w       : Nat
  h       : Nat
  bpp     : Nat   -- bytes per destination pixel
  code    : Nat   -- TRANSFORM code
  src     : Nat
  dst     : Nat
  sStride : Nat
  dStride : Nat
  pattern : List Byte
  srcFmt  : Nat
  dstFmt  : Nat
  wide    : Bool
  chroma  : Nat
  aux     : Nat
  fg      : Nat
  bg      : Nat
  deriving DecidableEq, Repr

/-- Bytes per pixel of a format, 1 for MASK1 and INDEX8. -/
def formatBytes (f : Nat) : Nat := Nat.max 1 (bitsPerPixel f / 8)

/-- The command an entry carries. -/
def blitCmd (e : Exec) : BlitCmd :=
  let g (o k : Nat) : Nat := getLE e.body o k
  let convert := e.opcode == opConvert
  let fill := e.opcode == opFill
  { op := e.opcode, w := g 8 2, h := g 10 2,
    bpp := if convert then formatBytes (g 13 1) else 2 ^ g 12 1,
    code := g 13 1, src := if fill then 0 else g 16 8, dst := if fill then g 16 8 else g 24 8,
    sStride := if fill then 0 else g 32 4, dStride := if fill then g 24 4 else g 36 4,
    pattern := (e.body.drop 32).take 8, srcFmt := g 12 1, dstFmt := g 13 1, wide := bit (g 14 1) 0,
    chroma := g 40 8, aux := g 48 8, fg := g 56 4, bg := g 60 4 }

/-- Destination width and height (R285). -/
def BlitCmd.swapped (c : BlitCmd) : Bool := c.op == opTransform && (c.code == 1 || c.code == 3 || c.code == 6 || c.code == 7)
def BlitCmd.dw (c : BlitCmd) : Nat := if c.swapped then c.h else c.w
def BlitCmd.dh (c : BlitCmd) : Nat := if c.swapped then c.w else c.h

/-- The line sizes of the two rectangles. -/
def BlitCmd.srcLine (c : BlitCmd) : Nat := if c.op = opConvert then lineSize c.srcFmt c.w else c.w * c.bpp
def BlitCmd.dstLine (c : BlitCmd) : Nat := c.dw * c.bpp

/-- The runs of bytes of the source footprint, and of the destination's. -/
def BlitCmd.srcRuns (c : BlitCmd) : List (Nat × Nat) :=
  if c.op = opFill then []
  else (List.range c.h).map (fun j => (c.src + j * c.sStride, c.srcLine)) ++
    (if c.op = opConvert ∧ isTwoPlane c.srcFmt then
      (List.range (ceilDiv c.h 2)).map (fun j => (c.chroma + j * c.sStride, chromaLineSize c.srcFmt c.w)) else [])
def BlitCmd.dstRuns (c : BlitCmd) : List (Nat × Nat) := (List.range c.dh).map (fun j => (c.dst + j * c.dStride, c.dstLine))

/-- The palette that a CONVERT of INDEX8 reads. -/
def BlitCmd.palette (c : BlitCmd) : List (Nat × Nat) := if c.op = opConvert ∧ c.srcFmt = fmtIndex8 then [(c.aux, 1024)] else []

/-- The footprints share a byte. -/
def BlitCmd.overlaps (c : BlitCmd) : Bool :=
  c.srcRuns.any (fun a => c.dstRuns.any (fun b => decide (a.1 < b.1 + b.2 ∧ b.1 < a.1 + a.2)))

/-- The unit works by direction (R289); otherwise an overlapping COPY or CONVERT is staged. -/
def BlitCmd.direct (c : BlitCmd) : Bool := c.sStride == c.dStride && !(c.op == opConvert && isTwoPlane c.srcFmt)
def BlitCmd.staged (c : BlitCmd) : Bool := (c.op == opCopy || c.op == opConvert) && c.overlaps && !c.direct
def BlitCmd.descending (c : BlitCmd) : Bool :=
  (c.op == opCopy || c.op == opConvert) && c.overlaps && c.direct && decide (c.src < c.dst)

/-! ## Checks (R282) -/

/-- Row 1: reserved and unused fields, codes and alignments. -/
def blitFormatOk (e : Exec) : Bool :=
  let c := blitCmd e
  let g (o k : Nat) : Nat := getLE e.body o k
  let al (x k : Nat) : Bool := x % k == 0
  if e.opcode = opConvert then
    decide (c.srcFmt ≤ 8) && decide (c.dstFmt ≤ 4) && decide (g 14 1 ≤ 1) && g 15 1 == 0 &&
      al c.src (formatBytes c.srcFmt) && al c.sStride (formatBytes c.srcFmt) && al c.dst c.bpp && al c.dStride c.bpp &&
      (if isTwoPlane c.srcFmt then al c.chroma 4 else c.chroma == 0 && !c.wide) &&
      (if c.srcFmt = fmtIndex8 then al c.aux 256 else c.aux == 0) &&
      (c.srcFmt == fmtMask1 || (c.fg == 0 && c.bg == 0))
  else
    decide (g 12 1 ≤ 3) && g 14 2 == 0 && g 40 8 == 0 && al c.dst c.bpp && al c.dStride c.bpp &&
      (if e.opcode = opTransform then decide (1 ≤ c.code ∧ c.code ≤ 7) else c.code == 0) &&
      (if e.opcode = opFill then g 28 4 == 0 && allZero (c.pattern.drop c.bpp) else al c.src c.bpp && al c.sStride c.bpp)

/-- The checks of R282 in their order: a status and RESULT 0 when one ends the command, none when it may run. -/
def State.blitCheck (s : State) (q : Nat) (e : Exec) : Option Status :=
  let c := blitCmd e
  let ok (wr : Bool) (l : List (Nat × Nat)) : Bool := l.all (fun p => s.grantedAll [Cls.blit, s.ringCls q] wr p.1 p.2)
  if !blitFormatOk e then some .format
  else if c.w = 0 ∨ c.h = 0 then some .ok
  else if 16384 < c.w ∨ 16384 < c.h ∨ 262144 < c.sStride ∨ 262144 < c.dStride ∨ c.dStride < c.dstLine ∨
      (c.op ≠ opFill ∧ c.sStride < c.srcLine) then some .size
  else if !(ok false (c.srcRuns ++ c.palette) && ok true c.dstRuns) then some .bounds
  else if c.op = opTransform ∧ c.overlaps then some .overlapRotate
  else if c.staged ∧ 0x800_0000 < (c.srcRuns.map (fun p => p.2)).sum then some .size
  else none

/-! ## What a command writes -/

/-- Where the parts of a source stand in a unit's working copy: the first plane from 0 on, chroma and palette above it. -/
def copyChroma : Nat := 2 ^ 40
def copyPalette : Nat := 2 ^ 44

/-- The source of a command as it stands in memory now. -/
def State.sourceCopy (s : State) (c : BlitCmd) : List Host.Cell :=
  let put (m : List Host.Cell) (at_ : Nat) (p : Nat × Nat) : List Host.Cell := Memory.write m at_ (s.busRead p.1 p.2)
  let m := (List.range (if c.op = opFill then 0 else c.h)).foldl
    (fun m j => put m (j * c.sStride) (c.src + j * c.sStride, c.srcLine)) []
  let m := (List.range (if c.op = opConvert ∧ isTwoPlane c.srcFmt then ceilDiv c.h 2 else 0)).foldl
    (fun m j => put m (copyChroma + j * c.sStride) (c.chroma + j * c.sStride, chromaLineSize c.srcFmt c.w)) m
  c.palette.foldl (fun m p => put m copyPalette p) m

/-- The source pixel that lands on destination pixel (x, y) (R285, inverted). -/
def BlitCmd.sourceOf (c : BlitCmd) (x y : Nat) : Nat × Nat :=
  if c.op ≠ opTransform then (x, y)
  else match c.code with
    | 1 => (y, c.h - 1 - x)
    | 2 => (c.w - 1 - x, c.h - 1 - y)
    | 3 => (c.w - 1 - y, x)
    | 4 => (c.w - 1 - x, y)
    | 5 => (x, c.h - 1 - y)
    | 6 => (y, x)
    | _ => (c.w - 1 - y, c.h - 1 - x)

/-- round-half-even of a / b. -/
def roundEven (a b : Nat) : Nat :=
  let q := a / b
  let r := a % b
  if 2 * r < b then q else if b < 2 * r then q + 1 else q + q % 2

/-- The binary16 value nearest to v / 65,535 (R287). -/
def packHalf (v : Nat) : Nat :=
  match (List.range 15).find? (fun k => decide (65535 ≤ v * 2 ^ k)) with
  | some k => (15 - k) * 1024 + (roundEven (v * 2 ^ (10 + k)) 65535 - 1024)
  | none => roundEven (v * 2 ^ 24) 65535

/-- Pack a pixel into DST_FORMAT (R287). -/
def packPixel (fmt : Nat) (p : Smp) : List Byte :=
  let u8 (v : Nat) : Nat := roundDivN (v * 255) 65535
  let u10 (v : Nat) : Nat := roundDivN (v * 1023) 65535
  match fmt with
  | 0 => leBytes 4 (u8 p.c.b + u8 p.c.g * 2 ^ 8 + u8 p.c.r * 2 ^ 16 + u8 p.a * 2 ^ 24)
  | 1 => leBytes 4 (u8 p.c.b + u8 p.c.g * 2 ^ 8 + u8 p.c.r * 2 ^ 16 + 0xFF000000)
  | 2 => leBytes 4 (u10 p.c.b + u10 p.c.g * 2 ^ 10 + u10 p.c.r * 2 ^ 20 + roundDivN (p.a * 3) 65535 * 2 ^ 30)
  | 3 => leBytes 2 (roundDivN (p.c.b * 31) 65535 + roundDivN (p.c.g * 63) 65535 * 2 ^ 5 + roundDivN (p.c.r * 31) 65535 * 2 ^ 11)
  | _ => leBytes 2 (packHalf p.c.r) ++ leBytes 2 (packHalf p.c.g) ++ leBytes 2 (packHalf p.c.b) ++ leBytes 2 (packHalf p.a)

/-- The source of a CONVERT as a buffer of R37, at address 0 of the working copy. -/
def BlitCmd.asReg (c : BlitCmd) : Reg :=
  { format := c.srcFmt, flags := 0, bufs := 1, cls := 0, frozenN := 0, width := c.w, height := c.h, stride := c.sStride,
    addrs := [0, 0, 0], chroma := copyChroma, aux := copyPalette, maskFg := c.fg, maskBg := c.bg, deadline := 0,
    warning := 0, home := 0 }

/-- The bytes of destination line `y` from a working copy of the source. -/
def BlitCmd.line (c : BlitCmd) (m : List Host.Cell) (y : Nat) : List Byte :=
  if c.op = opFill then (List.range c.w).flatMap (fun _ => c.pattern.take c.bpp)
  else if c.op = opConvert then
    (List.range c.w).flatMap (fun x => packPixel c.dstFmt (unpackPixel m c.asReg 0 copyPalette c.wide x y))
  else (List.range c.dw).flatMap (fun x =>
    let p := c.sourceOf x y
    Memory.read m (p.2 * c.sStride + p.1 * c.bpp) c.bpp)

/-- The runs of source bytes that destination line `y` reads. -/
def BlitCmd.lineReads (c : BlitCmd) (y : Nat) : List (Nat × Nat) :=
  if c.op = opFill then []
  else if c.op = opTransform then
    (List.range c.dw).map (fun x => let p := c.sourceOf x y; (c.src + p.2 * c.sStride + p.1 * c.bpp, c.bpp))
  else (c.src + y * c.sStride, c.srcLine) ::
    (if c.op = opConvert ∧ isTwoPlane c.srcFmt then [(c.chroma + y / 2 * c.sStride, chromaLineSize c.srcFmt c.w)] else [])

/-- Destination line number `k` in traversal order. -/
def BlitCmd.nth (c : BlitCmd) (k : Nat) : Nat := if c.descending then c.dh - 1 - k else k

/-- RESULT of R290 after `k` lines. -/
def BlitCmd.result (c : BlitCmd) (k : Nat) : Nat := k + b2n c.descending * 2 ^ 32 + b2n c.staged * 2 ^ 33

/-- Write the lines from `k0` up to `k1`, in traversal order, for unit `u`. -/
def State.blitLines (s : State) (u : Nat) (c : BlitCmd) (m : List Host.Cell) (k0 k1 : Nat) : State :=
  let s := s.forEach ((List.range (k1 - k0)).map (fun i => c.nth (k0 + i)))
    (fun s y => s.busWrite (c.dst + y * c.dStride) (c.line m y))
  s.modUnit u (fun x => { x with linesDone := k1, bytes := wrap 64 (x.bytes + (k1 - k0) * c.dstLine) })

/-- After a failed read at line `k`, each aligned 64-byte block of the lines that follow holds its old bytes or its new
ones; which, a free value says (R291). -/
def State.blitRest (s : State) (c : BlitCmd) (m : List Host.Cell) (k : Nat) : State :=
  let (n, s) := s.draw
  s.forEach ((List.range (c.dh - (k + 1))).map (fun i => c.nth (k + 1 + i))) (fun s y =>
    let a := c.dst + y * c.dStride
    s.forEach ((c.line m y).zip (rangeIncl a (a + c.dstLine - 1))) (fun s p =>
      if (Config.value n).testBit (blockOf p.2 - blockOf c.dst) then s.busWrite p.2 [p.1] else s))

/-! ## Units and the staging store -/

/-- The command in hand of a unit. -/
def State.unitEntry (s : State) (u : Nat) : Option (Nat × Exec) :=
  let x := s.unit u
  if x.state != .running then none
  else ((s.ring x.ring).inflight.find? (fun e => e.pos == x.position && e.phase == .running)).map (fun e => (x.ring, e))

/-- The staging store passes to the next unit that waits for it (R289). -/
def State.freeStaging (s : State) (u : Nat) : State :=
  if s.blit.staging ≠ some u then s
  else match s.blit.stageQueue with
    | [] => { s with blit := { s.blit with staging := none, staged := none } }
    | v :: rest => State.modUnit { s with blit := { s.blit with staging := some v, stageQueue := rest, staged := none } } v
        (fun x => { x with state := .running })

/-- A unit's command ends: its entry finishes, the store passes on, and the unit is free unless it must keep the record
because the Sump is full (R248, R290). -/
def State.endBlit (s : State) (u q : Nat) (e : Exec) (st : Status) (result : Nat) : State :=
  let r := s.ring q
  let held := (r.cqFull || !r.sump.isEmpty) && decide (8 ≤ r.sumpCount)
  let s := (s.finishAt q e.pos st result).freeStaging u
  let s := s.modUnit u (fun x => { x with state := if held then .held else .idle })
  let s := if st = .busError then { s with blit := { s.blit with busErrors := satInc 32 s.blit.busErrors } } else s
  s.settleRing q

/-- With all four units retired, every BLIT entry completes with RETIRED (R292). -/
def State.noUnits (s : State) : Bool := (List.range 4).all (fun u => (s.unit u).state == .retired)
def State.retireBlitEntries (s : State) : State :=
  s.forEach (s.que.rings.filter (fun p => p.2.force.cls == ringBlit)) (fun s p =>
    s.forEach (p.2.inflight.filter (fun e => decide (0x50 ≤ e.opcode) && (e.phase == .waiting || e.phase == .running)))
      (fun s e => s.finishAt p.1 e.pos .retired 0))

/-- A parity fault on a unit: true when it is the second within 1 s and retires the unit (R292). -/
def State.unitFault (s : State) (u : Nat) : State × Bool :=
  let x := s.unit u
  let again := match x.lastFault with | some t => decide (s.now ≤ t + 1000000000) | none => false
  let s := s.setUnit u { x with faults := satInc 16 x.faults, lastFault := some s.now,
                                state := if again then .retired else x.state }
  let s := s.raise .blitUnitFault
  if again then (((s.raise .blitUnitRetired).noteReplacement).healthDue, true) else (s, false)

/-- A command whose unit has retired waits for the next free unit, with the lines it has written (R292). -/
def State.moveCommand (s : State) (q : Nat) (e : Exec) (k : Nat) : State :=
  let s := s.modRing q (fun r => r.setExec e.pos (fun y => { y with phase := .waiting, aux := [k] }))
  if s.noUnits then { s.retireBlitEntries with blit := { s.retireBlitEntries.blit with staging := none, stageQueue := [], staged := none } }
  else s

/-- The first address of known bad memory among some runs. -/
def State.badRun (s : State) (l : List (Nat × Nat)) : Option Nat := l.findSome? (fun p => s.busBad p.1 p.2)

/-- Fill the staging store, when the command is staged and has not filled it yet: the state, the working copy, or none when
a read fails (R289, R291). -/
def State.stage (s : State) (c : BlitCmd) (fails : Bool) : State × Option (List Host.Cell) :=
  if !c.staged then (s, some (s.sourceCopy c))
  else if s.blit.staged.isSome then (s, s.blit.staged)
  else
    let s := { s with blit := { s.blit with stagedN := satInc 32 s.blit.stagedN, stagedTot := satInc 32 s.blit.stagedTot } }
    match s.badRun (c.srcRuns ++ c.palette) with
    | some a => (s.countRepeated a, none)
    | none => if fails then (s, none)
        else let m := s.sourceCopy c; ({ s with blit := { s.blit with staged := some m } }, some m)

/-- Where reads stop a command that is not staged: the traversal index of the first line from `k0` on that cannot be read,
and the address of known bad memory that stops it. -/
def State.readStop (s : State) (c : BlitCmd) (k0 : Nat) (ev : BlitEvent) : Option (Nat × Option Nat) :=
  let known := if c.staged then none
    else match s.badRun c.palette with
      | some a => some (k0, some a)
      | none => (List.range (c.dh - k0)).findSome? (fun i =>
          (s.badRun (c.lineReads (c.nth (k0 + i)))).map (fun a => (k0 + i, some a)))
  let event := match ev with
    | .readFails n => if k0 ≤ n ∧ n < c.dh ∧ !c.staged ∧ c.op ≠ opFill then some (n, none) else none
    | _ => none
  match known, event with
  | some a, some b => some (if a.1 ≤ b.1 then a else b)
  | some a, none => some a
  | none, b => b

/-- Run the command to its end, or to the line at which a read stops it. -/
def State.blitFinish (s : State) (u q : Nat) (e : Exec) (c : BlitCmd) (m : List Host.Cell) (k0 : Nat)
    (stop : Option (Nat × Option Nat)) : State :=
  match stop with
  | none => (s.blitLines u c m k0 c.dh).endBlit u q e .ok (c.result c.dh)
  | some (k, bad) =>
    let s := match bad with | some a => s.countRepeated a | none => s
    ((s.blitLines u c m k0 k).blitRest c m k).endBlit u q e .busError (c.result k)

/-- A unit runs its command (R283 to R292). -/
def State.blitRun (s : State) (u : Nat) (op : Nat) (ev : BlitEvent) : State :=
  match s.unitEntry u with
  | none => s
  | some (q, e) =>
    if e.opcode ≠ op then s
    else
      let c := blitCmd e
      let k0 := e.aux.headD 0
      match s.stage c (ev == .stagingFails) with
      | (s, none) => s.endBlit u q e .busError (c.result 0)
      | (s, some m) =>
        let stop := s.readStop c k0 ev
        let last := stop.elim c.dh (fun p => p.1)
        match ev with
        | .parity n =>
          if n < k0 ∨ last ≤ n then s.blitFinish u q e c m k0 stop
          else
            let (s, dead) := (s.blitLines u c m k0 n).unitFault u
            if dead then s.moveCommand q e n else s.blitFinish u q e c m n stop
        | _ => s.blitFinish u q e c m k0 stop

/-- COPY (R283, R289). -/
def execCopy (u : Fin 4) (ev : BlitEvent) (s : State) : Host.Outcome State Fault Refusal := .next (s.blitRun u opCopy ev)

/-- 2D FILL (R284). -/
def execFill (u : Fin 4) (ev : BlitEvent) (s : State) : Host.Outcome State Fault Refusal := .next (s.blitRun u opFill ev)

/-- CONVERT (R287, R288). -/
def execConvert (u : Fin 4) (ev : BlitEvent) (s : State) : Host.Outcome State Fault Refusal := .next (s.blitRun u opConvert ev)

/-- TRANSFORM (R285, R286). -/
def execTransform (u : Fin 4) (ev : BlitEvent) (s : State) : Host.Outcome State Fault Refusal :=
  .next (s.blitRun u opTransform ev)

/-! ## Taking a command (R278) -/

/-- An entry of a BLIT ring that waits for a unit. -/
def Exec.waitsUnit (e : Exec) : Bool := decide (0x50 ≤ e.opcode) && e.phase == .waiting

/-- The entry that a free unit takes: one moved from a retired unit first (R292), else the oldest of the next BLIT ring in
turn (R278). -/
def State.nextBlit (s : State) : Option (Nat × Exec) :=
  let rings := s.que.rings.filter (fun p => p.2.force.cls == ringBlit)
  let oldest (f : Exec → Bool) (p : Nat × Ring) : Option (Nat × Exec) := (p.2.inflight.find? f).map (fun e => (p.1, e))
  match rings.findSome? (oldest (fun e => e.waitsUnit && !e.aux.isEmpty)) with
  | some x => some x
  | none =>
    let after := rings.filter (fun p => decide (s.blit.lastRing < p.1))
    (after ++ rings.filter (fun p => decide (p.1 ≤ s.blit.lastRing))).findSome? (oldest (fun e => e.waitsUnit))

/-- A unit that keeps a record until the Sump can take it (R248). -/
def State.unitHolds (s : State) (u : Nat) : Bool :=
  let x := s.unit u
  x.state == .held && (s.ring x.ring).inflight.any (fun e => e.pos == x.position)

/-- BLIT_UNIT_TAKE (R278, R289, R294): a free unit takes a command, waiting for the staging store when another holds it; no
unit takes one while BULK work is shed. -/
def execBlitUnitTake (u : Fin 4) (s : State) : Host.Outcome State Fault Refusal :=
  let x := s.unit u
  .next (if x.state == .retired || x.state == .running || x.state == .stageWait || s.unitHolds u then s
    else if s.sheds 4 then s.setUnit u { x with state := .idle }
    else match s.nextBlit with
      | none => s.setUnit u { x with state := .idle }
      | some (q, e) =>
        let needs := (blitCmd e).staged
        -- a command moved from a retired unit brings its staged copy with it
        let brings := needs && !e.aux.isEmpty
        let waits := needs && !brings && s.blit.staging.isSome
        let s := s.modRing q (fun r => r.setExec e.pos (fun y => { y with phase := .running }))
        let s := s.setUnit u { x with state := if waits then .stageWait else .running, ring := q, position := e.pos,
                                      linesDone := e.aux.headD 0 }
        let b := s.blit
        { s with blit := { b with lastRing := if e.aux.isEmpty then q else b.lastRing,
                                  staging := if needs && !waits then some u.val else b.staging,
                                  stageQueue := if waits then b.stageQueue ++ [u.val] else b.stageQueue } })

end Sys2Proof.Machine
end

