-- ==== Sys2Proof/Machine/Siphon.lean ====
section
/-!
DEFINITION. Siphon (R254 to R277): its descriptors, their checks and retirement, wait sources, bus errors, restart and the
retirement of channels. Rows act on the oldest descriptor in execution of a channel, so that no descriptor writes before
every earlier one has retired (R254).
-/

namespace Sys2Proof.Machine

/-! ## Channels -/

/-- The effective class of a channel (R255): 4 BULK. -/
def Chan.effClass (c : Chan) : Nat := if c.safetyEff then 0 else Nat.min c.clsF 4

/-- A channel that begins no new descriptor while BULK work is shed (R255). -/
def State.chanPaused (s : State) (c : Nat) : Bool := (s.chan c).effClass == 4 && s.sheds 4

/-- The rights an address of a descriptor needs: SIPHON's and the owning function's (R212). -/
def State.siphGranted (s : State) (c : Nat) (wr : Bool) (a n : Nat) : Bool :=
  s.grantedAll [Cls.siphon, s.ringCls c] wr a n

/-- Bytes written enter both accumulators in destination order (R260). -/
def Accs.add (x : Accs) (l : List Byte) : Accs :=
  let (f, t) := fletcherBytes (x.sum1, x.sum2) x.tail l
  { x with content := crcUpdate x.content l, sum32c := crcUpdate x.sum32c l, sum1 := f.1, sum2 := f.2, tail := t,
           bytes := wrap 64 (x.bytes + l.length) }

/-- The checksum accumulator restarts (R261); the content CRC restarts (R262). -/
def Accs.restartSum (x : Accs) : Accs := { x with sum32c := crcInit, sum1 := 0, sum2 := 0, tail := [], bytes := 0 }
def Accs.restartContent (x : Accs) : Accs := { x with content := crcInit }

/-- The oldest descriptor in execution, when it carries the given opcode and has not finished; none while the engine is
halted or the ring does not run. -/
def State.descriptor? (s : State) (c op : Nat) : Option Exec :=
  let r := s.ring c
  if s.siph.halted || r.force.cls != ringSiphon || (s.chan c).retired then none
  else match r.inflight.head? with
    | some e => (match e.phase with
        | .finished _ _ => none
        | _ => if e.opcode = op then some e else none)
    | none => none

/-- A failed descriptor (R266): status, counts, events and PUBFAIL. -/
def State.descFailed (s : State) (c : Nat) (st : Status) : State :=
  let s := s.modChan c (fun x => { x with lastStatus := st.code, failed := satInc 16 x.failed,
                                          acc := { x.acc with pubFail := true } })
  s.raise .siphonDescFailed

/-- Retire the oldest descriptor of a channel, once finished (R245, R267): a failed one is counted, the accumulators are
kept for a restart, OWN clears and RETIRED advances. -/
def State.retireDescriptor (s : State) (c : Nat) (wr : RetireWrites) : State :=
  let r := s.ring c
  match r.inflight with
  | [] => s
  | e :: rest =>
    match e.phase with
    | .finished st res =>
      let s := if st = .ok then s else s.descFailed c st
      let s := s.modRing c (fun r => { r with inflight := rest })
      let s := s.modChan c (fun x => { x with saved := x.acc, restartPos := (e.pos + e.len) % r.size })
      (s.retireRecord c { e.record st res with noRec := true } false wr).1.settleRing c
    | _ => s

/-- DESCRIPTOR_RETIRE (R267); PADs and NOPs of the ring retire the same way. -/
def execDescriptorRetire (c : Fin 64) (s : State) : Host.Outcome State Fault Refusal :=
  .next (if s.siph.halted || (s.ring c).force.cls != ringSiphon || (s.chan c).retired then s
    else s.retireDescriptor c .ok)

/-! ## SG_COPY and FILL -/

/-- The pairs of `n` × 16 bytes: address and length, and whether their reserved bytes are zero. -/
def pairsOf (b : List Byte) (n : Nat) : List (Nat × Nat) × Bool :=
  let l := (List.range n).map (fun i => b.drop (16 * i))
  ((l.map (fun x => (getLE x 0 8, getLE x 8 4))).filter (fun p => p.2 != 0), l.all (fun x => getLE x 12 4 == 0))

/-- Two ranges share a byte. -/
def rangesMeet (a b : Nat × Nat) : Bool := decide (a.1 < b.1 + b.2 ∧ b.1 < a.1 + a.2 ∧ 0 < a.2 ∧ 0 < b.2)

def pairsTotal (l : List (Nat × Nat)) : Nat := (l.map (fun p => p.2)).sum

/-- The bytes of the source pairs in order. -/
def State.gather (s : State) (l : List (Nat × Nat)) : List Byte := l.flatMap (fun p => s.busRead p.1 p.2)

/-- Write a stream over the destination pairs in order. -/
def State.scatter (s : State) (l : List (Nat × Nat)) (b : List Byte) : State :=
  (l.foldl (fun (a : State × List Byte) p => (a.1.busWrite p.1 (a.2.take p.2), a.2.drop p.2)) (s, b)).1

/-- What the checks of R258 make of a descriptor that moves data. -/
inductive SgCheck where
  | fail (st : Status)
  /-- A read of a list in device memory fails: a Siphon bus error. -/
  | busError (addr : Nat)
  | move (src dst : List (Nat × Nat))

/-- Rows 3 to 5 of R258 over the pairs. -/
def State.sgPairs (s : State) (c : Nat) (src dst : List (Nat × Nat)) (reservedOk : Bool) : SgCheck :=
  if !reservedOk || pairsTotal src != pairsTotal dst || src.any (fun a => dst.any (fun b => rangesMeet a b)) then .fail .format
  else if 2 ^ 32 ≤ pairsTotal src then .fail .size
  else if src.all (fun p => s.siphGranted c false p.1 p.2) && dst.all (fun p => s.siphGranted c true p.1 p.2) then
    .move src dst
  else .fail .bounds

/-- The checks of an SG_COPY (R257, R258). -/
def State.sgCheck (s : State) (c : Nat) (e : Exec) : SgCheck :=
  let ns := getLE e.body 8 2
  let nd := getLE e.body 10 2
  let list := bit e.flags 0
  if getLE e.body 12 4 != 0 || ns == 0 || nd == 0 then .fail .format
  else if list then
    let la := getLE e.body 16 8
    let lb := getLE e.body 24 8
    if la % 16 != 0 || lb % 16 != 0 || decide (4096 < ns) || decide (4096 < nd) then .fail .format
    else if !(s.siphGranted c false la (16 * ns) && s.siphGranted c false lb (16 * nd)) then .fail .bounds
    else match (s.busBad la (16 * ns)).orElse (fun _ => s.busBad lb (16 * nd)) with
      | some a => .busError a
      | none =>
        let p := pairsOf (s.busRead la (16 * ns)) ns
        let q := pairsOf (s.busRead lb (16 * nd)) nd
        s.sgPairs c p.1 q.1 (p.2 && q.2)
  else
    let p := pairsOf (e.unitBytes 1) ns
    let q := pairsOf (e.unitBytes (1 + ns)) nd
    s.sgPairs c p.1 q.1 (p.2 && q.2)

/-- The pattern of a FILL over `n` bytes (R259). -/
def patternBytes (p : List Byte) (n : Nat) : List Byte := (List.range n).map (fun i => p.getD (i % 8) 0#8)

/-- The check of a FILL (R258, R259). -/
def State.fillCheck (s : State) (c : Nat) (e : Exec) : SgCheck :=
  let a := getLE e.body 16 8
  let n := getLE e.body 24 4
  if getLE e.body 28 4 != 0 then .fail .format
  else if n != 0 && !s.siphGranted c true a n then .fail .bounds
  else .move [] (if n = 0 then [] else [(a, n)])

/-- The data stream of a descriptor that passed its checks. -/
def State.descStream (s : State) (e : Exec) (src dst : List (Nat × Nat)) : List Byte :=
  if e.opcode = 0x11 then patternBytes ((e.body.drop 8).take 8) (pairsTotal dst) else s.gather src

/-- Write a descriptor's stream: memory, accumulators and BYTESMOVED. -/
def State.moveBytes (s : State) (c : Nat) (dst : List (Nat × Nat)) (b : List Byte) : State :=
  (s.scatter dst b).modChan c (fun x => { x with acc := x.acc.add b, moved := wrap 64 (x.moved + b.length) })

/-! ## Bus errors (R269) -/

/-- ERRKIND of R275. -/
def errKindCode (k : BusErrKind) : Nat :=
  match k with
  | .completionTimeout => 1 | .poisoned => 2 | .unsupported => 3 | .memory => 4

/-- The writes that the oldest descriptor of a channel had issued when the engine halted: how many of its bytes is open, so
a free value says (R269, R270). -/
def State.partialMove (s : State) (c : Nat) : State :=
  let go (e : Exec) (k : SgCheck) : State :=
    match k with
    | .move src dst =>
      let (n, s) := s.draw
      let b := s.descStream e src dst
      s.scatter dst (b.take (Config.value n % (b.length + 1)))
    | _ => s
  match s.descriptor? c 0x10, s.descriptor? c 0x11 with
  | some e, _ => go e (s.sgCheck c e)
  | none, some e => go e (s.fillCheck c e)
  | none, none => s

/-- A ring that the halt of the engine halts, and that its restart resumes: enabled, its channel not retired, and not halted
by a halting field, which waits for software (R387; DEDUCED, log entry 29). -/
def State.halts (s : State) (c : Nat) : Bool :=
  let r := s.ring c
  r.enable && r.force.cls == ringSiphon && !(s.chan c).retired && !(r.state == .halted && r.haltCode == 2)

/-- The four-error window of R271: the candidate masks of its errors, the latest last. -/
def State.openWindow (s : State) (mask : Nat) : State :=
  let y := s.siph
  if y.windowOpen && decide (s.now ≤ y.windowStart + 1000000000) then
    { s with siph := { y with windowMasks := y.windowMasks ++ [mask] } }
  else { s with siph := { y with windowOpen := true, windowStart := s.now, windowMasks := [mask], attempts := 0 } }

/-- A bus error: the engine and every enabled SIPHON ring halt at once (R269). While the engine is halted it has no read
that could fail. -/
def State.busError (s : State) (kind : BusErrKind) (addr : Nat) (cands : List Nat) : State :=
  if s.siph.halted then s
  else
    let s := s.forEach (List.range 64) (fun s c => if s.halts c then s.partialMove c else s)
    let mask := maskOf (cands.filter (fun c => s.halts c))
    let y := s.siph
    let s := { s with siph := { y with halted := true, errKind := errKindCode kind, errAddr := addr, candMask := mask,
                                       halts := satInc 32 y.halts, haltsTotal := satInc 32 y.haltsTotal } }
    let s := s.openWindow mask
    let s := s.forEach (List.range 64) (fun s c =>
      if s.halts c then s.haltRing c Status.busError.code (s.chan c).restartPos else s)
    s.level .siphonHalt true

/-- SIPHON_BUS_ERROR (R269). -/
def execSiphonBusError (kind : BusErrKind) (addr : Nat) (cands : List (Fin 64)) (s : State) :
    Host.Outcome State Fault Refusal :=
  .next (if kind = .memory ∧ !s.siph.halted then
      (s.countUncorrectable addr).busError kind addr (cands.map (fun c => c.val))
    else s.busError kind addr (cands.map (fun c => c.val)))

/-- Run a descriptor that moves data: a failing read of device memory is a bus error of which this channel is the
candidate. -/
def State.runMove (s : State) (c : Nat) (e : Exec) (k : SgCheck) : State :=
  match k with
  | .fail st => (if st = .bounds then s.countBounds else s).finishAt c e.pos st 0
  | .busError a => (s.countUncorrectable a).busError .memory a [c]
  | .move src dst =>
    match src.findSome? (fun p => s.busBad p.1 p.2) with
    | some a => (s.countUncorrectable a).busError .memory a [c]
    | none => (s.moveBytes c dst (s.descStream e src dst)).finishAt c e.pos .ok 0

/-- SG_COPY (R257, R258). -/
def execSgCopy (c : Fin 64) (s : State) : Host.Outcome State Fault Refusal :=
  .next (match s.descriptor? c 0x10 with
    | some e => s.runMove c e (s.sgCheck c e)
    | none => s)

/-- SIPHON FILL (R259). -/
def execSiphonFill (c : Fin 64) (s : State) : Host.Outcome State Fault Refusal :=
  .next (match s.descriptor? c 0x11 with
    | some e => s.runMove c e (s.fillCheck c e)
    | none => s)

/-- No SIGNAL drives a GPIO_EV pin while the parity of an engine-wide register is wrong (R392). -/
def State.gpioHeld (s : State) : Bool := s.sys.parityBad.any (fun o => decide (0x38_0000 ≤ o ∧ o < 0x40_0000))

/-! ## CRC, PUBLISH, WAIT, SIGNAL, FENCE -/

/-- A descriptor ends with a failed check. -/
def State.failDesc (s : State) (c : Nat) (e : Exec) (st : Status) : State :=
  (if st = .bounds then s.countBounds else s).finishAt c e.pos st 0

/-- CRC (R261): the record of the chosen algorithm. -/
def execCrc (c : Fin 64) (s : State) : Host.Outcome State Fault Refusal :=
  .next (match s.descriptor? c 0x12 with
    | none => s
    | some e =>
      let a := getLE e.body 8 8
      let x := (s.chan c).acc
      let v := if bit e.flags 0 then fletcherValue (x.sum1, x.sum2) x.tail else crcFinal x.sum32c
      if a % 16 != 0 then s.failDesc c e .format
      else if !s.siphGranted c true a 16 then s.failDesc c e .bounds
      else
        let s := s.busWrite a (leBytes 8 v ++ leBytes 8 x.bytes)
        let s := if bit e.flags 1 then s else s.modChan c (fun y => { y with acc := y.acc.restartSum })
        s.finishAt c e.pos .ok 0)

/-- The publication record with the content CRC inserted (R262). -/
def insertCrc (b : List Byte) (crc : Nat) : List Byte :=
  b.take 3 ++ [byte (getLE b 3 1 ||| 2)] ++ leBytes 4 crc ++ (b.drop 8).take 8

/-- PUBLISH of a channel (R262, R266): it retires in the clock in which the record is handed over, so the row retires it. -/
def execSiphonPublish (c : Fin 64) (s : State) : Host.Outcome State Fault Refusal :=
  .next (match s.descriptor? c 0x13 with
    | none => s
    | some e =>
      let x := s.chan c
      let raw := (e.unitBytes 1).take 16
      if getLE e.body 8 8 != 0 || !pubReservedOk raw then (s.failDesc c e .format).retireDescriptor c .ok
      else if !x.pubF then (s.failDesc c e .state).retireDescriptor c .ok
      else
        let restart (y : Chan) : Chan := { y with acc := y.acc.restartContent }
        let s := if x.acc.pubFail then
            (s.modChan c (fun y => { restart y with acc := { y.acc.restartContent with pubFail := false },
                                                    pubSkipped := satInc 16 y.pubSkipped })).raise .siphonPublishSkipped
          else
            let p : Pub := { raw := insertCrc raw (crcFinal x.acc.content), path := .siphon c, at_ := s.now }
            let safety := (s.source? (pubId raw)).elim false (fun y => y.reg.cls == 0)
            State.modChan { s with src := { s.src with arrivals := s.src.arrivals ++ [p] } } c
              (fun y => { restart y with safetyEff := y.safetyEff || safety })
        (s.finishAt c e.pos .ok 0).retireDescriptor c .ok)

/-- WAIT's fields: source and timeout in µs (R263). -/
def Exec.waitSource (e : Exec) : Nat := getLE e.body 8 2
def Exec.waitLimit (e : Exec) : Nat := getLE e.body 12 4

/-- A WAIT under way whose source's bit is set retires and clears it (R263). -/
def State.endWait (s : State) (c : Nat) : State :=
  match s.descriptor? c 0x14 with
  | some e =>
    if e.phase = .running ∧ (s.chan c).pending.contains e.waitSource then
      let s := s.modChan c (fun x => { x with pending := x.pending.filter (fun i => i != e.waitSource) })
      (s.finishAt c e.pos .ok 0).retireDescriptor c .ok
    else s
  | none => s

/-- A pulse of a wait source: its bit is set in every channel, and the WAITs that it satisfies retire (R263). -/
def State.pulseWait (s : State) (n : Nat) : State :=
  let s := s.forEach (List.range 64) (fun s c => s.modChan c (fun x => { x with pending := insertSorted n x.pending }))
  s.forEach (List.range 64) (fun s c => s.endWait c)

/-- WAIT (R263): it begins, clearing its bit under CLEARFIRST, and retires as soon as the bit is set. -/
def execWait (c : Fin 64) (s : State) : Host.Outcome State Fault Refusal :=
  .next (match s.descriptor? c 0x14 with
    | none => s
    | some e =>
      if e.phase = .running then s.endWait c
      else if 160 ≤ e.waitSource ∨ getLE e.body 10 2 ≠ 0 then s.failDesc c e .format
      else
        let s := if bit e.flags 0 then
            s.modChan c (fun x => { x with pending := x.pending.filter (fun i => i != e.waitSource) }) else s
        let s := s.modRing c (fun r => r.setExec e.pos (fun y => { y with phase := .running, began := s.now }))
        s.endWait c)

/-- WAIT_TIMEOUT (R263): TIMEOUT µs after it began, a WAIT that no pulse has satisfied fails with TIMEOUT. -/
def execWaitTimeout (c : Fin 64) (s : State) : Host.Outcome State Fault Refusal :=
  .next (match s.descriptor? c 0x14 with
    | none => s
    | some e =>
      if e.phase = .running ∧ e.waitLimit ≠ 0 ∧ e.began + e.waitLimit * 1000 ≤ s.now then
        if (s.chan c).pending.contains e.waitSource then s.endWait c
        else (s.finishAt c e.pos .timeout 0).retireDescriptor c .ok
      else s)

/-- WAIT_SOURCE_PULSE (R263): a rising edge on a GPIO_EV pin that is no Siphon output, or a head at its latch line. Signal
lines are pulsed by SIGNAL alone. -/
def execWaitSourcePulse (n : Fin 160) (s : State) : Host.Outcome State Fault Refusal :=
  .next (if n.val < 128 then s
    else if n.val < 144 ∧ bit (s.cfg 0x5801 1) (n.val - 128) then s
    else s.pulseWait n)

/-- SIGNAL (R264): all targets are pulsed at once; DESCRIPTOR_RETIRE retires it. -/
def execSignal (c : Fin 64) (s : State) : Host.Outcome State Fault Refusal :=
  .next (match s.descriptor? c 0x15 with
    | none => s
    | some e =>
      let t := getLE e.body 8 4
      let line := field t 6 0
      let pin := field t 14 11
      if bit t 7 || t / 2 ^ 15 != 0 || getLE e.body 12 4 != 0 then s.failDesc c e .format
      else if bit t 10 && !bit (s.cfg 0x5801 1) pin then s.failDesc c e .state
      else
        let s := s.finishAt c e.pos .ok 0
        let s := if bit t 8 then s.raiseNum (evSignal line) else s
        let s := if bit t 10 && !s.gpioHeld then
            { s with siph := { s.siph with gpioPulses := Tbl.set s.siph.gpioPulses pin (s.now + 100 * s.cfg 0x5801 2) } }
          else s
        if bit t 9 then s.pulseWait line else s)

/-- FENCE (R265): with READBACK, its one-byte read of the host returns within the row. -/
def execFence (c : Fin 64) (s : State) : Host.Outcome State Fault Refusal :=
  .next (match s.descriptor? c 0x16 with
    | none => s
    | some e =>
      let a := getLE e.body 8 8
      if a = 0 then s.finishAt c e.pos .ok 0
      else if !isHostAddr a then s.failDesc c e .format
      else if !s.siphGranted c false a 1 then s.failDesc c e .bounds
      else s.finishAt c e.pos .ok 0)

/-! ## Restart and retirement of channels (R270 to R272) -/

/-- BAR0 offset of channel `c`'s registers (R274). -/
def chanOffset (c : Nat) : Nat := 0x30_0000 + 0x1000 * c

/-- A channel returns to HALTED with its accumulators and PUBFAIL cleared (R272). -/
def State.reenableNow (s : State) (c : Nat) : State :=
  if (s.chan c).retired then
    s.modChan c (fun x => { x with retired := false, acc := Accs.reset, saved := Accs.reset })
  else s

/-- Restart a halted channel after its last retired descriptor: descriptors in execution are abandoned and read afresh, and
the accumulators return to their values at that retirement (R270). -/
def State.restartChannel (s : State) (c : Nat) : State :=
  let s := s.modChan c (fun x => { x with acc := x.saved })
  let s := s.modRing c (fun r => { r with inflight := [], head := (s.chan c).restartPos })
  s.restartRing c

/-- The candidates of a fourth error: the intersection of the four masks, or the fourth alone (R271). -/
def candidateSet (l : List Nat) : List Nat :=
  let all := l.foldl (fun a m => a &&& m) (2 ^ 64 - 1)
  bitsOf 64 (if all = 0 then l.getLastD 0 else all)

/-- SIPHON_RESTART (R270, R271): firmware restarts the channels, after the fourth error of a window without the candidates,
which it retires; REENABLEs that waited take effect (R272). -/
def execSiphonRestart (s : State) : Host.Outcome State Fault Refusal :=
  let y := s.siph
  let spent := decide (4 ≤ y.windowMasks.length)
  .next (if !y.halted || !s.coreUp 1 then s
    else
      let dead := if spent then candidateSet y.windowMasks else []
      let s := s.forEach dead (fun s c =>
        ((s.modChan c (fun x => { x with retired := true })).haltRing c Status.retired.code (s.chan c).restartPos))
      let s := if dead.isEmpty then s else s.raise .siphonChannelRetired
      let s := { s with siph := { s.siph with halted := false, restarts := satInc 32 y.restarts,
                                              attempts := if spent then 0 else y.attempts + 1,
                                              windowOpen := !spent, windowMasks := if spent then [] else y.windowMasks } }
      let s := (s.level .siphonHalt false).raise .siphonRestarted
      let s := s.forEach ((List.range 64).filter (fun c =>
          let r := s.ring c
          r.force.cls == ringSiphon && r.state == .halted && r.haltCode == Status.busError.code && !(s.chan c).retired))
        (fun s c => s.restartChannel c)
      let s := s.forEach y.reenables (fun s c => s.reenableNow c)
      { s with siph := { s.siph with reenables := [] } })

/-- A write of 1 to REENABLE by the owning function or PF0 (R272); while the engine is halted it waits for the restart. -/
def State.reenable (s : State) (fn : Fn) (c : Nat) : State :=
  if !s.ringReach fn c then s.privIgnore (chanOffset c + 0x24)
  else if s.siph.halted then { s with siph := { s.siph with reenables := insertSorted c s.siph.reenables } }
  else s.reenableNow c

/-- REENABLE (R272). -/
def execReenable (fn : Fn) (c : Fin 64) (s : State) : Host.Outcome State Fault Refusal :=
  .next (if s.hostUp fn then s.reenable fn c else s)

/-! ## ENABLE and RESTART of a ring (R234, R249), with what R272 says of retired channels -/

/-- A write of ENABLE or RESTART to the ring of a channel that is still retired has no effect (R272). -/
def State.refusedChannel (s : State) (q : Nat) : Bool := decide (q < 64) && (s.chan q).retired

/-- The refusal shows in LASTSTATUS. -/
def State.refuseChannel (s : State) (q : Nat) : State := s.modChan q (fun x => { x with lastStatus := Status.state.code })

/-- A Siphon channel's accumulators, effective class and configuration in force start with its ring (R255, R260). -/
def State.startChannel (s : State) (q : Nat) : State :=
  if (s.ring q).force.cls = ringSiphon then
    s.modChan q (fun c => { c with acc := Accs.reset, saved := Accs.reset, clsF := c.cls, pubF := c.publishing,
                                   safetyEff := false, restartPos := 0 })
  else s

/-- ENABLE written to 1. -/
def State.ringEnable (s : State) (q : Nat) : State :=
  if s.refusedChannel q then s.refuseChannel q
  else
    let was := (s.ring q).state
    let s := (s.fixParity (ringOffset q)).enableRing q
    if was == .disabled && (s.ring q).enable then s.startChannel q else s

/-- RING_ENABLE (R234). -/
def execRingEnable (fn : Fn) (q : Fin 256) (s : State) : Host.Outcome State Fault Refusal :=
  .next (if !s.hostUp fn then s else if !s.ringReach fn q then s.privIgnore (ringOffset q) else s.ringEnable q)

/-- The parity of a configuration register of a ring or of its channel is wrong: it stays halted until software rewrites that
register (R392, R393). -/
def State.ringParity (s : State) (q : Nat) : Bool :=
  s.sys.parityBad.any (fun o => decide (ringOffset q ≤ o ∧ o < ringOffset q + 0x400) || (decide (q < 64) && o == chanOffset q))

/-- RESTART written to 1. A ring that a halting field of QUE_ halted resumes only at its next enable (R387); a channel's
configuration as written comes into force (R274); one that was retired resumes after its last retired descriptor (R272);
while the engine is halted its own restart resumes the channels (R270). -/
def State.ringRestart (s : State) (q : Nat) : State :=
  let r := s.ring q
  if s.refusedChannel q then s.refuseChannel q
  else if r.state != .halted || r.byField || s.ringParity q then s
  else if r.force.cls != ringSiphon then s.restartRing q
  else if s.siph.halted then s
  else
    let s := s.modChan q (fun x => { x with clsF := x.cls, pubF := x.publishing })
    if r.haltCode = Status.retired.code then s.restartChannel q else s.restartRing q

/-- RESTART (R249). -/
def execRestart (fn : Fn) (q : Fin 256) (s : State) : Host.Outcome State Fault Refusal :=
  .next (if !s.hostUp fn then s else if !s.ringReach fn q then s.privIgnore (ringOffset q) else (s.fixParity (ringOffset q)).ringRestart q)

end Sys2Proof.Machine
end

