-- ==== Sys2Proof/Machine/QueueExec.lean ====
section
/-!
DEFINITION. The queue engine at work (R237, R240 to R244), the halting fields of rings and channels (R250, R274, R387), and
what a reset of one function does (R251, R415).
-/

namespace Sys2Proof.Machine

/-! ## Reading entries -/

/-- The queue engine may read the ring's HEAD now: the ring runs, has room to begin an entry and space to report it, and its
unit takes descriptors. -/
def State.mayRead (s : State) (q : Nat) : Bool :=
  let r := s.ring q
  r.state == .running && r.enable && !r.stop && !r.cqFull && r.sump.isEmpty &&
    decide (r.inflight.length < ringLimit r.force.cls) && s.sys.mode != .reset && s.sys.mode != .boot &&
    (r.force.cls != ringSiphon || (!s.siph.halted && !(s.chan q).retired && !s.chanPaused q))

/-- How a ring read ended: its bytes, or the code with which it halts the ring. -/
inductive HeadRead where
  | bytes (l : List Byte)
  | bounds
  /-- A bus error at an address. -/
  | failed (addr : Nat) (kind : BusErrKind)

/-- Read `n` bytes at HEAD: from accepted inline units, else from the ring (R240, R243). -/
def State.readHead (s : State) (q n : Nat) (rd : RingRead) : State × HeadRead :=
  let r := s.ring q
  let a := r.force.sqBase + 16 * r.head
  if !r.inline.isEmpty && !r.reread then (s, .bytes (r.inline.take n))
  else if !s.granted (fnCls r.force.owner) false a n then (s.countBounds, .bounds)
  else match s.busBad a n with
    | some bad => (s.countUncorrectable bad, .failed bad .memory)
    | none =>
      if rd = .busError ∧ isHostAddr a then
        let (d, s) := s.draw
        (s, .failed a ([BusErrKind.completionTimeout, .poisoned, .unsupported].getD (Config.value d % 3) .unsupported))
      else (s, .bytes (s.busRead a n))

/-- A ring read that failed halts the ring; on a SIPHON ring a bus error halts the engine (R237). -/
def State.readFailed (s : State) (q : Nat) (x : HeadRead) : State :=
  let r := s.ring q
  match x with
  | .failed a k =>
    if r.force.cls = ringSiphon then s.busError k a [q] else s.haltRing q Status.busError.code r.head
  | _ => s.haltRing q Status.bounds.code r.head

/-- The entry that bytes at HEAD make. -/
def Ring.entryOf (r : Ring) (b : List Byte) (now : Nat) : Exec :=
  let w := getLE b 0 4
  { pos := r.head, len := hdrLen w, tag := getLE b 4 4, opcode := field w 7 0, flags := field w 15 8, fence := bit w 30,
    notify := bit w 29, body := b, phase := .waiting, began := now, aux := [] }

/-- Begin an entry: HEAD advances. A 2D command is judged at once (R278, R282); with every unit retired it completes RETIRED
(R292). -/
def State.beginEntry (s : State) (q : Nat) (e : Exec) : State :=
  let r := s.ring q
  let blit := r.force.cls == ringBlit && decide (0x50 ≤ e.opcode)
  let st := if !blit then none else if s.noUnits then some Status.retired else s.blitCheck q e
  let s := if st = some .bounds then s.countBounds else s
  let e := match st with | some st => { e with phase := .finished st 0 } | none => e
  (s.modRing q (fun r => { r with head := (r.head + e.len) % r.size, inflight := r.inflight ++ [e],
                                  inline := r.inline.drop (16 * e.len) })).settleRing q

/-- ENTRY_READ (R237, R240, R241): the doorbell-pending flag clears as the read begins; on OWN clear the ring goes IDLE. -/
def execEntryRead (q : Fin 256) (rd : RingRead) (s : State) : Host.Outcome State Fault Refusal :=
  let r := s.ring q
  .next (if !s.mayRead q then s
    else
      let s0 := s.modRing q (fun r => { r with dbPending := false, inline := if r.reread then [] else r.inline })
      let (s1, h) := s0.readHead q 16 rd
      match h with
      | .bytes b =>
        let w := getLE b 0 4
        if !hdrOwn w then (s1.modRing q (fun r => { r with state := .idle, reread := false })).queueLevels
        else if !headerOk r.force.cls r.head r.size w b then s1.haltRing q Status.format.code r.head
        else
          let (s2, h2) := s1.readHead q (16 * hdrLen w) rd
          (match h2 with
          | .bytes body =>
            let e := r.entryOf body s.now
            if e.fence && !(r.inflight.isEmpty && r.sump.isEmpty) then s2.modRing q (fun r => { r with dbPending := true })
            else (s2.modRing q (fun r => { r with reread := false })).beginEntry q e
          | x => s2.readFailed q x)
      | x => s1.readFailed q x)

/-! ## Halting fields -/

/-- A write of a halting field of an enabled ring halts it at its next entry boundary (R250, R387). -/
def State.haltByField (s : State) (q : Nat) : State :=
  let r := s.ring q
  if r.enable && r.state != .halted then
    (s.haltRing q Status.state.code r.head).modRing q (fun r => { r with byField := true })
  else s

/-- A write of a ring's halting field, by a function that reaches it. -/
def State.writeRingField (s : State) (q off : Nat) (f : RingCfg → RingCfg) : State :=
  let s := (s.fixParity (ringOffset q + off)).haltByField q
  (s.modRing q (fun r => { r with cfg := f r.cfg, enFault := false })).queueLevels

/-- CLASS and OWNER (R233, R253): PF0 only. CLASS 3 is refused on rings 64 to 255 and counts in BADACCESS; on rings 0 to 63
CLASS is read only. -/
def State.writeRingClass (s : State) (q v : Nat) : State :=
  let cls := v % 4
  let own := fnOfCode (b2n (bit v 2))
  if 64 ≤ q ∧ cls = 3 then
    let s := (s.fixParity (ringOffset q + 4)).badAccess
    (s.modRing q (fun r => { r with cfg := { r.cfg with owner := own }, enFault := false })).queueLevels
  else s.writeRingField q 4 (fun c => { c with cls := if q < 64 then c.cls else cls, owner := own })

/-- CFG of a Siphon channel (R255, R274): a write of it ends the SAFETY class; a running channel halts and takes the new
configuration at RESTART, any other takes it at once. -/
def State.writeChanCfg (s : State) (c v : Nat) : State :=
  let r := s.ring c
  let runs := r.enable && r.state != .halted
  let s := (s.fixParity (chanOffset c)).modChan c (fun x =>
    let x := { x with cls := Nat.min (v % 8) 4, publishing := bit v 3, safetyEff := false }
    if runs then x else { x with clsF := x.cls, pubF := x.publishing })
  if runs then s.haltRing c Status.state.code r.head else s

/-- HALTING_FIELD_WRITE (R387): each field with its offset and who may write it. -/
def execHaltingFieldWrite (fn : Fn) (f : HaltField) (v : Nat) (s : State) : Host.Outcome State Fault Refusal :=
  let ring (q : Fin 256) (off : Nat) (g : RingCfg → RingCfg) : State :=
    if s.ringReach fn q then s.writeRingField q off g else s.privIgnore (ringOffset q + off)
  .next (if !s.hostUp fn then s else match f with
    | .ringClass q => if fn = .pf0 then s.writeRingClass q v else s.privIgnore (ringOffset q + 0x04)
    | .ringSqBase q => ring q 0x08 (fun c => { c with sqBase := v % 2 ^ 64 })
    | .ringSqLog2 q => ring q 0x10 (fun c => { c with sqLog2 := v % 32 })
    | .ringCqLog2 q => ring q 0x14 (fun c => { c with cqLog2 := v % 32 })
    | .ringCqBase q => ring q 0x18 (fun c => { c with cqBase := v % 2 ^ 64 })
    | .channelCfg c => if s.ringReach fn c then s.writeChanCfg c v else s.privIgnore (chanOffset c))

/-! ## Reset of a function (R251, R415) -/

/-- A ring disabled with its records discarded: its registers but CLASS and OWNER return to their reset values. -/
def Ring.resetKeeping (r : Ring) (q : Nat) : Ring :=
  let c := { RingCfg.reset q with cls := r.cfg.cls, owner := r.cfg.owner }
  { Ring.reset q with cfg := c, force := c }

/-- The work of a ring that is reset stops: a blit unit in its hand is free, a publication not yet admitted is gone, and an
offer in a coherent commit no longer answers it. -/
def State.stopRing (s : State) (q : Nat) : State :=
  let s := s.forEach (List.range 4) (fun s u =>
    let x := s.unit u
    if x.ring = q ∧ x.state ≠ .retired ∧ x.state ≠ .idle then
      let s := { s with blit := { s.blit with stageQueue := s.blit.stageQueue.filter (fun v => v != u) } }
      (s.freeStaging u).modUnit u (fun x => { x with state := .idle })
    else s)
  let s := { s with src := { s.src with arrivals := s.src.arrivals.filter (fun p => p.path != PubPath.host q) } }
  let off (o : Option Offer) : Option Offer := o.map (fun x => if x.ring = some q then { x with ring := none } else x)
  { s with fab := { s.fab with offer := off s.fab.offer, answer := off s.fab.answer } }

/-- The event sources a function owns return to their reset values, except OWNER; a condition's level stays what it is. -/
def State.resetSources (s : State) (fn : Fn) : State :=
  { s with evc := { s.evc with
      srcs := Tbl.mapVals s.evc.srcs (fun i x =>
        if s.evOwner i = fn then { EvSrc.reset with owner := x.owner, raw := x.raw } else x),
      groups := Tbl.mapVals s.evc.groups (fun g x => if groupServes g fn then EvGroup.reset else x) } }

/-- A reset of a function: its rings, its event sources with their groups and claims, and its configuration space
(R251, R383, R415). -/
def State.resetFunction (s : State) (fn : Fn) : State :=
  let mine := s.que.rings.filter (fun p => p.2.cfg.owner == fn)
  let s := s.forEach mine (fun s p => (s.stopRing p.1).setRing p.1 (p.2.resetKeeping p.1))
  let s := (s.resetSources fn).setFnCfg fn FnCfg.reset
  let s := { s with sys := { s.sys with heldWrite := s.sys.heldWrite.filter (fun p => p.1 != fn),
                                        shadow := s.sys.shadow.filter (fun p => p.1 != fn) } }
  s.queueLevels.reorder

/-- FUNCTION_LEVEL_RESET (R251). -/
def execFunctionLevelReset (fn : Fn) (s : State) : Host.Outcome State Fault Refusal :=
  .next (if s.sys.mode = .reset ∨ s.sys.pcieReset ∨ !s.sys.fwReady then s else s.resetFunction fn)

end Sys2Proof.Machine
end

