-- ==== Sys2Proof/Machine/Startup.lean ====
section
/-!
DEFINITION. Reset, start-up, the management cores and the firmware images (R24, R426, R433, R437 to R457, R470, R472, R485).
-/

namespace Sys2Proof.Machine

/-! ## What survives a reset (R433, R439) -/

/-- The health record read back from the journal; with nothing in it every unit is in service. -/
def Health.reload (h : Health) : Health :=
  let b := h.journal
  if b.isEmpty then { Health.reset with orderly := h.orderly, tripEvent := h.tripEvent }
  else
    let remap : Tbl Nat := (List.range 2048).filterMap (fun k =>
      let g := getLE b (0x80 + 4 * k) 4
      if g = 0xFFFFFFFF then none else some (k, g))
    let unusable := (List.range (getLE b 0x2080 4)).map (fun i => getLE b (0x2084 + 4 * i) 4)
    let powered := getLE b 0x38 8
    { Health.reset with
      sequence := getLE b 0 4, powered := powered, consumed := (List.range 4).map (fun d => getLE b (0x40 + 8 * d) 8 * 2 ^ 32),
      trips := getLE b 0x60 4, overGrade := getLE b 0x64 4, remap := remap, unusable := unusable,
      retiredSeq := h.retiredSeq.filter (fun g => unusable.contains g || remap.any (fun p => p.2 == g)),
      journal := b, hourlyC := h.hourlyC, orderly := h.orderly, lastHour := powered / 3600000, tripHours := h.tripHours,
      tripEvent := h.tripEvent }

/-- A gallery as the journal has it. -/
def galFromJournal (b : List Byte) (g : Nat) : Gal :=
  let w := getLE b (8 + 4 * g) 4
  { Gal.reset with retired := (getLE b 4 2).testBit g, retiredEng := w % 2 ^ 17, reserve := w.testBit 17 }

/-- A slot that was being staged reads INVALID from then on (R454). -/
def Slot.afterReset (x : Slot) : Slot := if x.state = 5 then { x with state := 2 } else x

/-- Start-up's block after a reset: the flash and the fuses keep what they hold; the cause is recorded (R440, R456). -/
def Boot.afterReset (b : Boot) (cause : Nat) : Boot :=
  { Boot.reset with
    lastCause := cause, resets := if cause = 1 then 0 else satInc 32 b.resets,
    active := b.active, trial := b.trial, attempts := b.attempts, fallback := b.fallback, failedA := b.failedA,
    failedB := b.failedB, ctlSequence := b.ctlSequence, slotA := b.slotA.afterReset, slotB := b.slotB.afterReset,
    rollback := b.rollback, keyRevoked := b.keyRevoked }

/-- A power-on or device reset (R439): the state right after reset, with what it leaves unchanged: flash and fuses, every
retirement that persists through the health record, and what is not the device's own (host memory, its pins and sensors, the
commands that wait). -/
def State.resetAll (s : State) (cause : Nat) : State :=
  let r := State.reset
  let h := s.health.reload
  let units := getLE h.journal 6 1
  { r with
    sys := { r.sys with refLost := s.sys.refLost, testEn := s.sys.testEn, extest := s.sys.extest, tripped := s.sys.tripped },
    boot := s.boot.afterReset cause,
    health := h,
    mem := { r.mem with host := s.mem.host },
    blit := { r.blit with units := ((List.range 4).filter (fun u => units.testBit (u + 1))).map
                            (fun u => (u, { Unit2D.reset with state := .retired })) },
    gal := { r.gal with gals := if h.journal.isEmpty then [] else (List.range 12).map (fun g => (g, galFromJournal h.journal g)) },
    lant := { r.lant with echoRetired := units.testBit 0 },
    lamp := { r.lamp with lifeOffset := getLE h.journal 0x68 1, hottest := s.lamp.hottest, tHot := s.lamp.tHot,
                          sensors := Tbl.mapVals s.lamp.sensors (fun _ x => { Sensor.reset with reading := x.reading }) },
    dict := { r.dict with bankA := s.dict.bankA, bankB := s.dict.bankB, countA := s.dict.countA, countB := s.dict.countB },
    fresh := s.fresh, bus := s.bus, busEp := s.busEp, pending := s.pending }

/-- The causes by which firmware enters RESET in order: DEVRESET and a RESET request (R433, R440; DEDUCED, log entry 25). -/
def orderlyCause (cause : Nat) : Bool := cause == 3 || cause == 4

/-- A device reset with a cause of R440. Held in reset already, the device stays there. -/
def State.enterReset (s : State) (cause : Nat) : State :=
  if s.sys.mode = .reset then s
  else if orderlyCause cause && s.coreUp 1 then
    let s := s.appendHealth false
    State.resetAll { s with health := { s.health with orderly := true } } cause
  else State.resetAll { s with health := { s.health with orderly := false } } cause

/-- A power-on reset: it is recorded even where another reset holds the device, and resets the TAP (R439, R472). -/
def State.powerOn (s : State) : State :=
  let s := if s.sys.mode = .reset then { s with boot := { s.boot with lastCause := 1, resets := 0 } } else s.enterReset 1
  { s with sys := { s.sys with extest := false } }

/-- POWER_ON_RESET (R439): POR_N goes low. -/
def execPowerOnReset (s : State) : Host.Outcome State Fault Refusal := .next s.powerOn

/-- SUPPLY_MONITOR_TRIP (R484). -/
def execSupplyMonitorTrip (s : State) : Host.Outcome State Fault Refusal := .next s.powerOn

/-- THERMAL_TRIP (R426): a sensor has been above the trip limit for 1 ms. -/
def execThermalTrip (s : State) : Host.Outcome State Fault Refusal :=
  .next (match s.lamp.tripSince with
    | none => s
    | some t =>
      if s.now < t + 1000000 then s
      else
        let fresh := s.sys.mode != .reset
        let s := s.enterReset 5
        { s with sys := { s.sys with tripped := true }, health := { s.health with tripEvent := s.health.tripEvent || fresh } })

/-- DEVICE_RESET (R440): a reset asked for takes effect 10 ms after the write. -/
def execDeviceReset (s : State) : Host.Outcome State Fault Refusal :=
  .next (match s.sys.resetDue with
    | some (t, cause) => if t ≤ s.now then s.enterReset cause else s
    | none => s)

/-- RESET entered for a reason that is no cause of R440: LastResetCause and the count of resets keep their values. -/
def State.holdReset (s : State) : State :=
  if s.sys.mode = .reset then s
  else
    let r := State.resetAll { s with health := { s.health with orderly := false } } s.boot.lastCause
    { r with boot := { r.boot with resets := s.boot.resets } }

/-- TEST_EN (R470): while it is high the device stays in RESET. -/
def execTestEn (high : Bool) (s : State) : Host.Outcome State Fault Refusal :=
  let s := if high then s.holdReset else s
  .next { s with sys := { s.sys with testEn := high } }

/-- EXTEST (R472). -/
def execExtest (inForce : Bool) (s : State) : Host.Outcome State Fault Refusal :=
  let s := if inForce then s.holdReset else s
  .next { s with sys := { s.sys with extest := inForce } }

/-! ## PCIe resets (R439) -/

/-- A PCIe reset: both functions undergo a Conventional Reset, and BAR2 returns to 32 GiB. -/
def State.pcieResetNow (s : State) : State :=
  if s.sys.mode = .reset then s
  else
    let s := (s.resetFunction .pf0).resetFunction .pf1
    { s with sys := { s.sys with pcieReset := true }, evc := { s.evc with bar2Log2 := 35 } }

/-- PERST (R438, R439): a device reset or a PCIe reset, as STRAP_SCOPE says. -/
def execPerst (s : State) : Host.Outcome State Fault Refusal :=
  .next (if bit s.boot.straps 0 then s.pcieResetNow else s.enterReset 2)

/-- PCIE_RESET (R439): a Hot Reset or a link down. -/
def execPcieReset (s : State) : Host.Outcome State Fault Refusal := .next s.pcieResetNow

/-- PCIE_RESET_END (R439, R457). -/
def execPcieResetEnd (s : State) : Host.Outcome State Fault Refusal :=
  .next (if s.sys.pcieReset then State.raise { s with sys := { s.sys with pcieReset := false } } .pcieReset else s)

/-- CONFIGURATION_WRITE (R211, R383, R411). Configuration requests are answered from FWREADY on, and by PF0 after a boot
fault (R441, R443). -/
def execConfigurationWrite (fn : Fn) (w : CfgWrite) (s : State) : Host.Outcome State Fault Refusal :=
  let up := s.sys.mode != .reset && !s.sys.pcieReset && (s.sys.fwReady || (fn == .pf0 && s.boot.bootFault != 0))
  let c := s.fnCfg fn
  .next (if !up then s
    else match w with
      | .msixEnable b => s.setFnCfg fn { c with msixEnable := b }
      | .functionMask b => s.setFnCfg fn { c with fnMask := b }
      | .busMaster b => s.setFnCfg fn { c with busMaster := b }
      | .relaxedOrdering b => s.setFnCfg fn { c with relaxed := b }
      | .power b => s.setFnCfg fn { c with d0 := b }
      | .bar2Size n => if fn = .pf0 ∧ 28 ≤ n ∧ n ≤ 35 then { s with evc := { s.evc with bar2Log2 := n } } else s)

/-! ## REF25 (R437) -/

/-- REF_CLOCK_LOST (R437): every REF25 PLL holds its last control value. -/
def execRefClockLost (s : State) : Host.Outcome State Fault Refusal :=
  .next (if s.sys.refLost then s else State.raise { s with sys := { s.sys with refLost := true } } .refClockLost)

/-- REF_CLOCK_RESTORED (R437). -/
def execRefClockRestored (s : State) : Host.Outcome State Fault Refusal :=
  .next (if s.sys.refLost then State.raise { s with sys := { s.sys with refLost := false } } .refClockRestored else s)

/-! ## Images and the boot control record (R447 to R451) -/

/-- A slot. -/
def Boot.slot (b : Boot) (n : Nat) : Slot := if n = 0 then b.slotA else b.slotB
def Boot.setSlot (b : Boot) (n : Nat) (x : Slot) : Boot := if n = 0 then { b with slotA := x } else { b with slotB := x }
def Boot.failed (b : Boot) (n : Nat) : Bool := if n = 0 then b.failedA else b.failedB
def Boot.setFailed (b : Boot) (n : Nat) (v : Bool) : Boot := if n = 0 then { b with failedA := v } else { b with failedB := v }

/-- An update of the boot control record (R450). -/
def Boot.control (b : Boot) : Boot := { b with ctlSequence := nextEpoch b.ctlSequence }

/-- The checks of R448 on an image's bytes, in order. -/
def imageCheck (rollback revoked : Nat) (b : List Byte) : Option Status :=
  let key := getLE b 6 1
  let len := getLE b 0x10 4
  if b.length < 256 ∨ getLE b 0 4 ≠ 0x4D495753 ∨ getLE b 4 2 ≠ 1 ∨ len = 0 ∨ 7339776 < len
      || !(allZero ((b.drop 0xE).take 2) && allZero ((b.drop 0x14).take 12) && allZero ((b.drop 0x50).take 48)
        && allZero ((b.drop 0xE0).take 32)) then some .format
  else if revoked.testBit key then some .privilege
  else if 3 < key || !Config.signatureOk (b.take 0x80 ++ (b.drop 0x80).take 96) key then some .format
  else if 2 < getLE b 7 1 ∨ getLE b 0xC 2 < rollback then some .version
  else if Config.sha384 ((b.drop 0x100).take len) ≠ (b.drop 0x20).take 48 then some .format
  else none

/-- A slot as it stands once its image has been checked. -/
def slotChecked (rollback revoked : Nat) (b : List Byte) : Slot × Option Status :=
  match imageCheck rollback revoked b with
  | some st => ({ state := 2, version := 0, security := 0, bytes := b }, some st)
  | none => ({ state := 1, version := getLE b 8 4, security := getLE b 0xC 2, bytes := b }, none)

/-- A slot is valid for the ROM: it holds an image that passed R448, and the fused counter has not passed it. -/
def Boot.slotValid (b : Boot) (n : Nat) : Bool := (b.slot n).state == 1 && decide (b.rollback ≤ (b.slot n).security)

/-- Rules 1 and 2 of R451: the record as they leave it, whether the boot fell back, and the slot on trial that boots. -/
def Boot.tryTrial (b : Boot) : Boot × Bool × Option Nat :=
  match b.trial with
  | none => (b, false, none)
  | some t =>
    let off := { b.setFailed t true with trial := none, attempts := 0 }
    if 3 ≤ b.attempts then (off, true, none)
    else if b.slotValid t then (b, false, some t)
    else (off, false, none)

/-- A launch: ATTEMPTS counts it, and FALLBACK tells whether this boot fell back. -/
def Boot.launch (b : Boot) (n : Nat) (fell : Bool) : Boot :=
  Boot.control { b with running := n, attempts := Nat.min 3 (b.attempts + 1), fallback := fell }

/-- The choice of R451; none is recovery. -/
def Boot.choose (b : Boot) : Boot × Bool :=
  match b.tryTrial with
  | (b, fell, some t) => (b.launch t fell, true)
  | (b, fell, none) =>
    if b.attempts < 3 && b.slotValid b.active then (b.launch b.active fell, true)
    else if b.slotValid (1 - b.active) then
      ({ b with active := 1 - b.active, attempts := 0 }.launch (1 - b.active) true, true)
    else (b, false)

/-- Recovery begins (R453): no watchdog runs. -/
def Boot.recover (b : Boot) : Boot := { b with bootFault := 4, watchdog := false }

/-- The four straps as StrapValues holds them. -/
def StrapBalls.value (x : StrapBalls) : Nat := b2n x.scope + 2 * b2n x.recover + 4 * b2n x.defaults + 8 * b2n x.flash

/-- RESET_RELEASE (R438, R441, R451): every cause has been released; the straps are sampled, wall time counts from 0, the
watchdog starts and the ROM chooses an image. -/
def execResetRelease (straps : StrapBalls) (s : State) : Host.Outcome State Fault Refusal :=
  .next (if s.sys.mode ≠ .reset ∨ s.sys.testEn ∨ s.sys.extest ∨ s.sys.tripped then s
    else
      let b := { s.boot with straps := StrapBalls.value straps, releaseAt := 0, watchdog := true, bootFault := 0 }
      let b := if straps.recover then b.recover
        else match b.choose with
          | (b, true) => b
          | (b, false) => b.recover
      { s with boot := b, sys := { s.sys with wall := 0, frac := 0, mode := .boot, working := .boot } })

/-! ## The boot (R441 to R444) -/

/-- The boot watchdog's limit (R442). -/
def Boot.limit (b : Boot) : Nat := if bit b.straps 3 then 8000000000 else 2000000000

/-- BOOT_WATCHDOG (R442). -/
def execBootWatchdog (s : State) : Host.Outcome State Fault Refusal :=
  .next (if s.sys.mode = .boot ∧ s.boot.watchdog ∧ s.boot.releaseAt + s.boot.limit ≤ s.now then s.enterReset 6 else s)

/-- Echo and a blit unit retire as their own rules say (R192, R292). -/
def State.retireEcho (s : State) : State :=
  if s.lant.echoRetired then s
  else
    let s := { s with lant := { s.lant with echoRetired := true, parts := [] } }
    ((s.raise .echoRetired).noteConditions).healthDue
def State.retireUnit (s : State) (u : Nat) : State :=
  if (s.unit u).state == .retired then s
  else (((s.modUnit u (fun x => { x with state := .retired })).raise .blitUnitRetired).noteReplacement).healthDue

/-- What fails self-test retires as if it had failed in service (R444). -/
def State.selfTest (s : State) (t : SelfTest) : State :=
  let s := s.forEach (t.engines.filter (fun p => decide (p.1 < 12 ∧ p.2 < 17))) (fun s p => s.retireEngine p.1 p.2)
  let s := s.forEach (t.galleries.filter (fun g => decide (g < 12))) (fun s g => s.retireGallery g)
  let s := if t.echo then s.retireEcho else s
  let s := s.forEach (t.blitUnits.filter (fun u => decide (u < 4))) (fun s u => s.retireUnit u)
  s.forEach (t.granules.filter (fun g => decide (g < devSize / 0x10000))) (fun s g => s.retireGranule g)

/-- Whether self-test found anything. -/
def SelfTest.failed (t : SelfTest) : Bool :=
  !t.engines.isEmpty || !t.galleries.isEmpty || t.echo || !t.blitUnits.isEmpty || !t.granules.isEmpty

/-- The boot cannot continue: the device stays in BOOT with the reason, and the watchdog stops (R442, R443). -/
def State.faultBoot (s : State) (code : Nat) : State := { s with boot := { s.boot with bootFault := code, watchdog := false } }

/-- Set FWREADY: events that arose during the boot are set pending. -/
def State.setFwReady (s : State) : State :=
  let l := s.boot.pendingEvents
  let s := { s with sys := { s.sys with fwReady := true },
                    boot := { s.boot with pendingEvents := [], fwReadyTime := sat 32 ((s.now - s.boot.releaseAt) / 1000) } }
  s.forEach l (fun s i => s.occur i)

/-- FWREADY (R441, R443, R444): how the boot goes on. -/
def execFwReady (out : BootOutcome) (st : SelfTest) (s : State) : Host.Outcome State Fault Refusal :=
  .next (if s.sys.mode ≠ .boot ∨ s.boot.bootFault ≠ 0 ∨ s.sys.fwReady then s
    else match out with
      | .sramFault => s.faultBoot 1
      | .trainingFault => s.faultBoot 2
      | .clockFault => s.faultBoot 3
      | .imageMismatch => s.enterReset 7
      | .runs =>
        let s := if bit s.boot.straps 2 then s else s.loadDictionary
        let s := ((s.selfTest st).noteEngines).noteConditions
        let s := (s.setFwReady).sparesLevel
        let s := if s.boot.fallback then s.raise .imageFallback else s
        if SelfTest.failed st then s.raise .selfTestFailed else s)

/-- The life that an unplanned end of the powered interval lost (R485): one hour, at each domain's rate between the two
latest hourly records, or at rate 1. -/
def Health.addHour (h : Health) : Health :=
  let hour := 3600000 * 2 ^ 32
  let gain (d : Nat) : Nat := match h.hourlyC with
    | a :: b :: _ => a.getD d 0 - b.getD d 0
    | _ => hour
  { h with powered := h.powered + 3600000, consumed := (List.range 4).map (fun d => h.consumed.getD d 0 + gain d) }

/-- A thermal trip is counted at the boot after it (R426). -/
def State.countTrip (s : State) : State :=
  if !s.health.tripEvent then s
  else
    let h := s.health
    let s := { s with health := { h with trips := satInc 32 h.trips, tripHours := h.tripHours ++ [h.powered], tripEvent := false } }
    ((s.raise .thermalTripRecorded).noteReplacement).healthDue

/-- The mode that BOOT ends in (R344). -/
def State.bootMode (s : State) : Mode := if s.cfg 0x1203 0 = 2 ∨ s.dict.active = 2 then .configure else .standby

/-- BOOT_END (R138, R344, R426, R441, R451, R452, R485). -/
def execBootEnd (s : State) : Host.Outcome State Fault Refusal :=
  .next (if s.sys.mode ≠ .boot ∨ !s.sys.fwReady ∨ s.boot.bootFault ≠ 0 ∨ !s.coreUp 1 then s
    else
      let unplanned := s.boot.lastCause == 1 && !s.health.orderly
      let s := { s with health := { (if unplanned then s.health.addHour else s.health) with orderly := false } }
      let sets := s.loadedSets
      let s := s.forEach s.galsInService (fun s g => s.modGallery g (fun x => { x with coefLoaded := sets }))
      let trial := s.boot.trial == some s.boot.running
      let b := { s.boot with watchdog := false, atBootEnd := true, coefAtBoot := true, confirmFrom := s.now,
                             bootDuration := sat 32 ((s.now - s.boot.releaseAt) / 1000) }
      let b := if !trial && b.running == b.active then Boot.control { b with attempts := 0 } else b
      let s := { s with boot := b, sys := { s.sys with working := s.bootMode },
                        fab := { s.fab with ptpState := b2n (s.cfgBool 0x1430 1) } }
      let s := s.passBoundary s.deriveMode 2
      let s := s.raise .bootDone
      (if trial then s.raise .imageTrial else s).countTrip)

/-! ## Trials (R452, R454) -/

/-- The running image is on trial. -/
def State.onTrial (s : State) : Bool := s.boot.trial == some s.boot.running

/-- Confirmation of the running trial. -/
def State.confirmImage (s : State) : State :=
  match s.boot.trial with
  | none => s
  | some t => State.raise { s with boot := Boot.control { s.boot with active := t, trial := none, attempts := 0 } } .imageConfirmed

/-- CONFIRM_DELAY (R452): a trial confirms itself. -/
def execConfirmDelay (s : State) : Host.Outcome State Fault Refusal :=
  let d := s.cfg 0x1022 4
  .next (if s.onTrial && s.coreUp 1 && s.boot.atBootEnd && s.sys.mode != .halt && s.sys.mode != .update && d != 0
      && decide (s.boot.confirmFrom + d * 1000000000 ≤ s.now) then s.confirmImage
    else s)

/-! ## Recovery (R453) -/

/-- The recovery registers answer: the device is in recovery, which presents PF0 alone. -/
def State.inRecovery (s : State) (fn : Fn) : Bool :=
  s.sys.mode == .boot && s.boot.bootFault == 4 && fn == .pf0 && !s.sys.pcieReset && (s.fnCfg fn).d0

/-- A recovery command ends: RECOVSTATE and RECOVSTATUS. -/
def Boot.recovEnd (b : Boot) (st : Status) : Boot :=
  { b with recovState := if st = .ok then 2 else 3, recovStatus := st.code }

/-- RECOVERY_START (R453). -/
def execRecoveryStart (fn : Fn) (s : State) : Host.Outcome State Fault Refusal :=
  .next (if s.inRecovery fn then
      { s with boot := { s.boot with slotA := Slot.reset, recovOffset := 0 }.recovEnd .ok }
    else s)

/-- RECOVERY_CHUNK (R453). -/
def execRecoveryChunk (fn : Fn) (s : State) : Host.Outcome State Fault Refusal :=
  let b := s.boot
  let n := b.recovLen
  let o := b.recovOffset
  .next (if !s.inRecovery fn then s
    else if n = 0 ∨ 262144 < n then { s with boot := b.recovEnd .format }
    else if 7 * 0x10_0000 < o + n then { s with boot := b.recovEnd .size }
    else
      let data := (b.slotA.bytes.take o) ++ Memory.read b.recovBuf 0 n ++ b.slotA.bytes.drop (o + n)
      { s with boot := { b with slotA := { b.slotA with state := 2, bytes := data }, recovOffset := o + n }.recovEnd .ok })

/-- RECOVERY_FINISH (R453): slot A is verified; when it passes, it is ACTIVE and the device resets. -/
def execRecoveryFinish (fn : Fn) (s : State) : Host.Outcome State Fault Refusal :=
  .next (if !s.inRecovery fn then s
    else match slotChecked s.boot.rollback s.boot.keyRevoked s.boot.slotA.bytes with
      | (x, some st) => { s with boot := { s.boot with slotA := x }.recovEnd st }
      | (x, none) =>
        let b := { s.boot with slotA := x, active := 0, trial := none, attempts := 0, failedA := false }
        State.enterReset { s with boot := b.control } 8)

/-! ## Management cores (R24, R342) -/

/-- A management core. -/
def State.core (s : State) (c : Nat) : Core := if c = 0 then s.sys.cores.1 else s.sys.cores.2
def State.setCore (s : State) (c : Nat) (x : Core) : State :=
  { s with sys := { s.sys with cores := if c = 0 then (x, s.sys.cores.2) else (s.sys.cores.1, x) } }

/-- A firmware command in execution on a ring: core 0 serves SCENE commands and core 1 those of MGMT rings, and each serves
both when the other is retired. -/
def State.servedBy (s : State) (c : Nat) (cls op : Nat) : Bool :=
  let both := (s.core (1 - c)).retired
  (cls == ringScene && sceneFirmwareOp op && (c == 0 || both)) || (cls == ringMgmt && op == 0x40 && (c == 1 || both))

/-- Replace the firmware commands in execution that some core served. -/
def State.mapFirmware (s : State) (f : State → Ring → Nat → Bool) (g : State → Ring → Exec → Exec) : State :=
  { s with que := { s.que with rings := Tbl.mapVals s.que.rings (fun _ r =>
      { r with inflight := r.inflight.map (fun e => if f s r e.opcode && e.phase == .running then g s r e else e) }) } }

/-- Commands that were in progress on a core are executed again from their ring entries (R24). -/
def State.rerun (s : State) (c : Nat) : State :=
  let s := s.mapFirmware (fun s r op => s.servedBy c r.force.cls op)
    (fun s r e => { e with phase := .waiting, aux := [], body := s.busRead (r.force.sqBase + 16 * e.pos) (16 * e.len) })
  if c = 0 ∨ (s.core 0).retired then
    { s with fab := { s.fab with offer := s.fab.offer.map (fun o => { o with ring := none }),
                                 answer := s.fab.answer.map (fun o => { o with ring := none }) } }
  else s

/-- Both cores are retired (R342): commands that firmware had taken end RETIRED, the dictionary window too, and the hardware
enters HALT without an overlay. -/
def State.closeFirmware (s : State) : State :=
  let s := s.mapFirmware (fun _ r op => (r.force.cls == ringScene && sceneFirmwareOp op) || (r.force.cls == ringMgmt && op == 0x40))
    (fun _ _ e => { e with phase := .finished .retired 0 })
  let s := s.windowAnswer [] .retired
  let s := { s with sys := { s.sys with scheduled := none, modeQueue := [] } }
  if s.sys.mode = .boot then s else s.passBoundary .halt 8

/-- The wall times of the faults of the present window, with one more: the window opens at its first fault (R24, R432). -/
def Core.noteFault (x : Core) (now : Nat) : List Nat :=
  match x.faults with
  | t :: _ => if now ≤ t + 10000000000 then x.faults ++ [now] else [now]
  | [] => [now]

/-- LOCKSTEP_FAULT (R24): the pair is held in reset; the third fault within 10 s retires it. -/
def execLockstepFault (core : Fin 2) (s : State) : Host.Outcome State Fault Refusal :=
  let x := s.core core
  .next (if s.sys.mode = .reset ∨ x.retired ∨ x.inReset then s
    else
      let l := x.noteFault s.now
      let gone := decide (3 ≤ l.length)
      let s := (s.setCore core { inReset := true, retired := gone, faults := l }).raise .mgmtCoreFault
      if !gone then s
      else
        let s := s.noteConditions
        if s.bothCoresRetired then s.closeFirmware else s.rerun core)

/-- CORE_RESTART_DONE (R24): within 20 ms the pair runs again. -/
def execCoreRestartDone (core : Fin 2) (s : State) : Host.Outcome State Fault Refusal :=
  let x := s.core core
  .next (if x.retired ∨ !x.inReset then s else (s.setCore core { x with inReset := false }).rerun core)

end Sys2Proof.Machine
end

