-- ==== Sys2Proof/Machine/Reports.lean ====
section
/-!
DEFINITION. What the RO entries of the dictionary report (R4, R59, R95, R122, R128, R151 to R153, R160, R178, R179, R183,
R205, R206, R232, R276, R296, R337, R354, R381, R417, R434, R456), and the codes of the named states.
-/

namespace Sys2Proof.Machine

/-! ## Codes -/

/-- LockState (R158, R160). -/
def Lock.code (x : Lock) : Nat := match x with | .free => 0 | .acquiring => 1 | .locked => 2 | .holdover => 3

/-- HeadState (R173, R178). -/
def HState.code (x : HState) : Nat := match x with | .off => 0 | .idle => 1 | .active => 2 | .safe => 3 | .halted => 4

/-- LinkState (R178). -/
def Link.code (x : Link) : Nat :=
  match x with | .down => 0 | .training => 1 | .up => 2 | .retired => 3 | .noSink => 4 | .insufficient => 5

/-- UNITSTATE (R295): an idle unit reads PAUSED while BULK work is shed. -/
def State.unitCode (s : State) (u : Nat) : Nat :=
  match (s.unit u).state with
  | .idle => if s.sheds 4 then 3 else 0
  | .running => 1
  | .held => 2
  | .retired => 4
  | .stageWait => 5

/-- GalleryState (R128): a gallery that is being reloaded after a transient fault is neither excluded nor retired. -/
def Gal.code (g : Gal) : Nat := if g.retired then 2 else if g.excluded then 1 else 0

/-- ImageStateA and ImageStateB (R456). -/
def Boot.imageState (b : Boot) (n : Nat) : Nat :=
  if (b.slot n).state = 5 then 5
  else if b.trial = some n then 3
  else if b.failed n then 4
  else (b.slot n).state

/-! ## Values computed from several registers -/

/-- PixelClock (R153), rounded. -/
def State.pixelClock (s : State) (h : Nat) : Nat :=
  roundDivN (s.htotal h * s.vtotal h * s.tcfg h 11) (Nat.max 1 (s.tcfg h 12))

/-- EchoLoad (R205): pixels per second of the ECHO regions of the current scenes of the heads that run, in thousands,
rounded. -/
def State.echoLoad (s : State) : Nat :=
  ((List.range 16).map (fun h =>
    let x := s.head h
    let l : List Region := match x.cur with
      | some sc => if x.runs then sc.regions.filter (fun r => r.head == h && r.expect == 2) else []
      | none => []
    roundDivN ((l.map (fun r => (r.x1 - r.x0) * (r.y1 - r.y0))).sum * x.timing.num) (1000 * Nat.max 1 x.timing.den))).sum

/-- SourcesRegistered (R59). -/
def State.sourcesRegistered (s : State) : Nat := (s.src.table.filter (fun p => !p.2.withdrawn)).length

/-- SiphonRetiredMask (R276). -/
def State.retiredChannels (s : State) : Nat := maskOf ((List.range 64).filter (fun c => (s.chan c).retired))

/-- TimeHops (R312, R337): the depth in the time tree. -/
def State.timeHops (s : State) : Nat := hopsTo s.fab.failed s.torusX s.torusY s.ownAddress s.fab.timeRoot 64

/-- LastTransition (R354). -/
def State.lastTransition (s : State) : Nat := s.sys.lastFrom + 16 * s.sys.lastTo + 256 * s.sys.lastCause

/-- EventLog (R417): oldest first. -/
def State.eventLogBytes (s : State) : List Byte := s.evc.log.flatMap (fun p => leBytes 2 p.1 ++ leBytes 6 0 ++ leBytes 8 p.2)

/-- HealthRecord (R433): the record in force. -/
def State.healthRecord (s : State) : List Byte := if s.health.journal.isEmpty then s.healthBytes else s.health.journal

/-! ## By index -/

/-- Entries of 0x1000 to 0x1FFF. -/
def State.reportSys (s : State) (i sub : Nat) : Option (List Byte) :=
  let b := s.boot
  match i, sub with
  | 0x1003, _ => some [byte (b2n Config.gradeCA)]
  | 0x1010, 1 => some (leBytes 1 (b2n s.dict.dirty))
  | 0x1010, 2 => some (leBytes 1 s.dict.active)
  | 0x1010, 3 => some (leBytes 4 s.dict.seqN)
  | 0x1010, 6 => some (leBytes 4 s.dict.countA)
  | 0x1010, 7 => some (leBytes 4 s.dict.countB)
  | 0x1010, 8 => some (leBytes 8 s.dict.lastStore)
  | 0x1010, 9 => some (leBytes 4 s.dict.ignored)
  | 0x1020, 1 => some (leBytes 1 b.lastCause)
  | 0x1020, 2 => some (leBytes 4 b.resets)
  | 0x1020, 3 => some (leBytes 4 b.bootDuration)
  | 0x1020, 4 => some (leBytes 4 b.fwReadyTime)
  | 0x1020, 5 => some (leBytes 1 b.straps)
  | 0x1021, 1 => some (leBytes 1 b.running)
  | 0x1021, 2 => some (leBytes 1 (b.imageState 0))
  | 0x1021, 3 => some (leBytes 1 (b.imageState 1))
  | 0x1021, 4 => some (leBytes 4 b.slotA.version)
  | 0x1021, 5 => some (leBytes 4 b.slotB.version)
  | 0x1021, 6 => some (leBytes 2 b.slotA.security)
  | 0x1021, 7 => some (leBytes 2 b.slotB.security)
  | 0x1021, 8 => some (leBytes 2 b.rollback)
  | 0x1021, 9 => some (leBytes 1 (b.keyRevoked % 16))
  | 0x1022, 1 => some ((b.slot (1 - b.active)).bytes.take 256)          -- FirmwareImage (R454)
  | 0x1022, 2 => some [0#8]
  | 0x1022, 3 => some [0#8]
  | 0x1022, 5 => some (leBytes 2 b.rollback)
  | 0x1022, 6 => some []                                                 -- DictionaryBankImage (R455)
  | 0x1103, 1 => some (leBytes 1 s.lopGenDomain)
  | 0x1103, 2 => some (leBytes 1 s.sdfGen)
  | 0x1103, 3 => some (leBytes 1 s.ilelleGen)
  | 0x1200, 0 => some (leBytes 1 s.sys.working.code)
  | 0x1201, 0 => some (leBytes 1 s.sys.mode.code)
  | 0x1202, 0 => some (leBytes 1 s.sys.prevMode.code)
  | 0x1204, 0 => some (leBytes 2 s.sys.conditions)
  | 0x1205, 0 => some (leBytes 1 s.haltReason)
  | 0x1206, 0 => some (leBytes 8 s.lastTransition)
  | 0x1207, 0 => some (leBytes 8 s.sys.lastTime)
  | 0x1208, 0 => some (leBytes 4 s.sys.modeChanges)
  | 0x1209, 0 => some (leBytes 4 s.sys.modeRefused)
  | 0x1211, 0 => some (leBytes 4 s.sys.selfGallery)
  | 0x1400, 1 => some (leBytes 1 s.lop.sessions.length)
  | 0x1400, 3 => some (leBytes 8 s.lop.requests)
  | 0x1400, 4 => some (leBytes 4 s.lop.aborts)
  | 0x1410, 4 => some (leBytes 6 Config.macAddress)
  | 0x1410, 5 => some (leBytes 1 (b2n s.fab.ethLink))
  | 0x1420, 4 => some Config.deviceCertificate
  | 0x1420, 5 => some (leBytes 48 0)                                     -- PrivilegeKey reads zeros (R381)
  | 0x1420, 6 => some (leBytes 1 (b2n (s.cfg 0x1420 5 != 0)))
  | 0x1430, 3 => some (leBytes 1 s.fab.ptpState)
  | _, _ => none

/-- Entries of 0x2000 to 0x2FFF. -/
def State.reportHealth (s : State) (i sub : Nat) : Option (List Byte) :=
  let l := s.lamp
  match i, sub with
  | 0x2000, 1 => some (leBytes 1 l.recommend)
  | 0x2000, 2 => some (leBytes 4 l.reason)
  | 0x2001, n => some (leBytes 2 (ofSigned 16 (s.sensor (n - 1)).reading))
  | 0x2002, 0 => some (leBytes 1 l.hottest)
  | 0x2003, 0 => some (leBytes 4 (maskOf ((List.range 24).filter (fun j => (s.sensor j).excluded))))
  | 0x2004, 5 => some (leBytes 8 s.health.powered)
  | 0x2004, 6 => some (leBytes 4 l.lifeRatio)
  | 0x2004, 7 => some (leBytes 4 l.lifeRemain)
  | 0x2004, n => some (leBytes 8 (s.health.consumed.getD (n - 1) 0 / 2 ^ 32))
  | 0x2005, 0 => some (leBytes 4 s.health.trips)
  | 0x2006, 0 => some s.healthRecord
  | 0x2101, 1 => some (leBytes 1 l.stage)
  | 0x2101, 2 => some (leBytes 2 l.power)
  | 0x2101, 3 => some (leBytes 1 l.lifeOffset)
  | 0x2101, 4 => some (leBytes 1 s.effTarget)
  | 0x2101, 5 => some (leBytes 2 l.mask)
  | 0x2101, 6 => some (leBytes 2 l.vcore)
  | 0x2101, 7 => some (leBytes 1 (b2n l.vcoreLost))
  | 0x2101, 8 => some (leBytes 4 l.stageChg)
  | 0x2101, 9 => some (leBytes 1 s.scn.spareShed)
  | 0x2203, 1 => some (leBytes 8 s.mem.corrected)
  | 0x2203, 2 => some (leBytes 4 s.mem.uncorr)
  | 0x2203, 3 => some (leBytes 8 s.mem.lastError)
  | 0x2204, 1 => some (leBytes 2 s.sparesLeft)
  | 0x2204, 2 => some (leBytes 4 s.health.unusable.length)
  | 0x2204, 3 => some (s.health.retiredSeq.flatMap (fun g => leBytes 8 (g * 0x10000)))
  | 0x2204, 4 => some (leBytes 4 s.mem.unusableWr)
  | 0x2205, 0 => some (leBytes 4 s.mem.boundsCnt)
  | 0x2400, 1 => some s.eventLogBytes
  | 0x2400, 2 => some (leBytes 4 s.evc.logN)
  | 0x2401, 1 => some (leBytes 8 s.evc.total0)
  | 0x2401, 2 => some (leBytes 8 s.evc.total1)
  | _, _ => none

/-- Entries of 0x3000 to 0x3FFF. -/
def State.reportScene (s : State) (i sub : Nat) : Option (List Byte) :=
  match i, sub with
  | 0x3001, 0 => some (leBytes 4 s.scn.acceptedTot)
  | 0x3002, 0 => some (leBytes 4 s.scn.rejectedTot)
  | 0x3120, 0 => some (leBytes 2 s.sourcesRegistered)
  | 0x3400, 0 => some (leBytes 1 s.galsInService.length)
  | 0x3401, n => some (leBytes 1 (s.gallery (n - 1)).active)
  | 0x3402, n => some (leBytes 1 (b2n (s.gallery (n - 1)).reserve))
  | 0x3403, n => some (leBytes 1 (s.gallery (n - 1)).code)
  | 0x3405, 0 => some (leBytes 4 s.gal.engineFaults)
  | 0x3406, 0 => some (leBytes 4 s.gal.reissued)
  | 0x3407, 0 => some (leBytes 8 s.gal.dispatched)
  | 0x3408, 0 => some (leBytes 4 s.gal.galFaults)
  | 0x3411, n => some (leBytes 1 (s.coefKind (n - 1)))
  | 0x3412, 0 => some (leBytes 1 (b2n s.twoTapMark))
  | 0x3413, 0 => some (leBytes 8 s.gal.reducedBands)
  | 0x3420, n => some (transferBytes (n - 1))
  | _, _ => none

/-- Entries of head h, by the offset within its block. -/
def State.reportHead (s : State) (h off sub : Nat) : Option (List Byte) :=
  let x := s.head h
  let l := s.link h
  match off, sub with
  | 0x00, 15 => some (leBytes 4 (s.pixelClock h))
  | 0x01, 4 => some (leBytes 1 x.lock.code)
  | 0x01, 5 => some (leBytes 4 (ofSigned 32 x.phaseErr))
  | 0x01, 6 => some (leBytes 4 x.slips)
  | 0x02, 3 => some (leBytes 1 l.state.code)
  | 0x02, 4 => some (leBytes 1 l.rate)
  | 0x02, 5 => some (leBytes 1 l.lanes)
  | 0x02, 6 => some (leBytes 4 l.events)
  | 0x02, 8 => some (l.sink.elim [] (fun c => c.edid.take 4096))
  | 0x02, 9 => some (l.sink.elim (leBytes 16 0) (fun c => padTo 0#8 16 c.dpcd))
  | 0x02, 10 => some (leBytes 8 l.upFrame)
  | 0x04, 1 => some (leBytes 1 x.state.code)
  | 0x04, 2 => some (leBytes 1 x.configFault)
  | 0x04, 5 => some (leBytes 8 x.frame)
  | 0x04, 6 => some (leBytes 8 x.f)
  | 0x04, 7 => some (leBytes 8 (if x.counted then x.wallFrame else 0))
  | 0x05, 2 => some (leBytes 1 l.crcState)
  | 0x05, 3 => some (leBytes 4 l.compared)
  | 0x05, 4 => some (leBytes 4 l.mismatched)
  | 0x05, 5 => some (leBytes 4 l.skipped)
  | 0x20, 4 => some (leBytes 1 (s.gEff h))
  | 0x20, 5 => some (leBytes 2 (s.latchLine h))
  | 0x20, 6 => some (leBytes 4 x.late)
  | 0x21, 1 => some (leBytes 4 x.missCount)
  | 0x21, 2 => some (leBytes 8 x.lastMiss)
  | 0x21, 3 => some (leBytes 1 x.missCause)
  | 0x21, 4 => some (leBytes 4 x.fetchCount)
  | 0x30, 9 => some (leBytes 1 (b2n x.misfit))
  | 0x40, 2 => some (leBytes 4 (Tbl.get 0 s.lant.mismatches h))
  | 0x40, 3 => some (leBytes 8 (Tbl.get 0 s.lant.lastMism h))
  | 0x40, 4 => some ((List.range 64).flatMap (fun r => leBytes 4 (s.region h r).crc))
  | _, _ => none

/-- Entries of 0x5000 to 0x7FFF. -/
def State.reportRest (s : State) (i sub : Nat) : Option (List Byte) :=
  let w := s.stream (i - 0x5300)
  if 0x5300 ≤ i ∧ i < 0x5304 then
    match sub with
    | 12 => some (leBytes 4 w.written)
    | 13 => some (leBytes 4 w.incompleteN)
    | 14 => some (leBytes 1 w.lastBuffer)
    | _ => none
  else if 0x7200 ≤ i ∧ i ≤ 0x7B00 then (if sub = 2 then some (leBytes 2 (getLE (s.writtenBytes i 1) 0 2)) else none)
  else match i, sub with
    | 0x5000, 3 => some (leBytes 4 s.lant.writeIdx)
    | 0x5000, 4 => some (leBytes 4 s.lant.dropped)
    | 0x5001, 2 => some (leBytes 4 s.lant.localise)
    | 0x5002, 1 => some (leBytes 1 (b2n s.lant.echoRetired))
    | 0x5002, 2 => some (leBytes 4 s.lant.echoFaults)
    | 0x5002, 3 => some (leBytes 4 s.lant.unchecked)
    | 0x5002, 4 => some (leBytes 4 s.echoLoad)
    | 0x5800, 1 => some (leBytes 4 s.siph.haltsTotal)
    | 0x5800, 2 => some (leBytes 4 s.siph.restarts)
    | 0x5800, 3 => some (leBytes 8 s.retiredChannels)
    | 0x5800, 4 => some (leBytes 8 s.siph.errAddr)
    | 0x5810, 2 => some (leBytes 2 s.blit.lampDead)
    | 0x5811, 1 => some (leBytes 1 ((List.range 4).filter (fun u => (s.unit u).state != .retired)).length)
    | 0x5811, 2 => some (leBytes 4 s.blit.busErrors)
    | 0x5811, 3 => some (leBytes 4 s.blit.stagedTot)
    | 0x5812, n => some (leBytes 1 (s.unitCode (n - 1)))
    | 0x6000, 7 => some (leBytes 2 s.ownAddress)
    | 0x6002, 1 => some (leBytes 2 s.followed)
    | 0x6002, 2 => some (leBytes 1 s.fab.domState)
    | 0x6002, 3 => some (leBytes 2 s.fab.present.length)
    | 0x6002, 4 => some (mapBytes s.fab.present)
    | 0x6002, 5 => some (leBytes 8 s.fab.lastDec)
    | 0x6002, 6 => some (leBytes 4 s.fab.splits)
    | 0x6002, 7 => some (leBytes 4 s.fab.aborts)
    | 0x6002, 8 => some (leBytes 4 s.fab.streamDisc)
    | 0x6003, 2 => some (leBytes 2 s.fab.timeRoot)
    | 0x6003, 3 => some (leBytes 1 s.timeHops)
    | _, _ => none

/-- What an entry reports that the device forms itself, none for one that holds what was written. -/
def State.report (s : State) (i sub : Nat) : Option (List Byte) :=
  if i < 0x2000 then s.reportSys i sub
  else if i < 0x3000 then s.reportHealth i sub
  else if i < 0x4000 then s.reportScene i sub
  else if i < 0x5000 then s.reportHead (i / 256 % 16) (i % 256) sub
  else s.reportRest i sub

/-- The value a read returns (R359): the written one, or with ACTIVE the one in force. -/
def State.readValue (s : State) (i sub : Nat) (active : Bool) : List Byte :=
  match s.report i sub with
  | some v => v
  | none =>
    let k := dkey i sub
    let dom := (entryOf k).elim false (fun e => e.typ == 13)
    let l := if active then s.dict.force else keyed s k
    match Tbl.find? l k with
    | some v => v
    | none => if dom then domainDefault i sub else entryDefault k
where
  /-- The table that holds an entry's written value: the overlay's when it names the entry (R353). -/
  keyed (s : State) (k : Nat) : Tbl (List Byte) := if (Tbl.find? s.dict.overlay k).isSome then s.dict.overlay else s.dict.base

/-- The default that DESCRIBE reports: of an RO entry, its value after reset; of a fused one, the fuses' (R358, R363). -/
def State.describedDefault (s : State) (k : Nat) : List Byte :=
  let fused := [dkey 0x1003 0, dkey 0x1410 4, dkey 0x1021 8, dkey 0x1021 9]
  if fused.contains k then s.readValue (keyIndex k) (keySub k) false else entryDefault k

end Sys2Proof.Machine
end

