-- ==== Sys2Proof/Machine/Lop.lean ====
section
/-!
DEFINITION. The Limor Object Protocol: the order of its checks, its services, segmented transfers, sessions and transports
(R236, R346, R356 to R377, R449, R452, R454, R455).
-/

namespace Sys2Proof.Machine

/-! ## Sessions and transfers close (R368, R372) -/

/-- Core 1 can serve a request: it is in service, and no write waits for the galleries' stores (R360). -/
def State.lopFree (s : State) : Bool :=
  s.sys.mode != .reset && s.sys.fwReady && s.coreUp 1 && s.gal.coefPending.isEmpty

/-- A transfer closes without its last segment: a slot that it was staging reads INVALID (R454). -/
def State.dropTransfer (s : State) (t : Nat) : State :=
  let s := { s with lop := { s.lop with transfers := Tbl.erase s.lop.transfers t } }
  if s.boot.staging = some t then
    let n := 1 - s.boot.active
    { s with boot := { s.boot.setSlot n { s.boot.slot n with state := 2 } with staging := none } }
  else s

/-- A session closes, with its transfers and its replay set. -/
def State.closeSession (s : State) (id : Nat) : State :=
  let mine := (s.lop.transfers.filter (fun p => p.2.owner == [9, id])).map (fun p => p.1)
  let s := s.forEach mine (fun s t => s.dropTransfer t)
  { s with lop := { s.lop with sessions := Tbl.erase s.lop.sessions id, replay := s.lop.replay.filter (fun e => e.1 != [9, id]) } }

/-- A session whose SessionTimeout has passed. -/
def State.sessionExpired (s : State) (x : Session) : Bool := decide (x.lastAt + s.cfg 0x1400 2 * 1000000000 ≤ s.now)

/-- A transfer to which 5 s have brought no request. -/
def State.transferExpired (s : State) (t : Transfer) : Bool := decide (t.lastAt + 5000000000 ≤ s.now)

/-- Close what has run out of time. -/
def State.purge (s : State) : State :=
  let ts := (s.lop.transfers.filter (fun p => s.transferExpired p.2)).map (fun p => p.1)
  let ids := (s.lop.sessions.filter (fun p => s.sessionExpired p.2)).map (fun p => p.1)
  (s.forEach ts (fun s t => s.dropTransfer t)).forEach ids (fun s i => s.closeSession i)

/-- A request to a session keeps it open. -/
def State.touchSession (s : State) (c : LopCtx) : State :=
  match Tbl.find? s.lop.sessions c.session with
  | some x => { s with lop := { s.lop with sessions := Tbl.set s.lop.sessions c.session { x with lastAt := s.now } } }
  | none => s

/-- The level a request acts at, OBSERVER where it names no session. -/
def State.levelOf (s : State) (c : LopCtx) : Nat := (s.lopLevel c).getD lvlObserver

/-! ## Entries -/

/-- The checks that come first for the range at 0xA000 and above, where this model knows no entry (R349, R357). -/
def State.vendorGate (s : State) (c : LopCtx) : Nat :=
  if s.sys.mode ≠ .maintain then abStatus .state
  else if s.levelOf c < lvlPrivileged then abStatus .privilege
  else abNoIndex

/-- The entry a request names, or its refusal (R361). -/
def State.lookup (s : State) (c : LopCtx) (index sub : Nat) : Except Nat EntryDef :=
  if 0xA000 ≤ index then .error (s.vendorGate c)
  else match findEntry index sub with
    | some e => .ok e
    | none =>
      if entryTable.any (fun e => e.index == canonIndex index) then .error abNoSubindex else .error abNoIndex

/-- Who may write an entry, when and whether an overlay holds it (R353, R357, R369, R455). -/
def State.mayWrite (s : State) (c : LopCtx) (index sub : Nat) (e : EntryDef) : Nat :=
  let level := s.levelOf c
  if e.access = 0 then abReadOnly
  else if level = lvlObserver then abStatus .privilege
  else if level = lvlApplication && !((e.access == 1 || e.access == 3) && decide (0x3000 ≤ index ∧ index ≤ 0x58FF)) then
    abStatus .privilege
  else if e.access = 4 ∧ level < lvlPrivileged then abStatus .privilege
  else if e.access = 2 ∧ s.sys.mode ≠ .configure then abStatus .state
  else if e.p && s.boot.bankStaged then abStatus .state
  else if (Tbl.find? s.dict.overlay (dkey index sub)).isSome then abStatus .state
  else abOk

/-- READ (R359, R363). -/
def State.svcRead (s : State) (c : LopCtx) (index sub flags : Nat) : State :=
  match s.lookup c index sub with
  | .error a => s.reply c 0x01 a []
  | .ok e =>
    if e.typ = 13 then s.reply c 0x01 abSegmentedOnly []
    else if e.access = 3 then s.reply c 0x01 abWriteOnly []
    else s.reply c 0x01 abOk (leBytes 2 index ++ [byte sub, byte e.typ] ++ s.readValue index sub (bit flags 0))

/-- DESCRIBE (R363). -/
def State.svcDescribe (s : State) (c : LopCtx) (index sub : Nat) : State :=
  match s.lookup c index sub with
  | .error a => s.reply c 0x03 a []
  | .ok e =>
    let dom := e.typ == 13
    let size := if dom then (s.readValue index sub false).length else e.size
    s.reply c 0x03 abOk (leBytes 2 index ++ [byte sub, byte e.typ, byte e.access, byte (b2n e.p + 2 * b2n e.o + 4 * b2n e.d),
      byte e.apply, 0#8] ++ leBytes 4 size ++ leBytes 4 e.size ++ (if dom then [] else s.describedDefault (dkey index sub)))

/-! ## Entries whose write is a command -/

/-- ImageActivate (R454). -/
def State.activateImage (s : State) : State × Nat :=
  let n := 1 - s.boot.active
  if s.boot.imageState n ≠ 1 || s.onTrial then (s, abStatus .state)
  else ({ s with boot := Boot.control { s.boot with trial := some n, attempts := 0 } }, abOk)

/-- RollbackAdvance (R449). -/
def State.advanceRollback (s : State) (v : Nat) : State × Nat :=
  let b := s.boot
  let ready (n : Nat) : Bool := b.imageState n == 1 && decide (v ≤ (b.slot n).security)
  if 255 < v then (s, abStatus .format)
  else if v ≤ b.rollback || !ready 0 || !ready 1 || b.trial.isSome then (s, abStatus .state)
  else ({ s with boot := { b with rollback := v } }, abOk)

/-- The write of an entry that asks for an action, after the checks of its value; none for one that holds its value. -/
def State.commandWrite (s : State) (index sub : Nat) (v : List Byte) : Option (State × Nat) :=
  let n := leNat v
  let given (f : State × Nat) : State × Nat := if n = 1 then f else (s, abOk)
  if index = 0x1010 ∧ sub = 4 then some (given (s.askStore, abOk))
  else if index = 0x1022 ∧ sub = 2 then some (given s.activateImage)
  else if index = 0x1022 ∧ sub = 3 then some (given (if s.onTrial then (s.confirmImage, abOk) else (s, abStatus .state)))
  else if index = 0x1022 ∧ sub = 5 then some (s.advanceRollback n)
  else if index = 0x1210 ∧ sub = 0 then
    some (if s.mayTest n then ({ s with sys := { s.sys with selfGallery := n } }, abOk) else (s, abStatus .state))
  else if 0x4000 ≤ index ∧ index < 0x5000 ∧ index % 256 = 2 ∧ sub = 7 then
    some (given (s.linkReenable (index / 256 % 16), abOk))
  else if 0x4000 ≤ index ∧ index < 0x5000 ∧ index % 256 = 4 ∧ sub = 3 then
    some (given (s.headResume (index / 256 % 16), abOk))
  else if 0x5300 ≤ index ∧ index < 0x5304 ∧ sub = 11 then some (given (s.wbArm (index % 256), abOk))
  else none

/-- A new PrivilegeKey closes every PRIVILEGED session but the one that wrote it (R381). -/
def State.keyWritten (s : State) (c : LopCtx) : State :=
  let ids := (s.lop.sessions.filter (fun p => decide (p.2.acts = lvlPrivileged ∧ p.1 ≠ c.session))).map (fun p => p.1)
  s.forEach ids (fun s i => s.closeSession i)

/-! ## Forwarding (R375, R376) -/

/-- A request whose answer comes from another member is kept until then. -/
def State.keepForward (s : State) (c : LopCtx) (code : Nat) : State :=
  let f : Forward := { ctx := c, code := code, sentAt := s.now }
  { s with lop := { s.lop with forwards := s.lop.forwards ++ [f] } }

/-- Why a message may not go to a member, if so. -/
def State.forwardRefusal (s : State) (d code index length : Nat) : Option Nat :=
  if s.domainMembers ≤ 1 then some abUnreachable
  else if 4096 < length then some (abStatus .size)
  else match s.routePort d with
    | none => some abUnreachable
    | some p =>
      let x := s.port p
      if x.state = .up then none
      else if x.state = .genZero then
        if code = 0x01 ∧ 0x1000 ≤ index ∧ index ≤ 0x11FF ∧ x.neighbour = d then none else some abRouteGeneration
      else some abUnreachable

/-- Forward a request to a member, or refuse it. -/
def State.forward (s : State) (c : LopCtx) (d code : Nat) (payload : List Byte) : State :=
  let m := lopRequest { c with target := 0x8000 + d } code payload
  match s.forwardRefusal d code (getLE payload 0 2) m.length with
  | some a => s.reply c code a []
  | none => (s.keepForward c code).sendLop d (s.levelOf c) m

/-- The write of a domain entry (R319, R376): the coordinator names its wall frame and tells every other member present; any
other member forwards it there. The manual gives no message for the telling: it is a forwarded WRITE (log entry 19). -/
def State.domainWrite (s : State) (c : LopCtx) (index sub : Nat) (v : List Byte) : State :=
  let payload := leBytes 2 index ++ [byte sub, 0#8] ++ v
  let told : Bool := match c.via with | .fabric origin _ => s.fab.coord == some origin | _ => false
  if s.fab.office then
    let s := s.nameDomainWrite (dkey index sub) v
    let s := s.forEach (s.fab.present.filter (fun a => a != s.ownAddress)) (fun s a =>
      s.sendLop a lvlPrivileged (lopMessage 2 0x02 (0x8000 + a) 0 (s.lop.requests % 65536) 0 payload))
    s.reply c 0x02 abOk []
  else if told then (s.nameDomainWrite (dkey index sub) v).reply c 0x02 abOk []
  else match s.fab.coord with
    | some d => s.forward c d 0x02 payload
    | none => s.reply c 0x02 (abStatus .state) []

/-! ## WRITE -/

/-- A write of RequestedMode (R345, R346); `refused` is what the general checks say of it. -/
def State.modeWrite (s : State) (c : LopCtx) (refused : Nat) (v : List Byte) : State :=
  let a := if refused ≠ abOk then refused
    else if v.length ≠ 1 then abStatus .size
    else if (leNat v = Mode.reset.code ∨ leNat v = Mode.update.code) ∧ s.levelOf c < lvlPrivileged then abStatus .privilege
    else abOk
  if a ≠ abOk then s.countRefused.reply c 0x02 a []
  else s.requestMode { target := leNat v, reply := { ctx := c, code := 0x02 } }

/-- WRITE (R356 to R358, R363). -/
def State.svcWrite (s : State) (c : LopCtx) (index sub : Nat) (v : List Byte) : State :=
  let answer (s : State) (a : Nat) : State := s.reply c 0x02 a []
  match s.lookup c index sub with
  | .error a => answer s a
  | .ok e =>
    if e.typ = 13 then answer s abSegmentedOnly
    else
      let a := s.mayWrite c index sub e
      if index = 0x1200 then s.modeWrite c a v
      else if a ≠ abOk then answer s a
      else match s.valueCheck (dkey index sub) v with
        | some st => answer s (abStatus st)
        | none =>
          if e.d then s.domainWrite c index sub v
          else match s.commandWrite index sub v with
            | some (t, a) => answer t a
            | none =>
              let s := s.writeEntry (dkey index sub) v
              answer (if index = 0x1420 ∧ sub = 5 then s.keyWritten c else s) abOk

/-! ## Segmented transfer (R366 to R368) -/

/-- Why no transfer may open for a request, if so: 8 in all, 2 for each session. -/
def State.transferLimit (s : State) (c : LopCtx) : Bool :=
  decide (8 ≤ s.lop.transfers.length) ||
    decide (2 ≤ (s.lop.transfers.filter (fun p => p.2.owner == s.replayKey c)).length)

/-- Open a transfer, under the next TRANSFER number that is not in use. -/
def State.openTransfer (s : State) (c : LopCtx) (k : Nat) (write : Bool) (length : Nat) (bytes : List Byte) : State × Nat :=
  let n := (((List.range 9).map (fun i => (s.lop.nextXfer + i) % 2 ^ 32)).find? (fun t =>
    t != 0 && (Tbl.find? s.lop.transfers t).isNone)).getD 1
  let x : Transfer := { key := k, write := write, length := length, bytes := bytes, owner := s.replayKey c, lastAt := s.now }
  ({ s with lop := { s.lop with transfers := Tbl.set s.lop.transfers n x, nextXfer := (n + 1) % 2 ^ 32 } }, n)

/-- The transfer that a request names, when it is its own and of the kind asked for. -/
def State.transfer? (s : State) (c : LopCtx) (t : Nat) (write : Bool) : Option Transfer :=
  match Tbl.find? s.lop.transfers t with
  | some x => if x.owner = s.replayKey c ∧ x.write = write then some x else none
  | none => none

/-- SEG_READ_START (R367). -/
def State.svcSegReadStart (s : State) (c : LopCtx) (index sub flags : Nat) : State :=
  match s.lookup c index sub with
  | .error a => s.reply c 0x10 a []
  | .ok e =>
    if e.typ ≠ 13 then s.reply c 0x10 abNotSegmented []
    else if e.access = 3 then s.reply c 0x10 abWriteOnly []
    else if s.transferLimit c then s.reply c 0x10 abTransferLimit []
    else
      let v := s.readValue index sub (bit flags 0)
      let r := s.openTransfer c (dkey index sub) false v.length v
      r.1.reply c 0x10 abOk (leBytes 4 r.2 ++ leBytes 4 v.length)

/-- The most bytes one SEG_READ response carries on a way. -/
def segReadMax (v : Via) : Nat := match v with | .ethernet _ _ _ => 1376 | .fabric _ _ => 4072 | _ => 65512

/-- SEG_READ (R367). -/
def State.svcSegRead (s : State) (c : LopCtx) (t offset count : Nat) : State :=
  match s.transfer? c t false with
  | none => s.reply c 0x11 abNoTransfer []
  | some x =>
    let s := { s with lop := { s.lop with transfers := Tbl.set s.lop.transfers t { x with lastAt := s.now } } }
    s.reply c 0x11 abOk (leBytes 4 t ++ leBytes 4 offset ++ (x.bytes.drop offset).take (Nat.min count (segReadMax c.via)))

/-- The checks of a segmented write's start, which its last segment runs again (R353, R357, R366, R454, R455). -/
def State.segWriteCheck (s : State) (c : LopCtx) (index sub : Nat) (e : EntryDef) (length : Nat) : Nat :=
  let a := s.mayWrite c index sub e
  if a ≠ abOk then a
  else if index = 0x1022 ∧ (sub = 1 ∨ sub = 6) ∧ s.sys.mode ≠ .update then abStatus .state
  else if index = 0x1022 ∧ sub = 1 ∧ s.onTrial then abStatus .state
  else if e.size < length then abStatus .size
  else abOk

/-- A transfer of FirmwareImage begins to stage the slot that is not ACTIVE. A trial of that slot which has not begun is
withdrawn with the image it named (DESIGN CHOICE, log entry 46). -/
def State.stageSlot (s : State) (t : Nat) : State :=
  let n := 1 - s.boot.active
  let b := if s.boot.trial = some n then Boot.control { s.boot with trial := none } else s.boot
  { s with boot := { b.setSlot n { state := 5, version := 0, security := 0, bytes := [] } with staging := some t } }

/-- SEG_WRITE_START (R366). -/
def State.svcSegWriteStart (s : State) (c : LopCtx) (index sub length : Nat) : State :=
  match s.lookup c index sub with
  | .error a => s.reply c 0x12 a []
  | .ok e =>
    if e.typ ≠ 13 then s.reply c 0x12 abNotSegmented []
    else
      let k := dkey index sub
      let a := s.segWriteCheck c index sub e length
      if a ≠ abOk then s.reply c 0x12 a []
      else if s.lop.transfers.any (fun p => p.2.write && p.2.key == k) then s.reply c 0x12 abBusy []
      else if s.transferLimit c then s.reply c 0x12 abTransferLimit []
      else
        let r := s.openTransfer c k true length []
        let s := if k = dkey 0x1022 1 then r.1.stageSlot r.2 else r.1
        s.reply c 0x12 abOk (leBytes 4 r.2)

/-- The last segment of FirmwareImage: the slot is checked (R448, R454). -/
def State.finishImage (s : State) (c : LopCtx) (v : List Byte) : State :=
  let n := 1 - s.boot.active
  let r := slotChecked s.boot.rollback s.boot.keyRevoked v
  let s := { s with boot := { s.boot.setSlot n r.1 with staging := none } }
  match r.2 with
  | some st => s.reply c 0x13 (abStatus st) []
  | none => (State.raise { s with boot := Boot.control (s.boot.setFailed n false) } .imageStaged).reply c 0x13 abOk []

/-- The last segment: the checks of the start again, then the entry's own, and the value replaces the written one. The write of
a coefficient set completes when every gallery's store holds it (R137). -/
def State.finishSegments (s : State) (c : LopCtx) (t : Nat) (x : Transfer) (v : List Byte) : State :=
  let answer (s : State) (a : Nat) : State := s.reply c 0x13 a []
  let index := keyIndex x.key
  let sub := keySub x.key
  let shut (s : State) : State := { s with lop := { s.lop with transfers := Tbl.erase s.lop.transfers t } }
  match s.lookup c index sub with
  | .error a => answer (s.dropTransfer t) a
  | .ok e =>
    let a := s.segWriteCheck c index sub e x.length
    if a ≠ abOk then answer (s.dropTransfer t) a
    else match s.valueCheck x.key v with
      | some st => answer (s.dropTransfer t) (abStatus st)
      | none =>
        if x.key = dkey 0x1022 1 then (shut s).finishImage c v
        else if x.key = dkey 0x1022 6 then
          match (shut s).stageBank v with
          | some s => answer s abOk
          | none => answer (shut s) (abStatus .format)
        else
          let s := (shut s).writeEntry x.key v
          if index = 0x3410 then
            { s with gal := { s.gal with coefPending := s.gal.coefPending ++ [(sub - 1, { ctx := c, code := 0x13 })] } }
          else answer s abOk

/-- A transfer with the bytes received so far. -/
def State.putSegment (s : State) (t : Nat) (x : Transfer) (b : List Byte) : State :=
  { s with lop := { s.lop with transfers := Tbl.set s.lop.transfers t { x with lastAt := s.now, bytes := b } } }

/-- The slot that a transfer stages holds the bytes received so far. -/
def State.stageBytes (s : State) (t : Nat) (b : List Byte) : State :=
  if s.boot.staging = some t then
    { s with boot := s.boot.setSlot (1 - s.boot.active) { s.boot.slot (1 - s.boot.active) with bytes := b } }
  else s

/-- SEG_WRITE (R366). -/
def State.svcSegWrite (s : State) (c : LopCtx) (t offset : Nat) (last : Bool) (bytes : List Byte) : State :=
  match s.transfer? c t true with
  | none => s.reply c 0x13 abNoTransfer []
  | some x =>
    if offset ≠ x.bytes.length then (s.putSegment t x x.bytes).reply c 0x13 abOffset (leBytes 4 x.bytes.length)
    else if x.length < offset + bytes.length then (s.putSegment t x x.bytes).reply c 0x13 (abStatus .size) []
    else if last ≠ decide (offset + bytes.length = x.length) then (s.putSegment t x x.bytes).reply c 0x13 (abStatus .format) []
    else if last then ((s.putSegment t x (x.bytes ++ bytes)).stageBytes t (x.bytes ++ bytes)).finishSegments c t x (x.bytes ++ bytes)
    else ((s.putSegment t x (x.bytes ++ bytes)).stageBytes t (x.bytes ++ bytes)).reply c 0x13 abOk []

/-- SEG_CANCEL (R368). -/
def State.svcSegCancel (s : State) (c : LopCtx) (t : Nat) : State :=
  match Tbl.find? s.lop.transfers t with
  | some x => if x.owner = s.replayKey c then (s.dropTransfer t).reply c 0x14 abOk [] else s.reply c 0x14 abNoTransfer []
  | none => s.reply c 0x14 abNoTransfer []

/-! ## Sessions (R371, R372) -/

/-- PrivilegeKey is not zeros. -/
def State.keySet (s : State) : Bool := !allZero (s.cfgBytes 0x1420 5)

/-- Three failed proofs on a transport within 60 s bar its PRIVILEGED opens for the next 60 s (R371). -/
def provenBad (now : Nat) (l : List Nat) : Bool :=
  (l.zip (l.drop 2)).any (fun p => decide (p.2 ≤ p.1 + 60000000000 ∧ now < p.2 + 60000000000))
def State.proofsBarred (s : State) (v : Via) : Bool :=
  provenBad s.now ((s.lop.proofFails.filter (fun p => p.1 == viaTransport v)).map (fun p => p.2))

/-- A request comes from PF1, or from a session that acts as APPLICATION. -/
def State.fromPf1 (s : State) (c : LopCtx) : Bool :=
  match c.via with
  | .ring q => s.ringFn q == .pf1
  | .fabric _ level => level == lvlApplication
  | _ => false

/-- A request comes from PF0. -/
def State.fromPf0 (s : State) (c : LopCtx) : Bool :=
  match c.via with | .window => true | .ring q => s.ringFn q == .pf0 | _ => false

/-- A session identity that is not 0 and not in use, from a free value (log entry 2). -/
def State.freeSession (s : State) : Nat :=
  let r := Config.random s.fresh
  (((List.range 18).map (fun i => (r + i) % 2 ^ 32)).find? (fun n => n != 0 && (Tbl.find? s.lop.sessions n).isNone)).getD 1

/-- Create a session and return its identity with a NONCE. -/
def State.grantSession (s : State) (c : LopCtx) (level : Nat) (nonce : Option (List Byte)) : State :=
  let id := s.freeSession
  let x : Session := { level := level, via := c.via, nonce := nonce, lastAt := s.now }
  let s := { s with fresh := s.fresh + 1, lop := { s.lop with sessions := Tbl.set s.lop.sessions id x } }
  s.reply c 0x20 abOk (leBytes 4 id ++ nonce.getD (leBytes 32 0))

/-- SESSION_OPEN (R370 to R373). -/
def State.svcSessionOpen (s : State) (c : LopCtx) (level : Nat) : State :=
  let refuse (a : Nat) : State := s.reply c 0x20 a []
  let plain : Bool := match c.via with | .ethernet _ _ none => true | _ => false
  if 2 < level then refuse (abStatus .format)
  else if s.fromPf1 c then refuse (abStatus .privilege)
  else if level = 2 ∧ plain then refuse (abStatus .privilege)
  else if level = 2 ∧ s.proofsBarred c.via then refuse abProofFailed
  else if 16 ≤ s.lop.sessions.length then refuse abSessionLimit
  else if level < 2 then s.grantSession c (if level = 0 then lvlObserver else lvlOperator) none
  else if s.keySet then
    let n := leBytes 32 (Config.random s.fresh)
    State.grantSession { s with fresh := s.fresh + 1 } c lvlPrivileged (some n)
  else if s.fromPf0 c then s.grantSession c lvlPrivileged none
  else refuse (abStatus .privilege)

/-- SESSION_PROVE (R371). Without a NONCE there is nothing to prove: STATE (DESIGN CHOICE, log entry 15). -/
def State.svcSessionProve (s : State) (c : LopCtx) (mac : List Byte) : State :=
  if mac.length ≠ 48 then s.reply c 0x21 (abStatus .format) []
  else match s.session? c with
    | none => s.reply c 0x21 (abStatus .state) []
    | some x =>
      match x.nonce with
      | none => s.reply c 0x21 (abStatus .state) []
      | some n =>
        if mac = Config.hmac384 (s.cfgBytes 0x1420 5) (n ++ leBytes 4 c.session) then
          let s := { s with lop := { s.lop with sessions := Tbl.set s.lop.sessions c.session { x with nonce := none } } }
          s.reply c 0x21 abOk []
        else
          let s := s.reply c 0x21 abProofFailed []
          let old := s.lop.proofFails.filter (fun p => decide (s.now < p.2 + 120000000000))
          let s := { s with lop := { s.lop with proofFails := old ++ [(viaTransport c.via, s.now)] } }
          (s.closeSession c.session).raise .lopProofFailed

/-- SESSION_CLOSE (R372). A default session does not close: STATE (DESIGN CHOICE, log entry 15). -/
def State.svcSessionClose (s : State) (c : LopCtx) : State :=
  match s.session? c with
  | none => s.reply c 0x22 (abStatus .state) []
  | some _ => (s.reply c 0x22 abOk []).closeSession c.session

/-- KEEPALIVE (R363). -/
def State.svcKeepalive (s : State) (c : LopCtx) : State := s.reply c 0x23 abOk (leBytes 8 s.now)

/-! ## Serving a request -/

/-- A payload's length and reserved bits are those of R363; ACTIVE is reserved at generation 1 (R364). -/
def payloadOk (gen code : Nat) (p : List Byte) : Bool :=
  let flags := if gen = 1 then 1 else 2
  match code with
  | 0x01 => p.length == 4 && decide (getLE p 3 1 < flags)
  | 0x02 => decide (4 ≤ p.length) && getLE p 3 1 == 0
  | 0x03 => p.length == 4 && getLE p 3 1 == 0
  | 0x10 => p.length == 4 && decide (getLE p 3 1 < flags)
  | 0x11 => p.length == 12
  | 0x12 => p.length == 8 && getLE p 3 1 == 0
  | 0x13 => decide (12 ≤ p.length) && decide (getLE p 8 1 < 2) && getLE p 9 3 == 0
  | 0x14 => p.length == 4
  | 0x20 => p.length == 4 && getLE p 1 3 == 0
  | 0x21 => p.length == 48
  | 0x22 => p.isEmpty
  | 0x23 => p.isEmpty
  | _ => true

/-- Run a service (R363, R364). -/
def State.service (s : State) (c : LopCtx) (code : Nat) (p : List Byte) : State :=
  let index := getLE p 0 2
  let sub := getLE p 2 1
  if !payloadOk c.generation code p then
    s.reply c code (if code = 0x03 ∧ c.generation = 1 then abService else abStatus .format) []
  else match code with
    | 0x01 => s.svcRead c index sub (getLE p 3 1)
    | 0x02 => s.svcWrite c index sub (p.drop 4)
    | 0x03 => if c.generation = 1 then s.reply c code abService [] else s.svcDescribe c index sub
    | 0x10 => s.svcSegReadStart c index sub (getLE p 3 1)
    | 0x11 => s.svcSegRead c (getLE p 0 4) (getLE p 4 4) (getLE p 8 4)
    | 0x12 => s.svcSegWriteStart c index sub (getLE p 4 4)
    | 0x13 => s.svcSegWrite c (getLE p 0 4) (getLE p 4 4) (bit (getLE p 8 1) 0) (p.drop 12)
    | 0x14 => s.svcSegCancel c (getLE p 0 4)
    | 0x20 => s.svcSessionOpen c (getLE p 0 1)
    | 0x21 => s.svcSessionProve c p
    | 0x22 => s.svcSessionClose c
    | 0x23 => s.svcKeepalive c
    | _ => s.reply c code abService []

/-- What the default session of the management Ethernet may ask for: a READ of 0x1000 to 0x11FF, and what it needs to open a
session (R370; DEDUCED, log entry 47). -/
def ethernetDefaultOk (code index : Nat) : Bool :=
  code == 0x20 || code == 0x23 || (code == 0x01 && decide (0x1000 ≤ index ∧ index ≤ 0x11FF))

/-- A request goes to another member: REMOTE is set and TARGET is not this device's own address; one that has come across the
fabric is served where it arrives (R375). -/
def State.goesOn (s : State) (c : LopCtx) : Bool :=
  match c.via with | .fabric _ _ => false | _ => isRemote c && lopAddress c != s.ownAddress

/-- A request that names a session of its own has come: repeats are answered from the replay set (R365), the rest is served or
forwarded. -/
def State.serveOwn (s : State) (c : LopCtx) (code : Nat) (p : List Byte) : State :=
  let s := s.touchSession c
  let ethernet : Bool := match c.via with | .ethernet _ _ _ => c.session == 0 | _ => false
  match s.stored? c with
  | some r => (s.countResponse (getLE r 12 4)).answerVia c r
  | none =>
    if ethernet && !ethernetDefaultOk code (getLE p 0 2) then s.reply c code (abStatus .privilege) []
    else if s.goesOn c then s.forward c (lopAddress c) code p
    else s.service c code p

/-- Serve one request (R362, R364, R372): its header, its generation, its session, then the rest. -/
def State.serveMessage (s : State) (via : Via) (m : List Byte) : State :=
  let s := s.purge
  let c := lopCtxOf via m
  let code := lopService m
  let known := c.generation == 1 || c.generation == 2
  if !headerGood m then s.respond c code (if known then c.generation else 2) abHeader [] false
  else if !known then s.respond c code 2 abGeneration [] false
  else if (s.lopLevel c).isNone then s.respond c code c.generation abNoSession [] false
  else s.serveOwn c code (lopPayload m)

/-! ## The window (R374) -/

/-- The request the window holds is served. -/
def State.serveWindow (s : State) : State :=
  if !s.lop.busy || s.lop.taken.isEmpty then s
  else
    let m := s.lop.taken
    State.serveMessage { s with lop := { s.lop with taken := [] } } .window m

/-- LOP_WINDOW_GO (R374): a write of GO. After a parity mismatch it ends with FORMAT until REQLEN is rewritten (R392). -/
def execLopWindowGo (fn : Fn) (s : State) : Host.Outcome State Fault Refusal :=
  .next (if !s.hostUp fn then s
    else if fn = .pf1 then s.privIgnore 0x100_0000
    else if s.lop.busy then { s with lop := { s.lop with winStatus := Status.state.code } }
    else
      let n := s.lop.reqLen
      let s := { s with lop := { s.lop with done := false } }
      if n < 16 ∨ 65536 < n || s.parityWrong 0x100_0008 then { s with lop := { s.lop with winStatus := Status.format.code } }
      else
        let s := { s with lop := { s.lop with busy := true, winStatus := Status.ok.code, taken := Memory.read s.lop.reqBuf 0 n } }
        if s.bothCoresRetired then s.windowAnswer [] .retired else s)

/-- LOP_WINDOW_DONE (R374): the request that the window holds is served and its response appears, unless another member still
has to give it. -/
def execLopWindowDone (s : State) : Host.Outcome State Fault Refusal := .next (if s.lopFree then s.serveWindow else s)

/-! ## MGMT rings (R233, R236) -/

/-- The ring's next entry is a LOP_EXCHANGE that waits. -/
def Ring.exchangeWaits (r : Ring) : Bool :=
  r.force.cls == ringMgmt && (match r.current? with
    | some e => e.opcode == 0x40 && e.phase == .waiting
    | none => false)

/-- The MGMT ring that is served next: they are served in turn. -/
def State.mgmtTurn (s : State) : Option Nat :=
  let w := (s.que.rings.filter (fun p => p.2.exchangeWaits)).map (fun p => p.1)
  match w.find? (fun q => decide (s.que.servedM < q)) with
  | some q => some q
  | none => w.head?

/-- The checks of a LOP_EXCHANGE before its request is read: its lengths, and both ranges as one element (R214, R236). -/
def State.exchangeCheck (s : State) (q : Nat) (b : List Byte) : Option Status :=
  let n := getLE b 8 4
  let cap := getLE b 12 4
  if n < 16 ∨ 65536 < n ∨ cap < 16 ∨ 65536 < cap then some .format
  else if s.granted (s.ringCls q) false (getLE b 16 8) n && s.granted (s.ringCls q) true (getLE b 24 8) cap then none
  else some .bounds

/-- Serve the LOP_EXCHANGE of a ring. -/
def State.serveExchange (s : State) (q : Fin 256) : State :=
  match s.exchange? q with
  | none => s
  | some e =>
    if e.phase != .waiting || s.mgmtTurn != some q.val then s
    else
      let s := { s with que := { s.que with servedM := q } }
      match s.exchangeCheck q e.body with
      | some .bounds => s.countBounds.finishAt q e.pos .bounds 0
      | some st => s.finishAt q e.pos st 0
      | none =>
        match s.fetchObject (getLE e.body 16 8) (getLE e.body 8 4) with
        | (s, none) => s.finishAt q e.pos .busError 0
        | (s, some m) => (s.keepRunning q e.pos [getLE m 4 4, getLE m 8 2]).serveMessage (.ring q) m

/-- The request bytes of the exchange that waits on a ring. -/
def State.exchangeRequest (s : State) (q : Nat) : List Byte :=
  match s.exchange? q with
  | some e => if e.phase = .waiting then s.busRead (getLE e.body 16 8) (getLE e.body 8 4) else []
  | none => []

/-- LOP_EXCHANGE (R236). -/
def execLopExchange (q : Fin 256) (s : State) : Host.Outcome State Fault Refusal :=
  .next (if s.bothCoresRetired then
      (match s.exchange? q with
        | some e => s.finishAt q e.pos .retired 0
        | none => s)
    else if s.lopFree then s.serveExchange q else s)

/-! ## A request arrives -/

/-- A datagram that is discarded and counted (R373): Ethernet carries no LOP, the policy asks for DTLS, its association is
unknown, or it is longer than 1,400 bytes. -/
def State.discards (s : State) (ip port : Nat) (assoc : Option Nat) (m : List Byte) : Bool :=
  s.cfg 0x1410 1 == 0 || decide (1400 < m.length) ||
    (match assoc with
      | none => s.cfg 0x1420 1 == 0
      | some a => !s.lop.assocs.any (fun x => x.1 == a && x.2.1 == ip && x.2.2 == port))

/-- The request that a row spells has come by its way, and is served: the window's and a ring's are those that wait there. -/
def State.arrive (s : State) (c : LopCtx) (code : Nat) (p : List Byte) : State :=
  let m := lopRequest c code p
  if !s.lopFree then s
  else match c.via with
    | .window => if s.lop.taken = m then s.serveWindow else s
    | .ring q => if s.exchangeRequest q = m then s.serveExchange q else s
    | .ethernet ip port assoc =>
      let s := { s with fab := { s.fab with ethLink := true } }
      if s.discards ip port assoc m then s.discardDatagram else s.serveMessage c.via m
    | .fabric _ _ => if s.fabricUp then s.serveMessage c.via m else s

/-- READ (R363). -/
def execRead (c : LopCtx) (index sub flags : Nat) (s : State) : Host.Outcome State Fault Refusal :=
  .next (s.arrive c 0x01 (leBytes 2 index ++ [byte sub, byte flags]))

/-- WRITE (R363). -/
def execWrite (c : LopCtx) (index sub : Nat) (value : List Byte) (s : State) : Host.Outcome State Fault Refusal :=
  .next (s.arrive c 0x02 (leBytes 2 index ++ [byte sub, 0#8] ++ value))

/-- DESCRIBE (R363). -/
def execDescribe (c : LopCtx) (index sub : Nat) (s : State) : Host.Outcome State Fault Refusal :=
  .next (s.arrive c 0x03 (leBytes 2 index ++ [byte sub, 0#8]))

/-- SEG_READ_START (R367). -/
def execSegReadStart (c : LopCtx) (index sub flags : Nat) (s : State) : Host.Outcome State Fault Refusal :=
  .next (s.arrive c 0x10 (leBytes 2 index ++ [byte sub, byte flags]))

/-- SEG_READ (R367). -/
def execSegRead (c : LopCtx) (t offset count : Nat) (s : State) : Host.Outcome State Fault Refusal :=
  .next (s.arrive c 0x11 (leBytes 4 t ++ leBytes 4 offset ++ leBytes 4 count))

/-- SEG_WRITE_START (R366). -/
def execSegWriteStart (c : LopCtx) (index sub length : Nat) (s : State) : Host.Outcome State Fault Refusal :=
  .next (s.arrive c 0x12 (leBytes 2 index ++ [byte sub, 0#8] ++ leBytes 4 length))

/-- SEG_WRITE (R366). -/
def execSegWrite (c : LopCtx) (t offset : Nat) (last : Bool) (bytes : List Byte) (s : State) : Host.Outcome State Fault Refusal :=
  .next (s.arrive c 0x13 (leBytes 4 t ++ leBytes 4 offset ++ [byte (b2n last), 0#8, 0#8, 0#8] ++ bytes))

/-- SEG_CANCEL (R368). -/
def execSegCancel (c : LopCtx) (t : Nat) (s : State) : Host.Outcome State Fault Refusal := .next (s.arrive c 0x14 (leBytes 4 t))

/-- SESSION_OPEN (R371). -/
def execSessionOpen (c : LopCtx) (level : Nat) (s : State) : Host.Outcome State Fault Refusal :=
  .next (s.arrive c 0x20 [byte level, 0#8, 0#8, 0#8])

/-- SESSION_PROVE (R371). -/
def execSessionProve (c : LopCtx) (mac : List Byte) (s : State) : Host.Outcome State Fault Refusal := .next (s.arrive c 0x21 mac)

/-- SESSION_CLOSE (R372). -/
def execSessionClose (c : LopCtx) (s : State) : Host.Outcome State Fault Refusal := .next (s.arrive c 0x22 [])

/-- KEEPALIVE (R363). -/
def execKeepalive (c : LopCtx) (s : State) : Host.Outcome State Fault Refusal := .next (s.arrive c 0x23 [])

/-- MODE_REQUEST (R345): a WRITE of RequestedMode. -/
def execModeRequest (c : LopCtx) (v : Nat) (s : State) : Host.Outcome State Fault Refusal :=
  .next (s.arrive c 0x02 (leBytes 2 0x1200 ++ [0#8, 0#8, byte v]))

/-- IMAGE_ACTIVATE (R454): a WRITE of TRUE to ImageActivate. -/
def execImageActivate (c : LopCtx) (s : State) : Host.Outcome State Fault Refusal :=
  .next (s.arrive c 0x02 (leBytes 2 0x1022 ++ [2#8, 0#8, 1#8]))

/-- IMAGE_CONFIRM (R452): a WRITE of TRUE to ImageConfirm. -/
def execImageConfirm (c : LopCtx) (s : State) : Host.Outcome State Fault Refusal :=
  .next (s.arrive c 0x02 (leBytes 2 0x1022 ++ [3#8, 0#8, 1#8]))

/-- ROLLBACK_ADVANCE (R449): a WRITE of RollbackAdvance. -/
def execRollbackAdvance (c : LopCtx) (v : Nat) (s : State) : Host.Outcome State Fault Refusal :=
  .next (s.arrive c 0x02 (leBytes 2 0x1022 ++ [5#8, 0#8] ++ leBytes 2 v))

/-- STORE_NOW (R380): the write of TRUE to StoreNow has been served. -/
def execStoreNow (s : State) : Host.Outcome State Fault Refusal := .next (if s.lopFree then s.askStore else s)

/-! ## Timeouts and late answers -/

/-- TRANSFER_TIMEOUT (R368). -/
def execTransferTimeout (t : Nat) (s : State) : Host.Outcome State Fault Refusal :=
  .next (match Tbl.find? s.lop.transfers t with
    | some x => if s.coreUp 1 && s.transferExpired x then s.dropTransfer t else s
    | none => s)

/-- SESSION_TIMEOUT (R372). -/
def execSessionTimeout (id : Nat) (s : State) : Host.Outcome State Fault Refusal :=
  .next (match Tbl.find? s.lop.sessions id with
    | some x => if s.coreUp 1 && s.sessionExpired x then s.closeSession id else s
    | none => s)

/-- COEFFICIENT_SET_LOADED (R137): the set is in the store of every gallery in service, and its write completes. -/
def execCoefficientSetLoaded (s : State) : Host.Outcome State Fault Refusal :=
  .next (match s.gal.coefPending with
    | [] => s
    | (_, r) :: rest =>
      if !s.coreUp 1 then s
      else
        let sets := s.loadedSets
        let s := s.forEach s.galsInService (fun s g => s.modGallery g (fun x => { x with coefLoaded := sets }))
        State.complete { s with gal := { s.gal with coefPending := rest } } r abOk)

/-- A forwarded request has its answer from the member it went to. -/
def State.forwardAnswered (s : State) (r : List Byte) : State :=
  match s.lop.forwards.find? (fun f => f.ctx.session == getLE r 4 4 && f.ctx.requestId == getLE r 8 2) with
  | none => s
  | some f =>
    let s := { s with lop := { s.lop with forwards := s.lop.forwards.erase f } }
    s.reply f.ctx f.code (getLE r 12 4) (lopPayload r)

/-- LOP_FORWARD_RESPONSE (R375). -/
def execLopForwardResponse (response : List Byte) (s : State) : Host.Outcome State Fault Refusal :=
  .next (if s.lopFree && s.fabricUp then s.forwardAnswered response else s)

/-- FORWARD_TIMEOUT (R375): the outcome is unknown, so that the answer is not kept: a repeat asks again. -/
def execForwardTimeout (rid : Nat) (s : State) : Host.Outcome State Fault Refusal :=
  .next (match s.lop.forwards.find? (fun f => f.ctx.requestId == rid && decide (f.sentAt + 100000000 ≤ s.now)) with
    | none => s
    | some f =>
      if !s.lopFree then s
      else
        let s := { s with lop := { s.lop with forwards := s.lop.forwards.erase f } }
        s.respond f.ctx f.code f.ctx.generation abForwardTimeout [] false)

/-! ## DTLS (R373) -/

/-- Sessions bound to an association. -/
def State.sessionsOn (s : State) (assoc : Nat) : List Nat :=
  (s.lop.sessions.filter (fun p => match p.2.via with | .ethernet _ _ (some a) => a == assoc | _ => false)).map (fun p => p.1)

/-- DTLS_HANDSHAKE (R373): up to 8 associations, with a client certificate where LopClientAuth asks for one; the end of one
closes its sessions (R372). -/
def execDtlsHandshake (ev : DtlsEvent) (s : State) : Host.Outcome State Fault Refusal :=
  .next (if !s.lopFree || s.cfg 0x1410 1 == 0 then s
    else match ev with
      | .established assoc ip port certOk =>
        if decide (8 ≤ s.lop.assocs.length) || s.lop.assocs.any (fun x => x.1 == assoc) || (s.cfgBool 0x1420 2 && !certOk) then s
        else { s with lop := { s.lop with assocs := s.lop.assocs ++ [(assoc, ip, port)] }, fab := { s.fab with ethLink := true } }
      | .ended assoc =>
        let ids := s.sessionsOn assoc
        let s := { s with lop := { s.lop with assocs := s.lop.assocs.filter (fun x => x.1 != assoc) } }
        s.forEach ids (fun s i => s.closeSession i))

end Sys2Proof.Machine
end

