-- ==== Sys2Proof/Machine/Streams.lean ====
section
/-!
DEFINITION. Remote sources (R314 to R318): the registry's messages, subscription, and the sending and receiving of stream
frames.
-/

namespace Sys2Proof.Machine

/-! ## The registry (R36, R60, R323) -/

/-- The message that refuses a forwarded registration or withdrawal: SOURCE_ID and the status (DESIGN CHOICE, log entry 10). -/
def refusalMessage (id : Nat) (st : Status) : List Byte := leBytes 2 id ++ [byte st.code]

/-- The status of a code of R252. -/
def statusOfCode (n : Nat) : Status :=
  match n with
  | 0x00 => .ok | 0x01 => .bounds | 0x02 => .state | 0x03 => .format | 0x04 => .version | 0x05 => .infeasible
  | 0x06 => .overlapRotate | 0x07 => .privilege | 0x08 => .busError | 0x09 => .aborted | 0x0A => .timeout
  | 0x0B => .retired | 0x0C => .size | 0x0D => .late | _ => .staleSource

/-- Finish the commands of SCENE rings that wait for a member's answer and that `p` picks out. -/
def State.finishWaiting (s : State) (p : Exec → Bool) (st : Status) : State :=
  { s with que := { s.que with rings := Tbl.mapVals s.que.rings (fun _ r => { r with inflight := r.inflight.map (fun e =>
      if e.phase = .running ∧ p e then { e with phase := .finished st 0 } else e) }) } }

/-- The identity a REGISTER_SOURCE or WITHDRAW_SOURCE entry names. -/
def Exec.registryId (e : Exec) : Nat := if e.opcode = 0x20 then recordId (e.unitBytes 1) else getLE e.body 8 2

/-- A registration arrives: at its home device it is judged, entered and distributed; elsewhere the home device's word is
entered, and the command that asked for it completes. -/
def State.takeRegistration (s : State) (sender : Nat) (b : List Byte) : State :=
  let home := (Reg.ofBytes b).home
  if home = s.ownAddress then
    match s.regCheck b with
    | some st => (if st = .bounds then s.countBounds else s).sendTo sender msgRegistry (refusalMessage (recordId b) st)
    | none => (s.install b).distribute b
  else if home = sender then
    (s.install b).finishWaiting (fun e => e.opcode == 0x20 && (e.unitBytes 1).take 80 == b) .ok
  else s

/-- A withdrawal arrives: at the home device it is executed and distributed; elsewhere the home device's word is carried out. -/
def State.takeWithdrawal (s : State) (sender id : Nat) : State :=
  match s.source? id with
  | none => s.sendTo sender msgRegistry (refusalMessage id .state)
  | some x =>
    if x.reg.home = s.ownAddress then
      (if x.withdrawn then s.sendTo sender msgRegistry (refusalMessage id .state)
      else (s.withdrawHere id).distribute (withdrawMessage id))
    else if x.reg.home = sender then s.withdrawHere id
    else s

/-- REGISTRY (R36, R60): a forwarded or distributed registration, a withdrawal, or a refusal of either. -/
def execRegistry (m : Msg) (s : State) : Host.Outcome State Fault Refusal :=
  let id := getLE m.payload 0 2
  .next (if !s.coreUp 1 || s.sys.mode == .reset || s.sys.mode == .boot then s
    else if m.payload.length = 80 then s.takeRegistration m.sender m.payload
    else if m.payload.length = 3 then
      s.finishWaiting (fun e => (e.opcode == 0x20 || e.opcode == 0x21) && e.registryId == id) (statusOfCode (getLE m.payload 2 1))
    else if m.payload.length = 2 then s.takeWithdrawal m.sender id
    else s)

/-! ## Subscription (R314, R318) -/

/-- SUBSCRIBE (R314, R318): the home device adds the subscriber to the source's tree and sends the current buffer with its
record at once. -/
def execSubscribe (m : Msg) (s : State) : Host.Outcome State Fault Refusal :=
  let id := getLE m.payload 0 2
  .next (if !s.coreUp 1 then s
    else match s.source? id with
      | none => s
      | some x =>
        if x.reg.home ≠ s.ownAddress ∨ x.withdrawn then s
        else
          let subs := insertSorted m.sender (Tbl.get [] s.fab.subs id)
          let s := { s with fab := { s.fab with subs := Tbl.set s.fab.subs id subs } }
          match x.cur with
          | none => s
          | some b => let y := Tbl.get Buf.reset x.bufs b; s.egress id b (pubBytes id b y.crc y.stamp))

/-- UNSUBSCRIBE (R314). -/
def execUnsubscribe (m : Msg) (s : State) : Host.Outcome State Fault Refusal :=
  let id := getLE m.payload 0 2
  .next (if !s.coreUp 1 then s
    else
      let subs := (Tbl.get [] s.fab.subs id).filter (fun a => a != m.sender.val)
      { s with fab := { s.fab with subs := if subs.isEmpty then Tbl.erase s.fab.subs id else Tbl.set s.fab.subs id subs } })

/-! ## Receiving (R317) -/

/-- The bytes of a replica in the order of the content: lines without padding, chroma, then the palette (R315). -/
def Reg.replicaRuns (r : Reg) (a : Nat) : List (Nat × Nat) :=
  r.lineRuns a ++ (if r.format = fmtIndex8 then [(a + r.replicaPlanes, 1024)] else [])

/-- Write content bytes from an offset of the content on. -/
def State.writeRuns (s : State) (runs : List (Nat × Nat)) (off : Nat) (l : List Byte) : State :=
  match runs with
  | [] => s
  | (a, n) :: rest =>
    if l.isEmpty then s
    else if n ≤ off then s.writeRuns rest (off - n) l
    else (s.devWrite (a + off) (l.take (n - off))).writeRuns rest 0 (l.drop (n - off))

/-- A replica buffer that is neither current nor held, nor named by a frame that waits for admission (R317). -/
def State.freeReplica (s : State) (id : Nat) (x : Source) : Option Nat :=
  let waits (b : Nat) : Bool := s.src.arrivals.any (fun p => p.path == .stream && pubId p.raw == id && pubBuffer p.raw == b)
  [0, 1, 2].find? (fun b => x.cur != some b && !(s.holds id).contains b && !waits b)

/-- STREAM_START (R315, R317): a subscriber takes a free replica buffer; a frame not complete by now, or one that finds no
buffer, is discarded. -/
def execStreamStart (tree : Fin 8192) (m : Msg) (s : State) : Host.Outcome State Fault Refusal :=
  let id := tree.val
  .next (match s.source? id with
    | none => s
    | some x =>
      if !s.fab.subscribed.contains id || x.withdrawn || x.reg.home = s.ownAddress then s
      else
        let s := match Tbl.find? s.fab.rx id with
          | some r => if r.buffer.isSome then s.discardFrame else s
          | none => s
        let b := s.freeReplica id x
        let rx : Rx := { pub := m.payload.take 16, length := getLE m.payload 16 4, seq := getLE m.payload 20 4, buffer := b,
                         got := 0, crcReg := crcInit }
        let s := { s with fab := { s.fab with rx := Tbl.set s.fab.rx id rx } }
        if b.isNone then s.discardFrame else s)

/-- A complete frame is checked and handed to the source table, naming its replica buffer, or discarded (R317). -/
def State.endFrame (s : State) (id : Nat) (x : Source) (r : Rx) (b : Nat) : State :=
  let s := { s with fab := { s.fab with rx := Tbl.erase s.fab.rx id } }
  let whole := r.length == ((x.reg.replicaRuns 0).map (fun p => p.2)).sum
  let checked := s.ilelleGen == 2 && pubCrcValid r.pub
  if !whole || pubId r.pub != id || (checked && crcFinal r.crcReg != pubCrc r.pub) then s.discardFrame
  else
    let raw := pubBytes id b (if checked then some (pubCrc r.pub) else none) (pubStamp r.pub)
    { s with src := { s.src with arrivals := s.src.arrivals ++ [({ raw := raw, path := .stream, at_ := s.now } : Pub)] } }

/-- STREAM_DATA (R315, R317): the next 228 content bytes; on the last flit the frame is checked. A flit of another frame
sequence is no part of the frame. -/
def execStreamData (tree : Fin 8192) (m : Msg) (s : State) : Host.Outcome State Fault Refusal :=
  let id := tree.val
  .next (match Tbl.find? s.fab.rx id, s.source? id with
    | some r, some x =>
      if getLE m.payload 0 4 ≠ r.seq then s
      else match r.buffer with
        | none => s
        | some b =>
          let l := ((m.payload.drop 4).take 228).take (r.length - r.got)
          let s := s.writeRuns (x.reg.replicaRuns (x.replicas.getD b 0)) r.got l
          let r := { r with got := r.got + l.length, crcReg := crcUpdate r.crcReg l }
          if r.got = r.length then s.endFrame id x r b
          else { s with fab := { s.fab with rx := Tbl.set s.fab.rx id r } }
    | _, _ => s)

/-! ## Sending (R316) -/

/-- STREAM_FRAME_SENT (R316): the last flit of a frame has left; its buffer is held no more, and the newest publication that
waited goes next. -/
def execStreamFrameSent (i : Fin 8192) (s : State) : Host.Outcome State Fault Refusal :=
  let id := i.val
  .next (match Tbl.find? s.fab.tx id with
    | none => s
    | some t =>
      if s.fab.ports.any (fun p => p.2.waiting.any (fun f => isStreamFlit id f)) then s
      else
        let s := { s with fab := { s.fab with tx := Tbl.erase s.fab.tx id } }
        match t.next with
        | some (b, pub) => s.startFrame id b pub
        | none => s)

end Sys2Proof.Machine
end

