-- ==== Sys2Proof/Machine/Links.lean ====
section
/-!
DEFINITION. The Ilelle links and wall time: bring-up, the link layer, the routers, routes that change, and the exchanges that
discipline the wall-time counter (R26, R298 to R313, R437). The payloads of IDENT, TIME_SYNC and ROUTE_UPDATE are laid out in
the order in which R304, R312 and R323 name their fields (DESIGN CHOICE, log entry 48).
-/

namespace Sys2Proof.Machine

/-! ## Sending (R300, R306) -/

/-- LINKSTATE (R335). -/
def PState.code (x : PState) : Nat :=
  match x with | .down => 0 | .training => 1 | .genZero => 2 | .up => 3 | .retired => 4

/-- A link on which messages pass: from IDENT on. -/
def Port.talks (x : Port) : Bool :=
  x.state == .up || x.state == .genZero || (x.state == .training && decide (4 ≤ x.step ∧ x.step ≤ 6))

/-- LINK_STATUS of R306. -/
def Port.statusBytes (x : Port) (p : Nat) : List Byte :=
  [byte x.state.code, byte x.gen, byte x.inService.length, byte x.hold, 1#8, 2#8] ++ leBytes 2 p ++ leBytes 4 (maskOf x.laneRet)
    ++ leBytes 4 x.burstsUp ++ leBytes 216 0

/-- Send LINK_STATUS on a port. -/
def State.sendStatus (s : State) (p : Nat) : State :=
  if !(s.port p).talks then s
  else
    let s := s.sendNeighbour p msgLinkStatus vcMaint ((s.port p).statusBytes p)
    s.modPort p (fun x => { x with statusAt := s.now })

/-- IDENT of R304: DomainId, address, TorusX, TorusY, the generations offered, silicon revision, port. -/
def State.identBytes (s : State) (p : Nat) : List Byte :=
  leBytes 4 (s.cfg 0x6000 1) ++ leBytes 2 s.ownAddress ++ [byte s.torusX, byte s.torusY, 1#8, 2#8, byte (s.cfg 0x1002 0), byte p]

/-- ROUTE_UPDATE: the link's two ends, and whether it failed (0) or came back (1). -/
def routeBytes (a p b q restored : Nat) : List Byte :=
  leBytes 2 a ++ [byte p, byte restored] ++ leBytes 2 b ++ [byte q]

/-! ## Routes (R310) -/

/-- A link's state becomes known: routes are computed anew and the news goes on to the neighbours on every other port. News
that is known already goes no further. -/
def State.noteRoute (s : State) (a p : Nat) (restored : Bool) (except : Option Nat) : State :=
  let b := neighbourOf s.torusX s.torusY a p
  let q := portBack p
  let known := s.fab.failed.contains (a, p) || s.fab.failed.contains (b, q)
  if known != restored then s
  else
    let rest := s.fab.failed.filter (fun x => x != (a, p) && x != (b, q))
    let failed := if restored then rest else (a, p) :: rest
    let s := { s with fab := { s.fab with failed := failed, routeChg := satInc 32 s.fab.routeChg } }
    let s := s.raise .routeChanged
    s.forEach ((List.range 4).filter (fun n => some n != except && (s.port n).state == .up)) (fun s n =>
      s.sendNeighbour n msgRouteUpdate vcControl (routeBytes a p b q (b2n restored)))

/-! ## Bring-up (R303 to R305) -/

/-- A port at rest: no link, nothing waiting, sequence numbers from the start. -/
def Port.rest (x : Port) : Port :=
  { x with state := .down, step := 0, inService := [], gen := 0, hold := 0, neighbour := 0, lastBurst := none, txSeq := 0,
           rxSeq := 65535, replayBuf := [], waiting := [], discarding := false, sameFails := 0, peer := [], retryAt := none }

/-- Step 1 ends and step 2 begins: receivers are detected on some lanes in service. -/
def State.startBringUp (s : State) (p : Nat) (receivers : List Nat) : State :=
  let x := s.port p
  let lanes := sortDedup (receivers.filter (fun l => !x.laneRet.contains l))
  if lanes.isEmpty then s
  else s.setPort p { x with state := .training, step := 2, stepAt := s.now, retryAt := none, inService := lanes, burstsUp := 0 }

/-- A port that may begin: the fabric runs, and it is enabled, connected, not retired and down. -/
def State.mayBringUp (s : State) (p : Nat) : Bool :=
  let x := s.port p
  s.fabricUp && s.portWired p && x.enable && !x.retired && x.state == .down

/-- BRING_UP_START (R303). -/
def execBringUpStart (p : Fin 4) (receivers : List (Fin 4)) (s : State) : Host.Outcome State Fault Refusal :=
  .next (if s.mayBringUp p && (s.port p).retryAt.isNone then s.startBringUp p (receivers.map (fun l => l.val)) else s)

/-- BRING_UP_RETRY (R303): 100 ms after a failure. -/
def execBringUpRetry (p : Fin 4) (receivers : List (Fin 4)) (s : State) : Host.Outcome State Fault Refusal :=
  .next (if s.mayBringUp p && (s.port p).retryAt.elim false (fun t => decide (t ≤ s.now)) then
      State.startBringUp (s.modPort p (fun x => { x with retryAt := none })) p (receivers.map (fun l => l.val))
    else s)

/-- A step of bring-up fails: the port waits 100 ms. -/
def State.failBringUp (s : State) (p : Nat) : State :=
  s.modPort p (fun x => { x.rest with retrains := satInc 16 x.retrains, retryAt := some (s.now + 100000000) })

/-- The link of a port is lost: it goes down, what it held is lost, and where it carried routes they change (R301, R310). -/
def State.loseLink (s : State) (p : Nat) : State :=
  let x := s.port p
  let wasUp := x.state == .up || (x.step == 7 && x.gen != 0)
  let s := s.setPort p { x.rest with retrains := satInc 16 x.retrains, downAt := if wasUp then s.now else x.downAt }
  if !wasUp then s else ((s.raiseNum (evIll p 1)).noteRoute s.ownAddress p false none).noteDomainState

/-- A port holds a link that can be lost. -/
def Port.linked (x : Port) : Bool := x.state == .up || x.state == .genZero || x.step == 7

/-- LINK_DOWN (R310). -/
def execLinkDown (p : Fin 4) (s : State) : Host.Outcome State Fault Refusal :=
  .next (if (s.port p).linked then s.loseLink p else s)

/-- The time limit of a step of bring-up, and of a retrain (R302, R303). -/
def stepLimit (n : Nat) : Nat := if n = 2 then 20000000 else if n = 7 then 2000000 else 10000000

/-- BRING_UP_TIMEOUT (R303). -/
def execBringUpTimeout (p : Fin 4) (s : State) : Host.Outcome State Fault Refusal :=
  let x := s.port p
  .next (if x.step < 2 || decide (s.now < x.stepAt + stepLimit x.step) then s
    else if x.step = 7 then s.loseLink p
    else s.failBringUp p)

/-- Let flits that wait enter the replay buffer while it has room. -/
def State.sendWaiting (s : State) (p : Nat) : State :=
  let w := (s.port p).waiting
  (s.modPort p (fun x => { x with waiting := [] })).forEach w (fun s f => s.sendFlit p f)

/-- BLOCK_ALIGNMENT (R303): steps 2 and 3 end; with at least 2 lanes the port sends IDENT. A port that retrained on fewer lanes
goes on where it was, and the flits that waited leave (R302). -/
def execBlockAlignment (p : Fin 4) (lanes : List (Fin 4)) (s : State) : Host.Outcome State Fault Refusal :=
  let x := s.port p
  let got := x.inService.filter (fun l => (lanes.map (fun n => n.val)).contains l)
  .next (if x.step = 7 then
      (if got.length < 2 then s.loseLink p
      else
        let s := s.setPort p { x with step := 0, state := if x.gen = 0 then .genZero else .up, inService := got }
        (s.sendWaiting p).sendStatus p)
    else if x.step ≠ 2 then s
    else if got.length < 2 then s.failBringUp p
    else
      let s := s.setPort p { x with step := 4, stepAt := s.now, inService := got }
      s.sendNeighbour p msgIdent vcMaint (s.identBytes p))

/-- What an IDENT says against the configuration of this end (R304, R305): HOLD_REASON, and the generation in common. -/
def State.judgeIdent (s : State) (p : Nat) (b : List Byte) : Nat × Nat :=
  let top := Nat.min 2 (getLE b 9 1)
  let expected := neighbourOf s.torusX s.torusY s.ownAddress p
  if getLE b 0 4 ≠ s.cfg 0x6000 1 then (1, 0)
  else if getLE b 6 1 ≠ s.torusX ∨ getLE b 7 1 ≠ s.torusY ∨ getLE b 4 2 ≠ expected ∨ getLE b 11 1 ≠ portBack p then (2, 0)
  else if top = 0 ∨ top < getLE b 8 1 then (3, 0)
  else (0, top)

/-- IDENT (R304, R305): the neighbour is compared with the cabling expected, the generation is settled, and LINK_STATUS is
sent. A link that is held, or has no generation in common, stays at generation 0. -/
def execIdent (m : Msg) (s : State) : Host.Outcome State Fault Refusal :=
  let p := m.port.val
  let x := s.port p
  .next (if !s.fabricUp || x.step ≠ 4 then s
    else
      let r := s.judgeIdent p m.payload
      let x := { x with neighbour := getLE m.payload 4 2 % 4096, hold := r.1, gen := r.2 }
      if r.1 ≠ 0 then
        let s := s.setPort p { x with state := .genZero, step := 0 }
        let s := if r.1 = 1 then s.raise .fabricForeign else if r.1 = 2 then s.raise .fabricMiscabled else s
        s.sendStatus p
      else (s.setPort p { x with step := 6, stepAt := s.now }).sendStatus p)

/-- LINK_STATUS (R306): the latest of each port is recorded, and nothing else is done. -/
def execLinkStatus (m : Msg) (s : State) : Host.Outcome State Fault Refusal :=
  .next (if (s.port m.port).talks then s.modPort m.port (fun x => { x with peer := padTo 0#8 16 m.payload }) else s)

/-- LINK_STATUS_TICK (R306): every 100 ms while a link is not DOWN. -/
def execLinkStatusTick (s : State) : Host.Outcome State Fault Refusal :=
  .next (s.forEach (List.range 4) (fun s p =>
    if s.fabricUp && decide ((s.port p).statusAt + 100000000 ≤ s.now) then s.sendStatus p else s))

/-- ROUTE_UPDATE (R310). -/
def execRouteUpdate (m : Msg) (s : State) : Host.Outcome State Fault Refusal :=
  .next (if s.fabricUp then
      s.noteRoute (getLE m.payload 0 2 % 4096) (getLE m.payload 2 1 % 4) (getLE m.payload 3 1 == 1) (some m.port.val)
    else s)

/-- A write of 1 to PORTREENABLE (R302, R335): retired lanes and the port return to service, and it retrains. -/
def State.portReenable (s : State) (p : Nat) : State :=
  let s := if (s.port p).linked then s.loseLink p else s
  s.modPort p (fun x => { x.rest with laneRet := [], retired := false, bursts := [] })

/-- PORTREENABLE (R302): PF1 has no access to the fabric's registers. -/
def execPortReenable (fn : Fn) (p : Fin 4) (s : State) : Host.Outcome State Fault Refusal :=
  .next (if !s.hostUp fn then s
    else if fn = .pf1 then s.privIgnore (0xC0_0004 + 0x1000 * p.val)
    else s.portReenable p)

/-! ## Wall time (R26, R311 to R313) -/

/-- The wall-time counter with its fraction, in units of 2^−32 ns. -/
def State.wallFine (s : State) : Int := ((s.sys.wall * 2 ^ 32 + s.sys.frac : Nat) : Int)

/-- Set the counter from such a number. -/
def State.setWallFine (s : State) (v : Int) : State :=
  let n := ofSigned 96 v
  { s with sys := { s.sys with wall := n / 2 ^ 32, frac := n % 2 ^ 32 } }

/-- One TIME clock: 4 ns, adjusted by the rate term; the counter stands until reset is released (R26, R441). -/
def State.tick (s : State) : State :=
  if s.sys.mode = .reset then s else s.setWallFine (s.wallFine + 4 * 2 ^ 32 + s.sys.rate)

/-- A rate in parts per million of the nominal 4 ns, in units of the rate term. -/
def ppm (n : Int) : Int := roundDiv (n * 4 * 2 ^ 32) 1000000

/-- The rate term that the discipline sets is not stated; it is a free value within a bound (log entry 2). -/
def State.steerRate (s : State) (bound : Int) : State :=
  let (n, s) := s.draw
  { s with sys := { s.sys with rate := clampI (Config.signed n) (-bound) bound } }

/-- Heads that follow wall time acquire it again after a step (R158, R313). -/
def State.reacquire (s : State) : State :=
  s.forEach (List.range 16) (fun s h => s.modHead h (fun x =>
    if x.lock = .free then x else { x with lock := .acquiring, goodFrames := 0 }))

/-- Some head shows content or a card. -/
def State.headsShow (s : State) : Bool :=
  (List.range 16).any (fun h => let x := (s.head h).state; x == .active || x == .safe || x == .halted)

/-- A child's exchange with its parent: `two` is twice the offset, in units of 31.25 ps (R312, R313). -/
def State.followParent (s : State) (two : Int) : State :=
  let off := ofSigned 32 (satSigned 32 (two * 125 / 8))
  let s := { s with fab := { s.fab with timeOffset := toSigned 32 off } }
  let size := two.natAbs
  let good := if size ≤ 320 then Nat.min 16 (s.fab.goodSyncs + 1) else 0
  let s := { s with fab := { s.fab with goodSyncs := good } }
  let s := if s.fab.timeState = 2 ∧ 3200 < size then s.setTimeState 1 else s
  if s.sys.refLost then s
  else if s.fab.timeState = 1 ∧ 64000 < size then
    if s.headsShow then
      { s with sys := { s.sys with rate := if 0 < two then -(ppm 100) else ppm 100 }, fab := { s.fab with slewing := true } }
    else (s.setWallFine (s.wallFine - two * 2 ^ 26)).reacquire
  else
    let s := (s.setWallFine (s.wallFine - two * 2 ^ 26)).steerRate (2 ^ 31 - 1)
    let s := { s with fab := { s.fab with slewing := false } }
    if s.fab.timeState = 1 ∧ good = 16 then s.setTimeState 2 else s

/-- The link's first exchange is complete: it is UP, and routes that did without it return (R303, R310). -/
def State.linkUp (s : State) (p : Nat) : State :=
  let s := (s.modPort p (fun x => { x with state := .up, step := 0 })).raiseNum (evIll p 0)
  ((s.noteRoute s.ownAddress p true none).sendStatus p).noteDomainState

/-- A TIME_SYNC exchange on a port is complete. Timestamps are in units of 31.25 ps. -/
def State.timeExchange (s : State) (p t1 t2 t3 t4 : Nat) : State :=
  let x := s.port p
  if !s.fabricUp || !(x.state == .up || x.step == 6) then s
  else
    let trip : Int := ((t4 : Int) - t1) - ((t3 : Int) - t2)
    let two : Int := ((t4 : Int) - t3) - ((t2 : Int) - t1)
    let s := s.setPort p { x with delay := sat 32 (trip * 125 / 8).toNat, syncAt := s.now }
    let s := if x.step = 6 then s.linkUp p else s
    if s.routePort s.fab.timeRoot = some p ∧ s.fab.timeState ≠ 3 ∧ s.fab.timeState ≠ 0 then s.followParent two else s

/-- TIME_SYNC (R312). -/
def execTimeSync (p : Fin 4) (t1 t2 t3 t4 : Nat) (s : State) : Host.Outcome State Fault Refusal := .next (s.timeExchange p t1 t2 t3 t4)

/-- The counter in units of 31.25 ps, as a timestamp. -/
def State.stamp32 (s : State) : Nat := s.sys.wall * 32 + s.sys.frac / 2 ^ 27

/-- A TIME_SYNC message arrives: a request carries t1 and is answered with t1, t2 and t3; an answer completes the exchange. -/
def State.timeMessage (s : State) (p : Nat) (b : List Byte) : State :=
  let t := leBytes 12 s.stamp32
  if b.length = 12 then s.sendNeighbour p msgTimeSync vcControl (b ++ t ++ t)
  else if b.length = 36 then s.timeExchange p (getLE b 0 12) (getLE b 12 12) (getLE b 24 12) s.stamp32
  else s

/-- TIME_SYNC_TICK (R312): every 1 ms each UP link, and a link at the last step of bring-up, starts an exchange. -/
def execTimeSyncTick (s : State) : Host.Outcome State Fault Refusal :=
  .next (s.forEach (List.range 4) (fun s p =>
    let x := s.port p
    if s.fabricUp && ((x.state == .up && decide (x.syncAt + 1000000 ≤ s.now)) || x.step == 6) then
      s.sendNeighbour p msgTimeSync vcControl (leBytes 12 s.stamp32)
    else s))

/-- TIME_SYNC_TIMEOUT (R313): 10 ms without an exchange. -/
def execTimeSyncTimeout (s : State) : Host.Outcome State Fault Refusal :=
  let last := match s.routePort s.fab.timeRoot with
    | some p => (s.port p).syncAt
    | none => (List.range 4).foldl (fun m p => Nat.max m (s.port p).syncAt) 0
  .next (if s.fabricUp && s.fab.timeState == 2 && decide (last + 10000000 ≤ s.now) then
      State.setTimeState { s with fab := { s.fab with goodSyncs := 0 } } 1
    else s)

/-- This member's reference speaks: the time root follows it, by no more than 10 ppm (R311). -/
def State.followReference (s : State) : State :=
  if s.fab.timeState = 3 ∧ !s.sys.refLost then s.steerRate (ppm 10) else s

/-- PPS_EDGE (R311): a rising edge on PPS_IN; one more than 100 ppm from 1 s after the previous edge is ignored (R491). -/
def execPpsEdge (s : State) : Host.Outcome State Fault Refusal :=
  let t := s.now
  .next (if !s.fabricUp then s
    else match s.fab.ppsLast with
      | none => { s with fab := { s.fab with ppsLast := some t } }
      | some u =>
        let s := { s with fab := { s.fab with ppsLast := some t } }
        if t < u + 999900000 ∨ u + 1000100000 < t then s
        else
          let s := { s with fab := { s.fab with ppsValid := true } }
          if s.fab.ptpTai then s.followReference else s)

/-- PTP_MESSAGE (R311, R381): a slave-only ordinary clock; without PtpEnable messages change nothing. -/
def execPtpMessage (ev : PtpEvent) (s : State) : Host.Outcome State Fault Refusal :=
  .next (if !s.fabricUp then s
    else if !s.cfgBool 0x1430 1 then { s with fab := { s.fab with ptpState := 0, ptpTai := false } }
    else
      let s := { s with fab := { s.fab with ethLink := true } }
      match ev with
      | .announce => { s with fab := { s.fab with ptpTai := true, ptpState := if s.fab.ptpState = 2 then 2 else 1 } }
      | .sync _ => State.followReference { s with fab := { s.fab with ptpState := 2, ptpTai := true } }
      | .lost => { s with fab := { s.fab with ptpState := if s.fab.ptpState = 0 then 1 else 3 } })

/-! ## The link layer (R300 to R302) -/

/-- The lanes a failed flit counts against: those whose LANECHK failed, or every lane in service when only its CRC did. -/
def Port.badLanes (x : Port) (b : List Byte) : List Nat :=
  let n := x.inService.length
  let got := (b.drop 0xF8).take 4
  let want := laneChecks n (b.take 0xF8)
  let bad := (List.range n).filter (fun l => got.getD l 0#8 != want.getD l 0#8)
  (if bad.isEmpty then List.range n else bad).filterMap (fun l => x.inService[l]?)

/-- A flit that is intact: CRC and LANECHK hold. -/
def Port.intact (x : Port) (b : List Byte) : Bool :=
  b.length == 256 && getLE b 0xFC 4 == crc32c (b.take 0xFC) && (b.drop 0xF8).take 4 == laneChecks x.inService.length (b.take 0xF8)

/-- Count a burst: failed flits within 1 µs are one (R302). -/
def Port.countBurst (x : Port) (now : Nat) (lanes : List Nat) : Port :=
  let same := x.lastBurst.elim false (fun t => decide (now ≤ t + 1000))
  let start := if same then x.lastBurst.getD now else now
  let add (b : Tbl (List Nat)) (l : Nat) : Tbl (List Nat) :=
    Tbl.modify [] b l (fun ts =>
      let ts := ts.filter (fun t => decide (now < t + 10000000000))
      if ts.contains start then ts else ts ++ [start])
  { x with lastBurst := some start, bursts := lanes.foldl add x.bursts,
           crcBursts := if same then x.crcBursts else satInc 16 x.crcBursts,
           burstsUp := if same then x.burstsUp else satInc 32 x.burstsUp }

/-- A port retires (R302). -/
def State.retirePort (s : State) (p : Nat) : State :=
  let s := s.loseLink p
  (s.modPort p (fun x => { x with state := .retired, retired := true })).raiseNum (evIll p 3)

/-- Lanes with eight bursts in 10 s retire; the port goes on with the rest, or retires with fewer than 2. -/
def State.retireLanes (s : State) (p : Nat) : State :=
  let x := s.port p
  let gone := x.inService.filter (fun l => decide (8 ≤ (Tbl.get [] x.bursts l).length))
  if gone.isEmpty then s
  else
    let left := x.inService.filter (fun l => !gone.contains l)
    let s := s.setPort p { x with laneRet := sortDedup (gone ++ x.laneRet), inService := left }
    let s := s.forEach gone (fun s _ => s.raiseNum (evIll p 2))
    if left.length < 2 then s.retirePort p
    else if (s.port p).linked then s.modPort p (fun x => { x with state := .training, step := 7, stepAt := s.now })
    else s.failBringUp p

/-- A failed flit: it is discarded with every later one up to the replay; after 16 failed replays of one flit the link goes
down (R301). -/
def State.failFlit (s : State) (p : Nat) (b : List Byte) : State :=
  let x := s.port p
  let again := x.discarding && getLE b 8 2 == wrapInc 16 x.rxSeq
  let x := x.countBurst s.now (x.badLanes b)
  let fails := if again then x.sameFails + 1 else x.sameFails
  let s := s.setPort p { x with discarding := true, sameFails := fails }
  if 16 ≤ fails then (if x.linked then s.loseLink p else s.failBringUp p) else s.retireLanes p

/-- The ACK of an intact flit frees the replay buffer up to it. How the other end asks for a replay is not stated: whether the
flits that stay are sent again is a free value (log entry 2). -/
def State.takeAck (s : State) (p ack : Nat) : State :=
  let x := s.port p
  let rest := match x.replayBuf.findIdx? (fun f => getLE f 8 2 == ack) with
    | some i => x.replayBuf.drop (i + 1)
    | none => x.replayBuf
  let s := s.setPort p { x with replayBuf := rest }
  let s :=
    if rest.isEmpty then s
    else
      let (n, s) := s.draw
      let k := if Config.value n % 2 = 1 then rest.length else 0
      s.modPort p (fun x => { x with replays := sat 32 (x.replays + k) })
  s.sendWaiting p

/-- An accepted flit advances the sequence and is counted; one out of sequence is discarded (R301). -/
def State.acceptFlit (s : State) (p : Nat) (b : List Byte) : State × Bool :=
  let s := (s.modPort p (fun x => { x with flitsIn := wrapInc 64 x.flitsIn })).takeAck p (getLE b 0xA 2)
  let seq := getLE b 8 2
  if seq = wrapInc 16 (s.port p).rxSeq then
    (s.modPort p (fun x => { x with rxSeq := seq, discarding := false, sameFails := 0 }), true)
  else (s, false)

/-! ## Delivery (R309, R323, R375) -/

/-- The state a meaning answers. -/
def after (o : Host.Outcome State Fault Refusal) (s : State) : State := match o with | .next t => t | _ => s

/-- A fragment of a forwarded LOP message: they come in order on one path; the last completes the message, a request or the
answer to one (R375). -/
def State.lopFragment (s : State) (sender : Nat) (b : List Byte) : State :=
  let k := getLE b 0 2
  let have_ := (s.lop.fragments.filter (fun f => f.1 == sender)).map (fun f => f.2.2)
  let others := s.lop.fragments.filter (fun f => f.1 != sender)
  let have_ := if k = 0 then [] else have_
  if have_.length ≠ k then { s with lop := { s.lop with fragments := others } }
  else
    let mine := have_ ++ [b.drop 8]
    if mine.length < getLE b 2 2 then
      { s with lop := { s.lop with fragments := others ++ (mine.zip (List.range mine.length)).map (fun f => (sender, f.2, f.1)) } }
    else
      let s := { s with lop := { s.lop with fragments := others } }
      let m := mine.flatten
      if !s.lopFree || !s.fabricUp then s
      else if bit (lopService m) 7 then s.forwardAnswered m
      else s.serveMessage (.fabric sender (getLE b 4 1)) m

/-- A message delivered to this member acts as its own row says. -/
def State.deliver (s : State) (port : Fin 4) (tree type : Nat) (sender : Fin 4096) (b : List Byte) : State :=
  let m : Msg := { port := port, sender := sender, payload := b }
  let id : Fin 8192 := Fin.ofNat 8192 tree
  if type = msgIdent then after (execIdent m s) s
  else if type = msgLinkStatus then after (execLinkStatus m s) s
  else if type = msgLop then s.lopFragment sender b
  else if (s.port port).state = .genZero then s
  else if type = msgTimeSync then s.timeMessage port b
  else if (s.port port).state ≠ .up then s
  else if type = msgHeartbeat then after (execHeartbeat m s) s
  else if type = msgSummary then after (execSummary m s) s
  else if type = msgRouteUpdate then after (execRouteUpdate m s) s
  else if type = msgOffer then after (execOffer m s) s
  else if type = msgPrepare then after (execPrepare m s) s
  else if type = msgAnswer then after (execAnswer m s) s
  else if type = msgDecision then after (execDecision m s) s
  else if type = msgRegistry then after (execRegistry m s) s
  else if type = msgSubscribe then after (execSubscribe m s) s
  else if type = msgUnsubscribe then after (execUnsubscribe m s) s
  else if type = msgStreamStart then after (execStreamStart id m s) s
  else if type = msgStreamData then after (execStreamData id m s) s
  else s

/-- The router (R309): a unicast flit goes to its destination, a tree flit to every port of its tree's entry and, where the
entry says so, to this member; a neighbour's flit stays here. -/
def State.routeFlit (s : State) (port : Fin 4) (b : List Byte) : State :=
  let route := getLE b 0 2
  let sender : Fin 4096 := Fin.ofNat 4096 (getLE b 2 2)
  let type := getLE b 4 1
  let payload := (b.drop 0x10).take (Nat.min 232 (getLE b 6 2))
  let body := b.take 0xF8
  match route / 0x4000 with
  | 0 =>
    let d := route % 4096
    if d = s.ownAddress then s.deliver port 0 type sender payload
    else match s.routePort d with
      | some p => s.sendFlit p body
      | none => s
  | 1 =>
    let n := route % 0x4000
    let e := if n ≤ 8193 then s.treeEntry n else 0
    let s := s.forEach ((portsOf e).filter (fun p => p != port.val)) (fun s p => s.sendFlit p (withVc body (s.streamVc p (getLE body 5 1))))
    if bit e 4 then s.deliver port (n % 8192) type sender payload else s
  | 2 => s.deliver port 0 type sender payload
  | _ => s

/-- FLIT_RECEIVE (R301): a flit arrives on a port. -/
def execFlitReceive (p : Fin 4) (bytes : List Byte) (s : State) : Host.Outcome State Fault Refusal :=
  .next (if !(s.port p).talks then s
    else if !(s.port p).intact bytes then s.failFlit p bytes
    else match s.acceptFlit p bytes with
      | (s, true) => s.routeFlit p bytes
      | (s, false) => s)

end Sys2Proof.Machine
end

