-- ==== Sys2Proof/Machine/Memory.lean ====
section
/-!
DEFINITION. Memory windows, the BAR2 aperture, the scrubber and the remap table (R211 to R231).
-/

namespace Sys2Proof.Machine

/-! ## Windows (R216 to R218) -/

/-- The condition of REJECTCODE that a window with ENABLE set meets, 0 for none; the lowest code when it meets several
(DEDUCED, log entry 26). -/
def State.rejectCode (s : State) (w : Win) : Nat :=
  let lo := w.base * 4096
  let hi := lo + w.size * 4096
  if w.size = 0 then 1
  else if w.hostspace then (if 2 ^ 63 < hi then 2 else if w.rights / 256 != 0 then 4 else 0)
  else if devSize < hi then 2
  else if s.fwBase < hi then 3
  else 0

/-- The elements that have passed a window check and still move data: entries of BLIT rings and bands in composition. -/
def State.checkedElements (s : State) : List (List Nat) :=
  s.que.rings.flatMap (fun p => if p.2.force.cls != ringBlit then [] else
      (p.2.inflight.filter (fun e => match e.phase with | .finished _ _ => false | _ => true)).map
        (fun e => [0, p.1, e.pos, e.began]))
    ++ s.heads.heads.flatMap (fun p =>
      (p.2.bands.filter (fun b => !b.finished && !b.abandon)).map (fun b => [1, p.1, b.frame, b.band]))

/-- The write of a window's register at +0x10: base and size as written come into force with its rights and ENABLE. -/
def State.writeWindow (s : State) (n v : Nat) : State :=
  let s := s.fixParity (winOffset n + 0x10)
  let w := s.win n
  let w := { w with rights := v % 4096, hostF := w.hostspace, baseF := w.base, sizeF := w.size }
  let code := if bit v 31 then s.rejectCode w else 0
  let s := { s with mem := { s.mem with winFlight := s.checkedElements } }
  let s := s.setWin n { w with enable := bit v 31 && code == 0, reject := code }
  if code = 0 then s else s.raise .windowRejected

/-- MEM_WIN_CONTROL_WRITE (R217). -/
def execMemWinControlWrite (fn : Fn) (n : Fin 512) (v : Nat) (s : State) : Host.Outcome State Fault Refusal :=
  .next (if !s.hostUp fn then s else if fn = .pf1 then s.privIgnore (winOffset n + 0x10) else s.writeWindow n v)

/-- MEM_WINSYNC (R218): PENDING is set while an element checked before the function's latest window write is still in
flight. PF1 writes no window, so nothing is pending for it. -/
def execMemWinsync (fn : Fn) (s : State) : Host.Outcome State Fault Refusal :=
  let live := s.checkedElements
  let left := s.mem.winFlight.filter (fun e => live.contains e)
  .next (if !s.hostUp fn then s else match fn with
    | .pf1 => s.answer (leBytes 4 0)
    | .pf0 => State.answer { s with mem := { s.mem with winFlight := left } } (leBytes 4 (b2n (!left.isEmpty))))

/-! ## BAR2 (R211, R215) -/

/-- APBASE as it is taken: the bits below the BAR2 size read 0 (R211). -/
def State.apertureBase (s : State) : Nat :=
  let b := s.mem.apbase * 0x1000_0000
  b - b % 2 ^ s.evc.bar2Log2

/-- The device address of a BAR2 access when its check passes: every byte under PF0 rights and below the firmware region. -/
def State.aperture (s : State) (wr : Bool) (off n : Nat) : Option Nat :=
  let a := s.apertureBase + off
  if a + n ≤ s.fwBase ∧ s.granted .priv wr a n then some a else none

/-- A failed check of a BAR2 request (R215). -/
def State.hostBounds (s : State) : State := s.countBounds.raise .hostBounds

/-- A partial write reads its block first: a block known as uncorrectable counts as such a read (R226, R229). -/
def State.partialReads (s : State) (a n : Nat) : State :=
  let ends := if n = 0 then [] else
    sortDedup ((if a % 64 = 0 ∧ 64 ≤ n then [] else [blockOf a]) ++
      (if (a + n) % 64 = 0 ∧ 64 ≤ n then [] else [blockOf (a + n - 1)]))
  s.forEach (ends.filter (fun b => s.mem.poisoned.contains b)) (fun s b => s.countUncorrectable (b * 64))

/-- BAR2_WRITE (R215). -/
def execBar2Write (off : Nat) (data : List Byte) (s : State) : Host.Outcome State Fault Refusal :=
  .next (if !s.hostUp .pf0 || decide (2 ^ s.evc.bar2Log2 < off + data.length) then s
    else match s.aperture true off data.length with
      | none => s.hostBounds
      | some a => (s.partialReads a data.length).devWrite a data)

/-- BAR2_READ (R215, R229). -/
def execBar2Read (off len : Nat) (s : State) : Host.Outcome State Fault Refusal :=
  .next (if !s.hostUp .pf0 || decide (2 ^ s.evc.bar2Log2 < off + len) then s
    else match s.aperture false off len with
      | none => s.hostBounds.answer (List.replicate len 0xFF#8)
      | some a => match s.badRead a len with
        | some e => { s.countUncorrectable e with bus := [], busEp := true }
        | none => s.answer (s.devRead a len))

/-! ## The scrubber and retirement (R227 to R230) -/

/-- When a block was last rewritten. -/
def State.rewrittenAt (s : State) (b : Nat) : Option Nat := (s.mem.rewritten.find? (fun p => p.1 == b)).map (fun p => p.2)

/-- A corrected read: it counts, marks the block for rewrite and raises MEM_CORRECTED; one that recurs within a ScrubPeriod
of the block's rewrite is permanent (R227, R228). -/
def State.correctedRead (s : State) (a : Nat) : State :=
  let b := blockOf a
  let again := match s.rewrittenAt b with
    | some t => decide (s.now < t + s.cfg 0x2202 0 * 1000000000)
    | none => false
  let s := { s with mem := { s.mem with corrected := wrapInc 64 s.mem.corrected, rewrite := insertSorted b s.mem.rewrite } }
  let s := s.raise .memCorrected
  if again then s.retireGranule (granuleOf a) else s

/-- SCRUB_PASS (R228): what the scrubber finds, block by block. -/
def execScrubPass (found : List ScrubFind) (s : State) : Host.Outcome State Fault Refusal :=
  .next (s.forEach found (fun s x => match x with
    | .corrected a => if a < devSize then s.correctedRead a else s
    | .uncorrectable a => if a < devSize then s.meetError a false else s))

/-- CORRECTED_REWRITE (R227): the scrubber writes a block's corrected data back. For a block that no earlier command marked,
the corrected read itself comes first (log entry 28). -/
def execCorrectedRewrite (addr : Nat) (s : State) : Host.Outcome State Fault Refusal :=
  let b := blockOf addr
  let s' := if s.mem.rewrite.contains b then s else s.correctedRead addr
  .next (if devSize ≤ addr then s
    else { s' with mem := { s'.mem with
             rewrite := s'.mem.rewrite.filter (fun x => x != b),
             rewritten := s'.mem.rewritten.filter (fun p => p.1 != b) ++ [(b, s'.now)] } })

/-- GRANULE_REMAP (R230): the oldest copy completes, and the remap table sends every later access to the spare. -/
def execGranuleRemap (s : State) : Host.Outcome State Fault Refusal :=
  .next (match s.mem.copying with
    | [] => s
    | c :: rest =>
      if !s.coreUp 1 then s
      else
        let s := { s with mem := { s.mem with copying := rest },
                          health := { s.health with remap := Tbl.set s.health.remap c.spare c.granule,
                                                    retiredSeq := s.health.retiredSeq ++ [c.granule] } }
        ((s.raise .memGranuleRetired).noteReplacement).healthDue)

end Sys2Proof.Machine
end

