-- ==== Sys2Proof/Machine/ReadErrors.lean ====
section
/-!
DEFINITION. UNCORRECTABLE_READ (R228, R229): a read meets an uncorrectable error that no one has met before, and its
requester does with it what the table of R229 says.
-/

namespace Sys2Proof.Machine

/-- A stream frame in transit that can be read no further is not sent; the newest publication that waits is dropped with it
only when it names the same buffer. -/
def State.dropEgress (s : State) (id : Nat) : State :=
  match Tbl.find? s.fab.tx id with
  | none => s
  | some t =>
    let s := { s with fab := { s.fab with
        tx := Tbl.erase s.fab.tx id,
        ports := Tbl.mapVals s.fab.ports (fun _ p => { p with waiting := p.waiting.filter (fun f => !isStreamFlit id f) }) } }
    let s := s.cancelBuffer id t.buffer
    match t.next with
    | some (b, pub) => if b = t.buffer then s else s.startFrame id b pub
    | none => s

/-- The command in execution on a ring, which has not begun to act, completes with BUS_ERROR (R229). -/
def State.commandReadFails (s : State) (q : Nat) : State :=
  match (s.ring q).current? with
  | some e => if e.phase = .waiting ∧ (s.ring q).force.cls ≠ ringSiphon ∧ e.opcode ≠ 0x22 then s.finishAt q e.pos .busError 0 else s
  | none => s

/-- Echo's outstanding part of a band of a region ends without its CRC, and the buffer it read is cancelled (R192, R229). -/
def State.echoReadFails (s : State) (h r b addr : Nat) : State :=
  match s.lant.parts.find? (fun (p : Nat × EchoPart × Band) => p.1 == h && p.2.1.region == r && p.2.1.band == b) with
  | none => s
  | some (_, part, y) =>
    let s := { s with lant := { s.lant with parts := s.lant.parts.filter (fun (p : Nat × EchoPart × Band) =>
      !(p.1 == h && decide (p.2.1 = part))) } }
    let s := s.echoFails h r part.frame
    match y.bufferAt addr with | some (src, buf) => s.cancelBuffer src buf | none => s

/-- UNCORRECTABLE_READ (R229): gallery, Echo, egress and the 2D engine repeat the read once, and act on its failure. -/
def execUncorrectableRead (who : Reader) (addr : Nat) (repeatOk : Bool) (s : State) : Host.Outcome State Fault Refusal :=
  let t := if repeatOk then s.meetError addr true else (s.meetError addr false).countUncorrectable addr
  let again (x : State) : State := if repeatOk then t else x
  .next (if devSize ≤ addr then s
    else match who with
      | .gallery h b => again (match (t.head h).bands.find? (fun y => y.band == b && !y.finished && !y.abandon) with
          | some y => t.abandonBand h y addr
          | none => t)
      | .echo h r b => again (t.echoReadFails h r b addr)
      | .egress i => again (t.dropEgress i)
      | .siphon c => (s.meetError addr false).busError .memory addr [c.val]
      | .blit u => again (match t.unitEntry u with
          | some (_, e) => t.blitRun u e.opcode .none
          | none => t)
      | .bar2 => { s.meetError addr false with bus := [], busEp := true }
      | .firmware => s.meetError addr false
      | .command q => (s.meetError addr false).commandReadFails q
      | .partialWrite => s.meetError addr false
      | .scrubber => s.meetError addr false)

end Sys2Proof.Machine
end

