-- ==== Sys2Proof/Machine/RegRead.lean ====
section
/-!
DEFINITION. What BAR0 reads as: the register maps of R211, R216, R253, R274, R275, R295, R335, R336, R374, R383, R394 to R399,
R416, R443 and R453, in aligned units of 8 bytes, and the clearing of RC fields (R390).
-/

namespace Sys2Proof.Machine

/-- Two 32-bit registers side by side. -/
def pair (lo hi : Nat) : Nat := lo % 2 ^ 32 + hi % 2 ^ 32 * 2 ^ 32

/-! ## SYS_ (R394, R443, R453) -/

/-- The system registers. PF1 reads 0 of the privileged ones (R388). -/
def State.sysReg (s : State) (fn : Fn) (o : Nat) : Nat :=
  let x := s.sys
  let ok (c : Nat) : Nat := b2n (!(s.core c).retired && !(s.core c).inReset)
  match o with
  | 0x00 => 0x7192 + s.cfg 0x1002 0 * 2 ^ 16 + leNat (s.readValue 0x1003 0 false) * 2 ^ 24
  | 0x08 => x.scratch
  | 0x10 => pair (x.mode.code + 16 * x.working.code + 256 * b2n (x.fwReady && !s.bothCoresRetired) + 512 * ok 0 + 1024 * ok 1) s.boot.bootFault
  | 0x18 => x.wall
  | 0x20 => pair (x.privIgnored + x.badAccess * 2 ^ 16) x.privLast
  | 0x28 => pair x.parityCount x.parityAddr
  | 0x30 => x.scrubPasses % 2 ^ 32
  | 0x48 => if fn = .pf0 then s.boot.rollback + b2n Config.secureBoot * 2 ^ 16 else 0
  | 0x100 => if s.inRecovery fn then pair 0 (s.boot.recovState + 256 * s.boot.recovStatus) else 0
  | 0x108 => if s.inRecovery fn then pair s.boot.recovLen s.boot.recovOffset else 0
  | _ => 0

/-! ## EVC_ (R383, R416) -/

/-- Bits of a bitmap word as a function sees them: PF1 sees those of its own sources. -/
def State.evWord (s : State) (fn : Fn) (w : Nat) (f : EvSrc → Bool) : Nat :=
  maskOf ((List.range 32).filter (fun i => s.evMine fn (32 * w + i) && f (s.ev (32 * w + i))))

/-- A source's configuration and status registers. PF1 reads 0 of OWNER and of sources that are not its own. -/
def State.evReg (s : State) (fn : Fn) (i : Nat) : Nat :=
  let e := s.ev i
  let owner := s.evOwner i
  if !s.evMine fn i then 0
  else
    pair (b2n e.level + 2 * (if fn = .pf0 then fnCode owner else 0) + 4 * e.target + 16 * b2n e.coalesce + 32 * e.group
        + e.vector * 2 ^ 16)
      (b2n (evCondition i) + 2 * b2n (evCondition i && e.raw) + 4 * b2n e.pending + 8 * b2n e.active + 16 * b2n e.enabled
        + 32 * b2n (e.coalesce && !groupServes e.group owner))

/-- A vector's bit of the PBA: a source that targets it is presentable. -/
def State.pbaBit (s : State) (fn : Fn) (v : Nat) : Bool :=
  s.presenting.any (fun i => (s.evEff i).targetOf == .vector fn v)

/-- The event controller's registers. -/
def State.evcReg (s : State) (fn : Fn) (o : Nat) : Nat :=
  let two (base : Nat) (f : EvSrc → Bool) : Nat := let w := (o - base) / 4; pair (s.evWord fn w f) (s.evWord fn (w + 1) f)
  let fc := s.fnCfg fn
  if o < 0x3000 then s.evReg fn (o / 8)
  else if 0x4000 ≤ o ∧ o < 0x40C0 then two 0x4000 (fun e => e.enabled)
  else if 0x5000 ≤ o ∧ o < 0x50C0 then two 0x5000 (fun e => e.pending)
  else if 0x5400 ≤ o ∧ o < 0x54C0 then two 0x5400 (fun e => e.active)
  else if 0x7000 ≤ o ∧ o < 0x7400 then
    let g := (o - 0x7000) / 16
    let x := s.group g
    if fn = .pf1 ∧ g < 56 then 0
    else if o % 16 = 0 then pair (x.count + x.time * 2 ^ 16) (x.counted + b2n x.holding * 2 ^ 16)
    else x.releases
  else if 0x8000 ≤ o ∧ o < 0x9000 then getLE (Tbl.get (leBytes 16 0) s.evc.freshLog ((o - 0x8000) / 16)) (o % 16) 8
  else if o = 0x9000 then s.evc.freshIdx
  else if o = 0x9008 then pair (if fn = .pf0 then s.evc.issued0 else 0) s.evc.issued1
  else if 0x9_0000 ≤ o ∧ o < 0x9_0000 + 16 * vectorsOf fn then
    let e := Tbl.get MsixEntry.reset fc.msix ((o - 0x9_0000) / 16)
    if o % 16 = 0 then e.addr else pair e.data (b2n e.masked)
  else if 0x9_8000 ≤ o ∧ o < 0x9_8000 + vectorsOf fn / 8 then
    maskOf ((List.range 64).filter (fun v => s.pbaBit fn (8 * (o - 0x9_8000) + v)))
  else 0

/-! ## QUE_ (R253) and SIPH_ (R274, R275) -/

/-- STATE of a ring. -/
def RState.code (x : RState) : Nat :=
  match x with | .disabled => 0 | .idle => 1 | .running => 2 | .stopped => 3 | .halted => 4 | .blocked => 5 | .held => 6

/-- 64 rings' bits of a map. -/
def State.ringBits (s : State) (base : Nat) (f : Ring → Bool) : Nat :=
  maskOf ((List.range 64).filter (fun i => f (s.ring (base + i))))

/-- A ring's page; PF1 reads 0 of CLASS and OWNER and of rings that are not its own. The two maps stand in ring 0's page. -/
def State.queReg (s : State) (fn : Fn) (o : Nat) : Nat :=
  let q := o / 0x1000
  let r := s.ring q
  if 256 ≤ q || !s.ringReach fn q then 0
  else if q = 0 ∧ 0x400 ≤ o ∧ o < 0x420 then s.ringBits ((o - 0x400) * 8) Ring.haltBit
  else if q = 0 ∧ 0x420 ≤ o ∧ o < 0x440 then s.ringBits ((o - 0x420) * 8) Ring.blockBit
  else match o % 0x1000 with
    | 0x00 => pair (b2n r.enable + 2 * b2n r.stop) (if fn = .pf0 then r.cfg.cls + 4 * fnCode r.cfg.owner else 0)
    | 0x08 => r.cfg.sqBase
    | 0x10 => pair r.cfg.sqLog2 r.cfg.cqLog2
    | 0x18 => r.cfg.cqBase
    | 0x20 => pair r.head (r.prodIdx + b2n r.prodWrap * 2 ^ 16)
    | 0x28 => pair (r.consIdx + b2n r.consWrap * 2 ^ 16)
        (r.state.code + r.haltCode * 2 ^ 8 + r.sumpCount * 2 ^ 16 + Nat.min 16 r.inflight.length * 2 ^ 20)
    | 0x30 => pair r.haltPos r.retiredN
    | 0x38 => r.dbIgnored + r.consBad * 2 ^ 16
    | _ => 0

/-- CHSTATE of a channel (R255, R274, R339). -/
def State.chanCode (s : State) (c : Nat) : Nat :=
  let x := s.chan c
  let r := s.ring c
  if x.retired then 6
  else if r.state = .halted then 5
  else if r.state = .disabled then 0
  else if r.inflight.any (fun e => e.opcode == 0x14 && e.phase == .running) then 3
  else if !r.inflight.isEmpty then 2
  else if s.sys.mode = .halt || (x.effClass == 4 && s.sheds 4) then 4
  else 1

/-- A channel's page, and the engine-wide registers. -/
def State.siphReg (s : State) (fn : Fn) (o : Nat) : Nat :=
  let y := s.siph
  if o < 0x4_0000 then
    let c := o / 0x1000
    let x := s.chan c
    let word (k : Nat) : Nat := maskOf ((List.range 32).filter (fun i => x.pending.contains (32 * k + i)))
    if !s.ringReach fn c then 0
    else match o % 0x1000 with
      | 0x00 => pair (x.cls + 8 * b2n x.publishing)
          (s.chanCode c + 8 * b2n (x.safetyEff && (s.ring c).state != .disabled) + 16 * b2n x.acc.pubFail
            + 32 * Nat.min 4 (s.ring c).inflight.length + 256 * x.lastStatus)
      | 0x08 => crcFinal x.acc.content
      | 0x10 => x.acc.bytes
      | 0x18 => x.moved
      | 0x20 => x.failed + x.pubSkipped * 2 ^ 16
      | 0x40 => pair (word 0) (word 1)
      | 0x48 => pair (word 2) (word 3)
      | 0x50 => word 4
      | _ => 0
  else match o with
    | 0x8_0000 => b2n y.halted + 4 * y.attempts + 16 * y.errKind
    | 0x8_0008 => y.errAddr
    | 0x8_0010 => y.candMask
    | 0x8_0018 => s.retiredChannels
    | 0x8_0020 => y.windowStart
    | 0x8_0028 => y.halts
    | _ => 0

/-! ## MEM_ (R211, R216) -/

/-- The memory registers; PF1 reads the windows, and 0 of APBASE. -/
def State.memReg (s : State) (fn : Fn) (o : Nat) : Nat :=
  if o = 0x10 then (if fn = .pf0 then s.apertureBase / 2 ^ 28 * 2 ^ 28 else 0)
  else if 0x4000 ≤ o ∧ o < 0x8000 then
    let w := s.win ((o - 0x4000) / 0x20)
    match o % 0x20 with
    | 0x00 => w.base * 4096 + b2n w.hostspace * 2 ^ 63
    | 0x08 => w.size * 4096
    | 0x10 => pair (w.rights + b2n w.enable * 2 ^ 31) w.reject
    | _ => 0
  else 0

/-! ## SCN_, GAL_, HEAD_ (R395 to R397) -/

/-- SCN_ registers of the checks and of each head (R395). -/
def State.scnReg (s : State) (o : Nat) : Nat :=
  let x := s.scn
  if 0x100 ≤ o ∧ o < 0x300 then
    let h := (o - 0x100) / 0x20
    let y := s.head h
    match o % 0x20 with
    | 0x00 => pair (s.aheadLine h) (if y.pendEpoch = 0 then 0 else if y.pendLate then 2 else 1)
    | 0x08 => if y.pendEpoch = 0 then 0 else wrap 48 y.target
    | 0x10 => y.superseded % 2 ^ 32
    | _ => 0
  else match o with
    | 0x00 => pair (x.checkState + 256 * x.lastStatus + x.lastResource * 2 ^ 16) x.lastCheckNs
    | 0x08 => pair x.lastEpoch (x.accepted + x.rejected * 2 ^ 16)
    | 0x10 => pair (maskOf ((List.range 16).filter (fun h => s.hcfgBool h 0 14)) + maskOf s.galsInService * 2 ^ 16)
        (x.eSum + 256 * x.eMin)
    | _ => 0

/-- Bands of a gallery some of whose tiles have been taken (R103). -/
def State.inCompose (s : State) (g : Nat) : List Band :=
  ((s.queueOf g).filter (fun p => !p.2.done.isEmpty || (s.gallery g).jobs.any (fun j =>
    j.head == p.1 && j.frame == p.2.frame && j.band == p.2.band))).map (fun p => p.2)

def State.galReg (s : State) (o : Nat) : Nat :=
  let g := o / 0x1_0000
  let x := s.gallery g
  if 12 ≤ g then 0
  else match o % 0x1_0000 with
    | 0x00 => pair ((if x.retired then 2 else if x.excluded then 1 else if x.gated then 3 else 0) + 4 * x.active
          + 128 * b2n x.reserve + 256 * b2n (s.inGalleryMask g))
        (maskOf ((List.range 17).filter (fun e => x.engineActive e)))
    | 0x08 => pair x.retiredEng (Nat.min 8 (s.queueOf g).length + 16 * Nat.min 2 (s.inCompose g).length)
    | 0x10 => pair (sat 32 (s.outstanding g))
        (x.coefLoaded + b2n ((s.inCompose g).head?.elim false (fun b => b.twoTap)) * 2 ^ 16)
    | 0x18 => x.faults + x.reissued * 2 ^ 16
    | 0x20 => x.bandsDone
    | 0x28 => x.tilesDone
    | _ => 0

/-- LINE: the scan position of a running head, from the wall time since line 0 (R155). -/
def State.scanLine (s : State) (h : Nat) : Nat :=
  let x := s.head h
  let t := x.timing
  let vt := s.vtotalNow h
  let nominal := t.vActive + t.vFront + t.vSync + t.vBack
  if !x.runs || x.starting then 0
  else Nat.min (vt - 1) ((s.now - x.f) * nominal * t.num / Nat.max 1 (t.den * 1000000000))

def State.headReg (s : State) (o : Nat) : Nat :=
  let h := o / 0x1_0000
  let x := s.head h
  let l := s.link h
  let t := x.timing
  let hs := t.hActive + t.hFront
  let vs := t.vActive + t.vFront
  match o % 0x1_0000 with
  | 0x00 => x.state.code + 8 * x.lock.code + 32 * l.state.code + 256 * l.rate + 4096 * l.lanes
  | 0x08 => wrap 48 x.frame + s.scanLine h * 2 ^ 48
  | 0x10 => x.f
  | 0x18 => if x.counted then x.wallFrame else 0
  | 0x20 => pair x.shown x.pendEpoch
  | 0x28 => pair (ofSigned 32 x.phaseErr)
      (s.latchLine h % 2 ^ 13 + s.gEff h % 32 * 2 ^ 13 + s.hcfg h 0x20 1 % 8 * 2 ^ 18)
  | 0x30 => pair (x.missRc + x.lateRc * 2 ^ 16) (x.lossRc + x.slipsRc * 2 ^ 16)
  | 0x40 => pair (t.hActive + (hs + t.hSync + t.hBack) * 2 ^ 16) (hs + (hs + t.hSync) * 2 ^ 16)
  | 0x48 => pair (t.vActive + (vs + t.vSync + t.vBack) * 2 ^ 16) (vs + (vs + t.vSync) * 2 ^ 16)
  | 0x50 => pair (roundDivN ((hs + t.hSync + t.hBack) * (vs + t.vSync + t.vBack) * t.num) (Nat.max 1 t.den))
      (b2n t.hPos + 2 * b2n t.vPos + 4 * t.genlock + 16 * b2n t.dsc + 32 * b2n t.bond + 64 * t.depth)
  | 0x58 => s.cfg 0x3110 (h + 1) % 2 ^ 32
  | _ => 0

/-! ## LANT_, ECHO_ (R398, R399) -/

/-- The region record of a head's current scene. -/
def State.regionRec (s : State) (h r : Nat) : Option Region :=
  match (s.head h).cur with
  | some sc => sc.regions.find? (fun x => x.head == h && x.id == r)
  | none => none

def State.lantReg (s : State) (o : Nat) : Nat :=
  if o < 0x2_0000 then
    let h := o / 0x2000
    let i := o % 0x2000
    let r := i / 0x20
    let y := s.region h r
    if i = 0x1000 then Tbl.get 0 s.lant.mismRc h
    else if 0x800 ≤ i then 0
    else match s.regionRec h r, i % 0x20 with
      | some x, 0x00 => pair (x.x0 + x.y0 * 2 ^ 16) (x.x1 + x.y1 * 2 ^ 16)
      | some x, 0x08 => pair (x.expect + 4 * x.policy + 16 * b2n x.onSame + 32) x.expected
      | _, 0x10 => pair y.crc (y.verdict + 256 * sat 8 y.run)
      | _, 0x18 => wrap 48 y.frame
      | _, _ => 0
  else match o with
    | 0x2_0000 => s.cfg 0x5000 1
    | 0x2_0008 => pair (s.cfg 0x5000 2) s.lant.writeIdx
    | 0x2_0010 => pair s.lant.droppedRc s.lant.fifo.length
    | _ => 0

def State.echoReg (s : State) (o : Nat) : Nat :=
  let l := s.lant
  if 0x100 ≤ o ∧ o < 0x180 then
    let h := (o - 0x100) / 8
    maskOf ((List.range 64).filter (fun r => (s.regionRec h r).elim false (fun x => x.expect == 2)))
  else match o with
    | 0x00 => pair (b2n l.echoRetired) (l.echoFaultsRc + l.uncheckedRc * 2 ^ 16)
    | 0x08 => s.echoLoad
    | 0x10 => l.partsDone
    | 0x18 => l.bytesRead
    | 0x200 => s.cfg 0x2200 2
    | _ => 0

/-! ## BLT_, ILL_ (R295, R335, R336) -/

def State.bltReg (s : State) (o : Nat) : Nat :=
  let b := s.blit
  if o < 0x400 then
    let x := s.unit (o / 0x100)
    match o % 0x100 with
    | 0x00 => pair (s.unitCode (o / 0x100) + 256 * x.ring + x.position * 2 ^ 16) x.linesDone
    | 0x08 => x.bytes
    | 0x10 => x.faults
    | _ => 0
  else match o with
    | 0x1000 => pair (Nat.max (s.cfg 0x5810 1) b.lampDead + b.lampDead * 2 ^ 16)
        (b2n b.staging.isSome + 256 * (b.staging.elim 0 (fun u => (s.unit u).ring)))
    | 0x1008 => b.commands
    | 0x1010 => b.stagedN
    | _ => 0

def State.illReg (s : State) (o : Nat) : Nat :=
  let f := s.fab
  if o < 0x4000 then
    let p := o / 0x1000
    let x := s.port p
    let bursts (l : Nat) : Nat :=
      sat 8 (((Tbl.get [] x.bursts l).filter (fun t => decide (s.now < t + 10000000000))).length) * 2 ^ (8 * l)
    match o % 0x1000 with
    | 0x00 => pair (x.state.code + 8 * x.inService.length + 64 * x.gen + 256 * maskOf x.laneRet + x.neighbour * 2 ^ 12)
        (b2n x.enable)
    | 0x08 => pair x.delay (bursts 0 + bursts 1 + bursts 2 + bursts 3)
    | 0x10 => pair (x.crcBursts + x.retrains * 2 ^ 16) x.replays
    | 0x18 => x.flitsOut
    | 0x20 => x.flitsIn
    | _ => 0
  else match o with
    | 0x8000 => pair (s.ownAddress + s.ilelleGen * 2 ^ 12 + f.timeState * 2 ^ 14) (ofSigned 32 f.timeOffset)
    | 0x8008 => pair (f.coord.getD 0 + f.timeRoot * 2 ^ 16) f.routeChg
    | _ => 0

/-! ## The dictionary window (R374) -/

def State.windowReg (s : State) (o : Nat) : Nat :=
  let x := s.lop
  match o with
  | 0x0 => pair 0 (b2n x.busy + 2 * b2n x.done + 256 * x.winStatus + x.discarded * 2 ^ 16)
  | 0x8 => pair x.reqLen x.respLen
  | _ => 0

/-- Bytes of REQBUF and RESPBUF from an offset of the window on; other bytes read 0. -/
def State.windowBytes (s : State) (o n : Nat) : List Byte :=
  (List.range n).map (fun k =>
    let a := o + k
    if 0x1_0000 ≤ a ∧ a < 0x2_0000 then Memory.get s.lop.reqBuf (a - 0x1_0000)
    else if 0x2_0000 ≤ a ∧ a < 0x3_0000 then s.lop.respBuf.getD (a - 0x2_0000) 0#8
    else 0#8)

/-! ## BAR0 (R385) -/

/-- 8 bytes of BAR0 at an aligned offset, as a function's view has them: what it does not reach reads 0. -/
def State.bar0Raw (s : State) (fn : Fn) (o : Nat) : Nat :=
  if s.inRecovery fn then
    (if 0x8_0000 ≤ o ∧ o < 0xC_0000 then leNat (Memory.read s.boot.recovBuf (o - 0x8_0000) 8)
     else if o < 0x10_0000 then s.sysReg fn o else 0)
  else if !s.hostUp fn then 0
  else if o < 0x10_0000 then s.sysReg fn o
  else if o < 0x20_0000 then s.evcReg fn (o - 0x10_0000)
  else if o < 0x30_0000 then s.queReg fn (o - 0x20_0000)
  else if o < 0x40_0000 then s.siphReg fn (o - 0x30_0000)
  else if o < 0x50_0000 then s.memReg fn (o - 0x40_0000)
  else if o < 0x60_0000 then s.scnReg (o - 0x50_0000)
  else if o < 0x6C_0000 then s.galReg (o - 0x60_0000)
  else if o < 0x80_0000 then 0
  else if o < 0x90_0000 then s.headReg (o - 0x80_0000)
  else if o < 0xA0_0000 then s.lantReg (o - 0x90_0000)
  else if o < 0xB0_0000 then s.echoReg (o - 0xA0_0000)
  else if o < 0xC0_0000 then s.bltReg (o - 0xB0_0000)
  else if o < 0xD0_0000 then s.illReg (o - 0xC0_0000)
  else if o < 0x100_0000 || fn == .pf1 then 0
  else if 0x101_0000 ≤ o ∧ o < 0x103_0000 then leNat (s.windowBytes (o - 0x100_0000) 8)
  else s.windowReg (o - 0x100_0000)

/-- The 32-bit registers that hold an RC field (R253, R274, R275, R295, R335, R336, R394 to R399, R416). -/
def rcReg (o : Nat) : Bool :=
  o == 0x20 || o == 0x28
  || (decide (0x10_7000 ≤ o ∧ o < 0x10_7400) && o % 16 == 8) || o == 0x10_9008 || o == 0x10_900C
  || (decide (0x20_0000 ≤ o ∧ o < 0x30_0000) && o % 0x1000 == 0x38)
  || (decide (0x30_0000 ≤ o ∧ o < 0x34_0000) && o % 0x1000 == 0x20) || o == 0x38_0028
  || o == 0x50_000C || (decide (0x50_0100 ≤ o ∧ o < 0x50_0300) && o % 0x20 == 0x10)
  || (decide (0x60_0000 ≤ o ∧ o < 0x6C_0000) && o % 0x1_0000 == 0x18)
  || (decide (0x80_0000 ≤ o ∧ o < 0x90_0000) && (o % 0x1_0000 == 0x30 || o % 0x1_0000 == 0x34))
  || (decide (0x90_0000 ≤ o ∧ o < 0x92_0000) && o % 0x2000 == 0x1000) || o == 0x92_0010
  || o == 0xA0_0004
  || (decide (0xB0_0000 ≤ o ∧ o < 0xB0_0400) && o % 0x100 == 0x10) || o == 0xB0_1010
  || (decide (0xC0_0000 ≤ o ∧ o < 0xC0_4000) && (o % 0x1000 == 0x10 || o % 0x1000 == 0x14)) || o == 0xC0_800C

/-- The register whose snapshot alias a 32-bit word is, if it is one (R390). -/
def aliasOf (o : Nat) : Option Nat := if 0x800 ≤ o && rcReg (o - 0x800) && !rcReg o then some (o - 0x800) else none

/-- A half of an aligned unit. -/
def half (v o : Nat) : Nat := if o % 8 = 0 then v % 2 ^ 32 else v / 2 ^ 32 % 2 ^ 32

/-- A 32-bit word of BAR0: a snapshot alias is privileged and shows its register's value. -/
def State.bar0Word (s : State) (fn : Fn) (o : Nat) : Nat :=
  match aliasOf o with
  | some r => if fn = .pf0 then half (s.bar0Raw fn (r / 8 * 8)) r else 0
  | none => half (s.bar0Raw fn (o / 8 * 8)) o

/-- A read clears the RC fields of a 32-bit register that the function sees (R390, R416). -/
def State.clearRc (s : State) (fn : Fn) (o : Nat) : State :=
  if !rcReg o then s
  else if o = 0x20 then { s with sys := { s.sys with privIgnored := 0, badAccess := 0 } }
  else if o = 0x28 then { s with sys := { s.sys with parityCount := 0 } }
  else if o = 0x10_9008 then (if fn = .pf0 then { s with evc := { s.evc with issued0 := 0 } } else s)
  else if o = 0x10_900C then { s with evc := { s.evc with issued1 := 0 } }
  else if o < 0x20_0000 then
    let g := (o - 0x10_7000) / 16
    if fn = .pf1 ∧ g < 56 then s else s.modGroup g (fun x => { x with releases := 0 })
  else if o < 0x30_0000 then
    let q := (o - 0x20_0000) / 0x1000
    if s.ringReach fn q then s.modRing q (fun r => { r with dbIgnored := 0, consBad := 0 }) else s
  else if o = 0x38_0028 then { s with siph := { s.siph with halts := 0 } }
  else if o < 0x40_0000 then
    let c := (o - 0x30_0000) / 0x1000
    if s.ringReach fn c then s.modChan c (fun x => { x with failed := 0, pubSkipped := 0 }) else s
  else if o = 0x50_000C then { s with scn := { s.scn with accepted := 0, rejected := 0 } }
  else if o < 0x60_0000 then s.modHead ((o - 0x50_0100) / 0x20) (fun x => { x with superseded := 0 })
  else if o < 0x6C_0000 then s.modGallery ((o - 0x60_0000) / 0x1_0000) (fun x => { x with faults := 0, reissued := 0 })
  else if o < 0x90_0000 then
    let h := (o - 0x80_0000) / 0x1_0000
    if o % 0x1_0000 = 0x30 then s.modHead h (fun x => { x with missRc := 0, lateRc := 0 })
    else s.modHead h (fun x => { x with lossRc := 0, slipsRc := 0 })
  else if o = 0x92_0010 then { s with lant := { s.lant with droppedRc := 0 } }
  else if o < 0xA0_0000 then { s with lant := { s.lant with mismRc := Tbl.set s.lant.mismRc ((o - 0x90_0000) / 0x2000) 0 } }
  else if o = 0xA0_0004 then { s with lant := { s.lant with echoFaultsRc := 0, uncheckedRc := 0 } }
  else if o = 0xB0_1010 then { s with blit := { s.blit with stagedN := 0 } }
  else if o < 0xC0_0000 then s.modUnit ((o - 0xB0_0000) / 0x100) (fun x => { x with faults := 0 })
  else if o = 0xC0_800C then { s with fab := { s.fab with routeChg := 0 } }
  else
    let p := (o - 0xC0_0000) / 0x1000
    if o % 0x1000 = 0x10 then s.modPort p (fun x => { x with crcBursts := 0, retrains := 0 })
    else s.modPort p (fun x => { x with replays := 0 })

/-! ## The access (R386, R390) -/

/-- The aligned units that hold one 64-bit register, of whose halves a 32-bit host reads a shadow. -/
def isWide (o : Nat) : Bool :=
  o == 0x08 || o == 0x18
  || (decide (0x20_0000 ≤ o ∧ o < 0x30_0000) && (o % 0x1000 == 0x08 || o % 0x1000 == 0x18))
  || (decide (0x30_0000 ≤ o ∧ o < 0x34_0000) && (o % 0x1000 == 0x10 || o % 0x1000 == 0x18))
  || (decide (0x38_0008 ≤ o ∧ o < 0x38_0028)) || o == 0x40_0010
  || (decide (0x40_4000 ≤ o ∧ o < 0x40_8000) && (o % 0x20 == 0 || o % 0x20 == 8))
  || (decide (0x50_0100 ≤ o ∧ o < 0x50_0300) && o % 0x20 == 8)
  || (decide (0x60_0000 ≤ o ∧ o < 0x6C_0000) && (o % 0x1_0000 == 0x20 || o % 0x1_0000 == 0x28))
  || (decide (0x80_0000 ≤ o ∧ o < 0x90_0000) && decide (8 ≤ o % 0x1_0000 ∧ o % 0x1_0000 < 0x28))
  || (decide (0x90_0000 ≤ o ∧ o < 0x92_0000) && o % 0x20 == 0x18) || o == 0x92_0000
  || o == 0xA0_0010 || o == 0xA0_0018 || decide (0xA0_0100 ≤ o ∧ o < 0xA0_0180)
  || (decide (0xB0_0000 ≤ o ∧ o < 0xB0_0400) && o % 0x100 == 8) || o == 0xB0_1008
  || (decide (0xC0_0000 ≤ o ∧ o < 0xC0_4000) && (o % 0x1000 == 0x18 || o % 0x1000 == 0x20))

/-- The shadow of a function, if its previous read took one. -/
def State.shadowOf (s : State) (fn : Fn) : Option (Nat × Nat) := (s.sys.shadow.find? (fun x => x.1 == fn)).map (fun x => x.2)
def State.setShadow (s : State) (fn : Fn) (v : Option (Nat × Nat)) : State :=
  let rest := s.sys.shadow.filter (fun x => x.1 != fn)
  { s with sys := { s.sys with shadow := match v with | some p => (fn, p.1, p.2) :: rest | none => rest } }

/-- A 32-bit read: a low half captures its high half, and a high half returns what the read before captured. -/
def State.read4 (s : State) (fn : Fn) (o : Nat) : State :=
  let v := match o % 8, s.shadowOf fn with
    | 4, some (r, hi) => if r + 4 = o then hi else s.bar0Word fn o
    | _, _ => s.bar0Word fn o
  let keep := if o % 8 = 0 && isWide o then some (o, s.bar0Word fn (o + 4)) else none
  (((s.setShadow fn keep).clearRc fn o).answer (leBytes 4 v))

/-- A 64-bit read, on one clock. -/
def State.read8 (s : State) (fn : Fn) (o : Nat) : State :=
  let v := pair (s.bar0Word fn o) (s.bar0Word fn (o + 4))
  ((((s.setShadow fn none).clearRc fn o).clearRc fn (o + 4)).answer (leBytes 8 v))

/-- An offset in REQBUF or RESPBUF, which take any length up to Max_Payload_Size. -/
def inWindowBuf (o n : Nat) : Bool := decide (0x101_0000 ≤ o ∧ o + n ≤ 0x103_0000 ∧ n ≤ 512)

/-- A read of BAR0. -/
def State.readBar0 (s : State) (fn : Fn) (o size : Nat) : State :=
  if fn = .pf0 && inWindowBuf o size && !s.inRecovery fn then
    (s.setShadow fn none).answer (s.windowBytes (o - 0x100_0000) size)
  else if size = 4 ∧ o % 4 = 0 ∧ o / 8 * 8 = 0x40_0020 then
    (if o = 0x40_0020 then after (execMemWinsync fn (s.setShadow fn none)) s else (s.setShadow fn none).answer (leBytes 4 0))
  else if size = 8 ∧ o = 0x40_0020 then
    let t := after (execMemWinsync fn (s.setShadow fn none)) s
    t.answer (t.bus ++ leBytes 4 0)
  else if size = 4 ∧ o % 4 = 0 then s.read4 fn o
  else if size = 8 ∧ o % 8 = 0 then s.read8 fn o
  else s.badAccess.answer (leBytes size 0)

/-- READ_CLEAR (R386, R390): a read of BAR0; RC fields clear on the clock on which they are read. -/
def execReadClear (fn : Fn) (off : Offset) (size : Nat) (s : State) : Host.Outcome State Fault Refusal :=
  .next (if s.hostUp fn || s.inRecovery fn then s.readBar0 fn off size else s)

end Sys2Proof.Machine
end

