-- ==== Sys2Proof/Machine/Registers.lean ====
section
/-!
DEFINITION. Writes of BAR0 and configuration parity: REGISTER_WRITE (R386 to R389), DEVRESET (R394), the parity scrub and its
safe actions, and firmware's restoration (R391 to R393). A register that has a row of its own takes the effect of that row.
-/

namespace Sys2Proof.Machine

/-! ## SYS_ (R394, R453) -/

/-- DEVRESET: the guard value is judged first; a reset that is already due stays as it is. -/
def State.devReset (s : State) (fn : Fn) (v : Nat) : State :=
  if fn = .pf1 then s.privIgnore 0x40
  else if field v 31 16 ≠ 0xA5C3 then s.badAccess
  else if bit v 0 && s.sys.resetDue.isNone then { s with sys := { s.sys with resetDue := some (s.now + 10000000, 3) } }
  else s

/-- DEVRESET (R394): the reset follows 10 ms after the write. -/
def execDevReset (fn : Fn) (v : Nat) (s : State) : Host.Outcome State Fault Refusal :=
  .next (if s.hostUp fn || s.inRecovery fn then s.devReset fn v else s)

/-- A write of the recovery registers (R453). -/
def State.writeRecovery (s : State) (o v : Nat) : State :=
  if o = 0x100 then
    (if bit v 0 then after (execRecoveryStart .pf0 s) s
    else if bit v 1 then after (execRecoveryChunk .pf0 s) s
    else if bit v 2 then after (execRecoveryFinish .pf0 s) s
    else s)
  else if o = 0x108 then State.fixParity { s with boot := { s.boot with recovLen := v % 2 ^ 19 } } 0x108
  else if 0x8_0000 ≤ o ∧ o < 0xC_0000 then
    { s with boot := { s.boot with recovBuf := Memory.write s.boot.recovBuf (o - 0x8_0000) (leBytes 4 v) } }
  else s

/-! ## EVC_ (R383, R416) -/

/-- A write of the MSI-X table. -/
def State.writeMsix (s : State) (fn : Fn) (o v : Nat) : State :=
  let c := s.fnCfg fn
  let k := o / 16
  let e := Tbl.get MsixEntry.reset c.msix k
  let e := match o % 16 with
    | 0 => { e with addr := v + e.addr / 2 ^ 32 * 2 ^ 32 }
    | 4 => { e with addr := e.addr % 2 ^ 32 + v * 2 ^ 32 }
    | 8 => { e with data := v }
    | _ => { e with masked := bit v 0 }
  s.setFnCfg fn { c with msix := Tbl.set c.msix k e }

/-- A write of a group's thresholds: groups 0 to 55 serve PF0 (R410). -/
def State.writeGroup (s : State) (fn : Fn) (g o v : Nat) : State :=
  if fn = .pf1 ∧ g < 56 then s.privIgnore o
  else if fn = .pf0 ∧ 56 ≤ g then s
  else (s.modGroup g (fun x => { x with count := v % 4096, time := v / 2 ^ 16 % 2 ^ 16 })).fixParity o

/-- A write in the event controller; status registers ignore it. -/
def State.writeEvc (s : State) (fn : Fn) (o v : Nat) : State :=
  let i := o - 0x10_0000
  let src : Fin 1536 := Fin.ofNat 1536 (i / 8)
  let w : Fin 48 := Fin.ofNat 48 (i % 0x100 / 4)
  let word := i % 0x100 < 0xC0
  let page := i / 0x100
  if i < 0x3000 then
    (if i % 8 = 0 then after (execEvcSourceWrite fn src v s) s
    else if s.evMine fn src then s else s.privIgnore o)
  else if page = 0x40 ∧ word then after (execEventEnableWrite fn w .plain v s) s
  else if page = 0x41 ∧ word then after (execEventEnableWrite fn w .set v s) s
  else if page = 0x42 ∧ word then after (execEventEnableWrite fn w .clear v s) s
  else if (page = 0x50 ∨ page = 0x54) ∧ word then
    s.countForeign fn ((wordSources w v).any (fun k => !s.evMine fn k)) o
  else if page = 0x51 ∧ word then after (execPendingSet fn w v s) s
  else if page = 0x52 ∧ word then after (execPendingClear fn w v s) s
  else if page = 0x60 ∧ word then after (execEoi fn w v s) s
  else if 0x7000 ≤ i ∧ i < 0x7400 ∧ i % 16 = 0 then s.writeGroup fn ((i - 0x7000) / 16) o v
  else if 0x9_0000 ≤ i ∧ i < 0x9_0000 + 16 * vectorsOf fn then (s.writeMsix fn (i - 0x9_0000) v).fixParity o
  else if fn = .pf1 ∧ ¬ (0x9_8000 ≤ i ∧ i < 0x9_8000 + vectorsOf fn / 8) then s.privIgnore o
  else s

/-! ## QUE_, SIPH_ (R253, R274) -/

/-- A write of a ring's first register: STOP, then ENABLE, then RESTART. -/
def State.writeRingControl (s : State) (fn : Fn) (q : Fin 256) (v : Nat) : State :=
  let s := if bit v 1 then (if (s.ring q).stop then s else after (execRingStop fn q s) s)
    else if (s.ring q).stop then after (execRingResume fn q s) s else s
  let s := if bit v 0 then after (execRingEnable fn q s) s else after (execRingDisable fn q s) s
  if bit v 2 then after (execRestart fn q s) s else s

/-- A write in a ring's page. -/
def State.writeQue (s : State) (fn : Fn) (o v : Nat) : State :=
  let q : Fin 256 := Fin.ofNat 256 ((o - 0x20_0000) / 0x1000)
  if !s.ringReach fn q then s.privIgnore o
  else match o % 0x1000 with
    | 0x00 => s.writeRingControl fn q v
    | 0x04 => if fn = .pf0 then s.writeRingClass q v else s.privIgnore o
    | 0x10 => s.writeRingField q 0x10 (fun c => { c with sqLog2 := v % 32 })
    | 0x14 => s.writeRingField q 0x14 (fun c => { c with cqLog2 := v % 32 })
    | _ => s

/-- A write in the Siphon's registers: the channels' pages, whose engine-wide registers are read only. -/
def State.writeSiph (s : State) (fn : Fn) (o v : Nat) : State :=
  let c := (o - 0x30_0000) / 0x1000
  if 64 ≤ c then (if fn = .pf1 then s.privIgnore o else s)
  else if !s.ringReach fn c then s.privIgnore o
  else match o % 0x1000 with
    | 0x00 => s.writeChanCfg c v
    | 0x24 => if bit v 0 then s.reenable fn c else s
    | _ => s

/-! ## ILL_ (R335) -/

/-- PORTENABLE: 0 holds the port down. -/
def State.portEnable (s : State) (p : Nat) (on : Bool) : State :=
  let x := s.port p
  let s := if on || !x.enable then s
    else if x.linked then s.loseLink p
    else if x.retired then s
    else s.modPort p Port.rest
  s.modPort p (fun x => { x with enable := on })

/-- A write of a port's PORTENABLE and PORTREENABLE. -/
def State.writePort (s : State) (p o v : Nat) : State :=
  let s := (s.fixParity o).portEnable p (bit v 0)
  if bit v 1 then s.portReenable p else s

/-! ## The dictionary window (R374) -/

/-- A write of REQBUF; while BUSY it is discarded and counted. RESPBUF ignores writes. -/
def State.writeReqBuf (s : State) (o : Nat) (l : List Byte) : State :=
  let l := l.take (0x102_0000 - o)
  if 0x102_0000 ≤ o then s
  else if s.lop.busy then { s with lop := { s.lop with discarded := satInc 16 s.lop.discarded } }
  else { s with lop := { s.lop with reqBuf := Memory.write s.lop.reqBuf (o - 0x101_0000) l } }

/-- A write in the window's registers. -/
def State.writeDictWindow (s : State) (o v : Nat) : State :=
  if o = 0x100_0000 then (if bit v 0 then after (execLopWindowGo .pf0 s) s else s)
  else if o = 0x100_0008 then State.fixParity { s with lop := { s.lop with reqLen := v % 2 ^ 17 } } 0x100_0008
  else if 0x101_0000 ≤ o ∧ o < 0x103_0000 then s.writeReqBuf o (leBytes 4 v)
  else s

/-! ## The access (R386 to R389) -/

/-- The 64-bit RW and RH registers. -/
def isWideRw (o : Nat) : Bool :=
  o == 0x08 || o == 0x40_0010
  || (decide (0x20_0000 ≤ o ∧ o < 0x30_0000) && (o % 0x1000 == 0x08 || o % 0x1000 == 0x18))
  || (decide (0x40_4000 ≤ o ∧ o < 0x40_8000) && (o % 0x20 == 0 || o % 0x20 == 8))

/-- The function reaches a 64-bit register: PF1 only those of its rings. -/
def State.wideReach (s : State) (fn : Fn) (o : Nat) : Bool :=
  fn == .pf0 || (decide (0x20_0000 ≤ o ∧ o < 0x30_0000) && s.ringReach fn ((o - 0x20_0000) / 0x1000))

/-- A 64-bit register takes its value whole; a window's base and size are staged (R217). -/
def State.writeWide (s : State) (o v : Nat) : State :=
  if o = 0x08 then State.fixParity { s with sys := { s.sys with scratch := v } } o
  else if o = 0x40_0010 then State.fixParity { s with mem := { s.mem with apbase := v / 2 ^ 28 % 2 ^ 7 } } o
  else if o < 0x30_0000 then
    let q := (o - 0x20_0000) / 0x1000
    (if o % 0x1000 = 0x08 then s.writeRingField q 0x08 (fun c => { c with sqBase := v })
    else s.writeRingField q 0x18 (fun c => { c with cqBase := v }))
  else
    let n := (o - 0x40_4000) / 0x20
    let w := s.win n
    State.fixParity (s.setWin n (if o % 0x20 = 0 then { w with hostspace := bit v 63, base := v / 2 ^ 12 % 2 ^ 51 }
      else { w with size := v / 2 ^ 12 % 2 ^ 52 })) o

/-- A 4-byte write of half of a 64-bit register: the low half is held for the function and takes effect with the high half. -/
def State.writeHalf (s : State) (fn : Fn) (o v : Nat) : State :=
  let r := o / 8 * 8
  if !s.wideReach fn r then s.privIgnore o
  else
    let held := s.sys.heldWrite.find? (fun x => x.1 == fn && x.2.1 == r)
    let rest := s.sys.heldWrite.filter (fun x => !(x.1 == fn && x.2.1 == r))
    if o % 8 = 0 then { s with sys := { s.sys with heldWrite := (fn, r, v) :: rest } }
    else
      let low := match held with | some x => x.2.2 | none => s.bar0Raw fn r % 2 ^ 32
      State.writeWide { s with sys := { s.sys with heldWrite := rest } } r (low + v * 2 ^ 32)

/-- A 32-bit write. What PF1 does not reach is ignored and counted; what nothing writes is ignored. -/
def State.write4 (s : State) (fn : Fn) (o v : Nat) : State :=
  if s.inRecovery fn && decide (0x10_0000 ≤ o) then s
  else if isWideRw (o / 8 * 8) then s.writeHalf fn o v
  else if o = 0x40 then s.devReset fn v
  else if s.inRecovery fn then s.writeRecovery o v
  else if 0x10_0000 ≤ o ∧ o < 0x20_0000 then s.writeEvc fn o v
  else if 0x20_0000 ≤ o ∧ o < 0x30_0000 then s.writeQue fn o v
  else if 0x30_0000 ≤ o ∧ o < 0x40_0000 then s.writeSiph fn o v
  else if fn = .pf1 then s.privIgnore o
  else if 0x40_4000 ≤ o ∧ o < 0x40_8000 then
    (if o % 0x20 = 0x10 then s.writeWindow ((o - 0x40_4000) / 0x20) v else s)
  else if 0xC0_0000 ≤ o ∧ o < 0xC0_4000 then
    (if o % 0x1000 = 0x04 then s.writePort ((o - 0xC0_0000) / 0x1000) o v else s)
  else if 0x100_0000 ≤ o then s.writeDictWindow o v
  else s

/-- An 8-byte write: whole where it names one 64-bit register, else its two registers in order. What PF1 may not write counts
once, at the offset of the access. -/
def State.write8 (s : State) (fn : Fn) (o v : Nat) : State :=
  if s.inRecovery fn && decide (0x10_0000 ≤ o) then s
  else if isWideRw o then (if s.wideReach fn o then s.writeWide o v else s.privIgnore o)
  else
    let t := (s.write4 fn o (v % 2 ^ 32)).write4 fn (o + 4) (v / 2 ^ 32)
    if t.sys.privIgnored = s.sys.privIgnored ∧ t.sys.privLast = s.sys.privLast then t
    else State.privIgnore { t with sys := { t.sys with privIgnored := s.sys.privIgnored } } o

/-- A write of BAR0: 4 or 8 bytes, longer ones as 8-byte writes in ascending order, any length in REQBUF. -/
def State.writeBar0 (s : State) (fn : Fn) (o size v : Nat) : State :=
  if fn = .pf0 && inWindowBuf o size && !s.inRecovery fn then s.writeReqBuf o (leBytes size v)
  else if size = 4 ∧ o % 4 = 0 then s.write4 fn o (v % 2 ^ 32)
  else if 0 < size ∧ size % 8 = 0 ∧ o % 8 = 0 then
    s.forEach (List.range (size / 8)) (fun s k => s.write8 fn (o + 8 * k) (v / 2 ^ (64 * k) % 2 ^ 64))
  else s.badAccess

/-- REGISTER_WRITE (R387). -/
def execRegisterWrite (fn : Fn) (off : Offset) (size v : Nat) (s : State) : Host.Outcome State Fault Refusal :=
  .next (if s.hostUp fn || s.inRecovery fn then s.writeBar0 fn off size v else s)

/-! ## Configuration parity (R391 to R393) -/

/-- Registers that software writes, which firmware never restores. -/
def softwareConfig (o : Nat) : Bool :=
  o == 0x08 || o == 0x108 || o == 0x40_0010 || o == 0x100_0008
  || (decide (0x10_0000 ≤ o ∧ o < 0x10_3000) && o % 8 == 0)
  || decide (0x10_4000 ≤ o ∧ o < 0x10_40C0)
  || (decide (0x10_7000 ≤ o ∧ o < 0x10_7400) && o % 16 == 0)
  || decide (0x19_0000 ≤ o ∧ o < 0x19_8000)
  || (decide (0x20_0000 ≤ o ∧ o < 0x30_0000) && [0x00, 0x04, 0x08, 0x10, 0x14, 0x18].contains (o % 0x1000))
  || (decide (0x30_0000 ≤ o ∧ o < 0x34_0000) && o % 0x1000 == 0)
  || (decide (0x40_4000 ≤ o ∧ o < 0x40_8000) && [0x00, 0x08, 0x10].contains (o % 0x20))
  || (decide (0xC0_0000 ≤ o ∧ o < 0xC0_4000) && o % 0x1000 == 4)

/-- Registers that firmware writes as configuration: those that a map marks so, and those of a block that no map lists. -/
def firmwareConfig (o : Nat) : Bool :=
  decide (0x50 ≤ o ∧ o < 0x100)
  || decide (0x38_0030 ≤ o ∧ o < 0x40_0000)
  || decide (0x40_0030 ≤ o ∧ o < 0x40_4000)
  || o == 0x50_0010 || o == 0x50_0014 || (decide (0x50_0100 ≤ o ∧ o < 0x50_0300) && o % 0x20 == 0)
  || (decide (0x60_0000 ≤ o ∧ o < 0x6C_0000) && (o % 0x1_0000 == 4 || decide (0x30 ≤ o % 0x1_0000 ∧ o % 0x1_0000 < 0x800)))
  || (decide (0x80_0000 ≤ o ∧ o < 0x90_0000) && decide (0x40 ≤ o % 0x1_0000 ∧ o % 0x1_0000 < 0x5C))
  || (decide (0x90_0000 ≤ o ∧ o < 0x92_0000) && decide (o % 0x2000 < 0x800) && decide (o % 0x20 < 0x10))
  || o == 0x92_0000 || o == 0x92_0008
  || decide (0xA0_0100 ≤ o ∧ o < 0xA0_0180) || o == 0xA0_0200
  || (decide (0xB0_0000 ≤ o ∧ o < 0xB0_0400) && decide (0x18 ≤ o % 0x100)) || o == 0xB0_1000
  || (decide (0xC0_0000 ≤ o ∧ o < 0xC0_4000) && decide (0x28 ≤ o % 0x1000 ∧ o % 0x1000 < 0x800))
  || decide (0xD0_0000 ≤ o ∧ o < 0xE0_0000)

/-- A configuration register, which carries a parity bit. -/
def isConfigReg (o : Nat) : Bool := o % 4 == 0 && (softwareConfig o || firmwareConfig o)

/-- SAFE is called for on a head. -/
def State.callSafe (s : State) (h : Nat) : State := s.callHead h (fun x => { x with wantSafe := true })

/-- A ring that runs halts with HALTCODE STATE at its next entry. -/
def State.parityHalt (s : State) (q : Nat) : State :=
  let r := s.ring q
  if r.enable && r.state != .halted then s.haltRing q Status.state.code r.head else s

/-- A unit fault of R292 outside a command's own work: a second one within 1 s retires the unit, and its command moves on. -/
def State.parityUnit (s : State) (u : Nat) : State :=
  if (s.unit u).state == .retired then s
  else
    let held := s.unitEntry u
    let (s, dead) := s.unitFault u
    match dead, held with
    | true, some (q, e) => s.moveCommand q e (e.aux.headD 0)
    | _, _ => s

/-- The records that wait when logging stops are lost and counted (R200, R398). -/
def State.dropLog (s : State) : State :=
  let l := s.lant.fifo
  State.forEach { s with lant := { s.lant with fifo := [] } } l (fun s x => s.dropRecord x)

/-- The safe action of a register's block (R392). Events, windows, SIGNAL pins and Lamp follow the list of wrong registers. -/
def State.safeAction (s : State) (o : Nat) : State :=
  if o < 0x10_0000 then
    (if o = 0x08 then s
    else { s with sys := { s.sys with resetDue := none } })
  else if o < 0x20_0000 then s.reorder
  else if o < 0x30_0000 then s.parityHalt ((o - 0x20_0000) / 0x1000)
  else if o < 0x34_0000 then s.parityHalt ((o - 0x30_0000) / 0x1000)
  else if o < 0x50_0000 then s
  else if o < 0x50_0100 then
    s.forEach ((List.range 16).filter (fun h => s.hcfgBool h 0 14)) (fun s h => s.callSafe h)
  else if o < 0x60_0000 then s.callSafe ((o - 0x50_0100) / 0x20)
  else if o < 0x80_0000 then after (execGalleryFault (Fin.ofNat 12 ((o - 0x60_0000) / 0x1_0000)) s) s
  else if o < 0x90_0000 then s.callSafe ((o - 0x80_0000) / 0x1_0000)
  else if o < 0x92_0000 then s.callSafe ((o - 0x90_0000) / 0x2000)
  else if o < 0xA0_0000 then s.dropLog
  else if o < 0xB0_0000 then s.echoFault
  else if o < 0xB0_1000 then s.parityUnit ((o - 0xB0_0000) / 0x100)
  else if o < 0xC0_0000 then
    let (n, s) := s.draw
    s.parityUnit (Config.value n % 4)
  else if o < 0xD0_0000 then
    let p := (o - 0xC0_0000) / 0x1000
    if (s.port p).linked then s.loseLink p else s
  else s

/-- One mismatch: it counts, raises REGISTER_PARITY, and its block takes its safe action. -/
def State.parityMismatch (s : State) (o : Nat) : State :=
  let y := s.sys
  let s := { s with sys := { y with parityCount := satInc 16 y.parityCount, parityBad := insertSorted o y.parityBad } }
  (s.raise .registerParity).safeAction o

/-- PARITY_SCRUB (R391, R392): one pass over every configuration register, in ascending order. -/
def execParityScrub (mismatches : List Offset) (s : State) : Host.Outcome State Fault Refusal :=
  let l := sortDedup (mismatches.filter isConfigReg)
  .next (if s.sys.mode = .reset then s
    else
      let s := { s with sys := { s.sys with scrubPasses := wrapInc 32 s.sys.scrubPasses,
                                            parityAddr := match l with | o :: _ => o | [] => s.sys.parityAddr } }
      s.forEach l (fun s o => s.parityMismatch o))

/-- PARITY_RESTORE (R393): firmware restores a register that it wrote from its shadow; the safe action ends with it, where
the action names no rule of its own. -/
def execParityRestore (off : Offset) (s : State) : Host.Outcome State Fault Refusal :=
  .next (if s.sys.mode = .reset || !s.coreUp 1 || !firmwareConfig off then s else s.fixParity off)

end Sys2Proof.Machine
end

