-- ==== Sys2Proof/Machine/Dispatch.lean ====
section
/-!
DEFINITION. The dispatch: one arm for each command of Sys2Proof.Instr, a direct call of its meaning.
-/

namespace Sys2Proof.Machine

def exec (i : Instr) (s : State) : Host.Outcome State Fault Refusal :=
  match i with
  | .registerSource q => Sys2Proof.Machine.execRegisterSource q s
  | .withdrawSource q => Sys2Proof.Machine.execWithdrawSource q s
  | .withdrawalComplete q => Sys2Proof.Machine.execWithdrawalComplete q s
  | .publish q => Sys2Proof.Machine.execPublish q s
  | .querySource q => Sys2Proof.Machine.execQuerySource q s
  | .checkScene q ns => Sys2Proof.Machine.execCheckScene q ns s
  | .commitScene q ns => Sys2Proof.Machine.execCommitScene q ns s
  | .queryScene q => Sys2Proof.Machine.execQueryScene q s
  | .pad q => Sys2Proof.Machine.execPad q s
  | .nop q => Sys2Proof.Machine.execNop q s
  | .lopExchange q => Sys2Proof.Machine.execLopExchange q s
  | .admission => Sys2Proof.Machine.execAdmission s
  | .sourceStateCheck => Sys2Proof.Machine.execSourceStateCheck s
  | .frameStart h sink => Sys2Proof.Machine.execFrameStart h sink s
  | .latch h => Sys2Proof.Machine.execLatch h s
  | .commitAhead h => Sys2Proof.Machine.execCommitAhead h s
  | .bandCompositionStart h => Sys2Proof.Machine.execBandCompositionStart h s
  | .tileTake g e => Sys2Proof.Machine.execTileTake g e s
  | .tileWrite g e checkFails => Sys2Proof.Machine.execTileWrite g e checkFails s
  | .bandDrain h wbFull => Sys2Proof.Machine.execBandDrain h wbFull s
  | .uncorrectableRead who addr repeatOk => Sys2Proof.Machine.execUncorrectableRead who addr repeatOk s
  | .galleryFault g => Sys2Proof.Machine.execGalleryFault g s
  | .galleryReturn g => Sys2Proof.Machine.execGalleryReturn g s
  | .sceneRecheck => Sys2Proof.Machine.execSceneRecheck s
  | .echoPartDone h r out => Sys2Proof.Machine.execEchoPartDone h r out s
  | .regionVerdict h r => Sys2Proof.Machine.execRegionVerdict h r s
  | .logWriteDone => Sys2Proof.Machine.execLogWriteDone s
  | .wbFrameDone st => Sys2Proof.Machine.execWbFrameDone st s
  | .wbCapture st => Sys2Proof.Machine.execWbCapture st s
  | .headResume h => Sys2Proof.Machine.execHeadResume h s
  | .syncInEdge => Sys2Proof.Machine.execSyncInEdge s
  | .syncInLost => Sys2Proof.Machine.execSyncInLost s
  | .hpdUnplug h => Sys2Proof.Machine.execHpdUnplug h s
  | .hpdPlug h caps => Sys2Proof.Machine.execHpdPlug h caps s
  | .irqHpd h lost => Sys2Proof.Machine.execIrqHpd h lost s
  | .trainingAttemptEnd h res => Sys2Proof.Machine.execTrainingAttemptEnd h res s
  | .trainingTimeout h => Sys2Proof.Machine.execTrainingTimeout h s
  | .trainingRetry h => Sys2Proof.Machine.execTrainingRetry h s
  | .linkReenable h => Sys2Proof.Machine.execLinkReenable h s
  | .memWinControlWrite fn n v => Sys2Proof.Machine.execMemWinControlWrite fn n v s
  | .memWinsync fn => Sys2Proof.Machine.execMemWinsync fn s
  | .bar2Write off data => Sys2Proof.Machine.execBar2Write off data s
  | .bar2Read off len => Sys2Proof.Machine.execBar2Read off len s
  | .scrubPass found => Sys2Proof.Machine.execScrubPass found s
  | .correctedRewrite addr => Sys2Proof.Machine.execCorrectedRewrite addr s
  | .granuleRemap => Sys2Proof.Machine.execGranuleRemap s
  | .doorbell fn q inl pos win => Sys2Proof.Machine.execDoorbell fn q inl pos win s
  | .cqconsWrite fn q index wrap => Sys2Proof.Machine.execCqconsWrite fn q index wrap s
  | .entryRead q rd => Sys2Proof.Machine.execEntryRead q rd s
  | .entryRetire q wr => Sys2Proof.Machine.execEntryRetire q wr s
  | .sumpDrain q => Sys2Proof.Machine.execSumpDrain q s
  | .ringEnable fn q => Sys2Proof.Machine.execRingEnable fn q s
  | .ringDisable fn q => Sys2Proof.Machine.execRingDisable fn q s
  | .ringStop fn q => Sys2Proof.Machine.execRingStop fn q s
  | .ringResume fn q => Sys2Proof.Machine.execRingResume fn q s
  | .restart fn q => Sys2Proof.Machine.execRestart fn q s
  | .haltingFieldWrite fn f v => Sys2Proof.Machine.execHaltingFieldWrite fn f v s
  | .functionLevelReset fn => Sys2Proof.Machine.execFunctionLevelReset fn s
  | .sgCopy c => Sys2Proof.Machine.execSgCopy c s
  | .siphonFill c => Sys2Proof.Machine.execSiphonFill c s
  | .crc c => Sys2Proof.Machine.execCrc c s
  | .siphonPublish c => Sys2Proof.Machine.execSiphonPublish c s
  | .wait c => Sys2Proof.Machine.execWait c s
  | .waitTimeout c => Sys2Proof.Machine.execWaitTimeout c s
  | .signal c => Sys2Proof.Machine.execSignal c s
  | .fence c => Sys2Proof.Machine.execFence c s
  | .descriptorRetire c => Sys2Proof.Machine.execDescriptorRetire c s
  | .siphonBusError kind addr cands => Sys2Proof.Machine.execSiphonBusError kind addr cands s
  | .siphonRestart => Sys2Proof.Machine.execSiphonRestart s
  | .reenable fn c => Sys2Proof.Machine.execReenable fn c s
  | .waitSourcePulse n => Sys2Proof.Machine.execWaitSourcePulse n s
  | .copy u ev => Sys2Proof.Machine.execCopy u ev s
  | .fill u ev => Sys2Proof.Machine.execFill u ev s
  | .convert u ev => Sys2Proof.Machine.execConvert u ev s
  | .transform u ev => Sys2Proof.Machine.execTransform u ev s
  | .blitUnitTake u => Sys2Proof.Machine.execBlitUnitTake u s
  | .flitReceive p bytes => Sys2Proof.Machine.execFlitReceive p bytes s
  | .bringUpStart p receivers => Sys2Proof.Machine.execBringUpStart p receivers s
  | .bringUpTimeout p => Sys2Proof.Machine.execBringUpTimeout p s
  | .bringUpRetry p receivers => Sys2Proof.Machine.execBringUpRetry p receivers s
  | .portReenable fn p => Sys2Proof.Machine.execPortReenable fn p s
  | .ident m => Sys2Proof.Machine.execIdent m s
  | .linkStatus m => Sys2Proof.Machine.execLinkStatus m s
  | .linkStatusTick => Sys2Proof.Machine.execLinkStatusTick s
  | .timeSync p t1 t2 t3 t4 => Sys2Proof.Machine.execTimeSync p t1 t2 t3 t4 s
  | .timeSyncTick => Sys2Proof.Machine.execTimeSyncTick s
  | .timeSyncTimeout => Sys2Proof.Machine.execTimeSyncTimeout s
  | .ppsEdge => Sys2Proof.Machine.execPpsEdge s
  | .routeUpdate m => Sys2Proof.Machine.execRouteUpdate m s
  | .linkDown p => Sys2Proof.Machine.execLinkDown p s
  | .wallFrameTick => Sys2Proof.Machine.execWallFrameTick s
  | .heartbeat m => Sys2Proof.Machine.execHeartbeat m s
  | .summary m => Sys2Proof.Machine.execSummary m s
  | .summarySend => Sys2Proof.Machine.execSummarySend s
  | .coordinatorTimeout => Sys2Proof.Machine.execCoordinatorTimeout s
  | .takeOffice => Sys2Proof.Machine.execTakeOffice s
  | .offer m => Sys2Proof.Machine.execOffer m s
  | .gatherTimeout => Sys2Proof.Machine.execGatherTimeout s
  | .prepare m => Sys2Proof.Machine.execPrepare m s
  | .answer m => Sys2Proof.Machine.execAnswer m s
  | .decisionDeadline => Sys2Proof.Machine.execDecisionDeadline s
  | .decision m => Sys2Proof.Machine.execDecision m s
  | .registry m => Sys2Proof.Machine.execRegistry m s
  | .subscribe m => Sys2Proof.Machine.execSubscribe m s
  | .unsubscribe m => Sys2Proof.Machine.execUnsubscribe m s
  | .streamStart tree m => Sys2Proof.Machine.execStreamStart tree m s
  | .streamData tree m => Sys2Proof.Machine.execStreamData tree m s
  | .streamFrameSent idx => Sys2Proof.Machine.execStreamFrameSent idx s
  | .isolation => Sys2Proof.Machine.execIsolation s
  | .domainEntryApply => Sys2Proof.Machine.execDomainEntryApply s
  | .modeRequest c v => Sys2Proof.Machine.execModeRequest c v s
  | .modeBoundary => Sys2Proof.Machine.execModeBoundary s
  | .gallerySelfTest g failing => Sys2Proof.Machine.execGallerySelfTest g failing s
  | .read c index sub flags => Sys2Proof.Machine.execRead c index sub flags s
  | .write c index sub value => Sys2Proof.Machine.execWrite c index sub value s
  | .describe c index sub => Sys2Proof.Machine.execDescribe c index sub s
  | .segReadStart c index sub flags => Sys2Proof.Machine.execSegReadStart c index sub flags s
  | .segRead c transfer offset count => Sys2Proof.Machine.execSegRead c transfer offset count s
  | .segWriteStart c index sub length => Sys2Proof.Machine.execSegWriteStart c index sub length s
  | .segWrite c transfer offset last bytes => Sys2Proof.Machine.execSegWrite c transfer offset last bytes s
  | .segCancel c transfer => Sys2Proof.Machine.execSegCancel c transfer s
  | .transferTimeout transfer => Sys2Proof.Machine.execTransferTimeout transfer s
  | .coefficientSetLoaded => Sys2Proof.Machine.execCoefficientSetLoaded s
  | .sessionOpen c level => Sys2Proof.Machine.execSessionOpen c level s
  | .sessionProve c mac => Sys2Proof.Machine.execSessionProve c mac s
  | .sessionClose c => Sys2Proof.Machine.execSessionClose c s
  | .keepalive c => Sys2Proof.Machine.execKeepalive c s
  | .sessionTimeout session => Sys2Proof.Machine.execSessionTimeout session s
  | .lopWindowGo fn => Sys2Proof.Machine.execLopWindowGo fn s
  | .lopWindowDone => Sys2Proof.Machine.execLopWindowDone s
  | .lopForwardResponse response => Sys2Proof.Machine.execLopForwardResponse response s
  | .forwardTimeout requestId => Sys2Proof.Machine.execForwardTimeout requestId s
  | .storeNow => Sys2Proof.Machine.execStoreNow s
  | .autoStore => Sys2Proof.Machine.execAutoStore s
  | .storeDone readBackOk => Sys2Proof.Machine.execStoreDone readBackOk s
  | .readClear fn off size => Sys2Proof.Machine.execReadClear fn off size s
  | .registerWrite fn off size v => Sys2Proof.Machine.execRegisterWrite fn off size v s
  | .parityScrub mismatches => Sys2Proof.Machine.execParityScrub mismatches s
  | .parityRestore off => Sys2Proof.Machine.execParityRestore off s
  | .devReset fn v => Sys2Proof.Machine.execDevReset fn v s
  | .eventOccurrence src => Sys2Proof.Machine.execEventOccurrence src s
  | .levelFall src => Sys2Proof.Machine.execLevelFall src s
  | .pendingSet fn w v => Sys2Proof.Machine.execPendingSet fn w v s
  | .pendingClear fn w v => Sys2Proof.Machine.execPendingClear fn w v s
  | .eventEnableWrite fn w al v => Sys2Proof.Machine.execEventEnableWrite fn w al v s
  | .eoi fn w v => Sys2Proof.Machine.execEoi fn w v s
  | .evcSourceWrite fn src v => Sys2Proof.Machine.execEvcSourceWrite fn src v s
  | .groupRelease g => Sys2Proof.Machine.execGroupRelease g s
  | .messageIssue => Sys2Proof.Machine.execMessageIssue s
  | .coreAccept core => Sys2Proof.Machine.execCoreAccept core s
  | .sensorRead readings => Sys2Proof.Machine.execSensorRead readings s
  | .lampEvaluation vcorePowerReported => Sys2Proof.Machine.execLampEvaluation vcorePowerReported s
  | .lifeEvaluation => Sys2Proof.Machine.execLifeEvaluation s
  | .vcoreStep monitorMv acked => Sys2Proof.Machine.execVcoreStep monitorMv acked s
  | .thermalTrip => Sys2Proof.Machine.execThermalTrip s
  | .healthRecordAppend ok => Sys2Proof.Machine.execHealthRecordAppend ok s
  | .lockstepFault core => Sys2Proof.Machine.execLockstepFault core s
  | .coreRestartDone core => Sys2Proof.Machine.execCoreRestartDone core s
  | .powerOnReset => Sys2Proof.Machine.execPowerOnReset s
  | .supplyMonitorTrip => Sys2Proof.Machine.execSupplyMonitorTrip s
  | .perst => Sys2Proof.Machine.execPerst s
  | .pcieReset => Sys2Proof.Machine.execPcieReset s
  | .resetRelease straps => Sys2Proof.Machine.execResetRelease straps s
  | .fwReady out st => Sys2Proof.Machine.execFwReady out st s
  | .bootEnd => Sys2Proof.Machine.execBootEnd s
  | .bootWatchdog => Sys2Proof.Machine.execBootWatchdog s
  | .refClockLost => Sys2Proof.Machine.execRefClockLost s
  | .refClockRestored => Sys2Proof.Machine.execRefClockRestored s
  | .imageActivate c => Sys2Proof.Machine.execImageActivate c s
  | .imageConfirm c => Sys2Proof.Machine.execImageConfirm c s
  | .confirmDelay => Sys2Proof.Machine.execConfirmDelay s
  | .rollbackAdvance c v => Sys2Proof.Machine.execRollbackAdvance c v s
  | .recoveryStart fn => Sys2Proof.Machine.execRecoveryStart fn s
  | .recoveryChunk fn => Sys2Proof.Machine.execRecoveryChunk fn s
  | .recoveryFinish fn => Sys2Proof.Machine.execRecoveryFinish fn s
  | .deviceReset => Sys2Proof.Machine.execDeviceReset s
  | .pcieResetEnd => Sys2Proof.Machine.execPcieResetEnd s
  | .configurationWrite fn w => Sys2Proof.Machine.execConfigurationWrite fn w s
  | .ptpMessage ev => Sys2Proof.Machine.execPtpMessage ev s
  | .blockAlignment p lanes => Sys2Proof.Machine.execBlockAlignment p lanes s
  | .dtlsHandshake ev => Sys2Proof.Machine.execDtlsHandshake ev s
  | .testEn high => Sys2Proof.Machine.execTestEn high s
  | .extest inForce => Sys2Proof.Machine.execExtest inForce s

end Sys2Proof.Machine
end

