-- ==== Sys2Proof/Safety.lean ====
section
/-!
DEFINITION. What the statements of the model say a safe state is: memories in canonical form and memory windows that grant
nothing outside the memory they may cover (R208, R209, R213, R217).
-/

namespace Sys2Proof.Machine

/-- Every byte memory of the block is in canonical form: device and host memory, RECOVBUF and REQBUF. -/
def State.memCanonical (s : State) : Prop :=
  Memory.wf s.mem.dev = true ∧ Memory.wf s.mem.host = true ∧ Memory.wf s.boot.recovBuf = true ∧ Memory.wf s.lop.reqBuf = true

/-- What R217 leaves of a window in force: it is not empty; a device window ends below the spare pool; a host window ends at
2⁶³ or below and grants nothing to FABRIC or HEADS. -/
def Win.sound (w : Win) : Prop :=
  w.enable = true → w.sizeF ≠ 0 ∧
    (if w.hostF = true then (w.baseF + w.sizeF) * 4096 ≤ 2 ^ 63 ∧ w.rights < 256
     else (w.baseF + w.sizeF) * 4096 ≤ spareBase)

/-- Every memory window is sound. -/
def State.winsSound (s : State) : Prop := ∀ p ∈ s.mem.wins, Win.sound p.2

/-- The invariant that every step keeps. -/
def State.Inv (s : State) : Prop := s.memCanonical ∧ s.winsSound

/-- Byte `x` of a space lies in window `n` in force, which grants a class reading or writing (R213, R216). -/
def State.grantedBy (s : State) (c : Cls) (wr host : Bool) (n : Nat) (w : Win) (x : Nat) : Prop :=
  s.winGrants n w = true ∧ w.hostF = host ∧ w.rights.testBit (c.rightBit wr) = true
    ∧ w.baseF * 4096 ≤ x ∧ x < (w.baseF + w.sizeF) * 4096

/-! ## Rings -/

/-- An entry at `pos` of ring `q` has finished with a status and RESULT (R244). -/
def State.hasFinished (s : State) (q pos : Nat) (st : Status) (res : Nat) : Bool :=
  (s.ring q).inflight.any (fun e => e.pos == pos && e.phase == .finished st res)

/-- An entry at `pos` of ring `q` runs, and its command keeps `aux`. -/
def State.isRunning (s : State) (q pos : Nat) (aux : List Nat) : Bool :=
  (s.ring q).inflight.any (fun e => e.pos == pos && e.phase == .running && e.aux == aux)

/-- Every ring but `q` is the same. -/
def State.otherRings (s t : State) (q : Nat) : Prop := ∀ j, j ≠ q → t.ring j = s.ring j

/-- Ring `q` has entry `e` of opcode `op` in execution, not begun, and firmware serves it now (R23, R92, R96). -/
def State.serves (s : State) (q op : Nat) (e : Exec) : Prop :=
  s.running? q op = some e ∧ e.phase = .waiting ∧ s.bothCoresRetired = false ∧ s.sceneTurn = some q ∧ s.coreUp 0 = true
    ∧ sceneAllowed s.sys.mode op = true

/-! ## LOP requests -/

/-- The state in which a request's message has come by its way and its header is read: the window holds it, a ring's LOP_EXCHANGE
has fetched it, its datagram is taken, or it has come across the fabric (R236, R373 to R375). -/
def State.arrived? (s : State) (c : LopCtx) (m : List Byte) : Option State :=
  if !s.lopFree then none
  else match c.via with
    | .window => if s.lop.busy && !m.isEmpty && s.lop.taken == m then some { s with lop := { s.lop with taken := [] } } else none
    | .ring q =>
      (match s.exchange? q with
      | none => none
      | some e =>
        if e.phase == .waiting && s.mgmtTurn == some q.val && (s.exchangeCheck q e.body).isNone
            && (s.busBad (getLE e.body 16 8) (getLE e.body 8 4)).isNone && s.busRead (getLE e.body 16 8) (getLE e.body 8 4) == m then
          some (State.keepRunning { s with que := { s.que with servedM := q } } q e.pos [getLE m 4 4, getLE m 8 2])
        else none)
    | .ethernet ip port assoc =>
      let s := { s with fab := { s.fab with ethLink := true } }
      if s.discards ip port assoc m then none else some s
    | .fabric _ _ => if s.fabricUp then some s else none

/-- The state in which the service of a request runs on this device: its header and its payload are good, its session is its own, no
response of it is stored, the default session of the Ethernet may ask for it, and it goes on to no other member (R362 to R375). -/
def State.serving? (s : State) (c : LopCtx) (code : Nat) (p : List Byte) : Option State :=
  let m := lopRequest c code p
  match s.arrived? c m with
  | none => none
  | some u =>
    let v := u.purge
    let ethernet : Bool := match c.via with | .ethernet _ _ _ => c.session == 0 | _ => false
    if headerGood m && lopCtxOf c.via m == c && (c.generation == 1 || c.generation == 2) && (v.lopLevel c).isSome
        && ((v.touchSession c).stored? c).isNone && !(ethernet && !ethernetDefaultOk code (getLE p 0 2))
        && !(v.touchSession c).goesOn c && payloadOk c.generation code p then some (v.touchSession c)
    else none

/-- The latest response answers a request with an abort code and a payload (R362, R363). -/
def State.answered (t : State) (c : LopCtx) (code abort : Nat) (p : List Byte) : Prop :=
  t.lop.lastResp = lopMessage c.generation (code ||| 0x80) c.target c.session c.requestId abort p

end Sys2Proof.Machine

namespace Sys2Proof

/-! ## What commands may change -/

/-- The commands that may bring the device into RESET (R439, R440, R443, R453, R470, R472, R484). -/
def Instr.mayReset (c : Instr) : Bool :=
  match c with
  | .registerWrite .. | .thermalTrip .. | .powerOnReset .. | .supplyMonitorTrip .. | .perst .. | .fwReady ..
  | .bootWatchdog .. | .recoveryFinish .. | .deviceReset .. | .testEn .. | .extest .. => true
  | _ => false

/-- The commands at which the current mode may change (R340, R347, R441, R443, R97). -/
def Instr.setsMode (c : Instr) : Bool :=
  match c with
  | .latch .. | .modeBoundary .. | .lockstepFault .. | .resetRelease .. | .bootEnd .. => true
  | _ => c.mayReset

/-- The commands that may change what the memory windows grant (R217). -/
def Instr.setsWindows (c : Instr) : Bool :=
  match c with
  | .memWinControlWrite .. => true
  | _ => c.mayReset

/-- The commands that may change the state of a management core (R24, R25). -/
def Instr.setsCores (c : Instr) : Bool :=
  match c with
  | .lockstepFault .. | .coreRestartDone .. => true
  | _ => c.mayReset

/-- The commands that may change the health record (R433). -/
def Instr.movesHealth (c : Instr) : Bool :=
  match c with
  | .latch .. | .tileWrite .. | .uncorrectableRead .. | .galleryFault .. | .echoPartDone .. | .regionVerdict ..
  | .scrubPass .. | .correctedRewrite .. | .granuleRemap .. | .copy .. | .fill .. | .convert .. | .transform ..
  | .gallerySelfTest .. | .parityScrub .. | .lampEvaluation .. | .healthRecordAppend .. | .bootEnd .. => true
  | _ => c.mayReset

/-- The commands that may change the Siphon's channels and error registers (R254 to R277). -/
def Instr.movesChannels (c : Instr) : Bool :=
  match c with
  | .uncorrectableRead .. | .entryRead .. | .ringEnable .. | .restart .. | .haltingFieldWrite .. | .sgCopy ..
  | .siphonFill .. | .crc .. | .siphonPublish .. | .wait .. | .waitTimeout .. | .signal .. | .descriptorRetire ..
  | .siphonBusError .. | .siphonRestart .. | .reenable .. | .waitSourcePulse .. | .readClear .. => true
  | _ => c.mayReset

/-- The commands that may change the blit units (R278 to R294). -/
def Instr.movesUnits (c : Instr) : Bool :=
  match c with
  | .uncorrectableRead .. | .entryRetire .. | .sumpDrain .. | .restart .. | .functionLevelReset .. | .siphonPublish ..
  | .wait .. | .waitTimeout .. | .signal .. | .descriptorRetire .. | .siphonRestart .. | .waitSourcePulse .. | .copy ..
  | .fill .. | .convert .. | .transform .. | .blitUnitTake .. | .readClear .. | .parityScrub .. | .lampEvaluation ..
  | .pcieReset .. => true
  | _ => c.mayReset

/-- The commands that may change the source table (R36 to R53). -/
def Instr.movesSources (c : Instr) : Bool :=
  match c with
  | .registerSource .. | .withdrawSource .. | .publish .. | .checkScene .. | .commitScene .. | .admission ..
  | .sourceStateCheck .. | .tileTake .. | .uncorrectableRead .. | .echoPartDone .. | .scrubPass .. | .correctedRewrite ..
  | .functionLevelReset .. | .siphonPublish .. | .flitReceive .. | .heartbeat .. | .summary .. | .summarySend ..
  | .takeOffice .. | .offer .. | .gatherTimeout .. | .prepare .. | .answer .. | .decisionDeadline .. | .decision ..
  | .registry .. | .subscribe .. | .streamData .. | .streamFrameSent .. | .pcieReset .. => true
  | _ => c.mayReset

/-- The commands that may change the scene block (R64, R89, R430). -/
def Instr.movesScenes (c : Instr) : Bool :=
  match c with
  | .checkScene .. | .commitScene .. | .latch .. | .tileWrite .. | .galleryFault .. | .sceneRecheck ..
  | .regionVerdict .. | .flitReceive .. | .heartbeat .. | .summary .. | .summarySend .. | .takeOffice .. | .offer ..
  | .gatherTimeout .. | .prepare .. | .answer .. | .decisionDeadline .. | .decision .. | .modeBoundary ..
  | .gallerySelfTest .. | .readClear .. | .parityScrub .. | .lockstepFault .. | .bootEnd .. => true
  | _ => c.mayReset

/-- The commands that may change the object dictionary (R356 to R381). -/
def Instr.movesDict (c : Instr) : Bool :=
  match c with
  | .lopExchange .. | .latch .. | .flitReceive .. | .domainEntryApply .. | .modeRequest .. | .modeBoundary .. | .read ..
  | .write .. | .describe .. | .segReadStart .. | .segRead .. | .segWriteStart .. | .segWrite .. | .segCancel ..
  | .sessionOpen .. | .sessionProve .. | .sessionClose .. | .keepalive .. | .lopWindowDone .. | .storeNow ..
  | .autoStore .. | .storeDone .. | .lockstepFault .. | .bootEnd .. | .imageActivate .. | .imageConfirm ..
  | .rollbackAdvance .. => true
  | _ => c.mayReset

/-- The commands that may change the LOP server (R359 to R375). -/
def Instr.movesLop (c : Instr) : Bool :=
  match c with
  | .lopExchange .. | .flitReceive .. | .modeRequest .. | .modeBoundary .. | .read .. | .write .. | .describe ..
  | .segReadStart .. | .segRead .. | .segWriteStart .. | .segWrite .. | .segCancel .. | .transferTimeout ..
  | .coefficientSetLoaded .. | .sessionOpen .. | .sessionProve .. | .sessionClose .. | .keepalive .. | .sessionTimeout ..
  | .lopWindowGo .. | .lopWindowDone .. | .lopForwardResponse .. | .forwardTimeout .. | .lockstepFault ..
  | .imageActivate .. | .imageConfirm .. | .rollbackAdvance .. | .dtlsHandshake .. => true
  | _ => c.mayReset

/-- The commands that store nothing in device or host memory. -/
def Instr.keepsMemory (c : Instr) : Bool :=
  match c with
  | .registerSource .. | .withdrawSource .. | .withdrawalComplete .. | .publish .. | .pad .. | .nop .. | .admission ..
  | .sourceStateCheck .. | .commitAhead .. | .bandCompositionStart .. | .tileTake .. | .tileWrite .. | .galleryFault ..
  | .galleryReturn .. | .sceneRecheck .. | .echoPartDone .. | .regionVerdict .. | .wbCapture .. | .headResume ..
  | .syncInEdge .. | .syncInLost .. | .hpdUnplug .. | .hpdPlug .. | .irqHpd .. | .trainingAttemptEnd ..
  | .trainingTimeout .. | .trainingRetry .. | .linkReenable .. | .memWinControlWrite .. | .memWinsync .. | .bar2Read ..
  | .scrubPass .. | .correctedRewrite .. | .granuleRemap .. | .doorbell .. | .cqconsWrite .. | .ringEnable ..
  | .ringDisable .. | .ringStop .. | .ringResume .. | .haltingFieldWrite .. | .functionLevelReset .. | .fence ..
  | .reenable .. | .blitUnitTake .. | .bringUpStart .. | .bringUpTimeout .. | .bringUpRetry .. | .portReenable ..
  | .ident .. | .linkStatus .. | .linkStatusTick .. | .timeSync .. | .timeSyncTick .. | .timeSyncTimeout .. | .ppsEdge ..
  | .routeUpdate .. | .linkDown .. | .wallFrameTick .. | .coordinatorTimeout .. | .registry .. | .subscribe ..
  | .unsubscribe .. | .streamStart .. | .streamFrameSent .. | .isolation .. | .domainEntryApply .. | .gallerySelfTest ..
  | .transferTimeout .. | .sessionTimeout .. | .lopWindowGo .. | .storeNow .. | .autoStore .. | .storeDone ..
  | .readClear .. | .parityScrub .. | .parityRestore .. | .devReset .. | .eventOccurrence .. | .levelFall ..
  | .pendingSet .. | .pendingClear .. | .eventEnableWrite .. | .eoi .. | .evcSourceWrite .. | .groupRelease ..
  | .coreAccept .. | .sensorRead .. | .lampEvaluation .. | .lifeEvaluation .. | .vcoreStep .. | .healthRecordAppend ..
  | .coreRestartDone .. | .pcieReset .. | .resetRelease .. | .refClockLost .. | .refClockRestored .. | .confirmDelay ..
  | .recoveryStart .. | .recoveryChunk .. | .pcieResetEnd .. | .configurationWrite .. | .ptpMessage ..
  | .blockAlignment .. | .dtlsHandshake .. => true
  | _ => false

/-- The commands that leave every ring as it is (R232 to R253). -/
def Instr.keepsRings (c : Instr) : Bool :=
  match c with
  | .sourceStateCheck .. | .frameStart .. | .commitAhead .. | .bandCompositionStart .. | .tileTake .. | .tileWrite ..
  | .bandDrain .. | .galleryFault .. | .galleryReturn .. | .sceneRecheck .. | .echoPartDone .. | .regionVerdict ..
  | .logWriteDone .. | .wbFrameDone .. | .wbCapture .. | .headResume .. | .syncInEdge .. | .syncInLost .. | .hpdUnplug ..
  | .hpdPlug .. | .irqHpd .. | .trainingAttemptEnd .. | .trainingTimeout .. | .trainingRetry .. | .linkReenable ..
  | .memWinControlWrite .. | .memWinsync .. | .bar2Write .. | .bar2Read .. | .scrubPass .. | .correctedRewrite ..
  | .granuleRemap .. | .reenable .. | .bringUpStart .. | .bringUpTimeout .. | .bringUpRetry .. | .portReenable ..
  | .ident .. | .linkStatus .. | .linkStatusTick .. | .timeSync .. | .timeSyncTick .. | .timeSyncTimeout .. | .ppsEdge ..
  | .routeUpdate .. | .linkDown .. | .wallFrameTick .. | .coordinatorTimeout .. | .subscribe .. | .unsubscribe ..
  | .streamStart .. | .streamData .. | .streamFrameSent .. | .isolation .. | .domainEntryApply .. | .gallerySelfTest ..
  | .transferTimeout .. | .sessionTimeout .. | .lopWindowGo .. | .storeNow .. | .autoStore .. | .storeDone ..
  | .parityRestore .. | .devReset .. | .eventOccurrence .. | .levelFall .. | .pendingSet .. | .pendingClear ..
  | .eventEnableWrite .. | .eoi .. | .evcSourceWrite .. | .groupRelease .. | .messageIssue .. | .coreAccept ..
  | .sensorRead .. | .lampEvaluation .. | .lifeEvaluation .. | .vcoreStep .. | .healthRecordAppend .. | .resetRelease ..
  | .refClockLost .. | .refClockRestored .. | .confirmDelay .. | .recoveryStart .. | .recoveryChunk .. | .pcieResetEnd ..
  | .configurationWrite .. | .ptpMessage .. | .blockAlignment .. | .dtlsHandshake .. => true
  | _ => false

/-- The commands that leave every head and its link as they are (R153 to R183). -/
def Instr.keepsHeads (c : Instr) : Bool :=
  match c with
  | .withdrawSource .. | .withdrawalComplete .. | .publish .. | .querySource .. | .checkScene .. | .queryScene ..
  | .pad .. | .nop .. | .admission .. | .sourceStateCheck .. | .commitAhead .. | .galleryReturn .. | .sceneRecheck ..
  | .echoPartDone .. | .logWriteDone .. | .wbFrameDone .. | .wbCapture .. | .memWinControlWrite .. | .memWinsync ..
  | .bar2Write .. | .bar2Read .. | .scrubPass .. | .correctedRewrite .. | .granuleRemap .. | .doorbell ..
  | .cqconsWrite .. | .entryRead .. | .entryRetire .. | .sumpDrain .. | .ringEnable .. | .ringDisable .. | .ringStop ..
  | .ringResume .. | .restart .. | .haltingFieldWrite .. | .functionLevelReset .. | .sgCopy .. | .siphonFill .. | .crc ..
  | .siphonPublish .. | .wait .. | .waitTimeout .. | .signal .. | .fence .. | .descriptorRetire .. | .siphonBusError ..
  | .siphonRestart .. | .reenable .. | .waitSourcePulse .. | .copy .. | .fill .. | .convert .. | .transform ..
  | .blitUnitTake .. | .bringUpStart .. | .bringUpTimeout .. | .bringUpRetry .. | .portReenable .. | .ident ..
  | .linkStatus .. | .linkStatusTick .. | .timeSyncTick .. | .timeSyncTimeout .. | .ppsEdge .. | .routeUpdate ..
  | .linkDown .. | .wallFrameTick .. | .coordinatorTimeout .. | .prepare .. | .subscribe .. | .unsubscribe ..
  | .streamStart .. | .streamData .. | .streamFrameSent .. | .isolation .. | .domainEntryApply .. | .transferTimeout ..
  | .coefficientSetLoaded .. | .sessionTimeout .. | .lopWindowGo .. | .lopForwardResponse .. | .forwardTimeout ..
  | .storeNow .. | .autoStore .. | .storeDone .. | .parityRestore .. | .devReset .. | .eventOccurrence .. | .levelFall ..
  | .pendingSet .. | .pendingClear .. | .eventEnableWrite .. | .eoi .. | .evcSourceWrite .. | .groupRelease ..
  | .messageIssue .. | .coreAccept .. | .sensorRead .. | .lampEvaluation .. | .lifeEvaluation .. | .vcoreStep ..
  | .healthRecordAppend .. | .coreRestartDone .. | .pcieReset .. | .resetRelease .. | .refClockLost ..
  | .refClockRestored .. | .confirmDelay .. | .recoveryStart .. | .recoveryChunk .. | .pcieResetEnd ..
  | .configurationWrite .. | .ptpMessage .. | .blockAlignment .. | .dtlsHandshake .. => true
  | _ => false

end Sys2Proof
end

