-- ==== Sys2Proof/Certificates/Slice0/Obligations.lean ====
section
/-!
DEFINITION. The statements about this model, for the provers: each formalises rules of the specification as its docstring says. Where a
clause rests on a choice of the model, the docstring names the log entry.
-/

open Sys2Proof Sys2Proof.Machine

/-- PAD and NOP (R236): an entry of opcode 0x00 or 0x01 in execution finishes OK with RESULT 0; no other ring and nothing else
changes. ENTRY_RETIRE and SUMP_DRAIN (R244, R245, R247, R248): the oldest finished entry of a ring leaves it; its header is
written back with OWN clear and its completion record at the producer index; the record of the Sump is written with SUMPED once
the completion ring has space. No other byte of memory changes. -/
def Obligations.EntriesFinishAndRetire : Prop := (∀ (s : State) (q : Fin 256) (e : Exec),
  (s.running? q 0x00 = some e → ∃ t, exec (.pad q) s = .next t ∧ t.hasFinished q e.pos .ok 0 = true ∧ t = { s with que := t.que }
    ∧ s.otherRings t q) ∧
  (s.running? q 0x01 = some e → ∃ t, exec (.nop q) s = .next t ∧ t.hasFinished q e.pos .ok 0 = true ∧ t = { s with que := t.que }
    ∧ s.otherRings t q)) ∧
  (∀ (s : State) (q : Fin 256),
  let r := s.ring q
  let o := fnCls r.force.owner
  let c := r.force.cqBase + 16 * r.prodIdx
  r.force.cls ≠ ringSiphon → r.cqFull = false →
  (∀ (e : Exec) (rest : List Exec) (st : Status) (res : Nat), r.inflight = e :: rest → e.phase = .finished st res → e.opcode ≠ 0 → r.sump = [] →
    s.granted o true (r.force.sqBase + 16 * e.pos) 4 = true → s.granted o true c 16 = true →
    ∃ t, exec (.entryRetire q .ok) s = .next t ∧ (t.ring q).inflight = rest
      ∧ (t.ring q).prodIdx = (if r.prodIdx + 1 = r.cqSize then 0 else r.prodIdx + 1)
      ∧ (t.ring q).prodWrap = (if r.prodIdx + 1 = r.cqSize then !r.prodWrap else r.prodWrap)
      ∧ (t.ring q).retiredN = wrapInc 32 r.retiredN
      ∧ t.mem = ((s.busWrite (r.force.sqBase + 16 * e.pos) (leBytes 4 (withBit (getLE e.body 0 4) 31 false))).busWrite c
          ((e.record st res).bytes (!r.prodWrap) false)).mem
      ∧ s.otherRings t q) ∧
  (∀ (x : Record), r.sump = [x] → r.inflight = [] → x.hdrDone = true → x.noRec = false → r.state ≠ .halted → s.granted o true c 16 = true →
    ∃ t, exec (.sumpDrain q) s = .next t ∧ (t.ring q).sump = []
      ∧ (t.ring q).prodIdx = (if r.prodIdx + 1 = r.cqSize then 0 else r.prodIdx + 1)
      ∧ (t.ring q).retiredN = wrapInc 32 r.retiredN
      ∧ t.mem = (s.busWrite c (x.bytes (!r.prodWrap) true)).mem ∧ s.otherRings t q))

/-- The doorbell page (R241 to R243, R246): a doorbell of the owner of a ring that is not DISABLED sets doorbell-pending and makes
an IDLE ring run; a good CQCONS moves the consumer index; both are counted and otherwise ignored from any other function or on a
DISABLED ring. -/
def Obligations.DoorbellPage : Prop := ∀ (s : State) (fn : Fn) (q : Fin 256) (inl pos i : Nat) (win : List Byte) (w : Bool),
  s.hostUp fn = true →
  ((s.ring q).cfg.owner = fn → (s.ring q).state ≠ .disabled →
    ∃ t, exec (.doorbell fn q inl pos win) s = .next t ∧ (t.ring q).dbPending = true
      ∧ (t.ring q).state = (if (s.ring q).state = .idle then .running else (s.ring q).state)
      ∧ (t.ring q).head = (s.ring q).head ∧ (t.ring q).inflight = (s.ring q).inflight ∧ t = { s with que := t.que } ∧ s.otherRings t q) ∧
  ((s.ring q).cfg.owner = fn → (s.ring q).state ≠ .disabled → i < (s.ring q).cqSize → i < 2 ^ 16 →
    ((s.ring q).prodWrap = w → i ≤ (s.ring q).prodIdx) → ((s.ring q).prodWrap ≠ w → (s.ring q).prodIdx ≤ i) →
    cqUsed (s.ring q).cqSize (s.ring q).prodIdx i (s.ring q).prodWrap w ≤ (s.ring q).used →
    ∃ t, exec (.cqconsWrite fn q i w) s = .next t ∧ t.ring q = { s.ring q with consIdx := i, consWrap := w }
      ∧ t = { s with que := t.que } ∧ s.otherRings t q) ∧
  ((s.ring q).cfg.owner ≠ fn ∨ (s.ring q).state = .disabled →
    ∃ t, exec (.doorbell fn q inl pos win) s = .next t ∧ exec (.cqconsWrite fn q i w) s = .next t
      ∧ t.ring q = { s.ring q with dbIgnored := satInc 16 (s.ring q).dbIgnored } ∧ t = { s with que := t.que } ∧ s.otherRings t q)

/-- ENABLE, STOP and their clearing (R234, R250): enabling a DISABLED ring whose configuration passes takes that configuration into
force with empty rings; a configuration that fails shows its status in HALTCODE; disabling a ring with nothing in hand makes it
DISABLED; STOP with nothing in hand makes it STOPPED; clearing STOP makes it read HEAD again. RESTART and the halting fields
(R249, R250, R387): a HALTED ring of a class other than SIPHON with no record waiting runs and reads HEAD again; a write of a
halting field takes the new value and halts an enabled ring with STATE. FUNCTION_LEVEL_RESET (R251): out of RESET and of a PCIe
reset and with FWREADY set, every ring the function owns is DISABLED with nothing in hand, and its configuration space returns
to its reset values; no byte of memory changes. -/
def Obligations.RingsAreControlled : Prop := (∀ (s : State) (fn : Fn) (q : Fin 256),
  s.hostUp fn = true → s.ringReach fn q = true → s.sys.parityBad = [] →
  (s.refusedChannel q = false → (s.ring q).enable = false → (s.ring q).state = .disabled → s.enableCheck (s.ring q).cfg = none →
    ∃ t, exec (.ringEnable fn q) s = .next t ∧ (t.ring q).enable = true ∧ (t.ring q).force = (s.ring q).cfg
      ∧ (t.ring q).head = 0 ∧ (t.ring q).prodIdx = 0 ∧ (t.ring q).prodWrap = false ∧ (t.ring q).consIdx = 0
      ∧ (t.ring q).consWrap = false ∧ (t.ring q).state = (if (s.ring q).stop then .stopped else .idle) ∧ s.otherRings t q
      ∧ t.mem = s.mem) ∧
  (s.refusedChannel q = false → (s.ring q).enable = false → (s.ring q).state = .disabled →
    ∀ st, s.enableCheck (s.ring q).cfg = some st →
    ∃ t, exec (.ringEnable fn q) s = .next t ∧ (t.ring q).enable = false ∧ (t.ring q).state = .disabled
      ∧ (t.ring q).haltCode = st.code ∧ (t.ring q).enFault = true ∧ s.otherRings t q) ∧
  ((s.ring q).inflight = [] → (s.ring q).sump = [] →
    ∃ t, exec (.ringDisable fn q) s = .next t ∧ (t.ring q).enable = false ∧ (t.ring q).state = .disabled ∧ s.otherRings t q
      ∧ t.mem = s.mem) ∧
  ((s.ring q).inflight = [] → (s.ring q).sump = [] → (s.ring q).enable = true → (s.ring q).cqFull = false →
    (s.ring q).state ≠ .disabled → (s.ring q).state ≠ .halted →
    ∃ t, exec (.ringStop fn q) s = .next t ∧ (t.ring q).stop = true ∧ (t.ring q).state = .stopped ∧ s.otherRings t q
      ∧ t.mem = s.mem) ∧
  ((s.ring q).sump = [] → (s.ring q).enable = true → (s.ring q).cqFull = false → (s.ring q).stop = true →
    (s.ring q).state ≠ .disabled → (s.ring q).state ≠ .halted →
    ∃ t, exec (.ringResume fn q) s = .next t ∧ (t.ring q).stop = false ∧ (t.ring q).state = .running
      ∧ (t.ring q).dbPending = true ∧ s.otherRings t q ∧ t.mem = s.mem)) ∧
  (∀ (s : State) (fn : Fn) (q : Fin 256) (v : Nat),
  s.hostUp fn = true → s.ringReach fn q = true → s.sys.parityBad = [] →
  (s.refusedChannel q = false → (s.ring q).state = .halted → (s.ring q).byField = false →
    (s.ring q).force.cls ≠ ringSiphon → (s.ring q).sump = [] → (s.ring q).inflight = [] → (s.ring q).enable = true →
    (s.ring q).stop = false → (s.ring q).cqFull = false →
    ∃ t, exec (.restart fn q) s = .next t ∧ (t.ring q).state = .running ∧ (t.ring q).dbPending = true ∧ (t.ring q).inline = []
      ∧ (t.ring q).head = (s.ring q).head ∧ s.otherRings t q ∧ t.mem = s.mem) ∧
  (∃ t, exec (.haltingFieldWrite fn (.ringSqBase q) v) s = .next t ∧ (t.ring q).cfg = { (s.ring q).cfg with sqBase := v % 2 ^ 64 }
      ∧ (t.ring q).force = (s.ring q).force
      ∧ ((s.ring q).enable = true → (s.ring q).state ≠ .halted →
          (t.ring q).state = .halted ∧ (t.ring q).haltCode = Status.state.code ∧ (t.ring q).haltPos = (s.ring q).head)
      ∧ ((s.ring q).enable = false → (t.ring q).state = (s.ring q).state) ∧ s.otherRings t q ∧ t.mem = s.mem)) ∧
  (∀ (s : State) (fn : Fn),
  s.sys.mode ≠ .reset → s.sys.pcieReset = false → s.sys.fwReady = true →
  ∃ t, exec (.functionLevelReset fn) s = .next t
    ∧ (∀ q, (s.ring q).cfg.owner = fn → (t.ring q).state = .disabled ∧ (t.ring q).enable = false ∧ (t.ring q).inflight = []
        ∧ (t.ring q).sump = [])
    ∧ t.fnCfg fn = FnCfg.reset ∧ t.mem = s.mem)

/-- ENTRY_READ (R237, R240, R241): an entry whose OWN is clear makes the ring IDLE; one whose header is not well formed halts it
with FORMAT; a good one is taken and HEAD passes it. -/
def Obligations.EntryReadTakes : Prop := ∀ (s : State) (q : Fin 256),
  let r := s.ring q
  let a := r.force.sqBase + 16 * r.head
  let w := getLE (s.busRead a 16) 0 4
  s.mayRead q = true → (r.inline = [] ∨ r.reread = true) → s.granted (fnCls r.force.owner) false a 16 = true → s.busBad a 16 = none →
  (hdrOwn w = false →
    ∃ t, exec (.entryRead q .ok) s = .next t ∧ (t.ring q).state = .idle ∧ (t.ring q).dbPending = false
      ∧ (t.ring q).head = r.head ∧ (t.ring q).inflight = r.inflight ∧ s.otherRings t q ∧ t.mem = s.mem) ∧
  (hdrOwn w = true → headerOk r.force.cls r.head r.size w (s.busRead a 16) = false →
    ∃ t, exec (.entryRead q .ok) s = .next t ∧ (t.ring q).state = .halted ∧ (t.ring q).haltCode = Status.format.code
      ∧ (t.ring q).haltPos = r.head ∧ (t.ring q).head = r.head ∧ (t.ring q).inflight = r.inflight ∧ s.otherRings t q ∧ t.mem = s.mem) ∧
  (hdrOwn w = true → headerOk r.force.cls r.head r.size w (s.busRead a 16) = true → bit (getLE (s.busRead a (16 * hdrLen w)) 0 4) 30 = false → r.force.cls ≠ ringBlit →
    s.granted (fnCls r.force.owner) false a (16 * hdrLen w) = true → s.busBad a (16 * hdrLen w) = none →
    ∃ t, exec (.entryRead q .ok) s = .next t ∧ (t.ring q).head = (r.head + hdrLen (getLE (s.busRead a (16 * hdrLen w)) 0 4)) % r.size
      ∧ (t.ring q).inflight = r.inflight ++ [r.entryOf (s.busRead a (16 * hdrLen w)) s.now] ∧ s.otherRings t q ∧ t.mem = s.mem)

/-- REGISTER_SOURCE (R36 to R39, R63) of a source homed here: a record that fails a check finishes with that check's status and
enters nothing; a new one is entered as registered, in state NEVER with nothing published, and REPLACE changes the registration
and leaves what the source has published. No other source and no byte of memory changes. WITHDRAW_SOURCE and WITHDRAWAL_COMPLETE
(R60): at the home device the source is WITHDRAWN at execution and the command runs on; it completes OK once no band in
composition holds one of the source's buffers and no read for a stream frame of it is outstanding. -/
def Obligations.RegistrationsComeAndGo : Prop := (∀ (s : State) (q : Fin 256) (e : Exec),
  let b := (e.unitBytes 1).take 80
  let id := recordId b
  s.serves q 0x20 e → allZero ((e.body.drop 8).take 8) = true → regReservedOk (e.unitBytes 1) = true →
  (∀ st, s.regCheck b = some st → ∃ t, exec (.registerSource q) s = .next t ∧ t.hasFinished q e.pos st 0 = true ∧ t.src = s.src
    ∧ t.mem.dev = s.mem.dev ∧ t.mem.host = s.mem.host ∧ s.otherRings t q) ∧
  (s.regCheck b = none → (Reg.ofBytes b).home = s.ownAddress → (s.source? id = none ∨ recordReplace b = false) →
    ∃ t, exec (.registerSource q) s = .next t ∧ t.hasFinished q e.pos .ok 0 = true
      ∧ t.source? id = some { reg := Reg.ofBytes b, withdrawn := false, cur := none, bufs := [], lastCrc := none, repeats := 0,
                              rejects := 0, conflicts := 0, pubs := 0, reported := .never, replicas := [] }
      ∧ (∀ j, j ≠ id → t.source? j = s.source? j) ∧ t.mem = s.mem ∧ s.otherRings t q) ∧
  (∀ x, s.regCheck b = none → (Reg.ofBytes b).home = s.ownAddress → s.source? id = some x → recordReplace b = true →
    ∃ t y, exec (.registerSource q) s = .next t ∧ t.hasFinished q e.pos .ok 0 = true ∧ t.source? id = some y
      ∧ y.reg = Reg.ofBytes b ∧ y.cur = x.cur ∧ y.bufs = x.bufs ∧ y.pubs = x.pubs ∧ y.rejects = x.rejects ∧ y.withdrawn = x.withdrawn
      ∧ (∀ j, j ≠ id → t.source? j = s.source? j) ∧ t.mem = s.mem ∧ s.otherRings t q)) ∧
  (∀ (s : State) (q : Fin 256) (e : Exec),
  let id := getLE e.body 8 2
  (∀ x, s.serves q 0x21 e → allZero ((e.body.drop 10).take 6) = true → id < 8192 → s.source? id = some x → x.withdrawn = false →
    x.reg.home = s.ownAddress →
    ∃ t y, exec (.withdrawSource q) s = .next t ∧ t.source? id = some y ∧ y.withdrawn = true ∧ y.reg = x.reg
      ∧ t.isRunning q e.pos [1] = true ∧ (∀ j, j ≠ id → t.source? j = s.source? j) ∧ t.mem = s.mem ∧ t.heads = s.heads) ∧
  (s.running? q 0x21 = some e → e.phase = .running → e.aux = [1] → s.bandHolds id = [] → Tbl.find? s.fab.tx id = none →
    ∃ t, exec (.withdrawalComplete q) s = .next t ∧ t.hasFinished q e.pos .ok 0 = true ∧ t = { s with que := t.que } ∧ s.otherRings t q))

/-- PUBLISH (R41): a publication that its checks pass is handed to the source table after those that came before, and the entry runs
until admission answers; one that they refuse finishes with the refusal's status and hands over nothing. ADMISSION (R42): the
publication that arrived first leaves the list. One that step 1 refuses, or whose stamp is not later than that of the current
buffer, is rejected and counted in REJECTS of a known source; any other makes its buffer current with its stamp and CRC and
counts in PUBS. -/
def Obligations.PublicationsAreAdmitted : Prop := (∀ (s : State) (q : Fin 256) (e : Exec),
  s.running? q 0x22 = some e → e.phase = .waiting →
  (s.publishRefusal e = none →
    ∃ t, exec (.publish q) s = .next t ∧ t.isRunning q e.pos [] = true
      ∧ t.src.arrivals = s.src.arrivals ++ [{ raw := (e.unitBytes 1).take 16, path := .host q, at_ := s.now }]
      ∧ t = { s with que := t.que, src := t.src } ∧ t.src.table = s.src.table ∧ s.otherRings t q) ∧
  (∀ st, s.publishRefusal e = some st →
    ∃ t, exec (.publish q) s = .next t ∧ t.hasFinished q e.pos st 0 = true ∧ t = { s with que := t.que } ∧ s.otherRings t q)) ∧
  (∀ (s : State) (p : Pub) (rest : List Pub),
  let id := pubId p.raw
  s.src.arrivals = p :: rest →
  (∀ st x, s.pubStep1 p = some st → s.source? id = some x →
    ∃ t y, exec .admission s = .next t ∧ t.src.arrivals = rest ∧ t.source? id = some y ∧ y.rejects = satInc 32 x.rejects
      ∧ y.cur = x.cur ∧ y.pubs = x.pubs ∧ y.bufs = x.bufs ∧ (∀ j, j ≠ id → t.source? j = s.source? j) ∧ t.mem = s.mem) ∧
  (∀ x, s.pubStep1 p = none → s.source? id = some x →
    (∀ b, x.cur = some b → (Tbl.get Buf.reset x.bufs b).stamp < (pubStampAt p x.reg.stampDevice s.now).1) →
    ∃ t y, exec .admission s = .next t ∧ t.src.arrivals = rest ∧ t.source? id = some y ∧ y.cur = some (pubBuffer p.raw)
      ∧ y.pubs = wrapInc 32 x.pubs ∧ y.rejects = x.rejects
      ∧ (Tbl.get Buf.reset y.bufs (pubBuffer p.raw)).stamp = (pubStampAt p x.reg.stampDevice s.now).1
      ∧ (Tbl.get Buf.reset y.bufs (pubBuffer p.raw)).crc = (if pubCrcValid p.raw then some (pubCrc p.raw) else none)) ∧
  (∀ x b, s.pubStep1 p = none → s.source? id = some x → x.cur = some b →
    (pubStampAt p x.reg.stampDevice s.now).1 ≤ (Tbl.get Buf.reset x.bufs b).stamp →
    ∃ t y, exec .admission s = .next t ∧ t.src.arrivals = rest ∧ t.source? id = some y ∧ y.rejects = satInc 32 x.rejects
      ∧ y.cur = x.cur ∧ y.pubs = x.pubs ∧ y.bufs = x.bufs ∧ t.mem = s.mem))

/-- SOURCE_STATE_CHECK (R53): the state reported of every source is its state at the present wall time; what it has published stays.
QUERY_SOURCE and QUERY_SCENE (R53, R63, R66): the source status record of 24 bytes, or a record of 32 bytes for each head of the
mask in ascending order, is written at the address that the command gives, and the command finishes OK; an address that the
owner's windows do not grant finishes it with BOUNDS and a source that is not registered with STATE, and then memory is not
written. -/
def Obligations.QueriesAndStates : Prop := (∀ (s : State) (id : Nat) (x : Source), s.source? id = some x →
  ∃ t y, exec .sourceStateCheck s = .next t ∧ t.source? id = some y ∧ y.reported = x.report s.now ∧ y = { x with reported := y.reported }
    ∧ t.mem = s.mem ∧ t.que = s.que ∧ t.heads = s.heads) ∧
  (∀ (s : State) (q : Fin 256) (e : Exec),
  let a := getLE e.body 16 8
  let id := getLE e.body 8 2
  let heads := bitsOf 16 (getLE e.body 8 2)
  (s.serves q 0x23 e → queryBodyOk e = true → id < 8192 →
    (∀ x, s.granted (s.ringCls q) true a 24 = true → s.source? id = some x →
      ∃ t, exec (.querySource q) s = .next t ∧ t.hasFinished q e.pos .ok 0 = true
        ∧ t.mem = (s.busWrite a (s.statusRecord id x)).mem ∧ t.src = s.src ∧ t.heads = s.heads ∧ s.otherRings t q) ∧
    (s.granted (s.ringCls q) true a 24 = true → s.source? id = none →
      ∃ t, exec (.querySource q) s = .next t ∧ t.hasFinished q e.pos .state 0 = true ∧ t.mem = s.mem ∧ s.otherRings t q) ∧
    (s.granted (s.ringCls q) true a 24 = false →
      ∃ t, exec (.querySource q) s = .next t ∧ t.hasFinished q e.pos .bounds 0 = true
        ∧ t.mem.dev = s.mem.dev ∧ t.mem.host = s.mem.host ∧ t.mem.boundsCnt = satInc 32 s.mem.boundsCnt ∧ s.otherRings t q)) ∧
  (s.serves q 0x32 e → queryBodyOk e = true →
    (s.granted (s.ringCls q) true a (32 * heads.length) = true →
      ∃ t, exec (.queryScene q) s = .next t ∧ t.hasFinished q e.pos .ok 0 = true
        ∧ t.mem = (s.busWrite a (heads.flatMap (fun h => s.queryRecord h))).mem ∧ t.heads = s.heads ∧ s.otherRings t q) ∧
    (s.granted (s.ringCls q) true a (32 * heads.length) = false →
      ∃ t, exec (.queryScene q) s = .next t ∧ t.hasFinished q e.pos .bounds 0 = true
        ∧ t.mem.dev = s.mem.dev ∧ t.mem.host = s.mem.host ∧ s.otherRings t q)))

/-- CHECK_SCENE (R64, R78): the scene is read and judged by rows 0 to 4, 6 and 7 in their order; the command finishes with the
status of the first row that fails, OK when none does, and nothing changes on any head. -/
def Obligations.CheckSceneJudges : Prop := ∀ (s : State) (q : Fin 256) (ns : Nat) (e : Exec),
  let s0 : State := { s with que := { s.que with served := q } }
  let r := s0.readScene q e
  s.serves q 0x30 e → s.gal.coefPending = [] →
  (∀ st, sceneBody e = some st → ∃ t, exec (.checkScene q ns) s = .next t ∧ t.hasFinished q e.pos st 0 = true ∧ t.heads = s.heads) ∧
  (∀ d, sceneBody e = none → r.2 = .error d →
    ∃ t, exec (.checkScene q ns) s = .next t ∧ t.hasFinished q e.pos d.status 0 = true ∧ t.heads = s.heads) ∧
  (∀ sc d, sceneBody e = none → r.2 = .ok sc → r.1.row6 sc = some d →
    ∃ t, exec (.checkScene q ns) s = .next t ∧ t.hasFinished q e.pos d.status 0 = true ∧ t.heads = s.heads) ∧
  (∀ sc d, sceneBody e = none → r.2 = .ok sc → r.1.row6 sc = none → r.1.row7 sc = some d →
    ∃ t, exec (.checkScene q ns) s = .next t ∧ t.hasFinished q e.pos d.status 0 = true ∧ t.heads = s.heads) ∧
  (∀ sc, sceneBody e = none → r.2 = .ok sc → r.1.row6 sc = none → r.1.row7 sc = none →
    ∃ t, exec (.checkScene q ns) s = .next t ∧ t.hasFinished q e.pos .ok 0 = true ∧ t.heads = s.heads ∧ t.scn.lastStatus = 0)

/-- COMMIT_SCENE outside a coherent domain (R65, R78, R90): a scene that passes rows 0 to 8 becomes the pending scene of every head
it names, with its epoch and the frame from which it will be shown, and the command finishes OK; no other head changes. A scene
that fails a row is rejected with that row's status and no head changes. -/
def Obligations.CommitSceneAccepts : Prop := ∀ (s : State) (q : Fin 256) (ns : Nat) (e : Exec),
  let s0 : State := { s with que := { s.que with served := q } }
  let r := s0.readScene q e
  s.serves q 0x31 e → s.gal.coefPending = [] → (s.coherent = false ∨ s.sys.mode = .isolated) →
  (∀ st, sceneBody e = some st → ∃ t, exec (.commitScene q ns) s = .next t ∧ t.hasFinished q e.pos st 0 = true ∧ t.heads = s.heads
    ∧ t.scn.rejected = satInc 16 s.scn.rejected) ∧
  (∀ d, sceneBody e = none → r.2 = .error d →
    ∃ t, exec (.commitScene q ns) s = .next t ∧ t.hasFinished q e.pos d.status 0 = true ∧ t.heads = s.heads
      ∧ t.scn.rejected = satInc 16 s.scn.rejected) ∧
  (∀ sc d, sceneBody e = none → r.2 = .ok sc →
    (r.1.row5 sc).orElse (fun _ => (r.1.row6 sc).orElse (fun _ => (r.1.row7 sc).orElse (fun _ => r.1.row8 e sc))) = some d →
    ∃ t, exec (.commitScene q ns) s = .next t ∧ t.hasFinished q e.pos d.status 0 = true ∧ t.heads = s.heads
      ∧ t.scn.rejected = satInc 16 s.scn.rejected) ∧
  (∀ sc, sceneBody e = none → r.2 = .ok sc → r.1.row5 sc = none → r.1.row6 sc = none → r.1.row7 sc = none → r.1.row8 e sc = none →
    ∃ t, exec (.commitScene q ns) s = .next t ∧ t.hasFinished q e.pos .ok (r.1.commitResult sc) = true
      ∧ (∀ h ∈ sc.named, (t.head h).pend = some sc ∧ (t.head h).pendEpoch = sc.epoch ∧ (t.head h).target = (s.head h).targetNow
          ∧ (t.head h).cur = (s.head h).cur ∧ (t.head h).curEpoch = (s.head h).curEpoch)
      ∧ (∀ h, h ∉ sc.named → t.head h = s.head h) ∧ t.scn.accepted = satInc 16 s.scn.accepted)

/-- LATCH and COMMIT_AHEAD (R89, R90, R94, R97): at its latch a running head whose pending scene is due makes it the current one
with its epoch, and no scene is pending any more; a scene that is not due stays pending; the event of COMMIT_AHEAD changes
nothing on any head. -/
def Obligations.LatchTakesPending : Prop := ∀ (s : State) (h : Fin 16),
  let x := s.head h
  (x.runs = true → x.latched = false → s.sys.autoCause = none → s.sys.working ≠ .standby →
    (x.pend.isSome = true → x.dueAt = true →
      ∃ t, exec (.latch h) s = .next t ∧ (t.head h).cur = x.pend ∧ (t.head h).curEpoch = x.pendEpoch ∧ (t.head h).pend = none
        ∧ (t.head h).latched = true ∧ (t.head h).nextBand = 0 ∧ (∀ j : Nat, j ≠ h.val → t.head j = s.head j)) ∧
    ((x.pend.isSome && x.dueAt) = false →
      ∃ t, exec (.latch h) s = .next t ∧ (t.head h).cur = x.cur ∧ (t.head h).curEpoch = x.curEpoch ∧ (t.head h).pend = x.pend
        ∧ (t.head h).latched = true ∧ (t.head h).nextBand = 0 ∧ (∀ j : Nat, j ≠ h.val → t.head j = s.head j))) ∧
  (x.state ≠ .off → ∃ t, exec (.commitAhead h) s = .next t ∧ t = s.raiseHead h .commitAhead ∧ t.heads = s.heads ∧ t.mem = s.mem
    ∧ t.que = s.que)

/-- HPD_UNPLUG, HPD_PLUG and IRQ_HPD (R165, R167): a sink that goes away leaves its link with NO_SINK and nothing transmitted; one
that appears is read, the window of failures is cleared, and the link trains where the head's state calls for one; an IRQ_HPD
during an attempt waits for its end, and on a trained link that the sink lost the loss is counted. No other link and no head
changes. -/
def Obligations.SinkPlugging : Prop := ∀ (s : State) (h : Fin 16) (caps : SinkCaps) (lost : Bool),
  s.hpdRead h = true →
  ((s.link h).state ≠ .noSink →
    ∃ t, exec (.hpdUnplug h) s = .next t ∧ (t.link h).state = .noSink ∧ (t.link h).sink = none ∧ (t.link h).carrying = false
      ∧ (t.link h).lanes = 0 ∧ (t.link h).auxOn = false ∧ (t.link h).events = (s.link h).events
      ∧ (∀ j : Nat, j ≠ h.val → t.link j = s.link j) ∧ (∀ j : Nat, t.head j = s.head j) ∧ t.mem = s.mem) ∧
  ((s.link h).sink = none →
    ∃ t, exec (.hpdPlug h caps) s = .next t ∧ (t.link h).sink = some caps ∧ (t.link h).failTimes = [] ∧ (t.link h).auxOn = true
      ∧ (t.link h).state = (if s.wantsLink h then (if (s.linkConfigs h caps).isEmpty then .insufficient else .training) else .down)
      ∧ (∀ j : Nat, j ≠ h.val → t.link j = s.link j) ∧ (∀ j : Nat, t.head j = s.head j) ∧ t.mem = s.mem) ∧
  ((s.link h).auxOn = true → (s.link h).sink.isSome = true →
    ((s.link h).state = .training →
      ∃ t, exec (.irqHpd h lost) s = .next t ∧ t.link h = { s.link h with irqWaits := some (lost || (s.link h).irqWaits.getD false) }
        ∧ (∀ j : Nat, j ≠ h.val → t.link j = s.link j) ∧ (∀ j : Nat, t.head j = s.head j) ∧ t.mem = s.mem) ∧
    ((s.link h).state ≠ .training → (lost = false ∨ (s.link h).state ≠ .up) →
      ∃ t, exec (.irqHpd h lost) s = .next t ∧ t = s.raiseHead h .sinkIrq ∧ t.heads = s.heads ∧ t.mem = s.mem) ∧
    ((s.link h).state = .up → lost = true →
      ∃ t, exec (.irqHpd h lost) s = .next t ∧ (t.link h).events = satInc 32 (s.link h).events ∧ (t.link h).carrying = false
        ∧ (t.head h).lossRc = satInc 16 (s.head h).lossRc ∧ (t.link h).state ≠ .up
        ∧ (∀ j : Nat, j ≠ h.val → t.link j = s.link j) ∧ (∀ j : Nat, j ≠ h.val → t.head j = s.head j) ∧ t.mem = s.mem))

/-- TRAINING_ATTEMPT_END, TRAINING_TIMEOUT, TRAINING_RETRY and LINK_REENABLE (R165, R166): an attempt that reaches one of its
configurations makes the link UP at it; one that fails, or 300 ms after it began, counts and is tried again after 100 ms, but
the fifth failure within 2 s retires the link; a retry that is due begins an attempt; LinkReenable clears the window of failures
and a retired link leaves RETIRED. -/
def Obligations.LinkTraining : Prop := ∀ (s : State) (h : Fin 16) (c : SinkCaps),
  let l := s.link h
  let recent := l.failTimes.filter (fun t => decide (s.now ≤ t + 2000000000)) ++ [s.now]
  (∀ tr, l.state = .training → l.sink = some c → (s.linkConfigs h c).contains tr = true → l.irqWaits = none →
    ∃ t, exec (.trainingAttemptEnd h (some tr)) s = .next t ∧ (t.link h).state = .up ∧ (t.link h).rate = tr.rate
      ∧ (t.link h).lanes = tr.lanes ∧ (t.link h).events = l.events ∧ (∀ j : Nat, j ≠ h.val → t.link j = s.link j)
      ∧ (∀ j : Nat, t.head j = s.head j) ∧ t.mem = s.mem) ∧
  (l.state = .training → l.irqWaits = none →
    ∃ t, exec (.trainingAttemptEnd h none) s = .next t ∧ (t.link h).events = satInc 32 l.events
      ∧ (t.link h).state = (if 5 ≤ recent.length then .retired else .down)
      ∧ (t.link h).retryAt = (if 5 ≤ recent.length then none else some (s.now + 100000000)) ∧ (t.link h).carrying = false
      ∧ (∀ j : Nat, j ≠ h.val → t.link j = s.link j) ∧ (∀ j : Nat, j ≠ h.val → t.head j = s.head j) ∧ t.mem = s.mem) ∧
  (l.state = .training → l.irqWaits = none → l.attemptAt + 300000000 ≤ s.now →
    ∃ t, exec (.trainingTimeout h) s = .next t ∧ (t.link h).events = satInc 32 l.events
      ∧ (t.link h).state = (if 5 ≤ recent.length then .retired else .down)
      ∧ (∀ j : Nat, j ≠ h.val → t.link j = s.link j) ∧ (∀ j : Nat, j ≠ h.val → t.head j = s.head j) ∧ t.mem = s.mem) ∧
  (∀ r, l.retryAt = some r → r ≤ s.now → s.wantsLink h = true → l.sink = some c →
    ∃ t, exec (.trainingRetry h) s = .next t
      ∧ (t.link h).state = (if (s.linkConfigs h c).isEmpty then .insufficient else .training) ∧ (t.link h).attemptAt = s.now
      ∧ (t.link h).retryAt = none ∧ (∀ j : Nat, j ≠ h.val → t.link j = s.link j) ∧ (∀ j : Nat, t.head j = s.head j) ∧ t.mem = s.mem) ∧
  ∃ t, exec (.linkReenable h) s = .next t ∧ (t.link h).failTimes = [] ∧ (t.link h).state ≠ .retired
    ∧ (l.state ≠ .retired → (t.link h).state = l.state) ∧ (l.state = .retired → s.wantsLink h = false → (t.link h).state = .down)
    ∧ (∀ j : Nat, j ≠ h.val → t.link j = s.link j) ∧ (∀ j : Nat, t.head j = s.head j) ∧ t.mem = s.mem

/-- SYNC_IN_EDGE and SYNC_IN_LOST (R157, R158): a valid edge gives every running head that locks to SYNC_IN its target moment;
without one for two frame periods such a head goes into HOLDOVER; a head that does not lock to SYNC_IN does not change.
FRAME_START and HEAD_RESUME (R155, R157, R176): at line 0 a running head that neither stops nor restarts is in the state that
its mode and its calls give, its frame number goes on by one from the first frame's 0, the frame starts now, and its latch is
ahead; HeadResume calls a running head at its next line 0. No other head's frame or state changes. -/
def Obligations.HeadsFollowTheirClocks : Prop := (∀ (s : State) (h : Fin 16),
  let x := s.head h
  (∃ t, exec .syncInEdge s = .next t ∧ t.heads.syncLast = some s.now ∧ t.mem = s.mem
    ∧ (x.onSyncIn = false → t.head h = x)
    ∧ (x.onSyncIn = true → s.heads.syncLast = none → (t.head h).syncTarget = some ((s.now : Int) + s.syncInOffset h).toNat
        ∧ (t.head h).frame = x.frame ∧ (t.head h).state = x.state)) ∧
  (∃ t, exec .syncInLost s = .next t ∧ t.mem = s.mem ∧ (x.onSyncIn = false → t.head h = x)
    ∧ (x.onSyncIn = true → 2 * x.timing.den * 1000000000 ≤ (s.now - s.heads.syncLast.getD x.startAt) * x.timing.num →
        (t.head h).lock = .holdover ∧ (t.head h).frame = x.frame ∧ (t.head h).state = x.state))) ∧
  (∀ (s : State) (h : Fin 16) (sink : SinkCrc),
  let x := s.head h
  (x.runs = true → x.timing.bond = false → x.next ≠ some .off → x.restart = false →
    ∃ t, exec (.frameStart h sink) s = .next t ∧ (t.head h).state = s.stateAt h x.calls ∧ (t.head h).frame = x.nextFrame
      ∧ (t.head h).counted = true ∧ (t.head h).f = s.now ∧ (t.head h).starting = false ∧ (t.head h).latched = false
      ∧ (t.head h).nextDrain = 0 ∧ (t.head h).cur = x.cur ∧ (t.head h).pend = x.pend
      ∧ ∀ j : Nat, j ≠ h.val → (t.head j).frame = (s.head j).frame ∧ (t.head j).state = (s.head j).state
          ∧ (t.head j).cur = (s.head j).cur ∧ (t.head j).pend = (s.head j).pend) ∧
  (x.runs = false → x.timing.bond = false → ∃ t, exec (.frameStart h sink) s = .next t ∧ t = s) ∧
  (∃ t, exec (.headResume h) s = .next t ∧ (t.head h).resume = x.runs ∧ (t.head h).state = x.state ∧ (t.head h).frame = x.frame
    ∧ ∀ j : Nat, j ≠ h.val → (t.head j).frame = (s.head j).frame ∧ (t.head j).state = (s.head j).state))

/-- BAND_COMPOSITION_START and TILE_TAKE (R101 to R103, R106): the next band of a running head begins, and when its state composes
it stands in the head's band buffer; an idle engine of a gallery in service takes the next tile of the queue with its pixels,
and a read that fails twice counts twice and starts no tile. BAND_DRAIN (R120, R122, R161): the next band of the frame leaves
the band buffer, in order; a band that was not composed in time counts as missed on its head, and one that was does not; no
other head moves on. -/
def Obligations.BandsAreComposedAndDrained : Prop := (∀ (s : State) (hd : Fin 16) (g : Fin 12) (e : Fin 17),
  let x := s.head hd
  let y := s.gallery g
  (x.runs = true → x.nextBand < x.bandCount →
    ∃ t, exec (.bandCompositionStart hd) s = .next t ∧ (t.head hd).nextBand = x.nextBand + 1
      ∧ ((s.composingState hd).composes = true → (t.band? hd x.bandFrame.1 x.nextBand).isSome = true)
      ∧ (∀ j : Nat, (t.head j).frame = (s.head j).frame ∧ (t.head j).state = (s.head j).state ∧ (t.head j).cur = (s.head j).cur)
      ∧ (∀ j : Nat, j ≠ hd.val → (t.head j).nextBand = (s.head j).nextBand) ∧ t.mem.dev = s.mem.dev ∧ t.mem.host = s.mem.host) ∧
  (y.inService = true → y.gated = false → y.engineActive e = true → y.jobs.any (fun j => j.engine == e.val) = false →
    (∀ h b k, s.nextTile g e = some (h, b, k) → s.tileBad h b k = none →
      ∃ t, exec (.tileTake g e) s = .next t
        ∧ (t.gallery g).jobs = y.jobs ++ [{ engine := e, head := h, frame := b.frame, band := b.band, tile := k, pixels := s.tilePixels h b k }]
        ∧ (∀ j : Nat, j ≠ g.val → t.gallery j = s.gallery j) ∧ t.mem = s.mem ∧ (∀ j : Nat, (t.head j).frame = (s.head j).frame)) ∧
    (∀ h b k p, s.nextTile g e = some (h, b, k) → s.tileBad h b k = some p →
      ∃ t, exec (.tileTake g e) s = .next t ∧ t.mem.uncorr = satInc 32 (satInc 32 s.mem.uncorr) ∧ t.mem.lastError = p.1
        ∧ t.mem.dev = s.mem.dev ∧ t.mem.host = s.mem.host))) ∧
  (∀ (s : State) (h : Fin 16) (full : List (Fin 4)),
  let x := s.head h
  x.state ≠ .off → x.counted = true → x.nextDrain < x.bandCount →
  ∃ t, exec (.bandDrain h full) s = .next t ∧ (t.head h).nextDrain = x.nextDrain + 1 ∧ (t.head h).frame = x.frame ∧ (t.head h).state = x.state
    ∧ (∀ j : Nat, j ≠ h.val → t.head j = s.head j)
    ∧ (x.state = .idle → t.mem = s.mem ∧ (t.head h).missCount = x.missCount)
    ∧ (x.state ≠ .idle → x.state ≠ .halted → s.band? h x.frame x.nextDrain = none →
        (t.head h).missCount = satInc 32 x.missCount ∧ (t.head h).missInFrame = true)
    ∧ (∀ b, x.state ≠ .idle → x.state ≠ .halted → s.band? h x.frame x.nextDrain = some b → b.finished = true → b.abandon = false →
        (t.head h).missCount = x.missCount ∧ t.band? h x.frame x.nextDrain = none))

/-- TILE_WRITE, GALLERY_FAULT and GALLERY_RETURN (R103, R124, R127): a tile whose checks pass is in its band with its pixels and
counts in TilesDone; a detected fault counts on its engine; the first fault of a shared part takes the gallery out of service
until it returns, and one within 1 s of the last retires it. -/
def Obligations.GalleriesWriteAndFail : Prop := ∀ (s : State) (g : Fin 12) (e : Fin 17),
  let y := s.gallery g
  (∀ j b, y.jobs.find? (fun j => j.engine == e.val) = some j → s.band? j.head j.frame j.band = some b → b.abandon = false →
    ∃ t b', exec (.tileWrite g e false) s = .next t ∧ (t.gallery g).tilesDone = wrapInc 64 y.tilesDone
      ∧ (t.gallery g).jobs = y.jobs.filter (fun i => i.engine != e.val) ∧ t.band? j.head j.frame j.band = some b'
      ∧ Tbl.find? b'.done j.tile = some j.pixels ∧ b'.decs = b.decs ∧ t.mem = s.mem
      ∧ (∀ i : Nat, (t.head i).frame = (s.head i).frame ∧ (t.head i).state = (s.head i).state)) ∧
  (∀ j, y.jobs.find? (fun j => j.engine == e.val) = some j → Tbl.find? y.engFaults e = none →
    ∃ t, exec (.tileWrite g e true) s = .next t ∧ t.gal.engineFaults = satInc 32 s.gal.engineFaults
      ∧ (t.gallery g).faults = satInc 16 y.faults ∧ (t.gallery g).retiredEng = y.retiredEng
      ∧ (t.gallery g).jobs = y.jobs.filter (fun i => i.engine != j.engine) ∧ t.mem = s.mem) ∧
  (y.retired = false → y.excluded = false → (∀ l, y.lastShared = some l → l + 1000000000 < s.now) →
    ∃ t, exec (.galleryFault g) s = .next t ∧ (t.gallery g).faultOut = true ∧ (t.gallery g).retired = false ∧ (t.gallery g).jobs = []
      ∧ t.gal.galFaults = satInc 32 s.gal.galFaults ∧ t.mem = s.mem) ∧
  (∀ l, y.retired = false → y.excluded = false → y.lastShared = some l → s.now ≤ l + 1000000000 →
    ∃ t, exec (.galleryFault g) s = .next t ∧ (t.gallery g).retired = true ∧ (t.gallery g).jobs = [] ∧ t.mem = s.mem) ∧
  (y.faultOut = true → ∃ t, exec (.galleryReturn g) s = .next t ∧ (t.gallery g).faultOut = false
    ∧ (t.gallery g).coefLoaded = s.loadedSets ∧ (t.gallery g).retired = y.retired
    ∧ (∀ j : Nat, j ≠ g.val → t.gallery j = s.gallery j) ∧ t.mem = s.mem)

/-- REGION_VERDICT and ECHO_PART_DONE (R191, R194 to R197): the verdict of a region whose CRC is final is kept with its CRC, and one
region's verdict changes no other region's; a mismatch counts on its head; the part that Echo has finished is no longer
outstanding. -/
def Obligations.LanternJudges : Prop := ∀ (s : State) (h : Fin 16) (rid : Fin 64) (r : Region),
  let x := s.region h rid
  (x.final = true → (s.regionsOf h).find? (fun r => r.id == rid.val) = some r →
    ∃ t, exec (.regionVerdict h rid) s = .next t ∧ (t.region h rid).verdict = (s.verdict h r x).1
      ∧ (t.region h rid).crc = crcFinal x.crcReg ∧ (t.region h rid).final = false ∧ t.mem.dev = s.mem.dev ∧ t.mem.host = s.mem.host
      ∧ (∀ h' r', h' < 16 → r' < 64 → (h' ≠ h.val ∨ r' ≠ rid.val) → (t.region h' r').verdict = (s.region h' r').verdict)
      ∧ ((s.verdict h r x).1 = 2 → Tbl.get 0 t.lant.mismatches h = satInc 32 (Tbl.get 0 s.lant.mismatches h))
      ∧ ((s.verdict h r x).1 ≠ 2 → s.lant.analysis = none → t.lant.mismatches = s.lant.mismatches ∧ t.heads = s.heads)) ∧
  (∀ (p : EchoPart) (b : Band) (i : Nat), s.echoPart h rid = some (i, p, b) →
    (∀ out, b.scene.bind (fun sc => sc.regions.find? (fun r => r.head == h.val && r.id == rid.val)) = none →
      ∃ t, exec (.echoPartDone h rid out) s = .next t ∧ t.heads = s.heads ∧ t.mem = s.mem
        ∧ t.lant.parts = s.lant.parts.filter (fun (q : Nat × EchoPart × Band) => !(q.1 == h.val && decide (q.2.1 = p)))) ∧
    (b.scene.bind (fun sc => sc.regions.find? (fun r => r.head == h.val && r.id == rid.val)) = some r → s.echoReads h r b = .ok →
      ∃ t, exec (.echoPartDone h rid .done) s = .next t ∧ t.lant.partsDone = wrapInc 64 s.lant.partsDone ∧ t.heads = s.heads ∧ t.mem = s.mem
        ∧ t.lant.parts = s.lant.parts.filter (fun (q : Nat × EchoPart × Band) => !(q.1 == h.val && decide (q.2.1 = p)))))

/-- LOG_WRITE_DONE, WB_CAPTURE and WB_FRAME_DONE (R179, R181, R182, R200, R202): the log's oldest record of 32 bytes is written at
its place in the ring and the write index counts it; where no window grants the write, logging stops and no byte is written;
WbCapture arms its stream; a frame that is captured and judged ends with its trailer and the next sequence number. -/
def Obligations.LogAndWriteback : Prop := ∀ (s : State) (w : Fin 4) (x : LogRec) (rest : List LogRec),
  let n := s.logRecords
  let a := s.logBase + 32 * (s.lant.writeIdx % Nat.max 1 n)
  let y := s.stream w
  (s.lant.fifo = x :: rest → n ≠ 0 → (s.granted .heads true a 32 && isDevAddr a) = true →
    ∃ t, exec .logWriteDone s = .next t ∧ t.mem = (s.devWrite a x.bytes).mem ∧ t.lant.writeIdx = wrapInc 32 s.lant.writeIdx
      ∧ t.lant.fifo = rest ∧ t.lant.stopped = s.lant.stopped ∧ t.heads = s.heads) ∧
  (s.lant.fifo = x :: rest → n ≠ 0 → (s.granted .heads true a 32 && isDevAddr a) = false →
    ∃ t, exec .logWriteDone s = .next t ∧ t.mem.dev = s.mem.dev ∧ t.mem.host = s.mem.host ∧ t.lant.writeIdx = s.lant.writeIdx
      ∧ t.lant.fifo = [] ∧ t.lant.stopped = true ∧ t.heads = s.heads) ∧
  (∃ t, exec (.wbCapture w) s = .next t ∧ t.stream w = { y with armed := true, frozen := false, triggered := false }
    ∧ (∀ j : Nat, j ≠ w.val → t.stream j = s.stream j) ∧ t = { s with wb := t.wb }) ∧
  (y.capturing = true → y.finishing = true → (s.regionsOf y.cfg.head).length ≤ (s.recordsOf y.cfg.head y.frame).length →
    ∃ t, exec (.wbFrameDone w) s = .next t ∧ (t.stream w).capturing = false ∧ (t.stream w).sequence = wrapInc 32 y.sequence
      ∧ (t.stream w).written = wrapInc 32 y.written
      ∧ t.mem = (s.devWrite (y.cfg.bases.getD y.buffer 0 + (y.cfg.y1 - y.cfg.y0) * y.cfg.stride) (s.trailer w y)).mem
      ∧ (∀ j : Nat, j ≠ w.val → (t.stream j).sequence = (s.stream j).sequence) ∧ t.heads = s.heads)

/-- MEM_WIN_CONTROL_WRITE and MEM_WINSYNC (R217, R218): PF0's write of a window's register at +0x10 puts the base and the size as
they are staged, the rights and ENABLE into force, or rejects the window with a code and leaves it disabled; no other window
changes. PF1's write is ignored and counted. MEM_WINSYNC answers whether an element checked before the latest window write is in
flight. -/
def Obligations.WindowWritesApply : Prop := ∀ (s : State) (n : Fin 512) (v : Nat),
  let w : Win := { s.win n with rights := v % 4096, hostF := (s.win n).hostspace, baseF := (s.win n).base, sizeF := (s.win n).size }
  (s.hostUp .pf0 = true → v.testBit 31 = true → s.rejectCode w = 0 →
    ∃ t, exec (.memWinControlWrite .pf0 n v) s = .next t ∧ t.win n = { w with enable := true, reject := 0 }
      ∧ (∀ j : Nat, j ≠ n.val → t.win j = s.win j) ∧ t.mem.dev = s.mem.dev ∧ t.mem.host = s.mem.host ∧ t.que = s.que ∧ t.heads = s.heads) ∧
  (s.hostUp .pf0 = true → v.testBit 31 = true → s.rejectCode w ≠ 0 →
    ∃ t, exec (.memWinControlWrite .pf0 n v) s = .next t ∧ t.win n = { w with enable := false, reject := s.rejectCode w }
      ∧ (∀ j : Nat, j ≠ n.val → t.win j = s.win j) ∧ t.mem.dev = s.mem.dev ∧ t.mem.host = s.mem.host ∧ t.que = s.que ∧ t.heads = s.heads) ∧
  (s.hostUp .pf0 = true → v.testBit 31 = false →
    ∃ t, exec (.memWinControlWrite .pf0 n v) s = .next t ∧ t.win n = { w with enable := false, reject := 0 }
      ∧ (∀ j : Nat, j ≠ n.val → t.win j = s.win j)) ∧
  (s.hostUp .pf1 = true → ∃ t, exec (.memWinControlWrite .pf1 n v) s = .next t ∧ t.mem = s.mem
      ∧ t.sys.privIgnored = satInc 16 s.sys.privIgnored ∧ t.sys.privLast = winOffset n + 0x10) ∧
  (s.hostUp .pf0 = true → ∃ t, exec (.memWinsync .pf0) s = .next t
      ∧ t.bus = leBytes 4 (if s.mem.winFlight.any (fun e => s.checkedElements.contains e) then 1 else 0) ∧ t.busEp = false
      ∧ t.mem.wins = s.mem.wins ∧ t.mem.dev = s.mem.dev ∧ t.mem.host = s.mem.host ∧ t.que = s.que)

/-- BAR2_WRITE and BAR2_READ (R215, R229): a request inside the BAR whose bytes PF0's windows grant below the firmware region writes
or reads device memory at APBASE plus the offset; one that fails the check writes nothing or reads all 0xFF, and counts; a read
that meets an uncorrectable block is answered poisoned. -/
def Obligations.ApertureIsChecked : Prop := ∀ (s : State) (off : Nat),
  let a := s.apertureBase + off
  let ok (wr : Bool) (n : Nat) : Bool := decide (a + n ≤ s.fwBase) && s.granted .priv wr a n
  s.hostUp .pf0 = true →
  (∀ data, off + data.length ≤ 2 ^ s.evc.bar2Log2 → ok true data.length = true →
    ∃ t, exec (.bar2Write off data) s = .next t ∧ t.mem.dev = (s.devWrite a data).mem.dev ∧ t.mem.host = s.mem.host
      ∧ t.mem.wins = s.mem.wins ∧ t.que = s.que ∧ t.heads = s.heads ∧ t.sys = s.sys) ∧
  (∀ data, off + data.length ≤ 2 ^ s.evc.bar2Log2 → ok true data.length = false →
    ∃ t, exec (.bar2Write off data) s = .next t ∧ t.mem = { s.mem with boundsCnt := satInc 32 s.mem.boundsCnt } ∧ t.que = s.que
      ∧ t.heads = s.heads ∧ t.sys = s.sys) ∧
  (∀ len, off + len ≤ 2 ^ s.evc.bar2Log2 → ok false len = true → s.badRead a len = none →
    ∃ t, exec (.bar2Read off len) s = .next t ∧ t = s.answer (s.devRead a len)) ∧
  (∀ len x, off + len ≤ 2 ^ s.evc.bar2Log2 → ok false len = true → s.badRead a len = some x →
    ∃ t, exec (.bar2Read off len) s = .next t ∧ t.busEp = true ∧ t.mem.uncorr = satInc 32 s.mem.uncorr ∧ t.mem.lastError = x
      ∧ t.mem.dev = s.mem.dev ∧ t.mem.host = s.mem.host) ∧
  (∀ len, off + len ≤ 2 ^ s.evc.bar2Log2 → ok false len = false →
    ∃ t, exec (.bar2Read off len) s = .next t ∧ t.bus = List.replicate len 0xFF#8 ∧ t.busEp = false
      ∧ t.mem = { s.mem with boundsCnt := satInc 32 s.mem.boundsCnt })

/-- UNCORRECTABLE_READ, SCRUB_PASS, CORRECTED_REWRITE and GRANULE_REMAP (R227 to R230): an error that a reader meets counts and is
the last error; BAR2's requester gets a poisoned answer; a pass that finds nothing changes nothing; a corrected block that waits
for its rewrite is written back; a copy that completes puts its granule into the remap table. No byte of memory changes by any
of them. -/
def Obligations.MemoryErrorsAreKept : Prop := ∀ (s : State) (a : Nat),
  (a < devSize → ∀ who, who = .firmware ∨ who = .scrubber ∨ who = .partialWrite →
    ∃ t, exec (.uncorrectableRead who a false) s = .next t ∧ t.mem.uncorr = satInc 32 s.mem.uncorr ∧ t.mem.lastError = a
      ∧ (s.health.unusable.contains (granuleOf a) = false → t.mem.poisoned.contains (blockOf a) = true)
      ∧ t.mem.dev = s.mem.dev ∧ t.mem.host = s.mem.host) ∧
  (a < devSize → ∃ t, exec (.uncorrectableRead .bar2 a false) s = .next t ∧ t.busEp = true ∧ t.bus = []
      ∧ t.mem.uncorr = satInc 32 s.mem.uncorr ∧ t.mem.lastError = a ∧ t.mem.dev = s.mem.dev ∧ t.mem.host = s.mem.host) ∧
  (∃ t, exec (.scrubPass []) s = .next t ∧ t = s) ∧
  (a < devSize → ∃ t, exec (.scrubPass [.corrected a]) s = .next t ∧ t.mem.corrected = wrapInc 64 s.mem.corrected
      ∧ t.mem.rewrite.contains (blockOf a) = true ∧ t.mem.dev = s.mem.dev ∧ t.mem.host = s.mem.host) ∧
  (a < devSize → ∃ t, exec (.scrubPass [.uncorrectable a]) s = .next t ∧ t.mem.uncorr = satInc 32 s.mem.uncorr
      ∧ t.mem.lastError = a ∧ t.mem.dev = s.mem.dev ∧ t.mem.host = s.mem.host) ∧
  (a < devSize → s.mem.rewrite.contains (blockOf a) = true →
    ∃ t, exec (.correctedRewrite a) s = .next t ∧ t.mem.rewrite.contains (blockOf a) = false ∧ t.rewrittenAt (blockOf a) = some s.now
      ∧ (∀ b, b ≠ blockOf a → t.mem.rewrite.contains b = s.mem.rewrite.contains b) ∧ t.mem.dev = s.mem.dev ∧ t.mem.host = s.mem.host) ∧
  (∀ c rest, s.mem.copying = c :: rest → s.coreUp 1 = true →
    ∃ t, exec .granuleRemap s = .next t ∧ t.mem.copying = rest ∧ Tbl.find? t.health.remap c.spare = some c.granule
      ∧ t.health.retiredSeq = s.health.retiredSeq ++ [c.granule] ∧ t.mem.dev = s.mem.dev ∧ t.mem.host = s.mem.host)

/-- The window check (R213): what a class is granted over a range is covered byte by byte by windows in force that grant it. In a
state that meets the invariant, no window grants a device address of the spare pool (R209, R217). Device and host memory (R208
to R210, R226): a read of the bytes just written gives them, in whichever space the address of R210 lies, and every byte outside
the write, in either space, stays; in device memory for granules that are usable. -/
def Obligations.WindowsGrantByteByByte : Prop := (∀ (s : State) (c : Cls) (wr : Bool) (a n x : Nat), s.granted c wr a n = true → x < n →
  if isHostAddr a = true then ∃ p ∈ s.mem.wins, s.grantedBy c wr true p.1 p.2 (a % 2 ^ 63 + x)
  else a < 2 ^ 35 ∧ ∃ p ∈ s.mem.wins, s.grantedBy c wr false p.1 p.2 (a + x)) ∧
  (∀ (s : State) (c : Cls) (wr : Bool) (a n : Nat), s.Inv → isHostAddr a = false →
  s.granted c wr a n = true → 0 < n → a + n ≤ spareBase) ∧
  (∀ (s : State) (a : Nat) (l : List Byte), s.memCanonical → s.health.unusable = [] →
  (s.busWrite a l).busRead a l.length = l
  ∧ (∀ b, (b < a ∨ a + l.length ≤ b) → isHostAddr a = false → Memory.get (s.busWrite a l).mem.dev b = Memory.get s.mem.dev b)
  ∧ (∀ b, (b < a % 2 ^ 63 ∨ a % 2 ^ 63 + l.length ≤ b) → isHostAddr a = true → Memory.get (s.busWrite a l).mem.host b = Memory.get s.mem.host b)
  ∧ (isHostAddr a = true → (s.busWrite a l).mem.dev = s.mem.dev) ∧ (isHostAddr a = false → (s.busWrite a l).mem.host = s.mem.host))

/-- REGISTER_WRITE and READ_CLEAR (R386 to R390): an aligned 8-byte write of a 64-bit register takes it whole, and base and size of
a window are staged, not in force; a 4-byte write of a low half waits for its high half; PF1's write of a privileged register is
ignored and counted; an access that R386 refuses counts in BADACCESS. A read of an RC field returns its value and clears it, and
a read of a register without one changes nothing but the host's own shadow. -/
def Obligations.RegisterAccess : Prop := ∀ (s : State) (v : Nat), v < 2 ^ 64 → s.hostUp .pf0 = true → s.inRecovery .pf0 = false →
  (∃ t, exec (.registerWrite .pf0 0x08 8 v) s = .next t ∧ t.sys.scratch = v ∧ t.sys.wall = s.sys.wall ∧ t.mem = s.mem ∧ t.que = s.que) ∧
  (∀ n : Fin 512, ∃ t, exec (.registerWrite .pf0 (winOffset n) 8 v) s = .next t
    ∧ t.win n = { s.win n with hostspace := v.testBit 63, base := v / 2 ^ 12 % 2 ^ 51 }
    ∧ (∀ j : Nat, j ≠ n.val → t.win j = s.win j) ∧ t.mem.dev = s.mem.dev ∧ t.que = s.que) ∧
  (∀ n : Fin 512, s.hostUp .pf1 = true → ∃ t, exec (.registerWrite .pf1 (winOffset n) 8 v) s = .next t ∧ t.mem = s.mem ∧ t.que = s.que
    ∧ t.sys.privIgnored = satInc 16 s.sys.privIgnored ∧ t.sys.privLast = winOffset n) ∧
  (∃ t, exec (.registerWrite .pf0 0x08 4 (v % 2 ^ 32)) s = .next t ∧ t.sys.scratch = s.sys.scratch
    ∧ t.sys.heldWrite.find? (fun x => x.1 == .pf0 && x.2.1 == 8) = some (.pf0, 8, v % 2 ^ 32) ∧ t.mem = s.mem ∧ t.que = s.que) ∧
  (∀ o n, o < 0x100_0000 → n < 4 → ∃ t, exec (.registerWrite .pf0 o n v) s = .next t
    ∧ t = { s with sys := { s.sys with badAccess := satInc 16 s.sys.badAccess } }) ∧
  (∃ t, exec (.readClear .pf0 0x20 4) s = .next t ∧ t.bus = leBytes 4 ((s.sys.privIgnored + s.sys.badAccess * 2 ^ 16) % 2 ^ 32) ∧ t.busEp = false
    ∧ t.sys.privIgnored = 0 ∧ t.sys.badAccess = 0 ∧ t.sys.privLast = s.sys.privLast ∧ t.mem = s.mem ∧ t.que = s.que) ∧
  (∀ q : Fin 256, ∃ t, exec (.readClear .pf0 (0x20_0038 + 0x1000 * q.val) 4) s = .next t
    ∧ (t.ring q).dbIgnored = 0 ∧ (t.ring q).consBad = 0 ∧ t.bus = leBytes 4 (((s.ring q).dbIgnored + (s.ring q).consBad * 2 ^ 16) % 2 ^ 32)
    ∧ (∀ j : Nat, j ≠ q.val → t.ring j = s.ring j) ∧ t.mem = s.mem) ∧
  (∃ t, exec (.readClear .pf0 0x10 8) s = .next t
    ∧ t = State.answer (s.setShadow .pf0 none) (leBytes 8 (pair (s.bar0Word .pf0 0x10) (s.bar0Word .pf0 0x14))))

/-- DEVRESET, PARITY_SCRUB and PARITY_RESTORE (R391 to R394): a DEVRESET write with the guard value is due 10 ms later, one without
it counts in BADACCESS; a scrub pass counts, a register that it finds wrong counts and holds its address, and a window whose
register is wrong grants nothing until it is rewritten; firmware's restoration ends the mismatch of a register that it wrote. -/
def Obligations.ParityAndDevReset : Prop := ∀ (s : State),
  (s.hostUp .pf0 = true → s.sys.resetDue = none →
    ∃ t, exec (.devReset .pf0 0xA5C3_0001) s = .next t ∧ t.sys.resetDue = some (s.now + 10000000, 3) ∧ t.mem = s.mem ∧ t.que = s.que
      ∧ t.heads = s.heads) ∧
  (∀ v, s.hostUp .pf0 = true → v / 2 ^ 16 % 2 ^ 16 ≠ 0xA5C3 →
    ∃ t, exec (.devReset .pf0 v) s = .next t ∧ t = { s with sys := { s.sys with badAccess := satInc 16 s.sys.badAccess } }) ∧
  (s.sys.mode ≠ .reset → ∃ t, exec (.parityScrub []) s = .next t
    ∧ t = { s with sys := { s.sys with scrubPasses := wrapInc 32 s.sys.scrubPasses } }) ∧
  (∀ n : Fin 512, s.sys.mode ≠ .reset → ∃ t, exec (.parityScrub [winOffset n + 0x10]) s = .next t
    ∧ t.sys.parityCount = satInc 16 s.sys.parityCount ∧ t.sys.parityAddr = winOffset n + 0x10
    ∧ t.winGrants n (t.win n) = false ∧ t.mem = s.mem ∧ t.que = s.que ∧ t.heads = s.heads) ∧
  (∀ o, s.sys.mode ≠ .reset → s.coreUp 1 = true → firmwareConfig o = true →
    ∃ t, exec (.parityRestore o) s = .next t ∧ t = { s with sys := { s.sys with parityBad := t.sys.parityBad } }
      ∧ ∀ x, t.sys.parityBad.contains x = (x != o && s.sys.parityBad.contains x))

/-- POWER_ON_RESET, SUPPLY_MONITOR_TRIP, PERST, DEVICE_RESET, BOOT_WATCHDOG and THERMAL_TRIP (R426, R439, R440, R442, R484): each
puts the whole device into RESET with its cause: rings, sources, heads, windows and device memory are as after reset, and host
memory and the dictionary's banks stay. TEST_EN and EXTEST (R470, R472): the input holds the device in RESET, which is no reset
of R440: the cause recorded and the count of resets stay; when it goes low nothing else changes. -/
def Obligations.ResetsAndTestInputs : Prop := (∀ (s : State),
  let fresh (t : State) (cause : Nat) : Prop := t.sys.mode = .reset ∧ t.boot.lastCause = cause ∧ t.que = State.reset.que ∧ t.src = State.reset.src
    ∧ t.heads = State.reset.heads ∧ t.mem.wins = [] ∧ t.mem.dev = [] ∧ t.mem.host = s.mem.host ∧ t.siph = State.reset.siph
    ∧ t.dict.bankA = s.dict.bankA ∧ t.dict.bankB = s.dict.bankB ∧ t.dict.base = []
  s.sys.mode ≠ .reset →
  (∃ t, exec .powerOnReset s = .next t ∧ fresh t 1 ∧ t.boot.resets = 0) ∧
  (∃ t, exec .supplyMonitorTrip s = .next t ∧ fresh t 1 ∧ t.boot.resets = 0) ∧
  (s.boot.straps.testBit 0 = false → ∃ t, exec .perst s = .next t ∧ fresh t 2 ∧ t.boot.resets = satInc 32 s.boot.resets) ∧
  (∀ d c, s.sys.resetDue = some (d, c) → d ≤ s.now → c ≠ 1 →
    ∃ t, exec .deviceReset s = .next t ∧ fresh t c ∧ t.boot.resets = satInc 32 s.boot.resets) ∧
  (s.sys.mode = .boot → s.boot.watchdog = true → s.boot.releaseAt + s.boot.limit ≤ s.now →
    ∃ t, exec .bootWatchdog s = .next t ∧ fresh t 6 ∧ t.boot.resets = satInc 32 s.boot.resets) ∧
  (∀ d, s.lamp.tripSince = some d → d + 1000000 ≤ s.now → ∃ t, exec .thermalTrip s = .next t ∧ fresh t 5 ∧ t.sys.tripped = true)) ∧
  (∀ (s : State), s.sys.mode ≠ .reset →
  (∃ t, exec (.testEn true) s = .next t ∧ t.sys.mode = .reset ∧ t.sys.testEn = true ∧ t.boot.lastCause = s.boot.lastCause
    ∧ t.boot.resets = s.boot.resets ∧ t.que = State.reset.que ∧ t.mem.host = s.mem.host) ∧
  (∃ t, exec (.testEn false) s = .next t ∧ t = { s with sys := { s.sys with testEn := false } }) ∧
  (∃ t, exec (.extest true) s = .next t ∧ t.sys.mode = .reset ∧ t.sys.extest = true ∧ t.boot.lastCause = s.boot.lastCause
    ∧ t.boot.resets = s.boot.resets ∧ t.que = State.reset.que ∧ t.mem.host = s.mem.host) ∧
  (∃ t, exec (.extest false) s = .next t ∧ t = { s with sys := { s.sys with extest := false } }))

/-- PCIE_RESET, PERST with STRAP_SCOPE set, and PCIE_RESET_END (R438, R439): a PCIe reset resets both functions' rings and gives
BAR2 32 GiB, and no host request reaches the device until it ends; heads, memory and windows stay. -/
def Obligations.PcieResets : Prop := ∀ (s : State), s.sys.mode ≠ .reset →
  (∃ t, exec .pcieReset s = .next t ∧ t.sys.pcieReset = true ∧ t.evc.bar2Log2 = 35 ∧ (∀ q : Fin 256, (t.ring q).enable = false)
    ∧ (∀ f, t.hostUp f = false) ∧ t.mem.dev = s.mem.dev ∧ t.mem.host = s.mem.host ∧ t.heads.heads = s.heads.heads) ∧
  (s.boot.straps.testBit 0 = true → ∃ t, exec .perst s = .next t ∧ t.sys.pcieReset = true ∧ t.evc.bar2Log2 = 35 ∧ (∀ f, t.hostUp f = false)
    ∧ t.mem.dev = s.mem.dev ∧ t.mem.host = s.mem.host) ∧
  (s.sys.pcieReset = true → ∃ t, exec .pcieResetEnd s = .next t ∧ t.sys = { s.sys with pcieReset := false } ∧ t.mem = s.mem ∧ t.que = s.que
    ∧ t.heads = s.heads)

/-- RESET_RELEASE (R438, R441, R451, R453): with every cause released the straps are taken, wall time counts from 0 and the boot
begins: the image on trial or the ACTIVE one launches, or recovery begins. FWREADY and BOOT_END (R344, R441 to R443): a boot
that runs sets FWREADY; one that meets a fault stays in BOOT with its code; at its end the mode is CONFIGURE or STANDBY and the
watchdog is stopped. -/
def Obligations.BootBeginsAndEnds : Prop := (∀ (s : State) (x : StrapBalls),
  s.sys.mode = .reset → s.sys.testEn = false → s.sys.extest = false → s.sys.tripped = false →
  ∃ t, exec (.resetRelease x) s = .next t ∧ t.sys.mode = .boot ∧ t.sys.working = .boot ∧ t.now = 0 ∧ t.boot.straps = StrapBalls.value x
    ∧ t.mem = s.mem ∧ t.que = s.que ∧ t.dict = s.dict
    ∧ (x.recover = true → t.boot.bootFault = 4 ∧ t.boot.watchdog = false)
    ∧ (x.recover = false → s.boot.trial = none → s.boot.attempts < 3 → s.boot.slotValid s.boot.active = true →
        t.boot.running = s.boot.active ∧ t.boot.attempts = s.boot.attempts + 1 ∧ t.boot.watchdog = true ∧ t.boot.bootFault = 0)
    ∧ (∀ k, x.recover = false → s.boot.trial = some k → s.boot.attempts < 3 → s.boot.slotValid k = true →
        t.boot.running = k ∧ t.boot.attempts = s.boot.attempts + 1 ∧ t.boot.trial = some k)) ∧
  (∀ (s : State),
  s.sys.mode = .boot → s.boot.bootFault = 0 →
  (s.sys.fwReady = false →
    (∃ t, exec (.fwReady .runs { engines := [], galleries := [], echo := false, blitUnits := [], granules := [] }) s = .next t
      ∧ t.sys.fwReady = true ∧ t.sys.mode = .boot ∧ t.boot.bootFault = 0 ∧ t.mem = s.mem ∧ t.que = s.que) ∧
    (∀ st, ∃ t, exec (.fwReady .trainingFault st) s = .next t ∧ t = s.faultBoot 2) ∧
    (∀ st, ∃ t, exec (.fwReady .imageMismatch st) s = .next t ∧ t.sys.mode = .reset ∧ t.boot.lastCause = 7)) ∧
  (s.sys.fwReady = true → s.coreUp 1 = true → s.bothCoresRetired = false → s.noGallery = false →
    ∃ t, exec .bootEnd s = .next t ∧ t.sys.mode = (if s.cfg 0x1203 0 = 2 ∨ s.dict.active = 2 then .configure else .standby)
      ∧ t.sys.working = t.sys.mode ∧ t.boot.watchdog = false ∧ t.sys.lastCause = 2))

/-- REF_CLOCK_LOST, REF_CLOCK_RESTORED and CONFIGURATION_WRITE (R211, R383, R411, R437): the holdover of the PLLs begins and ends; a
configuration write takes its field and no other. LOCKSTEP_FAULT and CORE_RESTART_DONE (R24): a fault holds the pair in reset,
and the third within 10 s of the first retires it; a pair that restarts is out of reset and keeps the times of its faults. -/
def Obligations.ClocksCoresAndConfiguration : Prop := (∀ (s : State),
  (s.sys.refLost = false → ∃ t, exec .refClockLost s = .next t ∧ t.sys = { s.sys with refLost := true } ∧ t.mem = s.mem ∧ t.que = s.que) ∧
  (s.sys.refLost = true → ∃ t, exec .refClockRestored s = .next t ∧ t.sys = { s.sys with refLost := false } ∧ t.mem = s.mem ∧ t.que = s.que) ∧
  (∀ f b, s.sys.mode ≠ .reset → s.sys.pcieReset = false → s.sys.fwReady = true →
    (∃ t, exec (.configurationWrite f (.msixEnable b)) s = .next t ∧ t = s.setFnCfg f { s.fnCfg f with msixEnable := b }) ∧
    (∃ t, exec (.configurationWrite f (.functionMask b)) s = .next t ∧ t = s.setFnCfg f { s.fnCfg f with fnMask := b }) ∧
    (∃ t, exec (.configurationWrite f (.busMaster b)) s = .next t ∧ t = s.setFnCfg f { s.fnCfg f with busMaster := b }) ∧
    (∃ t, exec (.configurationWrite f (.power b)) s = .next t ∧ t = s.setFnCfg f { s.fnCfg f with d0 := b }) ∧
    (∀ n, 28 ≤ n → n ≤ 35 → ∃ t, exec (.configurationWrite .pf0 (.bar2Size n)) s = .next t ∧ t.evc = { s.evc with bar2Log2 := n } ∧ t.mem = s.mem))) ∧
  (∀ (s : State) (c : Fin 2),
  let x := s.core c
  (s.sys.mode ≠ .reset → x.retired = false → x.inReset = false → x.faults = [] →
    ∃ t, exec (.lockstepFault c) s = .next t ∧ t.core c = { inReset := true, retired := false, faults := [s.now] }
      ∧ t.core (1 - c.val) = s.core (1 - c.val) ∧ t.mem = s.mem ∧ t.que = s.que ∧ t.heads = s.heads) ∧
  (∀ a b, s.sys.mode ≠ .reset → x.retired = false → x.inReset = false → x.faults = [a, b] → s.now ≤ a + 10000000000 →
    (s.core (1 - c.val)).retired = false →
    ∃ t, exec (.lockstepFault c) s = .next t ∧ t.core c = { inReset := true, retired := true, faults := [a, b, s.now] }
      ∧ t.core (1 - c.val) = s.core (1 - c.val) ∧ t.heads = s.heads) ∧
  (x.retired = false → x.inReset = true →
    ∃ t, exec (.coreRestartDone c) s = .next t ∧ t.core c = { x with inReset := false } ∧ t.core (1 - c.val) = s.core (1 - c.val)
      ∧ t.mem = s.mem ∧ t.heads = s.heads))

/-- BRING_UP_START, BRING_UP_RETRY, BLOCK_ALIGNMENT, IDENT and BRING_UP_TIMEOUT (R302 to R305): a port that may begin trains on the
lanes in service on which receivers were found; with two lanes aligned or more it sends IDENT, with fewer it fails; the
neighbour's IDENT settles the generation or holds the link; a step that fails, or whose time is up, waits 100 ms. No other port
changes. -/
def Obligations.PortsBringUp : Prop := ∀ (s : State) (p : Fin 4) (l : List (Fin 4)),
  let x := s.port p
  let begun (t : State) : Prop := (t.port p).state = .training ∧ (t.port p).step = 2 ∧ (t.port p).stepAt = s.now ∧ (t.port p).retryAt = none
    ∧ (∀ k : Nat, (t.port p).inService.contains k = (l.any (fun y => y.val == k) && !x.laneRet.contains k))
    ∧ (∀ j : Nat, j ≠ p.val → t.port j = s.port j) ∧ t.mem = s.mem ∧ t.que = s.que ∧ t.heads = s.heads
  let failed (t : State) : Prop := (t.port p).state = .down ∧ (t.port p).step = 0 ∧ (t.port p).retryAt = some (s.now + 100000000)
    ∧ (t.port p).retrains = satInc 16 x.retrains ∧ (∀ j : Nat, j ≠ p.val → t.port j = s.port j) ∧ t.mem = s.mem ∧ t.que = s.que
  let got := x.inService.filter (fun n => (l.map (fun y => y.val)).contains n)
  (s.mayBringUp p = true → l.any (fun y => !x.laneRet.contains y.val) = true →
    (x.retryAt = none → ∃ t, exec (.bringUpStart p l) s = .next t ∧ begun t) ∧
    (∀ r, x.retryAt = some r → r ≤ s.now → ∃ t, exec (.bringUpRetry p l) s = .next t ∧ begun t)) ∧
  (x.step = 2 → 2 ≤ got.length → ∃ t, exec (.blockAlignment p l) s = .next t ∧ (t.port p).step = 4 ∧ (t.port p).stepAt = s.now
      ∧ (t.port p).inService = got ∧ (∀ j : Nat, j ≠ p.val → t.port j = s.port j) ∧ t.mem = s.mem ∧ t.que = s.que) ∧
  (x.step = 2 → got.length < 2 → ∃ t, exec (.blockAlignment p l) s = .next t ∧ failed t) ∧
  (∀ m : Msg, m.port = p → s.fabricUp = true → x.step = 4 →
    ∃ t, exec (.ident m) s = .next t ∧ (t.port p).hold = (s.judgeIdent p m.payload).1 ∧ (t.port p).gen = (s.judgeIdent p m.payload).2
      ∧ (t.port p).neighbour = getLE m.payload 4 2 % 4096
      ∧ (t.port p).step = (if (s.judgeIdent p m.payload).1 = 0 then 6 else 0)
      ∧ ((s.judgeIdent p m.payload).1 ≠ 0 → (t.port p).state = .genZero)
      ∧ (∀ j : Nat, j ≠ p.val → t.port j = s.port j) ∧ t.mem = s.mem ∧ t.que = s.que) ∧
  (2 ≤ x.step → x.step ≠ 7 → x.stepAt + stepLimit x.step ≤ s.now → ∃ t, exec (.bringUpTimeout p) s = .next t ∧ failed t) ∧
  (x.step = 7 → x.stepAt + 2000000 ≤ s.now → ∃ t, exec (.bringUpTimeout p) s = .next t ∧ (t.port p).state = .down
      ∧ (t.port p).retrains = satInc 16 x.retrains ∧ t.mem = s.mem ∧ t.que = s.que)

/-- LINK_STATUS, LINK_STATUS_TICK, LINK_DOWN, ROUTE_UPDATE, PORTREENABLE and FLIT_RECEIVE (R301, R302, R306, R310): a neighbour's
status is recorded; a status that is due is sent; a link that is lost goes down, holds no flit, and its route fails; a link's
news decides whether it is failed; a re-enabled port is in service with every lane; an intact flit in sequence advances the
sequence and counts, one out of sequence only counts, and one that is not intact does neither. -/
def Obligations.LinksCarryAndFail : Prop := ∀ (s : State) (p : Fin 4) (b : List Byte),
  let x := s.port p
  (∀ m : Msg, m.port = p → x.talks = true → ∃ t, exec (.linkStatus m) s = .next t
    ∧ t = s.modPort p (fun x => { x with peer := padTo 0#8 16 m.payload })) ∧
  (∃ t, exec .linkStatusTick s = .next t ∧ t.mem = s.mem ∧ t.que = s.que ∧ t.heads = s.heads
    ∧ (s.fabricUp = true → x.talks = true → x.statusAt + 100000000 ≤ s.now → (t.port p).statusAt = s.now)
    ∧ (s.fabricUp = false ∨ s.now < x.statusAt + 100000000 → t.port p = x)) ∧
  (x.linked = true → ∃ t, exec (.linkDown p) s = .next t ∧ (t.port p).state = .down ∧ (t.port p).inService = []
    ∧ (t.port p).replayBuf = [] ∧ (t.port p).retrains = satInc 16 x.retrains ∧ t.mem = s.mem ∧ t.que = s.que ∧ t.heads = s.heads
    ∧ (x.state = .up → linkFailed t.fab.failed s.torusX s.torusY s.ownAddress p = true ∧ (t.port p).downAt = s.now)) ∧
  (∀ m : Msg, s.fabricUp = true → ∃ t, exec (.routeUpdate m) s = .next t ∧ t.mem = s.mem ∧ t.que = s.que ∧ t.heads = s.heads
    ∧ linkFailed t.fab.failed s.torusX s.torusY (getLE m.payload 0 2 % 4096) (getLE m.payload 2 1 % 4) = (getLE m.payload 3 1 != 1)) ∧
  (s.hostUp .pf0 = true → ∃ t, exec (.portReenable .pf0 p) s = .next t ∧ (t.port p).laneRet = [] ∧ (t.port p).retired = false
    ∧ (t.port p).state = .down ∧ t.mem = s.mem ∧ t.que = s.que ∧ t.heads = s.heads) ∧
  (s.hostUp .pf1 = true → ∃ t, exec (.portReenable .pf1 p) s = .next t ∧ t = s.privIgnore (0xC0_0004 + 0x1000 * p.val)) ∧
  (x.talks = false → ∃ t, exec (.flitReceive p b) s = .next t ∧ t = s) ∧
  (x.talks = true → x.intact b = false → ∃ t, exec (.flitReceive p b) s = .next t ∧ (t.port p).flitsIn = x.flitsIn ∧ t.mem = s.mem
    ∧ t.que = s.que ∧ t.heads = s.heads) ∧
  (x.talks = true → x.intact b = true → getLE b 8 2 ≠ wrapInc 16 x.rxSeq →
    ∃ t, exec (.flitReceive p b) s = .next t ∧ (t.port p).flitsIn = wrapInc 64 x.flitsIn ∧ (t.port p).rxSeq = x.rxSeq ∧ t.mem = s.mem
      ∧ t.que = s.que ∧ t.heads = s.heads) ∧
  (x.talks = true → x.intact b = true → getLE b 8 2 = wrapInc 16 x.rxSeq → getLE b 0 2 / 0x4000 = 2 → getLE b 4 1 = msgLinkStatus →
    ∃ t, exec (.flitReceive p b) s = .next t ∧ (t.port p).flitsIn = wrapInc 64 x.flitsIn ∧ (t.port p).rxSeq = getLE b 8 2
      ∧ (t.port p).peer = padTo 0#8 16 ((b.drop 0x10).take (Nat.min 232 (getLE b 6 2))) ∧ t.mem = s.mem ∧ t.que = s.que)

/-- TIME_SYNC, TIME_SYNC_TICK, TIME_SYNC_TIMEOUT, PPS_EDGE and PTP_MESSAGE (R26, R303, R311 to R313): an exchange measures the
link's delay, and a link at its last step of bring-up is UP by it; where the link does not lead to the time root the counter is
not corrected; without an exchange for 10 ms the member is no longer SYNCED; an edge is kept, and one 1 s after the last is
valid; PTP messages move the servo's state only while it is enabled. -/
def Obligations.WallTimeIsDisciplined : Prop := ∀ (s : State) (p : Fin 4) (t1 t2 t3 t4 : Nat),
  let x := s.port p
  s.fabricUp = true →
  (x.state = .up ∨ x.step = 6 → ∃ t, exec (.timeSync p t1 t2 t3 t4) s = .next t ∧ (t.port p).syncAt = s.now
    ∧ (t.port p).delay = sat 32 ((((t4 : Int) - t1) - ((t3 : Int) - t2)) * 125 / 8).toNat
    ∧ (x.step = 6 → (t.port p).state = .up ∧ (t.port p).step = 0) ∧ t.mem = s.mem ∧ t.que = s.que
    ∧ (x.step ≠ 6 → s.routePort s.fab.timeRoot ≠ some p.val → t.sys = s.sys ∧ t.heads = s.heads)) ∧
  (∃ t, exec .timeSyncTick s = .next t ∧ t.sys = s.sys ∧ t.mem = s.mem ∧ t.heads = s.heads
    ∧ (x.state = .up → x.step < 6 → x.syncAt + 1000000 ≤ s.now → x.replayBuf.length < 256 → (t.port p).flitsOut = wrapInc 64 x.flitsOut)
    ∧ (x.state ≠ .up → x.step ≠ 6 → t.port p = x)) ∧
  (s.fab.timeState = 2 → s.routePort s.fab.timeRoot = some p.val → x.syncAt + 10000000 ≤ s.now →
    ∃ t, exec .timeSyncTimeout s = .next t ∧ t.fab.timeState = 1 ∧ t.fab.goodSyncs = 0 ∧ t.sys = s.sys ∧ t.heads = s.heads) ∧
  (s.fab.ppsLast = none → ∃ t, exec .ppsEdge s = .next t ∧ t = { s with fab := { s.fab with ppsLast := some s.now } }) ∧
  (∀ u, s.fab.ppsLast = some u → u + 999900000 ≤ s.now → s.now ≤ u + 1000100000 →
    ∃ t, exec .ppsEdge s = .next t ∧ t.fab.ppsLast = some s.now ∧ t.fab.ppsValid = true ∧ t.sys.wall = s.sys.wall ∧ t.heads = s.heads) ∧
  (∀ e, s.cfgBool 0x1430 1 = false → ∃ t, exec (.ptpMessage e) s = .next t ∧ t = { s with fab := { s.fab with ptpState := 0, ptpTai := false } }) ∧
  (s.cfgBool 0x1430 1 = true → ∃ t, exec (.ptpMessage .announce) s = .next t ∧ t.fab.ptpTai = true ∧ t.sys = s.sys
    ∧ t.fab.ptpState = (if s.fab.ptpState = 2 then 2 else 1)) ∧
  (∀ n, s.cfgBool 0x1430 1 = true → ∃ t, exec (.ptpMessage (.sync n)) s = .next t ∧ t.fab.ptpTai = true ∧ t.fab.ptpState = 2
    ∧ t.sys.wall = s.sys.wall ∧ t.heads = s.heads)

/-- WALL_FRAME_TICK, HEARTBEAT, SUMMARY and SUMMARY_SEND (R323, R328, R332): at t_N the member notes the frame and its own
heartbeat; a heartbeat received is kept; the parts of a summary are kept until the fourth, which gives the coordinator, the
frame and the present map; the coordinator sums up a frame once, and without a quorum it leaves office. -/
def Obligations.DomainIsReported : Prop := ∀ (s : State) (m : Msg), s.fabricUp = true →
  (∃ t, exec .wallFrameTick s = .next t ∧ t.fab.wallFrame = s.domainFrame ∧ t.mem = s.mem ∧ t.heads = s.heads
    ∧ ∃ b, Tbl.find? t.fab.beats s.ownAddress = some b ∧ b.frame = s.domainFrame % 2 ^ 48 ∧ b.epoch = s.memberEpoch
        ∧ b.mode = s.sys.mode.code) ∧
  (s.fab.answer = none → ∃ t, exec (.heartbeat m) s = .next t ∧ Tbl.find? t.fab.beats m.sender = some (beatOf m.payload)
    ∧ (∀ a : Nat, a ≠ m.sender.val → Tbl.find? t.fab.beats a = Tbl.find? s.fab.beats a) ∧ t.mem = s.mem ∧ t.heads = s.heads) ∧
  (m.payload.length = 53 → ∃ t, exec (.summary m) s = .next t ∧ Tbl.find? t.fab.sumParts (m.port.val * 4) = some m.payload
    ∧ t.fab.coord = s.fab.coord ∧ t.fab.present = s.fab.present ∧ t.mem = s.mem ∧ t.heads = s.heads) ∧
  (∀ one two three, m.payload.length ≠ 53 → Tbl.find? s.fab.sumParts (m.port.val * 4) = some one →
    Tbl.find? s.fab.sumParts (m.port.val * 4 + 1) = some two → Tbl.find? s.fab.sumParts (m.port.val * 4 + 2) = some three →
    (s.fab.sumSeen = false ∨ s.fab.lastSummary ≠ getLE one 0 8 % 2 ^ 48) → s.fab.answer = none →
    ∃ t, exec (.summary m) s = .next t ∧ t.fab.sumSeen = true ∧ t.fab.lastSummary = getLE one 0 8 % 2 ^ 48
      ∧ t.fab.coord = some (getLE one 8 2 % 4096) ∧ t.fab.present = bitsOf 4096 (leNat (two ++ three ++ m.payload))
      ∧ t.fab.prevPresent = s.fab.present ∧ t.mem = s.mem) ∧
  (s.fab.office = true → (s.fab.sumSeen = false ∨ s.fab.lastSummary ≠ s.fab.wallFrame % 2 ^ 48) →
    (s.quorum ((s.beatsOf s.fab.wallFrame).map (fun b => b.1)) = true →
      ∃ t, exec .summarySend s = .next t ∧ t.fab.lastSummary = s.fab.wallFrame % 2 ^ 48 ∧ t.fab.sumSeen = true
        ∧ t.fab.present = (s.beatsOf s.fab.wallFrame).map (fun b => b.1) ∧ t.fab.coord = some s.ownAddress) ∧
    (s.quorum ((s.beatsOf s.fab.wallFrame).map (fun b => b.1)) = false →
      ∃ t, exec .summarySend s = .next t ∧ t.fab.office = false ∧ t.fab.coord = none ∧ t.mem = s.mem ∧ t.heads = s.heads))

/-- COORDINATOR_TIMEOUT, TAKE_OFFICE, ISOLATION and DOMAIN_ENTRY_APPLY (R319, R331, R332, R334, R343): a coordinator that sends no
summary in time is passed over; a candidate with a quorum of heartbeats takes office; a member with no port UP for 100 ms is
isolated; a domain entry takes its value once its wall frame has begun, and not before. -/
def Obligations.OfficeAndIsolation : Prop := ∀ (s : State),
  let n := s.fab.wallFrame
  (s.fabricUp = true → s.fab.office = false → s.domainTime n + 200000 ≤ s.now → (s.fab.sumSeen = false ∨ s.fab.lastSummary ≠ n % 2 ^ 48) →
    ∃ t, exec .coordinatorTimeout s = .next t ∧ t.fab.coord = none ∧ t.fab.office = false
      ∧ (∀ c, s.fab.coord = some c → c ≠ s.ownAddress → t.fab.failedCoords.contains c = true) ∧ t.mem = s.mem ∧ t.heads = s.heads) ∧
  (s.fabricUp = true → s.fab.office = false → s.eligible = true →
    (s.fab.coord = none ∧ s.fab.candidate = some s.ownAddress ∨ ∃ c, s.fab.coord = some c ∧ s.ownAddress < c) →
    s.quorum ((s.beatsOf n).map (fun b => b.1)) = true → s.domainTime n + 150000 ≤ s.now →
    ∃ t, exec .takeOffice s = .next t ∧ t.fab.office = true ∧ t.fab.coord = some s.ownAddress ∧ t.fab.lastSummary = n % 2 ^ 48) ∧
  (1 < s.domainMembers → s.sys.isolated = false → s.sys.mode ≠ .reset → s.sys.mode ≠ .boot →
    (∀ p : Fin 4, (s.port p).state ≠ .up ∧ (s.port p).downAt + 100000000 ≤ s.now) →
    ∃ t, exec .isolation s = .next t ∧ t.sys.isolated = true ∧ t.fab.coord = none ∧ t.fab.office = false ∧ t.mem = s.mem
      ∧ t.que = s.que ∧ t.heads = s.heads) ∧
  (s.fabricUp = true → (∀ w ∈ s.fab.domWrites, s.domainFrame < w.frame) → ∃ t, exec .domainEntryApply s = .next t ∧ t = s) ∧
  (∀ w, s.fabricUp = true → s.fab.domWrites = [w] → w.frame ≤ s.domainFrame →
    ∃ t, exec .domainEntryApply s = .next t ∧ t = State.writeEntry { s with fab := { s.fab with domWrites := [] } } w.key w.value)

/-- OFFER, GATHER_TIMEOUT, PREPARE, ANSWER, DECISION_DEADLINE and DECISION (R322, R325 to R327): an offer is kept, and the first
starts GatherTime; at its end the offered epoch is in flight; a participant without an offer answers with its relabelled scene;
answers gather, and a REJECT or a deadline decides ABORT; GO makes the answered epoch pending on every enabled head, and ABORT
ends it. -/
def Obligations.EpochsAreDecided : Prop := ∀ (s : State) (m : Msg), s.fabricUp = true →
  let e := getLE m.payload 0 4
  let v := getLE m.payload 4 1
  let offers := s.fab.offers.filter (fun o => o.1 != m.sender.val) ++ [(m.sender.val, e)]
  (s.fab.office = true → s.coherent = true → (∃ a ∈ s.participants, offers.any (fun o => o.1 == a) = false) →
    ∃ t, exec (.offer m) s = .next t ∧ t = { s with fab := { s.fab with offers := offers, gatherAt := t.fab.gatherAt } }
      ∧ (s.fab.gatherAt = none → t.fab.gatherAt = some (s.now + s.cfg 0x6001 4 * 1000)) ∧ (∀ g, s.fab.gatherAt = some g → t.fab.gatherAt = some g)) ∧
  (∀ g a x, s.fab.office = true → s.fab.gatherAt = some g → g ≤ s.now → s.fab.flight = none → s.fab.offers = [(a, x)] → s.isParticipant = false →
    ∃ t, exec .gatherTimeout s = .next t ∧ t.fab.offers = [] ∧ t.fab.gatherAt = none ∧ t.mem = s.mem ∧ t.heads = s.heads
      ∧ t.fab.flight = some { epoch := x, target := s.domainFrame + s.cfg 0x6001 3 + 1, named := s.participants, accepts := [] }) ∧
  (s.isParticipant = true → s.coherent = true → s.fab.coord = some m.sender.val → s.fab.answer = none → s.fab.offer = none →
    ∃ t, exec (.prepare m) s = .next t ∧ t.mem = s.mem ∧ t.que = s.que ∧ t.heads = s.heads
      ∧ (s.relabelOk e = false → t.fab.answer = none)
      ∧ (s.relabelOk e = true → t.fab.answer = some { scene := none, epoch := e, ring := none, go := false, target := getLE m.payload 8 8 % 2 ^ 48, checked := [] })) ∧
  (∀ f, s.fab.office = true → s.fab.flight = some f → f.epoch = e →
    (v = 0 → f.named.all (fun a => (insertSorted m.sender f.accepts).contains a) = false →
      ∃ t, exec (.answer m) s = .next t ∧ t = { s with fab := { s.fab with flight := some { f with accepts := insertSorted m.sender f.accepts } } }) ∧
    (v ≠ 0 → ∃ t, exec (.answer m) s = .next t ∧ t.fab.flight = none ∧ t.fab.lastDec = lastDecision e 2)) ∧
  (∀ f, s.fab.office = true → s.fab.flight = some f → s.domainTime (f.target - 1) ≤ s.now →
    ∃ t, exec .decisionDeadline s = .next t ∧ t.fab.flight = none ∧ t.fab.lastDec = lastDecision f.epoch 2) ∧
  (∀ a, s.fab.answer = some a → a.epoch = e → s.fab.lastDec ≠ lastDecision e v →
    (v = 2 → ∃ t, exec (.decision m) s = .next t ∧ t.fab.answer = none ∧ t.fab.aborts = satInc 32 s.fab.aborts
      ∧ t.fab.lastDec = lastDecision e 2 ∧ t.heads = s.heads) ∧
    (v = 1 → s.enabledHeads.any (fun h => (s.head h).latchGone (s.domainTime a.target)) = false →
      ∃ t, exec (.decision m) s = .next t ∧ t.fab.answer = none ∧ t.fab.lastDec = lastDecision e 1
        ∧ ∀ h : Nat, h ∈ s.enabledHeads → (t.head h).pendEpoch = e ∧ (t.head h).pend.isSome = true ∧ (t.head h).cur = (s.head h).cur
            ∧ (t.head h).curEpoch = (s.head h).curEpoch))

/-- REGISTRY, SUBSCRIBE, UNSUBSCRIBE, STREAM_START, STREAM_DATA and STREAM_FRAME_SENT (R36, R60, R314 to R317): the home device's
word of a registration is entered; a subscriber is in its source's tree until it leaves; the first flit of a frame takes a free
replica buffer, and where none is free the frame is discarded; a flit of the frame writes the next content bytes, one of another
frame changes nothing; a frame that is sent holds its buffer no more. -/
def Obligations.StreamsFlow : Prop := ∀ (s : State) (m : Msg) (k : Fin 8192),
  let id := getLE m.payload 0 2
  (s.coreUp 1 = true → s.sys.mode ≠ .reset → s.sys.mode ≠ .boot → m.payload.length = 80 → (Reg.ofBytes m.payload).home ≠ s.ownAddress →
    (Reg.ofBytes m.payload).home = m.sender.val →
    ∃ t x, exec (.registry m) s = .next t ∧ t.source? (recordId m.payload) = some x ∧ x.reg = Reg.ofBytes m.payload ∧ t.mem = s.mem) ∧
  (∀ x, s.coreUp 1 = true → s.source? id = some x → x.reg.home = s.ownAddress → x.withdrawn = false →
    ∃ t, exec (.subscribe m) s = .next t ∧ Tbl.get [] t.fab.subs id = insertSorted m.sender (Tbl.get [] s.fab.subs id)
      ∧ (∀ j, j ≠ id → Tbl.find? t.fab.subs j = Tbl.find? s.fab.subs j) ∧ t.mem.dev = s.mem.dev ∧ t.mem.host = s.mem.host ∧ t.que = s.que
      ∧ t.heads = s.heads) ∧
  (s.coreUp 1 = true → ∃ t, exec (.unsubscribe m) s = .next t
    ∧ ((Tbl.get [] s.fab.subs id).filter (fun a => a != m.sender.val) ≠ [] →
        t.fab.subs = Tbl.set s.fab.subs id ((Tbl.get [] s.fab.subs id).filter (fun a => a != m.sender.val)))
    ∧ ((Tbl.get [] s.fab.subs id).filter (fun a => a != m.sender.val) = [] → t.fab.subs = Tbl.erase s.fab.subs id)
    ∧ t = { s with fab := { s.fab with subs := t.fab.subs } }) ∧
  (∀ x, s.source? k = some x → s.fab.subscribed.contains k.val = true → x.withdrawn = false → x.reg.home ≠ s.ownAddress →
    Tbl.find? s.fab.rx k = none →
    ∃ t r, exec (.streamStart k m) s = .next t ∧ Tbl.find? t.fab.rx k = some r ∧ r.pub = m.payload.take 16
      ∧ r.length = getLE m.payload 16 4 ∧ r.seq = getLE m.payload 20 4 ∧ r.buffer = s.freeReplica k x ∧ r.got = 0
      ∧ t.fab.streamDisc = (if s.freeReplica k x = none then satInc 32 s.fab.streamDisc else s.fab.streamDisc) ∧ t.mem = s.mem ∧ t.src = s.src) ∧
  (∀ x r, s.source? k = some x → Tbl.find? s.fab.rx k = some r →
    (getLE m.payload 0 4 ≠ r.seq → ∃ t, exec (.streamData k m) s = .next t ∧ t = s) ∧
    (∀ b, getLE m.payload 0 4 = r.seq → r.buffer = some b → r.got + 228 < r.length → 232 ≤ m.payload.length →
      ∃ t y, exec (.streamData k m) s = .next t
        ∧ t.mem = (s.writeRuns (x.reg.replicaRuns (x.replicas.getD b 0)) r.got ((m.payload.drop 4).take 228)).mem
        ∧ Tbl.find? t.fab.rx k = some y ∧ y.got = r.got + 228 ∧ y.crcReg = crcUpdate r.crcReg ((m.payload.drop 4).take 228)
        ∧ y.buffer = some b ∧ t.src = s.src ∧ t.heads = s.heads)) ∧
  (∀ x, Tbl.find? s.fab.tx k = some x → x.next = none → s.fab.ports.any (fun p => p.2.waiting.any (fun f => isStreamFlit k f)) = false →
    ∃ t, exec (.streamFrameSent k) s = .next t ∧ t = { s with fab := { s.fab with tx := Tbl.erase s.fab.tx k } })

/-- READ, DESCRIBE, KEEPALIVE, SEG_READ_START and SEG_READ (R359, R361, R363, R367): a request that is served is answered with the
entry's value, its description, the wall time, a transfer of a snapshot, or the snapshot's bytes; a name that the dictionary
does not hold is answered with its abort code; the dictionary does not change. -/
def Obligations.LopReadsAnswer : Prop := ∀ (s u : State) (c : LopCtx) (index sub flags : Nat), index < 2 ^ 16 → sub < 2 ^ 8 → flags < 2 →
  (s.serving? c 0x01 (leBytes 2 index ++ [byte sub, byte flags]) = some u →
    (∀ e, u.lookup c index sub = .ok e → e.typ ≠ 13 → e.access ≠ 3 →
      ∃ t, exec (.read c index sub flags) s = .next t ∧ t.dict = s.dict
        ∧ t.answered c 0x01 abOk (leBytes 2 index ++ [byte sub, byte e.typ] ++ u.readValue index sub (bit flags 0))) ∧
    (∀ a, u.lookup c index sub = .error a → ∃ t, exec (.read c index sub flags) s = .next t ∧ t.dict = s.dict ∧ t.answered c 0x01 a []) ∧
    (∀ e, u.lookup c index sub = .ok e → e.typ = 13 →
      ∃ t, exec (.read c index sub flags) s = .next t ∧ t.dict = s.dict ∧ t.answered c 0x01 abSegmentedOnly [])) ∧
  (s.serving? c 0x03 (leBytes 2 index ++ [byte sub, 0#8]) = some u → c.generation = 2 →
    ∀ e, u.lookup c index sub = .ok e → e.typ ≠ 13 →
      ∃ t, exec (.describe c index sub) s = .next t ∧ t.dict = s.dict
        ∧ t.answered c 0x03 abOk (leBytes 2 index ++ [byte sub, byte e.typ, byte e.access, byte (b2n e.p + 2 * b2n e.o + 4 * b2n e.d),
            byte e.apply, 0#8] ++ leBytes 4 e.size ++ leBytes 4 e.size ++ u.describedDefault (dkey index sub))) ∧
  (s.serving? c 0x23 [] = some u → ∃ t, exec (.keepalive c) s = .next t ∧ t.dict = s.dict ∧ t.answered c 0x23 abOk (leBytes 8 s.now)) ∧
  (s.serving? c 0x10 (leBytes 2 index ++ [byte sub, byte flags]) = some u →
    ∀ e, u.lookup c index sub = .ok e → e.typ = 13 → e.access ≠ 3 → u.transferLimit c = false →
      ∃ t n x, exec (.segReadStart c index sub flags) s = .next t ∧ t.dict = s.dict ∧ Tbl.find? t.lop.transfers n = some x
        ∧ x.key = dkey index sub ∧ x.write = false ∧ x.bytes = u.readValue index sub (bit flags 0) ∧ x.owner = u.replayKey c
        ∧ t.answered c 0x10 abOk (leBytes 4 n ++ leBytes 4 x.bytes.length)) ∧
  (∀ n offset count, n < 2 ^ 32 → offset < 2 ^ 32 → count < 2 ^ 32 →
    s.serving? c 0x11 (leBytes 4 n ++ leBytes 4 offset ++ leBytes 4 count) = some u →
    (∀ x, u.transfer? c n false = some x → ∃ t, exec (.segRead c n offset count) s = .next t ∧ t.dict = s.dict
      ∧ t.answered c 0x11 abOk (leBytes 4 n ++ leBytes 4 offset ++ (x.bytes.drop offset).take (Nat.min count (segReadMax c.via)))) ∧
    (u.transfer? c n false = none → ∃ t, exec (.segRead c n offset count) s = .next t ∧ t.dict = s.dict ∧ t.answered c 0x11 abNoTransfer []))

/-- WRITE (R356 to R359, R363): a value that its entry takes becomes the written value and is answered OK; a write that its access,
its level, the mode or an overlay forbids, and a value that a check refuses, change nothing in the dictionary. -/
def Obligations.LopWritesTake : Prop := ∀ (s u : State) (c : LopCtx) (index sub : Nat) (v : List Byte), index < 2 ^ 16 → sub < 2 ^ 8 →
  s.serving? c 0x02 (leBytes 2 index ++ [byte sub, 0#8] ++ v) = some u →
  ∀ e, u.lookup c index sub = .ok e → e.typ ≠ 13 → index ≠ 0x1200 →
  (u.mayWrite c index sub e = abOk → u.valueCheck (dkey index sub) v = none → e.d = false → (u.commandWrite index sub v).isNone = true →
    ∃ t, exec (.write c index sub v) s = .next t ∧ t.answered c 0x02 abOk [] ∧ t.dict = (u.writeEntry (dkey index sub) v).dict
      ∧ Tbl.find? t.dict.base (dkey index sub) = some v
      ∧ ∀ k, k ≠ dkey index sub → Tbl.find? t.dict.base k = Tbl.find? s.dict.base k) ∧
  (u.mayWrite c index sub e ≠ abOk →
    ∃ t, exec (.write c index sub v) s = .next t ∧ t.answered c 0x02 (u.mayWrite c index sub e) [] ∧ t.dict = s.dict) ∧
  (∀ st, u.mayWrite c index sub e = abOk → u.valueCheck (dkey index sub) v = some st →
    ∃ t, exec (.write c index sub v) s = .next t ∧ t.answered c 0x02 (abStatus st) [] ∧ t.dict = s.dict)

/-- MODE_REQUEST, IMAGE_ACTIVATE, IMAGE_CONFIRM and ROLLBACK_ADVANCE (R345, R346, R449, R452, R454): a request that R345 allows is
scheduled for its boundary, one for the present mode completes at once, and one that it refuses counts; activation puts the
staged slot on trial, confirmation makes the running trial ACTIVE, and the anti-rollback counter takes a value that both slots
allow. -/
def Obligations.CommandWritesAct : Prop := ∀ (s u : State) (c : LopCtx) (v : Nat),
  (∀ e m, v < 256 → s.serving? c 0x02 (leBytes 2 0x1200 ++ [0#8, 0#8, byte v]) = some u → u.lookup c 0x1200 0 = .ok e → e.typ ≠ 13 →
    u.mayWrite c 0x1200 0 e = abOk → lvlPrivileged ≤ u.levelOf c → Mode.ofCode v = some m → s.sys.scheduled = none → s.sys.modeQueue = [] →
    s.deriveMode = s.sys.mode →
    (u.askMode u.sys.working m = .yes → m ≠ .reset →
      ∃ t, exec (.modeRequest c v) s = .next t ∧ t.sys.scheduled = some { target := v, reply := { ctx := c, code := 0x02 } }
        ∧ t.sys.mode = s.sys.mode ∧ t.dict = s.dict ∧ t.heads = s.heads) ∧
    (u.askMode u.sys.working m = .same →
      ∃ t, exec (.modeRequest c v) s = .next t ∧ t.sys = s.sys ∧ t.answered c 0x02 abOk [] ∧ t.dict = s.dict ∧ t.heads = s.heads) ∧
    (u.askMode u.sys.working m = .state →
      ∃ t, exec (.modeRequest c v) s = .next t ∧ t.sys = { s.sys with modeRefused := satInc 32 s.sys.modeRefused }
        ∧ t.answered c 0x02 (abStatus .state) [] ∧ t.dict = s.dict ∧ t.heads = s.heads)) ∧
  (∀ e, s.serving? c 0x02 (leBytes 2 0x1022 ++ [2#8, 0#8, 1#8]) = some u → u.lookup c 0x1022 2 = .ok e → e.typ ≠ 13 → e.d = false →
    u.mayWrite c 0x1022 2 e = abOk → u.valueCheck (dkey 0x1022 2) [1#8] = none → u.boot.imageState (1 - u.boot.active) = 1 → u.onTrial = false →
    ∃ t, exec (.imageActivate c) s = .next t ∧ t.boot.trial = some (1 - s.boot.active) ∧ t.boot.attempts = 0 ∧ t.boot.active = s.boot.active
      ∧ t.answered c 0x02 abOk [] ∧ t.dict = s.dict) ∧
  (∀ e, s.serving? c 0x02 (leBytes 2 0x1022 ++ [3#8, 0#8, 1#8]) = some u → u.lookup c 0x1022 3 = .ok e → e.typ ≠ 13 → e.d = false →
    u.mayWrite c 0x1022 3 e = abOk → u.valueCheck (dkey 0x1022 3) [1#8] = none → u.onTrial = true →
    ∃ t, exec (.imageConfirm c) s = .next t ∧ t.boot.trial = none ∧ t.boot.active = s.boot.running ∧ t.boot.attempts = 0
      ∧ t.answered c 0x02 abOk [] ∧ t.dict = s.dict) ∧
  (∀ e, v < 256 → s.serving? c 0x02 (leBytes 2 0x1022 ++ [5#8, 0#8] ++ leBytes 2 v) = some u → u.lookup c 0x1022 5 = .ok e → e.typ ≠ 13 →
    e.d = false → u.mayWrite c 0x1022 5 e = abOk → u.valueCheck (dkey 0x1022 5) (leBytes 2 v) = none →
    u.boot.rollback < v → u.boot.imageState 0 = 1 → u.boot.imageState 1 = 1 → v ≤ u.boot.slotA.security → v ≤ u.boot.slotB.security →
    u.boot.trial = none →
    ∃ t, exec (.rollbackAdvance c v) s = .next t ∧ t.boot.rollback = v ∧ t.answered c 0x02 abOk [] ∧ t.dict = s.dict)

/-- SEG_WRITE_START, SEG_WRITE, SEG_CANCEL and TRANSFER_TIMEOUT (R366, R368): a segmented write opens where no other writes the
entry; a segment that follows on is kept and answered OK, one at another offset is answered with the offset expected and leaves
the bytes; a transfer that is cancelled, or that no request reaches for 5 s, closes and leaves the entry. -/
def Obligations.LopSegmentsTransfer : Prop := ∀ (s u : State) (c : LopCtx) (index sub n : Nat), index < 2 ^ 16 → sub < 2 ^ 8 → n < 2 ^ 32 →
  (∀ len e, len < 2 ^ 32 → s.serving? c 0x12 (leBytes 2 index ++ [byte sub, 0#8] ++ leBytes 4 len) = some u → u.lookup c index sub = .ok e →
    e.typ = 13 → u.segWriteCheck c index sub e len = abOk →
    u.lop.transfers.any (fun p => p.2.write && p.2.key == dkey index sub) = false → u.transferLimit c = false →
    ∃ t k x, exec (.segWriteStart c index sub len) s = .next t ∧ Tbl.find? t.lop.transfers k = some x ∧ x.key = dkey index sub
      ∧ x.write = true ∧ x.length = len ∧ x.bytes = [] ∧ t.answered c 0x12 abOk (leBytes 4 k) ∧ t.dict = s.dict) ∧
  (∀ offset last b x, offset < 2 ^ 32 →
    s.serving? c 0x13 (leBytes 4 n ++ leBytes 4 offset ++ [byte (b2n last), 0#8, 0#8, 0#8] ++ b) = some u → u.transfer? c n true = some x →
    (offset = x.bytes.length → last = false → offset + b.length < x.length →
      ∃ t, exec (.segWrite c n offset last b) s = .next t ∧ t.answered c 0x13 abOk []
        ∧ Tbl.find? t.lop.transfers n = some { x with lastAt := s.now, bytes := x.bytes ++ b } ∧ t.dict = s.dict) ∧
    (offset ≠ x.bytes.length →
      ∃ t, exec (.segWrite c n offset last b) s = .next t ∧ t.answered c 0x13 abOffset (leBytes 4 x.bytes.length)
        ∧ Tbl.find? t.lop.transfers n = some { x with lastAt := s.now } ∧ t.dict = s.dict)) ∧
  (∀ x, s.serving? c 0x14 (leBytes 4 n) = some u → Tbl.find? u.lop.transfers n = some x → x.owner = u.replayKey c →
    ∃ t, exec (.segCancel c n) s = .next t ∧ t.answered c 0x14 abOk [] ∧ t.lop.transfers = Tbl.erase u.lop.transfers n ∧ t.dict = s.dict) ∧
  (∀ x, Tbl.find? s.lop.transfers n = some x → s.coreUp 1 = true → x.lastAt + 5000000000 ≤ s.now →
    ∃ t, exec (.transferTimeout n) s = .next t ∧ t.lop = { s.lop with transfers := Tbl.erase s.lop.transfers n } ∧ t.dict = s.dict)

/-- SESSION_OPEN, SESSION_PROVE, SESSION_CLOSE, SESSION_TIMEOUT and DTLS_HANDSHAKE (R370 to R373): a session opens for PF0 at
OBSERVER or OPERATOR, bound to its way in; a proof that matches ends the NONCE, and the session acts as PRIVILEGED; a session
closes when it asks for it, or when SessionTimeout passes; an association stands until it ends. -/
def Obligations.LopSessionsLive : Prop := ∀ (s u : State) (c : LopCtx),
  (∀ level, level < 2 → s.serving? c 0x20 [byte level, 0#8, 0#8, 0#8] = some u → u.fromPf1 c = false → u.lop.sessions.length < 16 →
    ∃ t id x, exec (.sessionOpen c level) s = .next t ∧ Tbl.find? t.lop.sessions id = some x ∧ x.via = c.via ∧ x.nonce = none
      ∧ x.level = (if level = 0 then lvlObserver else lvlOperator) ∧ t.answered c 0x20 abOk (leBytes 4 id ++ leBytes 32 0) ∧ t.dict = s.dict) ∧
  (∀ mac x n, s.serving? c 0x21 mac = some u → u.session? c = some x → x.nonce = some n → mac.length = 48 →
    ∃ t, exec (.sessionProve c mac) s = .next t ∧ t.dict = s.dict
      ∧ (mac = Config.hmac384 (u.cfgBytes 0x1420 5) (n ++ leBytes 4 c.session) →
          Tbl.find? t.lop.sessions c.session = some { x with nonce := none } ∧ t.answered c 0x21 abOk [])
      ∧ (mac ≠ Config.hmac384 (u.cfgBytes 0x1420 5) (n ++ leBytes 4 c.session) →
          t.lop.sessions = Tbl.erase u.lop.sessions c.session ∧ t.answered c 0x21 abProofFailed [])) ∧
  (∀ x, s.serving? c 0x22 [] = some u → u.session? c = some x →
    ∃ t, exec (.sessionClose c) s = .next t ∧ t.lop.sessions = Tbl.erase u.lop.sessions c.session ∧ t.answered c 0x22 abOk [] ∧ t.dict = s.dict) ∧
  (∀ id x, Tbl.find? s.lop.sessions id = some x → s.coreUp 1 = true → s.sessionExpired x = true →
    ∃ t, exec (.sessionTimeout id) s = .next t ∧ t.lop.sessions = Tbl.erase s.lop.sessions id ∧ t.dict = s.dict ∧ t.mem = s.mem) ∧
  (∀ a ip port ok, s.lopFree = true → s.cfg 0x1410 1 ≠ 0 → s.lop.assocs.length < 8 → s.lop.assocs.any (fun y => y.1 == a) = false →
    (ok = true ∨ s.cfgBool 0x1420 2 = false) →
    ∃ t, exec (.dtlsHandshake (.established a ip port ok)) s = .next t ∧ t.lop.assocs = s.lop.assocs ++ [(a, ip, port)] ∧ t.dict = s.dict) ∧
  (∀ a, s.lopFree = true → s.cfg 0x1410 1 ≠ 0 → ∃ t, exec (.dtlsHandshake (.ended a)) s = .next t
    ∧ t.lop.assocs = s.lop.assocs.filter (fun y => y.1 != a) ∧ t.dict = s.dict)

/-- LOP_WINDOW_GO, LOP_WINDOW_DONE, LOP_EXCHANGE, LOP_FORWARD_RESPONSE and FORWARD_TIMEOUT (R236, R362, R374, R375): GO takes the
request out of REQBUF and sets BUSY; a request whose header is malformed is answered so, and BUSY clears and DONE sets; an
exchange finishes with the length of its response; the answer of another member, or its absence for 100 ms, answers the request
that was forwarded. -/
def Obligations.LopTransportsAnswer : Prop := ∀ (s : State),
  (∀ n, s.hostUp .pf0 = true → s.lop.busy = false → s.lop.reqLen = n → 16 ≤ n → n ≤ 65536 → s.parityWrong 0x100_0008 = false →
    s.bothCoresRetired = false →
    ∃ t, exec (.lopWindowGo .pf0) s = .next t
      ∧ t.lop = { s.lop with done := false, busy := true, winStatus := 0, taken := Memory.read s.lop.reqBuf 0 n } ∧ t.dict = s.dict) ∧
  (s.hostUp .pf0 = true → s.lop.busy = true → ∃ t, exec (.lopWindowGo .pf0) s = .next t ∧ t.lop = { s.lop with winStatus := Status.state.code }) ∧
  (s.lopFree = true → s.lop.busy = true → s.lop.taken ≠ [] → headerGood s.lop.taken = false →
    ∃ t, exec .lopWindowDone s = .next t ∧ t.lop.busy = false ∧ t.lop.done = true ∧ t.lop.winStatus = 0 ∧ t.lop.taken = []
      ∧ t.lop.aborts = satInc 32 s.lop.aborts ∧ t.dict = s.dict ∧ t.mem = s.mem) ∧
  (∀ (q : Fin 256) e, s.bothCoresRetired = true → s.exchange? q = some e →
    ∃ t, exec (.lopExchange q) s = .next t ∧ t.hasFinished q e.pos .retired 0 = true ∧ t.mem = s.mem ∧ s.otherRings t q) ∧
  (∀ (q : Fin 256) e, s.lopFree = true → s.bothCoresRetired = false → s.exchange? q = some e → e.phase = .waiting → s.mgmtTurn = some q.val →
    (s.exchangeCheck q e.body = some .format → ∃ t, exec (.lopExchange q) s = .next t ∧ t.hasFinished q e.pos .format 0 = true ∧ t.mem = s.mem
      ∧ s.otherRings t q) ∧
    (s.exchangeCheck q e.body = none → s.busBad (getLE e.body 16 8) (getLE e.body 8 4) = none →
      headerGood (s.busRead (getLE e.body 16 8) (getLE e.body 8 4)) = false →
      ∃ t, exec (.lopExchange q) s = .next t ∧ t.hasFinished q e.pos .ok 16 = true ∧ t.dict = s.dict ∧ s.otherRings t q
        ∧ t.mem = (s.busWrite (getLE e.body 24 8) t.lop.lastResp).mem)) ∧
  (∀ r f, s.lopFree = true → s.fabricUp = true →
    s.lop.forwards.find? (fun f => f.ctx.session == getLE r 4 4 && f.ctx.requestId == getLE r 8 2) = some f →
    ∃ t, exec (.lopForwardResponse r) s = .next t ∧ t.answered f.ctx f.code (getLE r 12 4) (lopPayload r)
      ∧ t.lop.forwards = s.lop.forwards.erase f ∧ t.dict = s.dict) ∧
  (∀ rid f, s.lopFree = true → s.lop.forwards.find? (fun f => f.ctx.requestId == rid && decide (f.sentAt + 100000000 ≤ s.now)) = some f →
    ∃ t, exec (.forwardTimeout rid) s = .next t ∧ t.answered f.ctx f.code abForwardTimeout []
      ∧ t.lop.forwards = s.lop.forwards.erase f ∧ t.lop.replay = s.lop.replay ∧ t.dict = s.dict)

/-- STORE_NOW, AUTO_STORE, STORE_DONE and COEFFICIENT_SET_LOADED (R137, R378, R380): a store that may begin takes a snapshot of the
base into the bank that is not current, which is not valid until its read-back; a read-back that agrees makes it current, a
first failure repeats the store and a second one leaves the bank that was current; an accepted coefficient set reaches every
gallery in service. -/
def Obligations.StoresAndSets : Prop := ∀ (s : State),
  let begun (t : State) : Prop := t.dict.storing = some (s.storePlace.1, bankImage s.storePlace.2 s.now s.persistent) ∧ t.bank s.storePlace.1 = []
    ∧ t.dict.beganAt = some s.now ∧ t.dict.base = s.dict.base ∧ t.dict.active = s.dict.active ∧ t.mem = s.mem
  (s.lopFree = true → s.storeFree = true → ∃ t, exec .storeNow s = .next t ∧ begun t) ∧
  (s.lopFree = true → s.storeFree = false → ∃ t, exec .storeNow s = .next t ∧ t.dict = { s.dict with storeWaits := true }) ∧
  (s.coreUp 1 = true → s.storeFree = true → s.autoDue = true → ∃ t, exec .autoStore s = .next t ∧ begun t) ∧
  (∀ n b, s.dict.storing = some (n, b) → s.coreUp 1 = true →
    (∃ t, exec (.storeDone true) s = .next t ∧ t.bank n = b ∧ t.dict.active = n ∧ t.dict.storing = none ∧ t.dict.seqN = bankSequence b
      ∧ t.dict.base = s.dict.base ∧ t.mem = s.mem) ∧
    (s.dict.storeRetry = false → ∃ t, exec (.storeDone false) s = .next t ∧ t.dict = { s.dict with storeRetry := true } ∧ t.mem = s.mem) ∧
    (s.dict.storeRetry = true → ∃ t, exec (.storeDone false) s = .next t ∧ t.dict.storing = none ∧ t.dict.active = s.dict.active
      ∧ t.dict.base = s.dict.base ∧ t.mem = s.mem)) ∧
  (∀ k r rest, s.gal.coefPending = (k, r) :: rest → s.coreUp 1 = true →
    ∃ t, exec .coefficientSetLoaded s = .next t ∧ t.gal.coefPending = rest ∧ t.answered r.ctx r.code abOk []
      ∧ (∀ g ∈ s.galsInService, (t.gallery g).coefLoaded = s.loadedSets) ∧ t.dict = s.dict)

/-- CONFIRM_DELAY, RECOVERY_START, RECOVERY_CHUNK and RECOVERY_FINISH (R452, R453): a trial that has run ConfirmDelay confirms
itself; START erases slot A; CHUNK programs the bytes of RECOVBUF at the current offset and moves it on; FINISH verifies the
slot, and resets the device with the slot ACTIVE when it passes. -/
def Obligations.ConfirmAndRecovery : Prop := ∀ (s : State),
  (∀ k, s.boot.trial = some k → s.boot.running = k → s.coreUp 1 = true → s.boot.atBootEnd = true → s.sys.mode ≠ .halt → s.sys.mode ≠ .update →
    s.cfg 0x1022 4 ≠ 0 → s.boot.confirmFrom + s.cfg 0x1022 4 * 1000000000 ≤ s.now →
    ∃ t, exec .confirmDelay s = .next t ∧ t.boot.active = k ∧ t.boot.trial = none ∧ t.boot.attempts = 0 ∧ t.mem = s.mem ∧ t.dict = s.dict) ∧
  (s.inRecovery .pf0 = true →
    (∃ t, exec (.recoveryStart .pf0) s = .next t ∧ t.boot.slotA.bytes = [] ∧ t.boot.recovOffset = 0 ∧ t.boot.recovStatus = 0
      ∧ t.boot.slotB = s.boot.slotB ∧ t.mem = s.mem) ∧
    (∀ n, s.boot.recovLen = n → 0 < n → n ≤ 262144 → s.boot.recovOffset + n ≤ 7340032 →
      ∃ t, exec (.recoveryChunk .pf0) s = .next t ∧ t.boot.recovOffset = s.boot.recovOffset + n ∧ t.boot.recovStatus = 0
        ∧ t.boot.slotA.bytes = s.boot.slotA.bytes.take s.boot.recovOffset ++ Memory.read s.boot.recovBuf 0 n
            ++ s.boot.slotA.bytes.drop (s.boot.recovOffset + n) ∧ t.boot.slotB = s.boot.slotB ∧ t.mem = s.mem) ∧
    (s.boot.recovLen = 0 ∨ 262144 < s.boot.recovLen →
      ∃ t, exec (.recoveryChunk .pf0) s = .next t ∧ t.boot.recovStatus = Status.format.code ∧ t.boot.slotA = s.boot.slotA) ∧
    ∃ t, exec (.recoveryFinish .pf0) s = .next t
      ∧ (∀ st, imageCheck s.boot.rollback s.boot.keyRevoked s.boot.slotA.bytes = some st →
          t.boot.recovStatus = st.code ∧ t.sys = s.sys ∧ t.boot.active = s.boot.active)
      ∧ (imageCheck s.boot.rollback s.boot.keyRevoked s.boot.slotA.bytes = none →
          t.sys.mode = .reset ∧ t.boot.lastCause = 8 ∧ t.boot.active = 0 ∧ t.boot.trial = none ∧ t.boot.slotA.bytes = s.boot.slotA.bytes))

/-- MODE_BOUNDARY and GALLERY_SELF_TEST (R340, R342, R347, R349): the transition that the conditions force passes with its cause,
and the scheduled request passes when nothing is forced and its checks succeed; with nothing due nothing passes; the self-test
of an excluded gallery reports its outcome, and is refused outside MAINTAIN. -/
def Obligations.BoundariesPass : Prop := ∀ (s : State),
  (s.deriveMode ≠ s.sys.mode → s.coreUp 1 = true → s.sys.modeQueue = [] →
    ∃ t, exec .modeBoundary s = .next t ∧ t.sys.mode = s.deriveMode ∧ t.sys.prevMode = s.sys.mode ∧ t.sys.lastFrom = s.sys.mode.code
      ∧ t.sys.lastTo = s.deriveMode.code ∧ t.sys.lastCause = s.forcedCause ∧ t.sys.modeChanges = wrapInc 32 s.sys.modeChanges) ∧
  (∀ r m, s.deriveMode = s.sys.mode → s.coreUp 1 = true → s.sys.scheduled = some r → s.sys.modeQueue = [] → Mode.ofCode r.target = some m →
    s.askMode s.sys.working m = .yes →
    let n : State := { s with sys := { s.sys with working := m, scheduled := none, autoCause := none } }
    n.deriveMode ≠ s.sys.mode →
    State.boundaryCheck { s with sys := { s.sys with scheduled := none, autoCause := none } } n.deriveMode = none →
    ∃ t, exec .modeBoundary s = .next t ∧ t.sys.mode = n.deriveMode ∧ t.sys.working = m ∧ t.sys.scheduled = none ∧ t.sys.lastCause = 0
      ∧ t.answered r.reply.ctx r.reply.code abOk []) ∧
  (s.deriveMode = s.sys.mode → s.coreUp 1 = true → s.sys.scheduled = none → s.sys.modeQueue = [] →
    ∃ t, exec .modeBoundary s = .next t ∧ t = { s with sys := { s.sys with autoCause := none } }) ∧
  (∀ g, s.mayTest g = true → s.coreUp 1 = true →
    ∃ t, exec (.gallerySelfTest g []) s = .next t ∧ t = { s with sys := { s.sys with selfGallery := g + 48 } }) ∧
  (∀ g l, s.mayTest g = false → ∃ t, exec (.gallerySelfTest g l) s = .next t ∧ t = s)

/-- SG_COPY, SIPHON_FILL, CRC and FENCE (R257 to R261, R265): a descriptor that passes its checks writes its stream over its
destination pairs, enters it into the accumulators and finishes OK; CRC writes its record of 16 bytes; FENCE writes nothing; one
that fails a check finishes with its status and writes no memory. No other ring changes. -/
def Obligations.DescriptorsMove : Prop := ∀ (s : State) (c : Fin 64) (e : Exec),
  let a := getLE e.body 8 8
  let x := (s.chan c).acc
  (s.descriptor? c 0x10 = some e →
    (∀ src dst, s.sgCheck c e = .move src dst → src.findSome? (fun p => s.busBad p.1 p.2) = none →
      ∃ t, exec (.sgCopy c) s = .next t ∧ t.hasFinished c e.pos .ok 0 = true ∧ t.mem = (s.scatter dst (s.gather src)).mem
        ∧ (t.chan c).acc = x.add (s.gather src) ∧ s.otherRings t c ∧ t.heads = s.heads ∧ t.src = s.src) ∧
    (∀ st, s.sgCheck c e = .fail st →
      ∃ t, exec (.sgCopy c) s = .next t ∧ t.hasFinished c e.pos st 0 = true ∧ t.mem.dev = s.mem.dev ∧ t.mem.host = s.mem.host
        ∧ (t.chan c).acc = x ∧ s.otherRings t c)) ∧
  (s.descriptor? c 0x11 = some e →
    (∀ src dst, s.fillCheck c e = .move src dst →
      ∃ t, exec (.siphonFill c) s = .next t ∧ t.hasFinished c e.pos .ok 0 = true
        ∧ t.mem = (s.scatter dst (patternBytes ((e.body.drop 8).take 8) (pairsTotal dst))).mem
        ∧ (t.chan c).acc = x.add (patternBytes ((e.body.drop 8).take 8) (pairsTotal dst)) ∧ s.otherRings t c) ∧
    (∀ st, s.fillCheck c e = .fail st →
      ∃ t, exec (.siphonFill c) s = .next t ∧ t.hasFinished c e.pos st 0 = true ∧ t.mem.dev = s.mem.dev ∧ t.mem.host = s.mem.host
        ∧ (t.chan c).acc = x ∧ s.otherRings t c)) ∧
  (s.descriptor? c 0x12 = some e → a % 16 = 0 → s.siphGranted c true a 16 = true →
    ∃ t, exec (.crc c) s = .next t ∧ t.hasFinished c e.pos .ok 0 = true
      ∧ t.mem = (s.busWrite a (leBytes 8 (if bit e.flags 0 then fletcherValue (x.sum1, x.sum2) x.tail else crcFinal x.sum32c) ++ leBytes 8 x.bytes)).mem
      ∧ (t.chan c).acc = (if bit e.flags 1 then x else x.restartSum) ∧ s.otherRings t c) ∧
  (s.descriptor? c 0x16 = some e →
    (a = 0 → ∃ t, exec (.fence c) s = .next t ∧ t.hasFinished c e.pos .ok 0 = true ∧ t.mem = s.mem ∧ s.otherRings t c) ∧
    (a ≠ 0 → isHostAddr a = false →
      ∃ t, exec (.fence c) s = .next t ∧ t.hasFinished c e.pos .format 0 = true ∧ t.mem = s.mem ∧ s.otherRings t c))

/-- SIPHON_PUBLISH, WAIT, WAIT_TIMEOUT, SIGNAL and WAIT_SOURCE_PULSE (R262 to R264): PUBLISH hands its record over with the content
CRC and restarts it; WAIT begins, and ends at once when its bit is set, clearing it; a WAIT that times out fails; SIGNAL pulses
its targets; a pulse of a wait source sets its bit in every channel. -/
def Obligations.ChannelsSignal : Prop := ∀ (s : State) (c : Fin 64) (e : Exec),
  let raw := (e.unitBytes 1).take 16
  let n := getLE e.body 8 4
  (s.descriptor? c 0x13 = some e → getLE e.body 8 8 = 0 → pubReservedOk raw = true → (s.chan c).pubF = true →
    (s.chan c).acc.pubFail = false →
    ∃ t, exec (.siphonPublish c) s = .next t
      ∧ t.src.arrivals = s.src.arrivals ++ [{ raw := insertCrc raw (crcFinal (s.chan c).acc.content), path := .siphon c, at_ := s.now }]
      ∧ (t.chan c).acc.content = crcInit ∧ t.heads = s.heads ∧ s.otherRings t c) ∧
  (s.descriptor? c 0x14 = some e → e.phase = .waiting → e.waitSource < 160 → getLE e.body 10 2 = 0 →
    ((s.chan c).pending.contains e.waitSource = false ∨ bit e.flags 0 = true →
      ∃ t y, exec (.wait c) s = .next t ∧ (t.ring c).inflight.head? = some y ∧ y = { e with phase := .running, began := s.now }
        ∧ (t.chan c).pending.contains e.waitSource = false ∧ t.mem = s.mem ∧ s.otherRings t c) ∧
    ((s.chan c).pending.contains e.waitSource = true → bit e.flags 0 = false →
      ∃ t, exec (.wait c) s = .next t ∧ (t.chan c).pending.contains e.waitSource = false ∧ (t.chan c).failed = (s.chan c).failed
        ∧ s.otherRings t c)) ∧
  (s.descriptor? c 0x14 = some e → e.phase = .running → e.waitLimit ≠ 0 → e.began + e.waitLimit * 1000 ≤ s.now →
    (s.chan c).pending.contains e.waitSource = false →
    ∃ t, exec (.waitTimeout c) s = .next t ∧ (t.chan c).lastStatus = Status.timeout.code ∧ (t.chan c).failed = satInc 16 (s.chan c).failed
      ∧ (t.chan c).acc.pubFail = true ∧ s.otherRings t c) ∧
  (s.descriptor? c 0x15 = some e → n / 2 ^ 15 = 0 → bit n 7 = false → getLE e.body 12 4 = 0 → bit n 10 = false → bit n 9 = false →
    ∃ t, exec (.signal c) s = .next t ∧ t.hasFinished c e.pos .ok 0 = true ∧ t.siph = s.siph ∧ t.mem = s.mem ∧ s.otherRings t c
      ∧ (bit n 8 = true → s.sys.fwReady = true → (s.evEff (evSignal (field n 6 0))).level = false →
          (t.ev (evSignal (field n 6 0))).pending = true)) ∧
  (s.descriptor? c 0x15 = some e → bit n 7 = true ∨ n / 2 ^ 15 ≠ 0 →
    ∃ t, exec (.signal c) s = .next t ∧ t.hasFinished c e.pos .format 0 = true ∧ t.siph = s.siph ∧ t.mem = s.mem) ∧
  (∀ k : Fin 160, 144 ≤ k.val ∨ (128 ≤ k.val ∧ bit (s.cfg 0x5801 1) (k.val - 128) = false) → (∀ j : Fin 64, s.descriptor? j 0x14 = none) →
    ∃ t, exec (.waitSourcePulse k) s = .next t ∧ (∀ j : Fin 64, (t.chan j).pending.contains k.val = true
      ∧ ∀ i, i ≠ k.val → (t.chan j).pending.contains i = (s.chan j).pending.contains i) ∧ t.que = s.que ∧ t.mem = s.mem) ∧
  (∀ k : Fin 160, k.val < 128 → ∃ t, exec (.waitSourcePulse k) s = .next t ∧ t = s)

/-- SIPHON_BUS_ERROR, SIPHON_RESTART, REENABLE and DESCRIPTOR_RETIRE (R267, R269 to R272): a bus error halts the engine and every
ring of a channel that is not retired, and records the address; a restart resumes them at the accumulators of their last
retirement; the fourth error of a window retires its candidates; REENABLE returns a retired channel with cleared accumulators;
retirement keeps them. -/
def Obligations.ChannelsHaltAndRestart : Prop := ∀ (s : State) (c : Fin 64),
  (∀ k addr l, s.siph.halted = false →
    ∃ t, exec (.siphonBusError k addr l) s = .next t ∧ t.siph.halted = true ∧ t.siph.errKind = errKindCode k ∧ t.siph.errAddr = addr
      ∧ t.siph.halts = satInc 32 s.siph.halts
      ∧ (s.halts c = true → (t.ring c).state = .halted ∧ (t.ring c).haltCode = Status.busError.code ∧ (t.ring c).haltPos = (s.chan c).restartPos)
      ∧ (s.halts c = false → t.ring c = s.ring c) ∧ t.heads = s.heads) ∧
  (∀ k addr l, s.siph.halted = true → ∃ t, exec (.siphonBusError k addr l) s = .next t ∧ t = s) ∧
  (s.siph.halted = true → s.coreUp 1 = true → s.siph.reenables = [] →
    (s.siph.windowMasks.length < 4 →
      ∃ t, exec .siphonRestart s = .next t ∧ t.siph.halted = false ∧ t.siph.restarts = satInc 32 s.siph.restarts
        ∧ t.siph.attempts = s.siph.attempts + 1 ∧ (t.chan c).retired = (s.chan c).retired
        ∧ ((s.ring c).force.cls = ringSiphon → (s.ring c).state = .halted → (s.ring c).haltCode = Status.busError.code →
            (s.chan c).retired = false → (t.chan c).acc = (s.chan c).saved ∧ (t.ring c).inflight = [])) ∧
    (4 ≤ s.siph.windowMasks.length →
      ∃ t, exec .siphonRestart s = .next t ∧ t.siph.halted = false ∧ t.siph.windowMasks = [] ∧ t.siph.attempts = 0
        ∧ (t.chan c).retired = ((s.chan c).retired || (candidateSet s.siph.windowMasks).contains c.val))) ∧
  (∀ f, s.hostUp f = true → s.ringReach f c = true → (s.chan c).retired = true →
    (s.siph.halted = false → ∃ t, exec (.reenable f c) s = .next t ∧ t.chan c = { s.chan c with retired := false, acc := Accs.reset, saved := Accs.reset }
      ∧ (∀ j : Nat, j ≠ c.val → t.chan j = s.chan j) ∧ t.que = s.que ∧ t.mem = s.mem) ∧
    (s.siph.halted = true → ∃ t, exec (.reenable f c) s = .next t ∧ t.siph.reenables.contains c.val = true ∧ t.siph.chans = s.siph.chans
      ∧ t.que = s.que ∧ t.mem = s.mem)) ∧
  (∀ e rest st res, s.siph.halted = false → (s.ring c).force.cls = ringSiphon → (s.chan c).retired = false →
    (s.ring c).inflight = e :: rest → e.phase = .finished st res →
    ∃ t, exec (.descriptorRetire c) s = .next t ∧ (t.chan c).restartPos = (e.pos + e.len) % (s.ring c).size
      ∧ (st = .ok → (t.chan c).saved = (s.chan c).acc ∧ (t.chan c).failed = (s.chan c).failed)
      ∧ (st ≠ .ok → (t.chan c).lastStatus = st.code ∧ (t.chan c).failed = satInc 16 (s.chan c).failed ∧ (t.chan c).saved.pubFail = true)
      ∧ s.otherRings t c ∧ t.heads = s.heads)

/-- BLIT_UNIT_TAKE, COPY, FILL, CONVERT and TRANSFORM (R278, R283 to R290, R294): a free unit takes the next entry that waits, and
none while BULK work is shed; a unit whose command meets no fault writes its destination lines in order, and the entry finishes
OK with its RESULT. No other ring changes. -/
def Obligations.UnitsRunCommands : Prop := ∀ (s : State) (u : Fin 4) (q : Nat) (e : Exec),
  let x := s.unit u
  let free := x.state = .idle
  (free → s.sheds 4 = false → s.nextBlit = some (q, e) → (blitCmd e).staged = false →
    ∃ t, exec (.blitUnitTake u) s = .next t
      ∧ t.unit u = { x with state := .running, ring := q, position := e.pos, linesDone := e.aux.headD 0 }
      ∧ (∀ j : Nat, j ≠ u.val → t.unit j = s.unit j) ∧ t.mem = s.mem ∧ s.otherRings t q) ∧
  (free → s.sheds 4 = true ∨ s.nextBlit = none →
    ∃ t, exec (.blitUnitTake u) s = .next t ∧ t.unit u = x ∧ t.que = s.que ∧ t.mem = s.mem) ∧
  (∀ op i, (op, i) ∈ [(opCopy, Instr.copy u .none), (opFill, Instr.fill u .none), (opConvert, Instr.convert u .none),
      (opTransform, Instr.transform u .none)] →
    s.unitEntry u = some (q, e) → e.opcode = op → (blitCmd e).staged = false → s.readStop (blitCmd e) (e.aux.headD 0) .none = none →
    ∃ t, exec i s = .next t ∧ t.hasFinished q e.pos .ok ((blitCmd e).result (blitCmd e).dh) = true
      ∧ t.mem = (s.blitLines u (blitCmd e) (s.sourceCopy (blitCmd e)) (e.aux.headD 0) (blitCmd e).dh).mem
      ∧ (t.unit u).linesDone = (blitCmd e).dh ∧ ((t.unit u).state = .idle ∨ (t.unit u).state = .held) ∧ s.otherRings t q ∧ t.heads = s.heads)

/-- EVENT_OCCURRENCE and LEVEL_FALL (R403 to R406): a pulse of a source sets its pending bit, whether it is enabled or not, and no
other source's state changes; before FWREADY it is kept for FWREADY (R441); a condition source's level rises and falls, and the
pending bit of a LEVEL source that no message has claimed falls with it. -/
def Obligations.SourcesAssert : Prop := ∀ (s : State) (i : Fin 1536),
  let pin : Bool := decide (944 ≤ i.val ∧ i.val < 960) && bit (s.cfg 0x5801 1) (i - 944)
  (evReserved i = false → evSoftware i = false → evCondition i = false → pin = false →
    (s.sys.fwReady = true → ((s.evEff i).level && (s.evEff i).active) = false →
      ∃ t, exec (.eventOccurrence i) s = .next t ∧ t.ev i = { s.ev i with pending := true } ∧ (∀ j : Nat, j ≠ i.val → t.ev j = s.ev j)
        ∧ t.mem = s.mem ∧ t.que = s.que ∧ t.heads = s.heads) ∧
    (s.sys.fwReady = false → ∃ t, exec (.eventOccurrence i) s = .next t ∧ t.boot.pendingEvents = s.boot.pendingEvents ++ [i.val]
      ∧ t = { s with boot := t.boot })) ∧
  (evReserved i = true ∨ evSoftware i = true → exec (.eventOccurrence i) s = .next s) ∧
  (evReserved i = false → evSoftware i = false → evCondition i = true → pin = false →
    (∃ t, exec (.eventOccurrence i) s = .next t ∧ (t.ev i).raw = true ∧ (∀ j : Nat, j ≠ i.val → t.ev j = s.ev j) ∧ t.mem = s.mem)) ∧
  (evCondition i = true →
    ∃ t, exec (.levelFall i) s = .next t ∧ (t.ev i).raw = false ∧ (∀ j : Nat, j ≠ i.val → t.ev j = s.ev j) ∧ t.mem = s.mem
      ∧ ((s.ev i).raw = true → (s.ev i).level = true → (s.ev i).active = false → (t.ev i).pending = false)
      ∧ ((s.ev i).level = false → (t.ev i).pending = (s.ev i).pending)) ∧
  (evCondition i = false → exec (.levelFall i) s = .next s)

/-- PENDING_SET, PENDING_CLEAR, EVENT_ENABLE_WRITE and EOI by PF0 (R404, R406): each bit written 1 of the word's 32 sources acts on
that source alone: set makes it pending, clear and EOI sample a LEVEL source's level, the enable write sets ENABLE; a PF1 write
of a source that is not PF1's own changes no source and counts in PRIVIGNORED (R388). -/
def Obligations.SourceBitsAreWritten : Prop := ∀ (s : State) (w : Fin 48) (v : Nat),
  let hit (i : Nat) : Prop := i / 32 = w.val ∧ v.testBit (i % 32) = true
  (s.hostUp .pf0 = true →
    (∃ t, exec (.pendingSet .pf0 w v) s = .next t ∧ t.mem = s.mem ∧ (∀ i, ¬ hit i → t.ev i = s.ev i)
      ∧ (∀ i, hit i → (s.evEff i).level = false → t.ev i = { s.ev i with pending := true })) ∧
    (∃ t, exec (.pendingClear .pf0 w v) s = .next t ∧ t.mem = s.mem ∧ (∀ i, ¬ hit i → t.ev i = s.ev i)
      ∧ (∀ i, hit i → (s.evEff i).level = false → t.ev i = { s.ev i with pending := false })
      ∧ (∀ i, hit i → (s.evEff i).level = true → (s.ev i).level = true → (s.ev i).active = false →
          t.ev i = { s.ev i with pending := (s.ev i).raw && !(s.ev i).coreClr })) ∧
    (∃ t, exec (.eventEnableWrite .pf0 w .plain v) s = .next t ∧ t.mem = s.mem ∧ (∀ i, i / 32 ≠ w.val → t.ev i = s.ev i)
      ∧ (∀ i, i / 32 = w.val → t.ev i = { s.ev i with enabled := v.testBit (i % 32) })) ∧
    (∃ t, exec (.eventEnableWrite .pf0 w .set v) s = .next t ∧ (∀ i, ¬ hit i → t.ev i = s.ev i)
      ∧ (∀ i, hit i → t.ev i = { s.ev i with enabled := true })) ∧
    (∃ t, exec (.eventEnableWrite .pf0 w .clear v) s = .next t ∧ (∀ i, ¬ hit i → t.ev i = s.ev i)
      ∧ (∀ i, hit i → t.ev i = { s.ev i with enabled := false })) ∧
    (∃ t, exec (.eoi .pf0 w v) s = .next t ∧ t.mem = s.mem ∧ (∀ i, ¬ hit i → t.ev i = s.ev i)
      ∧ (∀ i, hit i → ((s.evEff i).level && (s.ev i).active) = true →
          t.ev i = { s.ev i with active := false, pending := (s.ev i).raw })
      ∧ (∀ i, hit i → ((s.evEff i).level && (s.ev i).active) = false → t.ev i = s.ev i))) ∧
  (s.hostUp .pf1 = true → (∀ i, hit i → s.evOwner i = .pf0) → (∃ i, hit i) →
    (∃ t, exec (.pendingClear .pf1 w v) s = .next t ∧ (∀ i, t.ev i = s.ev i) ∧ t.sys.privIgnored = satInc 16 s.sys.privIgnored
      ∧ t.mem = s.mem) ∧
    (∃ t, exec (.eventEnableWrite .pf1 w .set v) s = .next t ∧ (∀ i, t.ev i = s.ev i)
      ∧ t.sys.privIgnored = satInc 16 s.sys.privIgnored ∧ t.mem = s.mem) ∧
    (∃ t, exec (.eoi .pf1 w v) s = .next t ∧ (∀ i, t.ev i = s.ev i) ∧ t.sys.privIgnored = satInc 16 s.sys.privIgnored
      ∧ t.mem = s.mem))

/-- EVC_SOURCE_WRITE, GROUP_RELEASE, MESSAGE_ISSUE and CORE_ACCEPT (R407, R408, R410 to R413): PF0 configures a source that it owns;
PF1's write of another's source is ignored and counted; a group at its threshold releases; the first deliverable target in order
gets its message, written to the vector's address in host memory, and the sources it presented are claimed; a core that accepts
clears the sources it takes. -/
def Obligations.MessagesAreIssued : Prop := ∀ (s : State),
  (∀ (i : Fin 1536) (v : Nat), s.hostUp .pf0 = true → s.evOwner i = .pf0 → field v 1 1 = 0 →
    ∃ t, exec (.evcSourceWrite .pf0 i v) s = .next t ∧ t.mem = s.mem ∧ (∀ j : Nat, j ≠ i.val → t.ev j = s.ev j)
      ∧ (t.ev i).level = (evCondition i && bit v 0) ∧ (t.ev i).coalesce = bit v 4 ∧ (t.ev i).group = field v 10 5
      ∧ (field v 3 2 ≠ 3 → (t.ev i).target = field v 3 2) ∧ (field v 26 16 < 2048 → (t.ev i).vector = field v 26 16)
      ∧ (t.ev i).enabled = (s.ev i).enabled ∧ (t.ev i).raw = (s.ev i).raw) ∧
  (∀ (i : Fin 1536) (v : Nat), s.hostUp .pf1 = true → s.evOwner i = .pf0 →
    ∃ t, exec (.evcSourceWrite .pf1 i v) s = .next t ∧ t.evc = s.evc ∧ t.mem = s.mem
      ∧ t.sys.privIgnored = satInc 16 s.sys.privIgnored) ∧
  (∀ g : Fin 64, let x := s.group g
    let due : Bool := x.timerDone s.now || (x.holding && decide (x.count + 1 ≤ x.counted))
    (due = true → ∃ t, exec (.groupRelease g) s = .next t
      ∧ t.group g = { x with counted := 0, holding := false, releases := satInc 32 x.releases }
      ∧ (∀ j : Nat, j ≠ g.val → t.group j = s.group j) ∧ (∀ i, t.ev i = s.ev i) ∧ t.mem = s.mem) ∧
    (due = false → exec (.groupRelease g) s = .next s)) ∧
  (∀ first, first = (s.evc.order.map (fun p => p.2)).find? (fun t => s.deliverable t) →
    (∀ fn v, first = some (.vector fn v) →
      let e := Tbl.get MsixEntry.reset (s.fnCfg fn).msix v
      ∃ t, exec .messageIssue s = .next t ∧ t.mem = (s.hostWrite e.addr (leBytes 4 e.data)).mem
        ∧ (∀ i ∈ s.claimed (.vector fn v), (t.ev i).pending = false ∧ (t.ev i).active = ((s.ev i).active || (s.evEff i).level))
        ∧ (∀ i, i ∉ s.claimed (.vector fn v) → t.ev i = s.ev i)
        ∧ (fn = .pf0 → t.evc.issued0 = satInc 32 s.evc.issued0 ∧ t.evc.issued1 = s.evc.issued1)
        ∧ (fn = .pf1 → t.evc.issued1 = satInc 32 s.evc.issued1 ∧ t.evc.issued0 = s.evc.issued0)) ∧
    (first = none → exec .messageIssue s = .next s)) ∧
  (∀ core : Fin 2, ∃ t, exec (.coreAccept core) s = .next t ∧ t.mem = s.mem
    ∧ (∀ c : Nat, s.coreServes core c = true → (s.evc.order.any (fun p => decide (p.2 = Target.core c))) = true →
        ∀ i ∈ s.claimed (.core c), (t.ev i).pending = false ∧ (t.ev i).active = false)
    ∧ (∀ i, (∀ c : Nat, s.coreServes core c = true → i ∉ s.claimed (.core c)) → t.ev i = s.ev i))

/-- SENSOR_READ, LAMP_EVALUATION, VCORE_STEP, LIFE_EVALUATION, HEALTH_RECORD_APPEND and SCENE_RECHECK (R418 to R433): each sensor
takes its reading and an invalid one is excluded; each evaluation ages the device by 1 ms and moves the stage by at most one, to
DECOR_SHED at once above the grade's limit; the core voltage moves by at most 5 mV towards its goal; the life offset moves by at
most 1 °C; a record of the health journal that is due is appended with the next sequence number; the re-check computes the shed
set anew. -/
def Obligations.LampPaces : Prop := ∀ (s : State),
  (∀ rs : List Int, ∃ t, exec (.sensorRead rs) s = .next t ∧ t.mem = s.mem
    ∧ (∀ i, i < 24 → (t.sensor i).reading = rs.getD i 0 ∧ (s.readingValid rs i = false → (t.sensor i).excluded = true)
        ∧ (s.readingValid rs i = true → (s.sensor i).excluded = false → (t.sensor i).excluded = false))
    ∧ (∀ j, hottestOf t t.validSensors = some j → t.lamp.tHot = (t.sensor j).reading)
    ∧ (hottestOf t t.validSensors = none → t.lamp.tHot = s.lamp.tHot)) ∧
  (∀ p : Option Nat, s.coreUp 1 = true → s.powerHeld = false → s.sys.mode ≠ .reset → s.sys.mode ≠ .boot →
    ∃ t, exec (.lampEvaluation p) s = .next t ∧ t.mem.dev = s.mem.dev ∧ t.mem.host = s.mem.host
      ∧ t.health.powered = s.health.powered + 1 ∧ (∀ q, p = some q → sat 16 q ≤ t.lamp.power)
      ∧ (gradeLimit16 < s.lamp.tHot → t.lamp.stage = 5)
      ∧ (s.lamp.tHot ≤ gradeLimit16 → t.lamp.stage ≤ s.lamp.stage + 1 ∧ s.lamp.stage ≤ t.lamp.stage + 1)
      ∧ (s.lamp.tHot ≤ gradeLimit16 → s.now < s.lamp.stageAt + 100000000 → t.lamp.stage ≤ s.lamp.stage)) ∧
  (∀ p : Option Nat, s.sys.mode = .reset ∨ s.sys.mode = .boot →
    ∃ t, exec (.lampEvaluation p) s = .next t ∧ t = { s with health := t.health } ∧ t.health.powered = s.health.powered + 1
      ∧ (∀ d, d < 4 → t.health.consumed.getD d 0 = s.health.consumed.getD d 0 + 2 ^ 32)) ∧
  (∀ (m : Nat) (a : Bool), let goal := vcoreGoal (Config.vcoreMin s.lamp.tHot) m
    s.coreUp 1 = true → s.powerHeld = false → s.sys.mode ≠ .reset → s.sys.mode ≠ .boot → s.lamp.vcoreLost = false →
    ∃ t, exec (.vcoreStep m a) s = .next t ∧ t.mem = s.mem ∧ (a = false → t.lamp.vcore = s.lamp.vcore)
      ∧ (a = true → s.lamp.vcore < goal → t.lamp.vcore = Nat.min goal (s.lamp.vcore + 5))
      ∧ (a = true → goal < s.lamp.vcore → t.lamp.vcore = Nat.max goal (s.lamp.vcore - 5))
      ∧ (a = false → goal ≠ s.lamp.vcore → t.lamp.vcoreLost = decide (2 ≤ s.lamp.vcoreFails))) ∧
  (s.coreUp 1 = true → s.sys.mode ≠ .reset → s.sys.mode ≠ .boot → 168 ≤ s.poweredHours → s.lamp.lifeHour < s.poweredHours →
    ∃ t, exec .lifeEvaluation s = .next t ∧ t.mem = s.mem ∧ t.lamp.lifeHour = s.poweredHours
      ∧ t.lamp.lifeRatio = sat 31 (s.maxConsumed * 65536 / (s.health.powered * 2 ^ 32))
      ∧ (s.cfgBool 0x2100 5 = false → t.lamp.lifeOffset = 0)
      ∧ (s.cfgBool 0x2100 5 = true → t.lamp.lifeOffset ≤ s.lamp.lifeOffset + 1 ∧ s.lamp.lifeOffset ≤ t.lamp.lifeOffset + 1)) ∧
  (s.health.dueAt.isSome = true ∨ s.health.lastHour < s.poweredHours → s.coreUp 1 = true → s.sys.mode ≠ .reset → s.sys.mode ≠ .boot →
    (∃ t, exec (.healthRecordAppend true) s = .next t ∧ t.health.sequence = nextEpoch s.health.sequence ∧ t.health.dueAt = none
      ∧ t.health.failOnce = false ∧ t.mem = s.mem
      ∧ t.health.journal = State.healthBytes { s with health := { s.health with sequence := nextEpoch s.health.sequence } }) ∧
    (∃ t, exec (.healthRecordAppend false) s = .next t ∧ t.health.journal = s.health.journal ∧ t.health.sequence = s.health.sequence
      ∧ t.health.failOnce = !s.health.failOnce ∧ t.mem = s.mem)) ∧
  (s.scn.recheckDue = true → s.coreUp 0 = true → s.bothCoresRetired = false →
    ∃ t, exec .sceneRecheck s = .next t ∧ t.scn.recheckDue = false ∧ t.scn.spareShed = s.noteEngines.shedSet ∧ t.mem.dev = s.mem.dev
      ∧ t.heads = s.heads)

/-- A step takes the command at the front of the queue: it is that command's meaning on the state with the queue's rest. -/
def Obligations.StepRunsTheFront : Prop := ∀ (s : State) (c : Instr) (rest : List Instr), s.pending = c :: rest →
  step s = exec c { s with pending := rest } ∧ step { s with pending := [c] } = exec c { s with pending := [] }

/-- On an empty queue one TIME clock passes (R26, R441; the model's choice, log entry 1): the wall-time counter stands in RESET, and
otherwise moves on by 4 ns where the rate term is 0; nothing else changes. -/
def Obligations.EmptyQueuePassesTime : Prop := ∀ (s : State), s.pending = [] →
  (s.sys.mode = .reset → step s = .next s) ∧
  (s.sys.mode ≠ .reset → ∃ t, step s = .next t ∧ t = { s with sys := { s.sys with wall := t.sys.wall, frac := t.sys.frac } }
    ∧ (s.sys.rate = 0 → s.sys.frac < 2 ^ 32 → s.sys.wall + 4 < 2 ^ 64 → t.sys.wall = s.sys.wall + 4 ∧ t.sys.frac = s.sys.frac))

/-- After reset (R211, R217, R253, R339, R416, R439) the mode is RESET, every ring is DISABLED and without entries, every memory
window is disabled, no source is registered, every event source is disabled and not pending, BAR2 has 32 GiB, and no command
waits; and the state meets the invariant. -/
def Obligations.ResetIsAsStated : Prop := State.reset.sys.mode = .reset ∧ State.reset.now = 0 ∧ State.reset.sys.fwReady = false ∧ State.reset.pending = []
    ∧ (∀ q : Fin 256, (State.reset.ring q).state = .disabled ∧ (State.reset.ring q).enable = false ∧ (State.reset.ring q).inflight = []
        ∧ (State.reset.ring q).head = 0 ∧ (State.reset.ring q).cfg.cls = (if q.val < 64 then 3 else 0) ∧ (State.reset.ring q).cfg.owner = .pf0)
    ∧ (∀ n : Fin 512, (State.reset.win n).enable = false) ∧ (∀ c wr a n, 0 < n → State.reset.granted c wr a n = false)
    ∧ (∀ id : Nat, State.reset.source? id = none) ∧ (∀ h : Fin 16, (State.reset.head h).state = .off ∧ (State.reset.head h).cur = none)
    ∧ (∀ i : Fin 1536, (State.reset.ev i).enabled = false ∧ (State.reset.ev i).pending = false ∧ (State.reset.ev i).active = false)
    ∧ State.reset.evc.bar2Log2 = 35 ∧ (∀ f, State.reset.hostUp f = false) ∧ State.reset.Inv

/-- Every step keeps the invariant (R208, R209, R217): the byte memories stay in canonical form, and no window in force grants the
spare pool, a range past the device's memory or past 2⁶³, whatever command runs and whatever the state holds. -/
def Obligations.StepKeepsTheInvariant : Prop := ∀ (s t : State), s.Inv → step s = .next t → t.Inv

/-- Every command answers a next state in every state, and neither adds to the commands that wait nor takes any of them. -/
def Obligations.EveryCommandAnswers : Prop := ∀ (c : Instr) (s : State), ∃ t, exec c s = .next t ∧ t.pending = s.pending

/-- What a command leaves as it is, for every command: its frame by the parts of the state. Each predicate names the commands that
may change a part, and every other command leaves it. -/
def Obligations.CommandsLeaveTheRest : Prop := ∀ (c : Instr) (s t : State), exec c s = .next t →
  (c.setsMode = false → t.sys.mode = s.sys.mode) ∧ (c.setsCores = false → t.sys.cores = s.sys.cores) ∧
  (c.setsWindows = false → t.mem.wins = s.mem.wins) ∧ (c.keepsMemory = true → t.mem.dev = s.mem.dev ∧ t.mem.host = s.mem.host) ∧
  (c.keepsRings = true → t.que = s.que) ∧ (c.keepsHeads = true → t.heads = s.heads) ∧ (c.movesHealth = false → t.health = s.health) ∧
  (c.movesChannels = false → t.siph = s.siph) ∧ (c.movesUnits = false → t.blit = s.blit) ∧ (c.movesSources = false → t.src = s.src) ∧
  (c.movesScenes = false → t.scn = s.scn) ∧ (c.movesDict = false → t.dict = s.dict) ∧ (c.movesLop = false → t.lop = s.lop)

/-- R25: a retired management core is in service again only after a device reset: after any command but one that brings the device
into RESET it is still retired. -/
def Obligations.RetiredCoresStayRetired : Prop := ∀ (c : Instr) (s t : State) (k : Fin 2), exec c s = .next t →
  (s.core k).retired = true → (t.core k).retired = true ∨ (c.mayReset = true ∧ s.sys.mode ≠ .reset ∧ t.sys.mode = .reset)

/-- R32: no Lamp action changes a head's timing, its compose-ahead window or its latch line: Lamp's commands change nothing of any
head and no entry of the dictionary, from which these are taken. -/
def Obligations.LampLeavesScanTiming : Prop := ∀ (s : State),
  (∀ r, ∃ t, exec (.sensorRead r) s = .next t ∧ t.heads = s.heads ∧ t.dict = s.dict) ∧
  (∀ p, ∃ t, exec (.lampEvaluation p) s = .next t ∧ t.heads = s.heads ∧ t.dict = s.dict) ∧
  (∀ m a, ∃ t, exec (.vcoreStep m a) s = .next t ∧ t.heads = s.heads ∧ t.dict = s.dict) ∧
  (∃ t, exec .lifeEvaluation s = .next t ∧ t.heads = s.heads ∧ t.dict = s.dict)

/-- R259: FILL, whose unit 0 holds PATTERN in bytes 8 to 15 and whose unit 1 holds DST_ADDRESS, LENGTH and a reserved field of
zeros, gives destination byte i the byte i mod 8 of PATTERN, and leaves every byte outside the destination; one whose reserved
field is not zero finishes with FORMAT and writes nothing. -/
def Obligations.FillWritesThePattern : Prop := ∀ (s : State) (c : Fin 64) (e : Exec), s.memCanonical → s.health.unusable = [] →
  s.descriptor? c 0x11 = some e →
  let pattern := (e.body.drop 8).take 8
  let a := getLE e.body 16 8
  let n := getLE e.body 24 4
  (getLE e.body 28 4 = 0 → 0 < n → s.siphGranted c true a n = true →
    ∃ t, exec (.siphonFill c) s = .next t ∧ t.hasFinished c e.pos .ok 0 = true
      ∧ (∀ i, i < n → (t.busRead a n)[i]? = some (pattern.getD (i % 8) 0#8))
      ∧ (∀ b, (b < a ∨ a + n ≤ b) → isHostAddr a = false → Memory.get t.mem.dev b = Memory.get s.mem.dev b)
      ∧ (∀ b, (b < a % 2 ^ 63 ∨ a % 2 ^ 63 + n ≤ b) → isHostAddr a = true → Memory.get t.mem.host b = Memory.get s.mem.host b)) ∧
  (getLE e.body 28 4 = 0 → n = 0 → ∃ t, exec (.siphonFill c) s = .next t ∧ t.hasFinished c e.pos .ok 0 = true ∧ t.mem = s.mem) ∧
  (getLE e.body 28 4 ≠ 0 → ∃ t, exec (.siphonFill c) s = .next t ∧ t.hasFinished c e.pos .format 0 = true ∧ t.mem = s.mem)
end

