-- ==== Sys2Proof/Laws/Memory.lean ====
section
/-!
SUPPORT. Byte memories: every operation keeps the canonical form, a read after a write gives what was written, and a write
leaves every other byte alone.
-/

set_option Elab.async false

namespace Sys2Proof.Machine

/-- The first address of a memory is above `a`. -/
def Memory.above (a : Nat) (m : List Host.Cell) : Prop := ∀ p ∈ m, a < p.1
/-- The canonical form of a memory with a first entry. -/
theorem Memory.wf_cons {a : Nat} {v : Byte} {r : List Host.Cell} :
    Memory.wf ((a, v) :: r) = true ↔ v ≠ 0#8 ∧ Memory.above a r ∧ Memory.wf r = true := by
  induction r generalizing a v with
  | nil => simp [Memory.wf, Memory.above]
  | cons p r ih =>
    obtain ⟨b, w⟩ := p
    have := @ih b w
    constructor
    · intro h
      have h' : (v ≠ 0#8 ∧ a < b) ∧ Memory.wf ((b, w) :: r) = true := by simpa [Memory.wf] using h
      refine ⟨h'.1.1, ?_, h'.2⟩
      intro p hp
      rcases List.mem_cons.1 hp with rfl | hp
      · exact h'.1.2
      · exact Nat.lt_trans h'.1.2 ((this.1 h'.2).2.1 p hp)
    · rintro ⟨h1, h2, h3⟩
      have h4 : a < b := h2 (b, w) List.mem_cons_self
      have : Memory.wf ((a, v) :: (b, w) :: r) = ((v != 0#8) && decide (a < b) && Memory.wf ((b, w) :: r)) := rfl
      rw [this, h3]
      simp [h1, h4]
/-- Storing above an address leaves a memory above it. -/
theorem Memory.above_put {m : List Host.Cell} {a b : Nat} {v : Byte} (h : Memory.above b m) (hb : b < a) :
    Memory.above b (Memory.put m a v) := by
  induction m with
  | nil => unfold Memory.put; split <;> simp [Memory.above, hb]
  | cons p r ih =>
    obtain ⟨c, w⟩ := p
    have hc : b < c := h (c, w) List.mem_cons_self
    have hr : Memory.above b r := fun p hp => h p (List.mem_cons_of_mem _ hp)
    have := ih hr
    unfold Memory.put
    split
    · split
      · exact h
      · intro p hp
        rcases List.mem_cons.1 hp with rfl | hp
        · exact hb
        · exact h p hp
    · split
      · split
        · exact hr
        · intro p hp
          rcases List.mem_cons.1 hp with rfl | hp
          · exact hb
          · exact hr p hp
      · intro p hp
        rcases List.mem_cons.1 hp with rfl | hp
        · exact hc
        · exact this p hp
/-- Storing a byte keeps the canonical form. -/
theorem Memory.wf_put (m : List Host.Cell) (a : Nat) (v : Byte) (h : Memory.wf m = true) : Memory.wf (Memory.put m a v) = true := by
  induction m with
  | nil =>
    unfold Memory.put; split
    · rfl
    · rename_i k; simp [Memory.wf, k]
  | cons p r ih =>
    obtain ⟨c, w⟩ := p
    have k := Memory.wf_cons.1 h
    unfold Memory.put
    split
    · rename_i lt
      split
      · exact h
      · rename_i v0
        refine Memory.wf_cons.2 ⟨v0, ?_, h⟩
        intro p hp
        rcases List.mem_cons.1 hp with rfl | hp
        · exact lt
        · exact Nat.lt_trans lt (k.2.1 p hp)
    · split
      · rename_i e
        subst e
        split
        · exact k.2.2
        · rename_i v0; exact Memory.wf_cons.2 ⟨v0, k.2⟩
      · exact Memory.wf_cons.2 ⟨k.1, Memory.above_put k.2.1 (by omega), ih k.2.2⟩

/-- Storing a run of bytes keeps the canonical form. -/
theorem Memory.wf_write (m : List Host.Cell) (a : Nat) (l : List Byte) (h : Memory.wf m = true) : Memory.wf (Memory.write m a l) = true := by
  induction l generalizing m a with
  | nil => exact h
  | cons b r ih => exact ih _ _ (Memory.wf_put _ _ _ h)

/-- Either choice of two canonical memories is canonical. -/
theorem Memory.wf_ite {c : Prop} [Decidable c] {a b : List Host.Cell} (ha : Memory.wf a = true) (hb : Memory.wf b = true) :
    Memory.wf (if c then a else b) = true := by split <;> assumption
/-- A fold of operations that keep the canonical form keeps it. -/
theorem Memory.wf_foldl {α : Type} {l : List α} {f : List Host.Cell → α → List Host.Cell} (hf : ∀ m p, Memory.wf m = true → Memory.wf (f m p) = true)
    {m : List Host.Cell} (h : Memory.wf m = true) : Memory.wf (l.foldl f m) = true := by
  induction l generalizing m with
  | nil => exact h
  | cons p r ih => exact ih (hf _ _ h)

/-- A memory that lists nothing at `a` or below reads as 0 there. -/
theorem Memory.get_of_above {m : List Host.Cell} {a : Nat} (h : Memory.above a m) : Memory.get m a = 0#8 := by
  induction m with
  | nil => rfl
  | cons p r ih =>
    have hp : a < p.1 := h p List.mem_cons_self
    unfold Memory.get
    rw [if_neg (by omega)]
    exact ih (fun q hq => h q (List.mem_cons_of_mem _ hq))

/-- A byte reads as it was stored. -/
theorem Memory.get_put_self {m : List Host.Cell} (a : Nat) (v : Byte) (h : Memory.wf m = true) :
    Memory.get (Memory.put m a v) a = v := by
  induction m with
  | nil => unfold Memory.put; split <;> simp_all [Memory.get]
  | cons p r ih =>
    obtain ⟨c, w⟩ := p
    have k := Memory.wf_cons.1 h
    unfold Memory.put
    split
    · rename_i lt
      split
      · rename_i e
        subst e
        exact Memory.get_of_above (fun q hq => by
          rcases List.mem_cons.1 hq with rfl | hq
          · exact lt
          · exact Nat.lt_trans lt (k.2.1 q hq))
      · simp [Memory.get]
    · split
      · rename_i e
        subst e
        split
        · rename_i e; subst e; exact Memory.get_of_above k.2.1
        · simp [Memory.get]
      · unfold Memory.get
        rw [if_neg (by omega)]
        exact ih k.2.2

/-- Storing a byte leaves every other byte alone. -/
theorem Memory.get_put_ne (m : List Host.Cell) {a b : Nat} (v : Byte) (h : b ≠ a) :
    Memory.get (Memory.put m a v) b = Memory.get m b := by
  induction m with
  | nil => unfold Memory.put; split <;> simp [Memory.get, h.symm]
  | cons p r ih =>
    obtain ⟨c, w⟩ := p
    unfold Memory.put
    split
    · split
      · rfl
      · simp [Memory.get, h.symm]
    · split
      · rename_i e
        subst e
        split <;> simp [Memory.get, h.symm]
      · simp [Memory.get, ih]

/-- Storing a run of bytes leaves every byte outside it alone. -/
theorem Memory.get_write_outside (m : List Host.Cell) {a b : Nat} (l : List Byte) (h : b < a ∨ a + l.length ≤ b) :
    Memory.get (Memory.write m a l) b = Memory.get m b := by
  induction l generalizing m a with
  | nil => rfl
  | cons v r ih =>
    have e : (v :: r).length = r.length + 1 := rfl
    rw [Memory.write, ih _ (by omega), Memory.get_put_ne _ _ (by omega)]

/-- A byte of a run reads as it was stored. -/
theorem Memory.get_write_inside {m : List Host.Cell} {a : Nat} (l : List Byte) (h : Memory.wf m = true) (i : Nat) (hi : i < l.length) :
    Memory.get (Memory.write m a l) (a + i) = l.getD i 0#8 := by
  induction l generalizing m a i with
  | nil => cases hi
  | cons v r ih =>
    cases i with
    | zero => rw [Memory.write, Memory.get_write_outside _ _ (by omega)]; simpa using Memory.get_put_self a v h
    | succ i =>
      have e : (v :: r).length = r.length + 1 := rfl
      have := ih (m := Memory.put m a v) (a := a + 1) (Memory.wf_put _ _ _ h) i (by omega)
      rw [Memory.write, show a + (i + 1) = a + 1 + i by omega, this]
      simp

/-- A read after a write of the same run gives the run. -/
theorem Memory.read_write {m : List Host.Cell} (a : Nat) (l : List Byte) (h : Memory.wf m = true) :
    Memory.read (Memory.write m a l) a l.length = l := by
  have key : ∀ n a (x : List Host.Cell) (f : Nat → Byte), (∀ i, i < n → Memory.get x (a + i) = f i) →
      Memory.read x a n = (List.range n).map f := by
    intro n
    induction n with
    | zero => intros; rfl
    | succ n ih =>
      intro a x f hf
      rw [Memory.read, ih (a + 1) x (fun i => f (i + 1)) (fun i hi => by rw [show a + 1 + i = a + (i + 1) by omega]; exact hf _ (by omega)),
        List.range_succ_eq_map, List.map_cons, List.map_map]
      congr 1
      exact hf 0 (by omega)
  rw [key l.length a _ (fun i => l.getD i 0#8) (fun i hi => Memory.get_write_inside l h i hi)]
  apply List.ext_getElem
  · simp
  · intro i h1 h2
    simp [h2]

end Sys2Proof.Machine
end

