-- ==== Sys2Proof/Laws/Tbl.lean ====
section
/-!
SUPPORT. Sparse tables: a read after a store, what a store leaves alone, and that storing keeps the keys rising.
-/

set_option Elab.async false

namespace Sys2Proof.Machine

/-- Every pair of a table after a store is the stored one or an old one. -/
theorem Tbl.mem_set {α : Type} {t : Tbl α} {k : Nat} {v : α} {p : Nat × α} (h : p ∈ Tbl.set t k v) : p = (k, v) ∨ p ∈ t := by
  induction t with
  | nil => left; simpa [Tbl.set] using h
  | cons q r ih =>
    obtain ⟨j, w⟩ := q
    unfold Tbl.set at h
    split at h
    · rcases List.mem_cons.1 h with h | h
      · exact .inl h
      · exact .inr h
    · split at h
      · rcases List.mem_cons.1 h with h | h
        · exact .inl h
        · exact .inr (List.mem_cons_of_mem _ h)
      · rcases List.mem_cons.1 h with h | h
        · exact .inr (h ▸ List.mem_cons_self)
        · exact (ih h).imp id (List.mem_cons_of_mem _)
/-- What a table reads as at a key is the default or a listed value. -/
theorem Tbl.get_mem {α : Type} (d : α) (t : Tbl α) (k : Nat) : Tbl.get d t k = d ∨ ∃ j, (j, Tbl.get d t k) ∈ t := by
  unfold Tbl.get
  induction t with
  | nil => exact .inl rfl
  | cons q r ih =>
    obtain ⟨j, w⟩ := q
    unfold Tbl.find?
    split
    · exact .inr ⟨j, List.mem_cons_self⟩
    · exact ih.imp id (fun ⟨i, h⟩ => ⟨i, List.mem_cons_of_mem _ h⟩)

/-- A stored value is found at its key. -/
@[simp] theorem Tbl.find?_set_self {α : Type} (t : Tbl α) (k : Nat) (v : α) : Tbl.find? (Tbl.set t k v) k = some v := by
  induction t with
  | nil => simp [Tbl.set, Tbl.find?]
  | cons p r ih =>
    obtain ⟨j, w⟩ := p
    unfold Tbl.set
    split
    · simp [Tbl.find?]
    · split
      · simp [Tbl.find?]
      · rename_i h; simp [Tbl.find?, Ne.symm h, ih]

/-- A store leaves every other key alone. -/
theorem Tbl.find?_set_ne {α : Type} (t : Tbl α) {k j : Nat} (v : α) (h : j ≠ k) : Tbl.find? (Tbl.set t k v) j = Tbl.find? t j := by
  induction t with
  | nil => simp [Tbl.set, Tbl.find?, h.symm]
  | cons p r ih =>
    obtain ⟨i, w⟩ := p
    unfold Tbl.set
    split
    · simp [Tbl.find?, h.symm]
    · split
      · rename_i e; subst e; simp [Tbl.find?, h.symm]
      · simp [Tbl.find?, ih]

/-- A stored value reads back. -/
@[simp] theorem Tbl.get_set_self {α : Type} (d : α) (t : Tbl α) (k : Nat) (v : α) : Tbl.get d (Tbl.set t k v) k = v := by
  simp [Tbl.get]

/-- A store leaves what every other key reads as. -/
theorem Tbl.get_set_ne {α : Type} (d : α) (t : Tbl α) {k j : Nat} (v : α) (h : j ≠ k) : Tbl.get d (Tbl.set t k v) j = Tbl.get d t j := by
  simp [Tbl.get, Tbl.find?_set_ne t v h]

/-- Storing keeps the keys rising. -/
theorem Tbl.wf_set {α : Type} (t : Tbl α) (k : Nat) (v : α) (h : Tbl.wf t = true) : Tbl.wf (Tbl.set t k v) = true := by
  induction t with
  | nil => rfl
  | cons p r ih =>
    obtain ⟨j, w⟩ := p
    have hr : Tbl.wf r = true := by cases r <;> simp_all [Tbl.wf]
    unfold Tbl.set
    split
    · rename_i lt; cases r <;> simp_all [Tbl.wf]
    · split
      · rename_i e; subst e; cases r <;> simp_all [Tbl.wf]
      · rename_i n1 n2
        have := ih hr
        cases r with
        | nil => simp [Tbl.set, Tbl.wf]; omega
        | cons q r =>
          obtain ⟨i, x⟩ := q
          have h' : j < i := by simp [Tbl.wf] at h; exact h.1
          unfold Tbl.set at this ⊢
          split at this
          · rename_i lt; simp only [lt, if_true]; simp [Tbl.wf] at this ⊢; exact ⟨by omega, this⟩
          · split at this
            · rename_i n3 e; subst e; simp only [n3, if_true, if_false]; simp [Tbl.wf] at this ⊢; exact ⟨by omega, this⟩
            · rename_i n3 n4; simp only [n3, n4, if_false]; simp [Tbl.wf] at this ⊢; exact ⟨h', this⟩

theorem Tbl.find?_mapVals {α : Type} (t : Tbl α) (f : Nat → α → α) (k : Nat) :
    Tbl.find? (Tbl.mapVals t f) k = (Tbl.find? t k).map (f k) := by
  induction t with
  | nil => rfl
  | cons p t ih =>
    obtain ⟨j, v⟩ := p
    show (if j = k then some (f j v) else Tbl.find? (Tbl.mapVals t f) k) = Option.map (f k) (if j = k then some v else Tbl.find? t k)
    by_cases e : j = k
    · simp [e]
    · simp [e, ih]

theorem Tbl.get_mapVals {α : Type} {d : α} (t : Tbl α) (f : Nat → α → α) (k : Nat) (h : f k d = d) :
    Tbl.get d (Tbl.mapVals t f) k = f k (Tbl.get d t k) := by
  unfold Tbl.get
  rw [Tbl.find?_mapVals]
  rcases Tbl.find? t k with _ | v
  · exact h.symm
  · rfl

end Sys2Proof.Machine
end

