-- ==== Sys2Proof/Laws/Kept.lean ====
section
/-!
SUPPORT. What every function of the model keeps: the invariant of Safety, the queue of commands that wait, and every part of the
state that the function does not write. The files Kept… beside this one prove it function by function, in the order of the model;
the lemmas about exec meanings end the chain.
-/

set_option Elab.async false

namespace Sys2Proof.Machine

/-- The parts of the state that a function is known to leave alone: one flag each. -/
structure Mask where
  sys : Bool
  boot : Bool
  health : Bool
  dev : Bool
  host : Bool
  wins : Bool
  memx : Bool
  que : Bool
  siph : Bool
  blit : Bool
  evc : Bool
  src : Bool
  scn : Bool
  gal : Bool
  heads : Bool
  lant : Bool
  wb : Bool
  fab : Bool
  lamp : Bool
  dict : Bool
  lop : Bool
  fresh : Bool
  bus : Bool
  cores : Bool
  mode : Bool

/-- The parts of a memory block other than its bytes and its windows. -/
def Mem.rest (m : Mem) : Mem := { m with dev := [], host := [], wins := [] }

/-- `t` agrees with `s` on every part whose flag is set. -/
def Mask.same (m : Mask) (s t : State) : Prop :=
  (m.sys = true → t.sys = s.sys) ∧
  (m.boot = true → t.boot = s.boot) ∧
  (m.health = true → t.health = s.health) ∧
  (m.dev = true → t.mem.dev = s.mem.dev) ∧
  (m.host = true → t.mem.host = s.mem.host) ∧
  (m.wins = true → t.mem.wins = s.mem.wins) ∧
  (m.memx = true → t.mem.rest = s.mem.rest) ∧
  (m.que = true → t.que = s.que) ∧
  (m.siph = true → t.siph = s.siph) ∧
  (m.blit = true → t.blit = s.blit) ∧
  (m.evc = true → t.evc = s.evc) ∧
  (m.src = true → t.src = s.src) ∧
  (m.scn = true → t.scn = s.scn) ∧
  (m.gal = true → t.gal = s.gal) ∧
  (m.heads = true → t.heads = s.heads) ∧
  (m.lant = true → t.lant = s.lant) ∧
  (m.wb = true → t.wb = s.wb) ∧
  (m.fab = true → t.fab = s.fab) ∧
  (m.lamp = true → t.lamp = s.lamp) ∧
  (m.dict = true → t.dict = s.dict) ∧
  (m.lop = true → t.lop = s.lop) ∧
  (m.fresh = true → t.fresh = s.fresh) ∧
  (m.bus = true → (t.bus = s.bus ∧ t.busEp = s.busEp)) ∧
  (m.cores = true → t.sys.cores = s.sys.cores) ∧
  (m.mode = true → t.sys.mode = s.sys.mode)

/-- What a function of the model keeps from `s` to `t`: the invariant, the queue of commands that wait, and every part whose flag
`m` sets. -/
structure Kept (m : Mask) (s t : State) : Prop where
  inv : s.Inv → t.Inv
  pending : t.pending = s.pending
  same : m.same s t

/-- The same of an outcome: of the next state, where there is one. -/
structure KeptO (m : Mask) (s : State) (o : Host.Outcome State Fault Refusal) : Prop where
  out : ∀ t, o = .next t → Kept m s t

/-- A proof step: show `a`, then use it. -/
theorem Kept.cut {A B : Prop} (a : A) (b : A → B) : B := b a

/-- A state keeps itself. -/
theorem Kept.refl {m : Mask} (s : State) : Kept m s s := ⟨id, rfl, by simp [Mask.same]⟩

/-- Either choice of two kept states is kept. -/
theorem Kept.ite {m : Mask} {s0 a b : State} {c : Prop} [Decidable c] (ha : Kept m s0 a) (hb : Kept m s0 b) : Kept m s0 (if c then a else b) := by
  split <;> assumption

/-- A next state that is kept. -/
theorem KeptO.next {m : Mask} {s0 t : State} (h : Kept m s0 t) : KeptO m s0 (.next t) := by
  refine ⟨fun u e => ?_⟩; cases e; exact h

/-- The state after an outcome. -/
theorem Kept.afterO {m : Mask} {s0 s : State} {o : Host.Outcome State Fault Refusal} (ho : KeptO m s0 o) (h : Kept m s0 s) : Kept m s0 (after o s) := by
  unfold Sys2Proof.Machine.after; split
  · exact ho.out _ rfl
  · exact h

/-- A flag that is not set promises nothing. -/
theorem Kept.off {P : Prop} (e : false = true) : P := by cases e

/-- A state made from `s`: the queue is the same and the parts that differ have no flag. -/
theorem Kept.raw {m : Mask} {s0 s t : State} (h : Kept m s0 s) (hi : s.Inv → t.Inv) (hp : t.pending = s.pending) (hs : m.same s t := by
      (unfold Mask.same; repeat' apply And.intro) <;>
        first | exact Kept.off | exact fun _ => rfl | exact fun _ => ⟨rfl, rfl⟩) :
    Kept m s0 t := by
  refine ⟨fun x => hi (h.inv x), hp.trans h.pending, ?_⟩
  have k := h.same
  unfold Mask.same at *
  refine ⟨?_, ?_, ?_, ?_, ?_, ?_, ?_, ?_, ?_, ?_, ?_, ?_, ?_, ?_, ?_, ?_, ?_, ?_, ?_, ?_, ?_, ?_, ?_, ?_, ?_⟩
  · exact fun e => (hs.1 e).trans (k.1 e)
  · exact fun e => (hs.2.1 e).trans (k.2.1 e)
  · exact fun e => (hs.2.2.1 e).trans (k.2.2.1 e)
  · exact fun e => (hs.2.2.2.1 e).trans (k.2.2.2.1 e)
  · exact fun e => (hs.2.2.2.2.1 e).trans (k.2.2.2.2.1 e)
  · exact fun e => (hs.2.2.2.2.2.1 e).trans (k.2.2.2.2.2.1 e)
  · exact fun e => (hs.2.2.2.2.2.2.1 e).trans (k.2.2.2.2.2.2.1 e)
  · exact fun e => (hs.2.2.2.2.2.2.2.1 e).trans (k.2.2.2.2.2.2.2.1 e)
  · exact fun e => (hs.2.2.2.2.2.2.2.2.1 e).trans (k.2.2.2.2.2.2.2.2.1 e)
  · exact fun e => (hs.2.2.2.2.2.2.2.2.2.1 e).trans (k.2.2.2.2.2.2.2.2.2.1 e)
  · exact fun e => (hs.2.2.2.2.2.2.2.2.2.2.1 e).trans (k.2.2.2.2.2.2.2.2.2.2.1 e)
  · exact fun e => (hs.2.2.2.2.2.2.2.2.2.2.2.1 e).trans (k.2.2.2.2.2.2.2.2.2.2.2.1 e)
  · exact fun e => (hs.2.2.2.2.2.2.2.2.2.2.2.2.1 e).trans (k.2.2.2.2.2.2.2.2.2.2.2.2.1 e)
  · exact fun e => (hs.2.2.2.2.2.2.2.2.2.2.2.2.2.1 e).trans (k.2.2.2.2.2.2.2.2.2.2.2.2.2.1 e)
  · exact fun e => (hs.2.2.2.2.2.2.2.2.2.2.2.2.2.2.1 e).trans (k.2.2.2.2.2.2.2.2.2.2.2.2.2.2.1 e)
  · exact fun e => (hs.2.2.2.2.2.2.2.2.2.2.2.2.2.2.2.1 e).trans (k.2.2.2.2.2.2.2.2.2.2.2.2.2.2.2.1 e)
  · exact fun e => (hs.2.2.2.2.2.2.2.2.2.2.2.2.2.2.2.2.1 e).trans (k.2.2.2.2.2.2.2.2.2.2.2.2.2.2.2.2.1 e)
  · exact fun e => (hs.2.2.2.2.2.2.2.2.2.2.2.2.2.2.2.2.2.1 e).trans (k.2.2.2.2.2.2.2.2.2.2.2.2.2.2.2.2.2.1 e)
  · exact fun e => (hs.2.2.2.2.2.2.2.2.2.2.2.2.2.2.2.2.2.2.1 e).trans (k.2.2.2.2.2.2.2.2.2.2.2.2.2.2.2.2.2.2.1 e)
  · exact fun e => (hs.2.2.2.2.2.2.2.2.2.2.2.2.2.2.2.2.2.2.2.1 e).trans (k.2.2.2.2.2.2.2.2.2.2.2.2.2.2.2.2.2.2.2.1 e)
  · exact fun e => (hs.2.2.2.2.2.2.2.2.2.2.2.2.2.2.2.2.2.2.2.2.1 e).trans (k.2.2.2.2.2.2.2.2.2.2.2.2.2.2.2.2.2.2.2.2.1 e)
  · exact fun e => (hs.2.2.2.2.2.2.2.2.2.2.2.2.2.2.2.2.2.2.2.2.2.1 e).trans (k.2.2.2.2.2.2.2.2.2.2.2.2.2.2.2.2.2.2.2.2.2.1 e)
  · exact fun e => ⟨(hs.2.2.2.2.2.2.2.2.2.2.2.2.2.2.2.2.2.2.2.2.2.2.1 e).1.trans (k.2.2.2.2.2.2.2.2.2.2.2.2.2.2.2.2.2.2.2.2.2.2.1 e).1, (hs.2.2.2.2.2.2.2.2.2.2.2.2.2.2.2.2.2.2.2.2.2.2.1 e).2.trans (k.2.2.2.2.2.2.2.2.2.2.2.2.2.2.2.2.2.2.2.2.2.2.1 e).2⟩
  · exact fun e => (hs.2.2.2.2.2.2.2.2.2.2.2.2.2.2.2.2.2.2.2.2.2.2.2.1 e).trans (k.2.2.2.2.2.2.2.2.2.2.2.2.2.2.2.2.2.2.2.2.2.2.2.1 e)
  · exact fun e => (hs.2.2.2.2.2.2.2.2.2.2.2.2.2.2.2.2.2.2.2.2.2.2.2.2 e).trans (k.2.2.2.2.2.2.2.2.2.2.2.2.2.2.2.2.2.2.2.2.2.2.2.2 e)

/-- An update that leaves the four byte memories, the windows and the queue alone; the parts that differ have no flag. -/
theorem Kept.upd {A B C D E F G H I J K L M N O P Q R S T U V X Y Z : Bool} {s0 s : State} {sys boot health mem que siph blit evc src scn gal heads lant wb fab lamp dict lop fresh bus busEp}
    (h : Kept ⟨A, B, C, D, E, F, G, H, I, J, K, L, M, N, O, P, Q, R, S, T, U, V, X, Y, Z⟩ s0 s)
    (hd : mem.dev = s.mem.dev := by rfl) (hh : mem.host = s.mem.host := by rfl) (hw : mem.wins = s.mem.wins := by rfl)
    (hb : boot.recovBuf = s.boot.recovBuf := by first | rfl | simp) (hl : lop.reqBuf = s.lop.reqBuf := by rfl)
    (e_sys : A = true → sys = s.sys := by first | exact Kept.off | exact fun _ => rfl)
    (e_boot : B = true → boot = s.boot := by first | exact Kept.off | exact fun _ => rfl)
    (e_health : C = true → health = s.health := by first | exact Kept.off | exact fun _ => rfl)
    (e_memx : G = true → mem.rest = s.mem.rest := by first | exact Kept.off | exact fun _ => rfl)
    (e_que : H = true → que = s.que := by first | exact Kept.off | exact fun _ => rfl)
    (e_siph : I = true → siph = s.siph := by first | exact Kept.off | exact fun _ => rfl)
    (e_blit : J = true → blit = s.blit := by first | exact Kept.off | exact fun _ => rfl)
    (e_evc : K = true → evc = s.evc := by first | exact Kept.off | exact fun _ => rfl)
    (e_src : L = true → src = s.src := by first | exact Kept.off | exact fun _ => rfl)
    (e_scn : M = true → scn = s.scn := by first | exact Kept.off | exact fun _ => rfl)
    (e_gal : N = true → gal = s.gal := by first | exact Kept.off | exact fun _ => rfl)
    (e_heads : O = true → heads = s.heads := by first | exact Kept.off | exact fun _ => rfl)
    (e_lant : P = true → lant = s.lant := by first | exact Kept.off | exact fun _ => rfl)
    (e_wb : Q = true → wb = s.wb := by first | exact Kept.off | exact fun _ => rfl)
    (e_fab : R = true → fab = s.fab := by first | exact Kept.off | exact fun _ => rfl)
    (e_lamp : S = true → lamp = s.lamp := by first | exact Kept.off | exact fun _ => rfl)
    (e_dict : T = true → dict = s.dict := by first | exact Kept.off | exact fun _ => rfl)
    (e_lop : U = true → lop = s.lop := by first | exact Kept.off | exact fun _ => rfl)
    (e_fresh : V = true → fresh = s.fresh := by first | exact Kept.off | exact fun _ => rfl)
    (e_bus : X = true → bus = s.bus ∧ busEp = s.busEp := by first | exact Kept.off | exact fun _ => ⟨rfl, rfl⟩)
    (e_cores : Y = true → sys.cores = s.sys.cores := by first | exact Kept.off | exact fun _ => rfl)
    (e_mode : Z = true → sys.mode = s.sys.mode := by first | exact Kept.off | exact fun _ => rfl) :
    Kept ⟨A, B, C, D, E, F, G, H, I, J, K, L, M, N, O, P, Q, R, S, T, U, V, X, Y, Z⟩ s0 ⟨sys, boot, health, mem, que, siph, blit, evc, src, scn, gal, heads, lant, wb, fab, lamp, dict, lop, fresh, bus, busEp, s.pending⟩ := by
  refine h.raw (fun x => ?_) rfl ⟨e_sys, e_boot, e_health, fun _ => hd, fun _ => hh, fun _ => hw, e_memx, e_que, e_siph, e_blit, e_evc, e_src, e_scn, e_gal, e_heads, e_lant, e_wb, e_fab, e_lamp, e_dict, e_lop, e_fresh, e_bus, e_cores, e_mode⟩
  unfold State.Inv State.memCanonical State.winsSound at *
  simpa [hd, hh, hb, hl, hw] using x

/-- A loop over a function that keeps. -/
theorem State.forEach_kept {m : Mask} {α : Type} {s0 s : State} {l : List α} {f : State → α → State} (h : Kept m s0 s)
    (hf : ∀ t a, Kept m s0 t → Kept m s0 (f t a)) : Kept m s0 (s.forEach l f) := by
  unfold State.forEach
  induction l generalizing s with
  | nil => exact h
  | cons a r ih => exact ih (hf _ _ h)

/-- The state of a pair, first. -/
theorem Kept.pair1 {m : Mask} {α : Type} {s0 t : State} {p : State × α} {x : α} (e : p = (t, x)) (h : Kept m s0 p.1) : Kept m s0 t := by
  subst e; exact h

/-- The state of a pair, second. -/
theorem Kept.pair2 {m : Mask} {α : Type} {s0 t : State} {p : α × State} {x : α} (e : p = (x, t)) (h : Kept m s0 p.2) : Kept m s0 t := by
  subst e; exact h

/-- A fold of a function that keeps. -/
theorem Kept.foldl {m : Mask} {α : Type} {s0 s : State} {l : List α} {f : State → α → State} (h : Kept m s0 s)
    (hf : ∀ t a, Kept m s0 t → Kept m s0 (f t a)) : Kept m s0 (List.foldl f s l) := by
  induction l generalizing s with
  | nil => exact h
  | cons a r ih => exact ih (hf _ _ h)

/-- A fold over pairs of a function that keeps. -/
theorem Kept.foldl1 {m : Mask} {α β : Type} {s0 : State} {p : State × β} {l : List α} {f : State × β → α → State × β} (h : Kept m s0 p.1)
    (hf : ∀ t a, Kept m s0 t.1 → Kept m s0 (f t a).1) : Kept m s0 (List.foldl f p l).1 := by
  induction l generalizing p with
  | nil => exact h
  | cons a r ih => exact ih (hf _ _ h)

/-- Every window that a state reads is sound. -/
theorem State.win_sound {s : State} (h : s.winsSound) (n : Nat) : (s.win n).sound := by
  rcases Tbl.get_mem Win.reset s.mem.wins n with e | ⟨j, e⟩
  · unfold State.win; rw [e]; intro k; cases k
  · exact h _ e

/-- Setting a sound window keeps every window sound. -/
theorem State.setWin_winsSound {s : State} {n : Nat} {x : Win} (h : s.winsSound) (hx : x.sound) : (s.setWin n x).winsSound := by
  intro p hp
  rcases Tbl.mem_set hp with rfl | hp
  · exact hx
  · exact h p hp

/-- RECOVBUF is left alone. -/
@[simp] theorem Boot.recovEnd_recovBuf (b : Boot) (x : Status) : (b.recovEnd x).recovBuf = b.recovBuf := rfl

/-- RECOVBUF is left alone. -/
@[simp] theorem Boot.setSlot_recovBuf (b : Boot) (n : Nat) (x : Slot) : (b.setSlot n x).recovBuf = b.recovBuf := by unfold Boot.setSlot; split <;> rfl

/-- RECOVBUF is left alone. -/
@[simp] theorem Boot.control_recovBuf (b : Boot) : (b.control).recovBuf = b.recovBuf := rfl

/-- RECOVBUF is left alone. -/
@[simp] theorem Boot.setFailed_recovBuf (b : Boot) (n : Nat) (f : Bool) : (b.setFailed n f).recovBuf = b.recovBuf := by unfold Boot.setFailed; split <;> rfl

/-- RECOVBUF is left alone. -/
@[simp] theorem Boot.launch_recovBuf (b : Boot) (n : Nat) (f : Bool) : (b.launch n f).recovBuf = b.recovBuf := rfl

/-- RECOVBUF is left alone. -/
theorem Boot.tryTrial_recovBuf (b : Boot) : b.tryTrial.1.recovBuf = b.recovBuf := by
  unfold Boot.tryTrial
  split
  · rfl
  · dsimp only
    split
    · exact Boot.setFailed_recovBuf b _ true
    · split
      · rfl
      · exact Boot.setFailed_recovBuf b _ true

/-- RECOVBUF is left alone. -/
theorem Boot.choose_recovBuf (b : Boot) : b.choose.1.recovBuf = b.recovBuf := by
  have h := b.tryTrial_recovBuf
  unfold Boot.choose
  split
  · rename_i e; rw [e] at h; simpa using h
  · rename_i e; rw [e] at h
    split
    · simpa using h
    · split
      · simpa using h
      · exact h

/-- The same of a window access that may answer nothing. -/
structure KeptP (m : Mask) (s : State) (o : Option (State × Nat)) : Prop where
  out : ∀ p, o = some p → Kept m s p.1

/-- Either choice of two accesses that keep. -/
theorem KeptP.ite {m : Mask} {s : State} {c : Prop} [Decidable c] {a b : Option (State × Nat)} (ha : KeptP m s a) (hb : KeptP m s b) :
    KeptP m s (if c then a else b) := by split <;> assumption

/-- An access that answers. -/
theorem KeptP.some {m : Mask} {s : State} {p : State × Nat} (h : Kept m s p.1) : KeptP m s (some p) := by
  refine ⟨fun q e => ?_⟩; cases e; exact h

/-- An access that answers nothing. -/
theorem KeptP.none {m : Mask} {s : State} : KeptP m s none := ⟨fun q e => nomatch e⟩

/-- Either choice of two pairs whose states are kept. -/
theorem Kept.ite1 {m : Mask} {s0 : State} {c : Prop} [Decidable c] {a b : State × Nat} (ha : Kept m s0 a.1) (hb : Kept m s0 b.1) :
    Kept m s0 (if c then a else b).1 := by split <;> assumption

/-! ## What a kept part reads as -/

theorem Kept.sys_eq {s t : State}
    (h : Kept ⟨true,false,false,false,false,false,false,false,false,false,false,false,false,false,false,false,false,false,false,false,false,false,false,false,false⟩ s t) : t.sys = s.sys := h.same.1 rfl

theorem Kept.boot_eq {s t : State}
    (h : Kept ⟨false,true,false,false,false,false,false,false,false,false,false,false,false,false,false,false,false,false,false,false,false,false,false,false,false⟩ s t) : t.boot = s.boot := h.same.2.1 rfl

theorem Kept.health_eq {s t : State}
    (h : Kept ⟨false,false,true,false,false,false,false,false,false,false,false,false,false,false,false,false,false,false,false,false,false,false,false,false,false⟩ s t) : t.health = s.health := h.same.2.2.1 rfl

theorem Kept.dev_eq {s t : State}
    (h : Kept ⟨false,false,false,true,false,false,false,false,false,false,false,false,false,false,false,false,false,false,false,false,false,false,false,false,false⟩ s t) : t.mem.dev = s.mem.dev := h.same.2.2.2.1 rfl

theorem Kept.host_eq {s t : State}
    (h : Kept ⟨false,false,false,false,true,false,false,false,false,false,false,false,false,false,false,false,false,false,false,false,false,false,false,false,false⟩ s t) : t.mem.host = s.mem.host := h.same.2.2.2.2.1 rfl

theorem Kept.wins_eq {s t : State}
    (h : Kept ⟨false,false,false,false,false,true,false,false,false,false,false,false,false,false,false,false,false,false,false,false,false,false,false,false,false⟩ s t) : t.mem.wins = s.mem.wins := h.same.2.2.2.2.2.1 rfl

theorem Kept.memx_eq {s t : State}
    (h : Kept ⟨false,false,false,false,false,false,true,false,false,false,false,false,false,false,false,false,false,false,false,false,false,false,false,false,false⟩ s t) : t.mem.rest = s.mem.rest := h.same.2.2.2.2.2.2.1 rfl

theorem Kept.que_eq {s t : State}
    (h : Kept ⟨false,false,false,false,false,false,false,true,false,false,false,false,false,false,false,false,false,false,false,false,false,false,false,false,false⟩ s t) : t.que = s.que := h.same.2.2.2.2.2.2.2.1 rfl

theorem Kept.siph_eq {s t : State}
    (h : Kept ⟨false,false,false,false,false,false,false,false,true,false,false,false,false,false,false,false,false,false,false,false,false,false,false,false,false⟩ s t) : t.siph = s.siph := h.same.2.2.2.2.2.2.2.2.1 rfl

theorem Kept.blit_eq {s t : State}
    (h : Kept ⟨false,false,false,false,false,false,false,false,false,true,false,false,false,false,false,false,false,false,false,false,false,false,false,false,false⟩ s t) : t.blit = s.blit := h.same.2.2.2.2.2.2.2.2.2.1 rfl

theorem Kept.evc_eq {s t : State}
    (h : Kept ⟨false,false,false,false,false,false,false,false,false,false,true,false,false,false,false,false,false,false,false,false,false,false,false,false,false⟩ s t) : t.evc = s.evc := h.same.2.2.2.2.2.2.2.2.2.2.1 rfl

theorem Kept.src_eq {s t : State}
    (h : Kept ⟨false,false,false,false,false,false,false,false,false,false,false,true,false,false,false,false,false,false,false,false,false,false,false,false,false⟩ s t) : t.src = s.src := h.same.2.2.2.2.2.2.2.2.2.2.2.1 rfl

theorem Kept.scn_eq {s t : State}
    (h : Kept ⟨false,false,false,false,false,false,false,false,false,false,false,false,true,false,false,false,false,false,false,false,false,false,false,false,false⟩ s t) : t.scn = s.scn := h.same.2.2.2.2.2.2.2.2.2.2.2.2.1 rfl

theorem Kept.gal_eq {s t : State}
    (h : Kept ⟨false,false,false,false,false,false,false,false,false,false,false,false,false,true,false,false,false,false,false,false,false,false,false,false,false⟩ s t) : t.gal = s.gal := h.same.2.2.2.2.2.2.2.2.2.2.2.2.2.1 rfl

theorem Kept.heads_eq {s t : State}
    (h : Kept ⟨false,false,false,false,false,false,false,false,false,false,false,false,false,false,true,false,false,false,false,false,false,false,false,false,false⟩ s t) : t.heads = s.heads := h.same.2.2.2.2.2.2.2.2.2.2.2.2.2.2.1 rfl

theorem Kept.lant_eq {s t : State}
    (h : Kept ⟨false,false,false,false,false,false,false,false,false,false,false,false,false,false,false,true,false,false,false,false,false,false,false,false,false⟩ s t) : t.lant = s.lant := h.same.2.2.2.2.2.2.2.2.2.2.2.2.2.2.2.1 rfl

theorem Kept.wb_eq {s t : State}
    (h : Kept ⟨false,false,false,false,false,false,false,false,false,false,false,false,false,false,false,false,true,false,false,false,false,false,false,false,false⟩ s t) : t.wb = s.wb := h.same.2.2.2.2.2.2.2.2.2.2.2.2.2.2.2.2.1 rfl

theorem Kept.fab_eq {s t : State}
    (h : Kept ⟨false,false,false,false,false,false,false,false,false,false,false,false,false,false,false,false,false,true,false,false,false,false,false,false,false⟩ s t) : t.fab = s.fab := h.same.2.2.2.2.2.2.2.2.2.2.2.2.2.2.2.2.2.1 rfl

theorem Kept.lamp_eq {s t : State}
    (h : Kept ⟨false,false,false,false,false,false,false,false,false,false,false,false,false,false,false,false,false,false,true,false,false,false,false,false,false⟩ s t) : t.lamp = s.lamp := h.same.2.2.2.2.2.2.2.2.2.2.2.2.2.2.2.2.2.2.1 rfl

theorem Kept.dict_eq {s t : State}
    (h : Kept ⟨false,false,false,false,false,false,false,false,false,false,false,false,false,false,false,false,false,false,false,true,false,false,false,false,false⟩ s t) : t.dict = s.dict := h.same.2.2.2.2.2.2.2.2.2.2.2.2.2.2.2.2.2.2.2.1 rfl

theorem Kept.lop_eq {s t : State}
    (h : Kept ⟨false,false,false,false,false,false,false,false,false,false,false,false,false,false,false,false,false,false,false,false,true,false,false,false,false⟩ s t) : t.lop = s.lop := h.same.2.2.2.2.2.2.2.2.2.2.2.2.2.2.2.2.2.2.2.2.1 rfl

theorem Kept.fresh_eq {s t : State}
    (h : Kept ⟨false,false,false,false,false,false,false,false,false,false,false,false,false,false,false,false,false,false,false,false,false,true,false,false,false⟩ s t) : t.fresh = s.fresh := h.same.2.2.2.2.2.2.2.2.2.2.2.2.2.2.2.2.2.2.2.2.2.1 rfl

theorem Kept.bus_eq {s t : State}
    (h : Kept ⟨false,false,false,false,false,false,false,false,false,false,false,false,false,false,false,false,false,false,false,false,false,false,true,false,false⟩ s t) : t.bus = s.bus ∧ t.busEp = s.busEp := h.same.2.2.2.2.2.2.2.2.2.2.2.2.2.2.2.2.2.2.2.2.2.2.1 rfl

/-- The whole memory block is left alone. -/
theorem Kept.mem_eq {s t : State}
    (h : Kept ⟨false,false,false,true,true,true,true,false,false,false,false,false,false,false,false,false,false,false,false,false,false,false,false,false,false⟩ s t) : t.mem = s.mem := by
  have hd := h.same.2.2.2.1 rfl
  have hh := h.same.2.2.2.2.1 rfl
  have hw := h.same.2.2.2.2.2.1 rfl
  have hr := h.same.2.2.2.2.2.2.1 rfl
  revert hd hh hw hr
  generalize t.mem = x
  generalize s.mem = y
  intro hd hh hw hr
  cases x; cases y
  simp only [Mem.rest, Mem.mk.injEq] at *
  simp_all

theorem Kept.cores_eq {s t : State}
    (h : Kept ⟨false,false,false,false,false,false,false,false,false,false,false,false,false,false,false,false,false,false,false,false,false,false,false,true,false⟩ s t) : t.sys.cores = s.sys.cores := h.same.2.2.2.2.2.2.2.2.2.2.2.2.2.2.2.2.2.2.2.2.2.2.2.1 rfl

theorem Kept.mode_eq {s t : State}
    (h : Kept ⟨false,false,false,false,false,false,false,false,false,false,false,false,false,false,false,false,false,false,false,false,false,false,false,false,true⟩ s t) : t.sys.mode = s.sys.mode := h.same.2.2.2.2.2.2.2.2.2.2.2.2.2.2.2.2.2.2.2.2.2.2.2.2 rfl

end Sys2Proof.Machine
end

