-- ==== Sys2Proof/Laws/KeptOps.lean ====
section
/-!
SUPPORT. What the functions of the model keep (see Kept): the shared operations, events, rings and sources. A lemma of a function names by false the parts it may write.
-/

set_option linter.all false
set_option Elab.async false

namespace Sys2Proof.Machine

variable {A B C D E F G H I J K L M N O P Q R S T U V X Y Z : Bool} {s0 s : State}

theorem State.setRing_kept {a1 : Nat} {a2 : Ring} (h : Kept ⟨A,B,C,D,E,F,G,false,I,J,K,L,M,N,O,P,Q,R,S,T,U,V,X,Y,Z⟩ s0 s) : Kept ⟨A,B,C,D,E,F,G,false,I,J,K,L,M,N,O,P,Q,R,S,T,U,V,X,Y,Z⟩ s0 (State.setRing s a1 a2) := by
  unfold State.setRing; with_reducible repeat' first | assumption | intros _ | apply Kept.ite | (refine Kept.upd ?_; first | assumption) | split
theorem State.modRing_kept {a1 : Nat} {a2 : Ring → Ring} (h : Kept ⟨A,B,C,D,E,F,G,false,I,J,K,L,M,N,O,P,Q,R,S,T,U,V,X,Y,Z⟩ s0 s) : Kept ⟨A,B,C,D,E,F,G,false,I,J,K,L,M,N,O,P,Q,R,S,T,U,V,X,Y,Z⟩ s0 (State.modRing s a1 a2) := by
  unfold State.modRing; with_reducible repeat' first | assumption | apply Kept.ite | apply State.setRing_kept
theorem State.setChan_kept {a1 : Nat} {a2 : Chan} (h : Kept ⟨A,B,C,D,E,F,G,H,false,J,K,L,M,N,O,P,Q,R,S,T,U,V,X,Y,Z⟩ s0 s) : Kept ⟨A,B,C,D,E,F,G,H,false,J,K,L,M,N,O,P,Q,R,S,T,U,V,X,Y,Z⟩ s0 (State.setChan s a1 a2) := by
  unfold State.setChan; with_reducible repeat' first | assumption | intros _ | apply Kept.ite | (refine Kept.upd ?_; first | assumption) | split
theorem State.modChan_kept {a1 : Nat} {a2 : Chan → Chan} (h : Kept ⟨A,B,C,D,E,F,G,H,false,J,K,L,M,N,O,P,Q,R,S,T,U,V,X,Y,Z⟩ s0 s) : Kept ⟨A,B,C,D,E,F,G,H,false,J,K,L,M,N,O,P,Q,R,S,T,U,V,X,Y,Z⟩ s0 (State.modChan s a1 a2) := by
  unfold State.modChan; with_reducible repeat' first | assumption | apply Kept.ite | apply State.setChan_kept
theorem State.setUnit_kept {a1 : Nat} {a2 : Unit2D} (h : Kept ⟨A,B,C,D,E,F,G,H,I,false,K,L,M,N,O,P,Q,R,S,T,U,V,X,Y,Z⟩ s0 s) : Kept ⟨A,B,C,D,E,F,G,H,I,false,K,L,M,N,O,P,Q,R,S,T,U,V,X,Y,Z⟩ s0 (State.setUnit s a1 a2) := by
  unfold State.setUnit; with_reducible repeat' first | assumption | intros _ | apply Kept.ite | (refine Kept.upd ?_; first | assumption) | split
theorem State.modUnit_kept {a1 : Nat} {a2 : Unit2D → Unit2D} (h : Kept ⟨A,B,C,D,E,F,G,H,I,false,K,L,M,N,O,P,Q,R,S,T,U,V,X,Y,Z⟩ s0 s) : Kept ⟨A,B,C,D,E,F,G,H,I,false,K,L,M,N,O,P,Q,R,S,T,U,V,X,Y,Z⟩ s0 (State.modUnit s a1 a2) := by
  unfold State.modUnit; with_reducible repeat' first | assumption | apply Kept.ite | apply State.setUnit_kept
theorem State.setEv_kept {a1 : Nat} {a2 : EvSrc} (h : Kept ⟨A,B,C,D,E,F,G,H,I,J,false,L,M,N,O,P,Q,R,S,T,U,V,X,Y,Z⟩ s0 s) : Kept ⟨A,B,C,D,E,F,G,H,I,J,false,L,M,N,O,P,Q,R,S,T,U,V,X,Y,Z⟩ s0 (State.setEv s a1 a2) := by
  unfold State.setEv; with_reducible repeat' first | assumption | intros _ | apply Kept.ite | (refine Kept.upd ?_; first | assumption) | split
theorem State.modEv_kept {a1 : Nat} {a2 : EvSrc → EvSrc} (h : Kept ⟨A,B,C,D,E,F,G,H,I,J,false,L,M,N,O,P,Q,R,S,T,U,V,X,Y,Z⟩ s0 s) : Kept ⟨A,B,C,D,E,F,G,H,I,J,false,L,M,N,O,P,Q,R,S,T,U,V,X,Y,Z⟩ s0 (State.modEv s a1 a2) := by
  unfold State.modEv; with_reducible repeat' first | assumption | apply Kept.ite | apply State.setEv_kept
theorem State.setGroup_kept {a1 : Nat} {a2 : EvGroup} (h : Kept ⟨A,B,C,D,E,F,G,H,I,J,false,L,M,N,O,P,Q,R,S,T,U,V,X,Y,Z⟩ s0 s) : Kept ⟨A,B,C,D,E,F,G,H,I,J,false,L,M,N,O,P,Q,R,S,T,U,V,X,Y,Z⟩ s0 (State.setGroup s a1 a2) := by
  unfold State.setGroup; with_reducible repeat' first | assumption | intros _ | apply Kept.ite | (refine Kept.upd ?_; first | assumption) | split
theorem State.modGroup_kept {a1 : Nat} {a2 : EvGroup → EvGroup} (h : Kept ⟨A,B,C,D,E,F,G,H,I,J,false,L,M,N,O,P,Q,R,S,T,U,V,X,Y,Z⟩ s0 s) : Kept ⟨A,B,C,D,E,F,G,H,I,J,false,L,M,N,O,P,Q,R,S,T,U,V,X,Y,Z⟩ s0 (State.modGroup s a1 a2) := by
  unfold State.modGroup; with_reducible repeat' first | assumption | apply Kept.ite | apply State.setGroup_kept
theorem State.setHead_kept {a1 : Nat} {a2 : Head} (h : Kept ⟨A,B,C,D,E,F,G,H,I,J,K,L,M,N,false,P,Q,R,S,T,U,V,X,Y,Z⟩ s0 s) : Kept ⟨A,B,C,D,E,F,G,H,I,J,K,L,M,N,false,P,Q,R,S,T,U,V,X,Y,Z⟩ s0 (State.setHead s a1 a2) := by
  unfold State.setHead; with_reducible repeat' first | assumption | intros _ | apply Kept.ite | (refine Kept.upd ?_; first | assumption) | split
theorem State.modHead_kept {a1 : Nat} {a2 : Head → Head} (h : Kept ⟨A,B,C,D,E,F,G,H,I,J,K,L,M,N,false,P,Q,R,S,T,U,V,X,Y,Z⟩ s0 s) : Kept ⟨A,B,C,D,E,F,G,H,I,J,K,L,M,N,false,P,Q,R,S,T,U,V,X,Y,Z⟩ s0 (State.modHead s a1 a2) := by
  unfold State.modHead; with_reducible repeat' first | assumption | apply Kept.ite | apply State.setHead_kept
theorem State.setLink_kept {a1 : Nat} {a2 : DpLink} (h : Kept ⟨A,B,C,D,E,F,G,H,I,J,K,L,M,N,false,P,Q,R,S,T,U,V,X,Y,Z⟩ s0 s) : Kept ⟨A,B,C,D,E,F,G,H,I,J,K,L,M,N,false,P,Q,R,S,T,U,V,X,Y,Z⟩ s0 (State.setLink s a1 a2) := by
  unfold State.setLink; with_reducible repeat' first | assumption | intros _ | apply Kept.ite | (refine Kept.upd ?_; first | assumption) | split
theorem State.modLink_kept {a1 : Nat} {a2 : DpLink → DpLink} (h : Kept ⟨A,B,C,D,E,F,G,H,I,J,K,L,M,N,false,P,Q,R,S,T,U,V,X,Y,Z⟩ s0 s) : Kept ⟨A,B,C,D,E,F,G,H,I,J,K,L,M,N,false,P,Q,R,S,T,U,V,X,Y,Z⟩ s0 (State.modLink s a1 a2) := by
  unfold State.modLink; with_reducible repeat' first | assumption | apply Kept.ite | apply State.setLink_kept
theorem State.setGallery_kept {a1 : Nat} {a2 : Gal} (h : Kept ⟨A,B,C,D,E,F,G,H,I,J,K,L,M,false,O,P,Q,R,S,T,U,V,X,Y,Z⟩ s0 s) : Kept ⟨A,B,C,D,E,F,G,H,I,J,K,L,M,false,O,P,Q,R,S,T,U,V,X,Y,Z⟩ s0 (State.setGallery s a1 a2) := by
  unfold State.setGallery; with_reducible repeat' first | assumption | intros _ | apply Kept.ite | (refine Kept.upd ?_; first | assumption) | split
theorem State.modGallery_kept {a1 : Nat} {a2 : Gal → Gal} (h : Kept ⟨A,B,C,D,E,F,G,H,I,J,K,L,M,false,O,P,Q,R,S,T,U,V,X,Y,Z⟩ s0 s) : Kept ⟨A,B,C,D,E,F,G,H,I,J,K,L,M,false,O,P,Q,R,S,T,U,V,X,Y,Z⟩ s0 (State.modGallery s a1 a2) := by
  unfold State.modGallery; with_reducible repeat' first | assumption | apply Kept.ite | apply State.setGallery_kept
theorem State.setRegion_kept {a1 : Nat} {a2 : Nat} {a3 : RegSt} (h : Kept ⟨A,B,C,D,E,F,G,H,I,J,K,L,M,N,O,false,Q,R,S,T,U,V,X,Y,Z⟩ s0 s) : Kept ⟨A,B,C,D,E,F,G,H,I,J,K,L,M,N,O,false,Q,R,S,T,U,V,X,Y,Z⟩ s0 (State.setRegion s a1 a2 a3) := by
  unfold State.setRegion; with_reducible repeat' first | assumption | intros _ | apply Kept.ite | (refine Kept.upd ?_; first | assumption) | split
theorem State.modRegion_kept {a1 : Nat} {a2 : Nat} {a3 : RegSt → RegSt} (h : Kept ⟨A,B,C,D,E,F,G,H,I,J,K,L,M,N,O,false,Q,R,S,T,U,V,X,Y,Z⟩ s0 s) : Kept ⟨A,B,C,D,E,F,G,H,I,J,K,L,M,N,O,false,Q,R,S,T,U,V,X,Y,Z⟩ s0 (State.modRegion s a1 a2 a3) := by
  unfold State.modRegion; with_reducible repeat' first | assumption | apply Kept.ite | apply State.setRegion_kept
theorem State.setStream_kept {a1 : Nat} {a2 : Wb} (h : Kept ⟨A,B,C,D,E,F,G,H,I,J,K,L,M,N,O,P,false,R,S,T,U,V,X,Y,Z⟩ s0 s) : Kept ⟨A,B,C,D,E,F,G,H,I,J,K,L,M,N,O,P,false,R,S,T,U,V,X,Y,Z⟩ s0 (State.setStream s a1 a2) := by
  unfold State.setStream; with_reducible repeat' first | assumption | intros _ | apply Kept.ite | (refine Kept.upd ?_; first | assumption) | split
theorem State.modStream_kept {a1 : Nat} {a2 : Wb → Wb} (h : Kept ⟨A,B,C,D,E,F,G,H,I,J,K,L,M,N,O,P,false,R,S,T,U,V,X,Y,Z⟩ s0 s) : Kept ⟨A,B,C,D,E,F,G,H,I,J,K,L,M,N,O,P,false,R,S,T,U,V,X,Y,Z⟩ s0 (State.modStream s a1 a2) := by
  unfold State.modStream; with_reducible repeat' first | assumption | apply Kept.ite | apply State.setStream_kept
theorem State.setPort_kept {a1 : Nat} {a2 : Port} (h : Kept ⟨A,B,C,D,E,F,G,H,I,J,K,L,M,N,O,P,Q,false,S,T,U,V,X,Y,Z⟩ s0 s) : Kept ⟨A,B,C,D,E,F,G,H,I,J,K,L,M,N,O,P,Q,false,S,T,U,V,X,Y,Z⟩ s0 (State.setPort s a1 a2) := by
  unfold State.setPort; with_reducible repeat' first | assumption | intros _ | apply Kept.ite | (refine Kept.upd ?_; first | assumption) | split
theorem State.modPort_kept {a1 : Nat} {a2 : Port → Port} (h : Kept ⟨A,B,C,D,E,F,G,H,I,J,K,L,M,N,O,P,Q,false,S,T,U,V,X,Y,Z⟩ s0 s) : Kept ⟨A,B,C,D,E,F,G,H,I,J,K,L,M,N,O,P,Q,false,S,T,U,V,X,Y,Z⟩ s0 (State.modPort s a1 a2) := by
  unfold State.modPort; with_reducible repeat' first | assumption | apply Kept.ite | apply State.setPort_kept
theorem State.setSource_kept {a1 : Nat} {a2 : Source} (h : Kept ⟨A,B,C,D,E,F,G,H,I,J,K,false,M,N,O,P,Q,R,S,T,U,V,X,Y,Z⟩ s0 s) : Kept ⟨A,B,C,D,E,F,G,H,I,J,K,false,M,N,O,P,Q,R,S,T,U,V,X,Y,Z⟩ s0 (State.setSource s a1 a2) := by
  unfold State.setSource; with_reducible repeat' first | assumption | intros _ | apply Kept.ite | (refine Kept.upd ?_; first | assumption) | split
theorem State.modSource_kept {a1 : Nat} {a2 : Source → Source} (h : Kept ⟨A,B,C,D,E,F,G,H,I,J,K,false,M,N,O,P,Q,R,S,T,U,V,X,Y,Z⟩ s0 s) : Kept ⟨A,B,C,D,E,F,G,H,I,J,K,false,M,N,O,P,Q,R,S,T,U,V,X,Y,Z⟩ s0 (State.modSource s a1 a2) := by
  unfold State.modSource; with_reducible repeat' first | assumption | intros _ | apply Kept.ite | apply State.setSource_kept | (refine Kept.upd ?_; first | assumption | apply State.setSource_kept) | split
theorem State.setFnCfg_kept {a1 : Fn} {a2 : FnCfg} (h : Kept ⟨A,B,C,D,E,F,G,H,I,J,false,L,M,N,O,P,Q,R,S,T,U,V,X,Y,Z⟩ s0 s) : Kept ⟨A,B,C,D,E,F,G,H,I,J,false,L,M,N,O,P,Q,R,S,T,U,V,X,Y,Z⟩ s0 (State.setFnCfg s a1 a2) := by
  unfold State.setFnCfg; split <;> exact Kept.upd h
theorem State.draw_kept (h : Kept ⟨A,B,C,D,E,F,G,H,I,J,K,L,M,N,O,P,Q,R,S,T,U,false,X,Y,Z⟩ s0 s) : Kept ⟨A,B,C,D,E,F,G,H,I,J,K,L,M,N,O,P,Q,R,S,T,U,false,X,Y,Z⟩ s0 (State.draw s).2 := by
  unfold State.draw; with_reducible repeat' first | assumption | intros _ | apply Kept.ite | (refine Kept.upd ?_; first | assumption) | split
theorem State.devWrite_kept {a1 : Nat} {a2 : List Byte} (h : Kept ⟨A,B,C,false,E,F,false,H,I,J,K,L,M,N,O,P,Q,R,S,T,U,V,X,Y,Z⟩ s0 s) : Kept ⟨A,B,C,false,E,F,false,H,I,J,K,L,M,N,O,P,Q,R,S,T,U,V,X,Y,Z⟩ s0 (State.devWrite s a1 a2) := by
  unfold State.devWrite
  refine Kept.ite h ?_
  refine h.raw (fun x => ?_) rfl
  have := x
  refine ⟨⟨?_, this.1.2⟩, this.2⟩
  refine Memory.wf_ite (Memory.wf_write _ _ _ this.1.1) (Memory.wf_foldl ?_ this.1.1)
  intro m p k
  exact Memory.wf_ite k (Memory.wf_put _ _ _ k)
theorem State.hostWrite_kept {a1 : Nat} {a2 : List Byte} (h : Kept ⟨A,B,C,D,false,F,G,H,I,J,K,L,M,N,O,P,Q,R,S,T,U,V,X,Y,Z⟩ s0 s) : Kept ⟨A,B,C,D,false,F,G,H,I,J,K,L,M,N,O,P,Q,R,S,T,U,V,X,Y,Z⟩ s0 (State.hostWrite s a1 a2) := by
  refine h.raw (fun x => ?_) rfl
  have := x
  exact ⟨⟨this.1.1, Memory.wf_write _ _ _ this.1.2.1, this.1.2.2⟩, this.2⟩
theorem State.busWrite_kept {a1 : Nat} {a2 : List Byte} (h : Kept ⟨A,B,C,false,false,F,false,H,I,J,K,L,M,N,O,P,Q,R,S,T,U,V,X,Y,Z⟩ s0 s) : Kept ⟨A,B,C,false,false,F,false,H,I,J,K,L,M,N,O,P,Q,R,S,T,U,V,X,Y,Z⟩ s0 (State.busWrite s a1 a2) := by
  unfold State.busWrite; split
  · exact State.hostWrite_kept h
  · exact State.devWrite_kept h
theorem State.countBounds_kept (h : Kept ⟨A,B,C,D,E,F,false,H,I,J,K,L,M,N,O,P,Q,R,S,T,U,V,X,Y,Z⟩ s0 s) : Kept ⟨A,B,C,D,E,F,false,H,I,J,K,L,M,N,O,P,Q,R,S,T,U,V,X,Y,Z⟩ s0 (State.countBounds s) := by
  unfold State.countBounds; with_reducible repeat' first | assumption | intros _ | apply Kept.ite | (refine Kept.upd ?_; first | assumption) | split
theorem State.answer_kept {a1 : List Byte} (h : Kept ⟨A,B,C,D,E,F,G,H,I,J,K,L,M,N,O,P,Q,R,S,T,U,V,false,Y,Z⟩ s0 s) : Kept ⟨A,B,C,D,E,F,G,H,I,J,K,L,M,N,O,P,Q,R,S,T,U,V,false,Y,Z⟩ s0 (State.answer s a1) := by
  unfold State.answer; with_reducible repeat' first | assumption | intros _ | apply Kept.ite | (refine Kept.upd ?_; first | assumption) | split
theorem State.privIgnore_kept {a1 : Nat} (h : Kept ⟨false,B,C,D,E,F,G,H,I,J,K,L,M,N,O,P,Q,R,S,T,U,V,X,Y,Z⟩ s0 s) : Kept ⟨false,B,C,D,E,F,G,H,I,J,K,L,M,N,O,P,Q,R,S,T,U,V,X,Y,Z⟩ s0 (State.privIgnore s a1) := by
  unfold State.privIgnore; with_reducible repeat' first | assumption | intros _ | apply Kept.ite | (refine Kept.upd ?_; first | assumption) | split
theorem State.badAccess_kept (h : Kept ⟨false,B,C,D,E,F,G,H,I,J,K,L,M,N,O,P,Q,R,S,T,U,V,X,Y,Z⟩ s0 s) : Kept ⟨false,B,C,D,E,F,G,H,I,J,K,L,M,N,O,P,Q,R,S,T,U,V,X,Y,Z⟩ s0 (State.badAccess s) := by
  unfold State.badAccess; with_reducible repeat' first | assumption | intros _ | apply Kept.ite | (refine Kept.upd ?_; first | assumption) | split
theorem State.fixParity_kept {a1 : Nat} (h : Kept ⟨false,B,C,D,E,F,G,H,I,J,K,L,M,N,O,P,Q,R,S,T,U,V,X,Y,Z⟩ s0 s) : Kept ⟨false,B,C,D,E,F,G,H,I,J,K,L,M,N,O,P,Q,R,S,T,U,V,X,Y,Z⟩ s0 (State.fixParity s a1) := by
  unfold State.fixParity; with_reducible repeat' first | assumption | intros _ | apply Kept.ite | (refine Kept.upd ?_; first | assumption) | split
theorem State.reorder_kept (h : Kept ⟨A,B,C,D,E,F,G,H,I,J,false,L,M,N,O,P,Q,R,S,T,U,V,X,Y,Z⟩ s0 s) : Kept ⟨A,B,C,D,E,F,G,H,I,J,false,L,M,N,O,P,Q,R,S,T,U,V,X,Y,Z⟩ s0 (State.reorder s) := by
  unfold State.reorder; with_reducible repeat' first | assumption | intros _ | apply Kept.ite | (refine Kept.upd ?_; first | assumption) | split
theorem State.releaseGroup_kept {a1 : Nat} (h : Kept ⟨A,B,C,D,E,F,G,H,I,J,false,L,M,N,O,P,Q,R,S,T,U,V,X,Y,Z⟩ s0 s) : Kept ⟨A,B,C,D,E,F,G,H,I,J,false,L,M,N,O,P,Q,R,S,T,U,V,X,Y,Z⟩ s0 (State.releaseGroup s a1) := by
  unfold State.releaseGroup; with_reducible repeat' first | assumption | apply Kept.ite | apply State.modGroup_kept
theorem State.countGroup_kept {a1 : Nat} (h : Kept ⟨A,B,C,D,E,F,G,H,I,J,false,L,M,N,O,P,Q,R,S,T,U,V,X,Y,Z⟩ s0 s) : Kept ⟨A,B,C,D,E,F,G,H,I,J,false,L,M,N,O,P,Q,R,S,T,U,V,X,Y,Z⟩ s0 (State.countGroup s a1) := by
  unfold State.countGroup; with_reducible repeat' first | assumption | apply Kept.ite | apply State.setGroup_kept | apply State.releaseGroup_kept
theorem State.wbWatch_kept {a1 : Nat} (h : Kept ⟨A,B,C,D,E,F,G,H,I,J,K,L,M,N,O,P,false,R,S,T,U,V,X,Y,Z⟩ s0 s) : Kept ⟨A,B,C,D,E,F,G,H,I,J,K,L,M,N,O,P,false,R,S,T,U,V,X,Y,Z⟩ s0 (State.wbWatch s a1) := by
  unfold State.wbWatch; with_reducible repeat' first | assumption | intros _ | apply Kept.ite | (refine Kept.upd ?_; first | assumption) | split
theorem State.wbWatchNew_kept {u2 : State} {a1 : List Nat} (h : Kept ⟨A,B,C,D,E,F,G,H,I,J,K,L,M,N,O,P,false,R,S,T,U,V,X,Y,Z⟩ s0 s) : Kept ⟨A,B,C,D,E,F,G,H,I,J,K,L,M,N,O,P,false,R,S,T,U,V,X,Y,Z⟩ s0 (State.wbWatchNew s u2 a1) := by
  unfold State.wbWatchNew; with_reducible repeat' first | assumption | intros _ | apply Kept.ite | apply State.forEach_kept | apply State.wbWatch_kept | (refine Kept.upd ?_; first | assumption | apply State.forEach_kept | apply State.wbWatch_kept) | split
theorem State.occur_kept {a1 : Nat} (h : Kept ⟨A,B,C,D,E,F,G,H,I,J,false,L,M,N,O,P,false,R,S,T,U,V,X,Y,Z⟩ s0 s) : Kept ⟨A,B,C,D,E,F,G,H,I,J,false,L,M,N,O,P,false,R,S,T,U,V,X,Y,Z⟩ s0 (State.occur s a1) := by
  unfold State.occur; with_reducible repeat' first | assumption | apply Kept.ite | apply State.modEv_kept | apply State.wbWatchNew_kept | apply State.countGroup_kept | apply State.reorder_kept
theorem State.levelTo_kept {a1 : Nat} {a2 : Bool} (h : Kept ⟨A,B,C,D,E,F,G,H,I,J,false,L,M,N,O,P,false,R,S,T,U,V,X,Y,Z⟩ s0 s) : Kept ⟨A,B,C,D,E,F,G,H,I,J,false,L,M,N,O,P,false,R,S,T,U,V,X,Y,Z⟩ s0 (State.levelTo s a1 a2) := by
  unfold State.levelTo; with_reducible repeat' first | assumption | apply Kept.ite | apply State.occur_kept | apply State.modEv_kept | apply State.reorder_kept
theorem State.raiseNum_kept {a1 : Nat} (h : Kept ⟨A,false,C,D,E,F,G,H,I,J,false,L,M,N,O,P,false,R,S,T,U,V,X,Y,Z⟩ s0 s) : Kept ⟨A,false,C,D,E,F,G,H,I,J,false,L,M,N,O,P,false,R,S,T,U,V,X,Y,Z⟩ s0 (State.raiseNum s a1) := by
  unfold State.raiseNum; with_reducible repeat' first | assumption | intros _ | apply Kept.ite | apply State.occur_kept | (refine Kept.upd ?_; first | assumption | apply State.occur_kept) | split
theorem State.raise_kept {a1 : DevEvent} (h : Kept ⟨A,false,C,D,E,F,G,H,I,J,false,L,M,N,O,P,false,R,S,T,U,V,X,Y,Z⟩ s0 s) : Kept ⟨A,false,C,D,E,F,G,H,I,J,false,L,M,N,O,P,false,R,S,T,U,V,X,Y,Z⟩ s0 (State.raise s a1) := by
  unfold State.raise; with_reducible repeat' first | assumption | apply Kept.ite | apply State.raiseNum_kept
theorem State.raiseHead_kept {a1 : Nat} {a2 : Slot32} (h : Kept ⟨A,false,C,D,E,F,G,H,I,J,false,L,M,N,O,P,false,R,S,T,U,V,X,Y,Z⟩ s0 s) : Kept ⟨A,false,C,D,E,F,G,H,I,J,false,L,M,N,O,P,false,R,S,T,U,V,X,Y,Z⟩ s0 (State.raiseHead s a1 a2) := by
  unfold State.raiseHead; with_reducible repeat' first | assumption | apply Kept.ite | apply State.raiseNum_kept
theorem State.level_kept {a1 : DevEvent} {a2 : Bool} (h : Kept ⟨A,B,C,D,E,F,G,H,I,J,false,L,M,N,O,P,false,R,S,T,U,V,X,Y,Z⟩ s0 s) : Kept ⟨A,B,C,D,E,F,G,H,I,J,false,L,M,N,O,P,false,R,S,T,U,V,X,Y,Z⟩ s0 (State.level s a1 a2) := by
  unfold State.level; with_reducible repeat' first | assumption | apply Kept.ite | apply State.levelTo_kept
theorem State.levelHead_kept {a1 : Nat} {a2 : Slot32} {a3 : Bool} (h : Kept ⟨A,B,C,D,E,F,G,H,I,J,false,L,M,N,O,P,false,R,S,T,U,V,X,Y,Z⟩ s0 s) : Kept ⟨A,B,C,D,E,F,G,H,I,J,false,L,M,N,O,P,false,R,S,T,U,V,X,Y,Z⟩ s0 (State.levelHead s a1 a2 a3) := by
  unfold State.levelHead; with_reducible repeat' first | assumption | apply Kept.ite | apply State.levelTo_kept
theorem State.freshEvent_kept {a1 : DevEvent} {a2 : Nat} {a3 : Nat} {a4 : Nat} (h : Kept ⟨A,false,C,D,E,F,G,H,I,J,false,L,M,N,O,P,false,R,S,T,U,V,X,Y,Z⟩ s0 s) : Kept ⟨A,false,C,D,E,F,G,H,I,J,false,L,M,N,O,P,false,R,S,T,U,V,X,Y,Z⟩ s0 (State.freshEvent s a1 a2 a3 a4) := by
  unfold State.freshEvent; with_reducible repeat' first | assumption | intros _ | apply Kept.ite | apply State.raise_kept | (refine Kept.upd ?_; first | assumption | apply State.raise_kept) | split
theorem State.claim_kept {a1 : Target} (h : Kept ⟨A,B,C,D,E,F,G,H,I,J,false,L,M,N,O,P,Q,R,S,T,U,V,X,Y,Z⟩ s0 s) : Kept ⟨A,B,C,D,E,F,G,H,I,J,false,L,M,N,O,P,Q,R,S,T,U,V,X,Y,Z⟩ s0 (State.claim s a1) := by
  unfold State.claim; with_reducible repeat' first | assumption | intros _ | apply Kept.ite | apply State.forEach_kept | apply State.modEv_kept | (refine Kept.upd ?_; first | assumption | apply State.forEach_kept | apply State.modEv_kept) | split
theorem State.sendMessage_kept {a1 : Fn} {a2 : Nat} (h : Kept ⟨A,B,C,D,false,F,G,H,I,J,false,L,M,N,O,P,Q,R,S,T,U,V,X,Y,Z⟩ s0 s) : Kept ⟨A,B,C,D,false,F,G,H,I,J,false,L,M,N,O,P,Q,R,S,T,U,V,X,Y,Z⟩ s0 (State.sendMessage s a1 a2) := by
  unfold State.sendMessage; with_reducible repeat' first | assumption | intros _ | apply Kept.ite | apply State.hostWrite_kept | (refine Kept.upd ?_; first | assumption | apply State.hostWrite_kept) | split
theorem State.coreRecord_kept {a1 : List Nat} (h : Kept ⟨A,B,C,D,E,F,G,H,I,J,false,L,M,N,O,P,Q,R,S,T,U,V,X,Y,Z⟩ s0 s) : Kept ⟨A,B,C,D,E,F,G,H,I,J,false,L,M,N,O,P,Q,R,S,T,U,V,X,Y,Z⟩ s0 (State.coreRecord s a1) := by
  unfold State.coreRecord; with_reducible repeat' first | assumption | intros _ | apply Kept.ite | apply State.forEach_kept | apply State.modEv_kept | (refine Kept.upd ?_; first | assumption | apply State.forEach_kept | apply State.modEv_kept) | split
theorem execEventOccurrence_kept {a1 : Fin 1536} (h : Kept ⟨A,false,C,D,E,F,G,H,I,J,false,L,M,N,O,P,false,R,S,T,U,V,X,Y,Z⟩ s0 s) : KeptO ⟨A,false,C,D,E,F,G,H,I,J,false,L,M,N,O,P,false,R,S,T,U,V,X,Y,Z⟩ s0 (execEventOccurrence a1 s) := by
  unfold execEventOccurrence; with_reducible repeat' first | assumption | apply KeptO.next | apply Kept.ite | apply State.levelTo_kept | apply State.raiseNum_kept
theorem execLevelFall_kept {a1 : Fin 1536} (h : Kept ⟨A,B,C,D,E,F,G,H,I,J,false,L,M,N,O,P,false,R,S,T,U,V,X,Y,Z⟩ s0 s) : KeptO ⟨A,B,C,D,E,F,G,H,I,J,false,L,M,N,O,P,false,R,S,T,U,V,X,Y,Z⟩ s0 (execLevelFall a1 s) := by
  unfold execLevelFall; with_reducible repeat' first | assumption | apply KeptO.next | apply Kept.ite | apply State.levelTo_kept
theorem State.countForeign_kept {a1 : Fn} {a2 : Bool} {a3 : Nat} (h : Kept ⟨false,B,C,D,E,F,G,H,I,J,K,L,M,N,O,P,Q,R,S,T,U,V,X,Y,Z⟩ s0 s) : Kept ⟨false,B,C,D,E,F,G,H,I,J,K,L,M,N,O,P,Q,R,S,T,U,V,X,Y,Z⟩ s0 (State.countForeign s a1 a2 a3) := by
  unfold State.countForeign; with_reducible repeat' first | assumption | apply Kept.ite | apply State.privIgnore_kept
theorem execPendingSet_kept {a1 : Fn} {a2 : Fin 48} {a3 : Nat} (h : Kept ⟨false,B,C,D,E,F,G,H,I,J,false,L,M,N,O,P,false,R,S,T,U,V,X,Y,Z⟩ s0 s) : KeptO ⟨false,B,C,D,E,F,G,H,I,J,false,L,M,N,O,P,false,R,S,T,U,V,X,Y,Z⟩ s0 (execPendingSet a1 a2 a3 s) := by
  unfold execPendingSet; with_reducible repeat' first | assumption | intros _ | apply KeptO.next | apply Kept.ite | apply State.countForeign_kept | apply State.forEach_kept | apply State.modEv_kept | apply State.occur_kept | apply State.reorder_kept | (refine Kept.upd ?_; first | assumption | apply State.countForeign_kept | apply State.forEach_kept | apply State.modEv_kept | apply State.occur_kept | apply State.reorder_kept) | split
theorem execPendingClear_kept {a1 : Fn} {a2 : Fin 48} {a3 : Nat} (h : Kept ⟨false,B,C,D,E,F,G,H,I,J,false,L,M,N,O,P,false,R,S,T,U,V,X,Y,Z⟩ s0 s) : KeptO ⟨false,B,C,D,E,F,G,H,I,J,false,L,M,N,O,P,false,R,S,T,U,V,X,Y,Z⟩ s0 (execPendingClear a1 a2 a3 s) := by
  unfold execPendingClear; with_reducible repeat' first | assumption | intros _ | apply KeptO.next | apply Kept.ite | apply State.countForeign_kept | apply State.reorder_kept | apply State.forEach_kept | apply State.modEv_kept | apply State.wbWatchNew_kept | (refine Kept.upd ?_; first | assumption | apply State.countForeign_kept | apply State.reorder_kept | apply State.forEach_kept | apply State.modEv_kept | apply State.wbWatchNew_kept) | split
theorem execEventEnableWrite_kept {a1 : Fn} {a2 : Fin 48} {a3 : Alias} {a4 : Nat} (h : Kept ⟨false,B,C,D,E,F,G,H,I,J,false,L,M,N,O,P,Q,R,S,T,U,V,X,Y,Z⟩ s0 s) : KeptO ⟨false,B,C,D,E,F,G,H,I,J,false,L,M,N,O,P,Q,R,S,T,U,V,X,Y,Z⟩ s0 (execEventEnableWrite a1 a2 a3 a4 s) := by
  unfold execEventEnableWrite; with_reducible repeat' first | assumption | intros _ | apply KeptO.next | apply Kept.ite | apply State.countForeign_kept | apply State.forEach_kept | apply State.modEv_kept | apply State.reorder_kept | apply State.fixParity_kept | (refine Kept.upd ?_; first | assumption | apply State.countForeign_kept | apply State.forEach_kept | apply State.modEv_kept | apply State.reorder_kept | apply State.fixParity_kept) | split
theorem execEoi_kept {a1 : Fn} {a2 : Fin 48} {a3 : Nat} (h : Kept ⟨false,B,C,D,E,F,G,H,I,J,false,L,M,N,O,P,false,R,S,T,U,V,X,Y,Z⟩ s0 s) : KeptO ⟨false,B,C,D,E,F,G,H,I,J,false,L,M,N,O,P,false,R,S,T,U,V,X,Y,Z⟩ s0 (execEoi a1 a2 a3 s) := by
  unfold execEoi; with_reducible repeat' first | assumption | intros _ | apply KeptO.next | apply Kept.ite | apply State.countForeign_kept | apply State.forEach_kept | apply State.modEv_kept | apply State.reorder_kept | apply State.wbWatchNew_kept | (refine Kept.upd ?_; first | assumption | apply State.countForeign_kept | apply State.forEach_kept | apply State.modEv_kept | apply State.reorder_kept | apply State.wbWatchNew_kept) | split
theorem execEvcSourceWrite_kept {a1 : Fn} {a2 : Fin 1536} {a3 : Nat} (h : Kept ⟨false,B,C,D,E,F,G,H,I,J,false,L,M,N,O,P,Q,R,S,T,U,V,X,Y,Z⟩ s0 s) : KeptO ⟨false,B,C,D,E,F,G,H,I,J,false,L,M,N,O,P,Q,R,S,T,U,V,X,Y,Z⟩ s0 (execEvcSourceWrite a1 a2 a3 s) := by
  unfold execEvcSourceWrite; with_reducible repeat' first | assumption | intros _ | apply KeptO.next | apply Kept.ite | apply State.privIgnore_kept | apply State.reorder_kept | apply State.fixParity_kept | apply State.setEv_kept | (refine Kept.upd ?_; first | assumption | apply State.privIgnore_kept | apply State.reorder_kept | apply State.fixParity_kept | apply State.setEv_kept) | split
theorem execGroupRelease_kept {a1 : Fin 64} (h : Kept ⟨A,B,C,D,E,F,G,H,I,J,false,L,M,N,O,P,Q,R,S,T,U,V,X,Y,Z⟩ s0 s) : KeptO ⟨A,B,C,D,E,F,G,H,I,J,false,L,M,N,O,P,Q,R,S,T,U,V,X,Y,Z⟩ s0 (execGroupRelease a1 s) := by
  unfold execGroupRelease; with_reducible repeat' first | assumption | apply KeptO.next | apply Kept.ite | apply State.reorder_kept | apply State.releaseGroup_kept
theorem execMessageIssue_kept (h : Kept ⟨A,B,C,D,false,F,G,H,I,J,false,L,M,N,O,P,Q,R,S,T,U,V,X,Y,Z⟩ s0 s) : KeptO ⟨A,B,C,D,false,F,G,H,I,J,false,L,M,N,O,P,Q,R,S,T,U,V,X,Y,Z⟩ s0 (execMessageIssue s) := by
  unfold execMessageIssue; with_reducible repeat' first | assumption | intros _ | apply KeptO.next | apply Kept.ite | apply State.reorder_kept | apply State.sendMessage_kept | apply State.claim_kept | (refine Kept.upd ?_; first | assumption | apply State.reorder_kept | apply State.sendMessage_kept | apply State.claim_kept) | split
theorem execCoreAccept_kept {a1 : Fin 2} (h : Kept ⟨A,B,C,D,E,F,G,H,I,J,false,L,M,N,O,P,Q,R,S,T,U,V,X,Y,Z⟩ s0 s) : KeptO ⟨A,B,C,D,E,F,G,H,I,J,false,L,M,N,O,P,Q,R,S,T,U,V,X,Y,Z⟩ s0 (execCoreAccept a1 s) := by
  unfold execCoreAccept; with_reducible repeat' first | assumption | intros _ | apply KeptO.next | apply Kept.ite | apply State.reorder_kept | apply State.forEach_kept | apply State.coreRecord_kept | apply State.claim_kept | (refine Kept.upd ?_; first | assumption | apply State.reorder_kept | apply State.forEach_kept | apply State.coreRecord_kept | apply State.claim_kept) | split
theorem State.noteMask_kept (h : Kept ⟨A,false,C,D,E,F,G,H,I,J,false,L,M,N,O,P,false,R,false,T,U,V,X,Y,Z⟩ s0 s) : Kept ⟨A,false,C,D,E,F,G,H,I,J,false,L,M,N,O,P,false,R,false,T,U,V,X,Y,Z⟩ s0 (State.noteMask s) := by
  unfold State.noteMask; with_reducible repeat' first | assumption | intros _ | apply Kept.ite | apply State.raise_kept | (refine Kept.upd ?_; first | assumption | apply State.raise_kept) | split
theorem State.noteReplacement_kept (h : Kept ⟨A,false,C,D,E,F,G,H,I,J,false,L,M,N,O,P,false,R,false,T,U,V,X,Y,Z⟩ s0 s) : Kept ⟨A,false,C,D,E,F,G,H,I,J,false,L,M,N,O,P,false,R,false,T,U,V,X,Y,Z⟩ s0 (State.noteReplacement s) := by
  unfold State.noteReplacement; with_reducible repeat' first | assumption | intros _ | apply Kept.ite | apply State.raise_kept | (refine Kept.upd ?_; first | assumption | apply State.raise_kept) | split
theorem State.noteConditions_kept (h : Kept ⟨false,false,C,D,E,F,G,H,I,J,false,L,M,N,O,P,false,R,false,T,U,V,X,Y,Z⟩ s0 s) : Kept ⟨false,false,C,D,E,F,G,H,I,J,false,L,M,N,O,P,false,R,false,T,U,V,X,Y,Z⟩ s0 (State.noteConditions s) := by
  unfold State.noteConditions; with_reducible repeat' first | assumption | intros _ | apply Kept.ite | apply State.raise_kept | apply State.noteReplacement_kept | (refine Kept.upd ?_; first | assumption | apply State.raise_kept | apply State.noteReplacement_kept) | split
theorem State.healthDue_kept (h : Kept ⟨A,B,false,D,E,F,G,H,I,J,K,L,M,N,O,P,Q,R,S,T,U,V,X,Y,Z⟩ s0 s) : Kept ⟨A,B,false,D,E,F,G,H,I,J,K,L,M,N,O,P,Q,R,S,T,U,V,X,Y,Z⟩ s0 (State.healthDue s) := by
  unfold State.healthDue; with_reducible repeat' first | assumption | intros _ | apply Kept.ite | (refine Kept.upd ?_; first | assumption) | split
theorem State.sendFlit_kept {a1 : Nat} {a2 : List Byte} (h : Kept ⟨A,B,C,D,E,F,G,H,I,J,K,L,M,N,O,P,Q,false,S,T,U,V,X,Y,Z⟩ s0 s) : Kept ⟨A,B,C,D,E,F,G,H,I,J,K,L,M,N,O,P,Q,false,S,T,U,V,X,Y,Z⟩ s0 (State.sendFlit s a1 a2) := by
  unfold State.sendFlit; with_reducible repeat' first | assumption | apply Kept.ite | apply State.setPort_kept
theorem State.sendNeighbour_kept {a1 : Nat} {a2 : Nat} {a3 : Nat} {a4 : List Byte} (h : Kept ⟨A,B,C,D,E,F,G,H,I,J,K,L,M,N,O,P,Q,false,S,T,U,V,X,Y,Z⟩ s0 s) : Kept ⟨A,B,C,D,E,F,G,H,I,J,K,L,M,N,O,P,Q,false,S,T,U,V,X,Y,Z⟩ s0 (State.sendNeighbour s a1 a2 a3 a4) := by
  unfold State.sendNeighbour; with_reducible repeat' first | assumption | apply Kept.ite | apply State.sendFlit_kept
theorem State.sendTo_kept {a1 : Nat} {a2 : Nat} {a3 : List Byte} (h : Kept ⟨A,B,C,D,E,F,G,H,I,J,K,L,M,N,O,P,Q,false,S,T,U,V,X,Y,Z⟩ s0 s) : Kept ⟨A,B,C,D,E,F,G,H,I,J,K,L,M,N,O,P,Q,false,S,T,U,V,X,Y,Z⟩ s0 (State.sendTo s a1 a2 a3) := by
  unfold State.sendTo; with_reducible repeat' first | assumption | intros _ | apply Kept.ite | apply State.sendFlit_kept | (refine Kept.upd ?_; first | assumption | apply State.sendFlit_kept) | split
theorem State.sendTree_kept {a1 : Nat} {a2 : Nat} {a3 : Nat} {a4 : List Byte} (h : Kept ⟨A,B,C,D,E,F,G,H,I,J,K,L,M,N,O,P,Q,false,S,T,U,V,X,Y,Z⟩ s0 s) : Kept ⟨A,B,C,D,E,F,G,H,I,J,K,L,M,N,O,P,Q,false,S,T,U,V,X,Y,Z⟩ s0 (State.sendTree s a1 a2 a3 a4) := by
  unfold State.sendTree; with_reducible repeat' first | assumption | intros _ | apply Kept.ite | apply State.forEach_kept | apply State.sendFlit_kept | (refine Kept.upd ?_; first | assumption | apply State.forEach_kept | apply State.sendFlit_kept) | split
theorem State.sendTreesAB_kept {a1 : Nat} {a2 : List Byte} (h : Kept ⟨A,B,C,D,E,F,G,H,I,J,K,L,M,N,O,P,Q,false,S,T,U,V,X,Y,Z⟩ s0 s) : Kept ⟨A,B,C,D,E,F,G,H,I,J,K,L,M,N,O,P,Q,false,S,T,U,V,X,Y,Z⟩ s0 (State.sendTreesAB s a1 a2) := by
  unfold State.sendTreesAB; with_reducible repeat' first | assumption | apply Kept.ite | apply State.sendTree_kept
theorem State.queueLevels_kept (h : Kept ⟨A,B,C,D,E,F,G,H,I,J,false,L,M,N,O,P,false,R,S,T,U,V,X,Y,Z⟩ s0 s) : Kept ⟨A,B,C,D,E,F,G,H,I,J,false,L,M,N,O,P,false,R,S,T,U,V,X,Y,Z⟩ s0 (State.queueLevels s) := by
  unfold State.queueLevels; with_reducible repeat' first | assumption | apply Kept.ite | apply State.level_kept
theorem State.haltRing_kept {a1 : Nat} {a2 : Nat} {a3 : Nat} (h : Kept ⟨A,B,C,D,E,F,G,false,I,J,false,L,M,N,O,P,false,R,S,T,U,V,X,Y,Z⟩ s0 s) : Kept ⟨A,B,C,D,E,F,G,false,I,J,false,L,M,N,O,P,false,R,S,T,U,V,X,Y,Z⟩ s0 (State.haltRing s a1 a2 a3) := by
  unfold State.haltRing; with_reducible repeat' first | assumption | apply Kept.ite | apply State.queueLevels_kept | apply State.modRing_kept
theorem State.settleRing_kept {a1 : Nat} (h : Kept ⟨A,B,C,D,E,F,G,false,I,J,false,L,M,N,O,P,false,R,S,T,U,V,X,Y,Z⟩ s0 s) : Kept ⟨A,B,C,D,E,F,G,false,I,J,false,L,M,N,O,P,false,R,S,T,U,V,X,Y,Z⟩ s0 (State.settleRing s a1) := by
  unfold State.settleRing; with_reducible repeat' first | assumption | apply Kept.ite | apply State.queueLevels_kept | apply State.modRing_kept
theorem State.finishAt_kept {a1 : Nat} {a2 : Nat} {a3 : Status} {a4 : Nat} (h : Kept ⟨A,B,C,D,E,F,G,false,I,J,K,L,M,N,O,P,Q,R,S,T,U,V,X,Y,Z⟩ s0 s) : Kept ⟨A,B,C,D,E,F,G,false,I,J,K,L,M,N,O,P,Q,R,S,T,U,V,X,Y,Z⟩ s0 (State.finishAt s a1 a2 a3 a4) := by
  unfold State.finishAt; with_reducible repeat' first | assumption | apply Kept.ite | apply State.modRing_kept
theorem State.finish_kept {a1 : Nat} {a2 : Status} {a3 : Nat} (h : Kept ⟨A,B,C,D,E,F,G,false,I,J,K,L,M,N,O,P,Q,R,S,T,U,V,X,Y,Z⟩ s0 s) : Kept ⟨A,B,C,D,E,F,G,false,I,J,K,L,M,N,O,P,Q,R,S,T,U,V,X,Y,Z⟩ s0 (State.finish s a1 a2 a3) := by
  unfold State.finish; with_reducible repeat' first | assumption | intros _ | apply Kept.ite | apply State.finishAt_kept | (refine Kept.upd ?_; first | assumption | apply State.finishAt_kept) | split
theorem State.writeHeader_kept {a1 : Nat} {a2 : Record} {a3 : Bool} (h : Kept ⟨A,B,C,false,false,F,false,H,I,J,K,L,M,N,O,P,Q,R,S,T,U,V,X,Y,Z⟩ s0 s) : Kept ⟨A,B,C,false,false,F,false,H,I,J,K,L,M,N,O,P,Q,R,S,T,U,V,X,Y,Z⟩ s0 (State.writeHeader s a1 a2 a3).1 := by
  unfold State.writeHeader; with_reducible repeat' first | assumption | intros _ | apply Kept.ite | apply State.countBounds_kept | apply State.busWrite_kept | (refine Kept.upd ?_; first | assumption | apply State.countBounds_kept | apply State.busWrite_kept) | split | apply Kept.foldl | apply Kept.foldl1 | apply Kept.pair1 ‹_› | dsimp only
theorem State.writeRecord_kept {a1 : Nat} {a2 : Record} {a3 : Bool} {a4 : Bool} (h : Kept ⟨A,B,C,false,false,F,false,false,I,J,K,L,M,N,O,P,Q,R,S,T,U,V,X,Y,Z⟩ s0 s) : Kept ⟨A,B,C,false,false,F,false,false,I,J,K,L,M,N,O,P,Q,R,S,T,U,V,X,Y,Z⟩ s0 (State.writeRecord s a1 a2 a3 a4).1 := by
  unfold State.writeRecord; with_reducible repeat' first | assumption | intros _ | apply Kept.ite | apply State.countBounds_kept | apply State.busWrite_kept | apply State.modRing_kept | (refine Kept.upd ?_; first | assumption | apply State.countBounds_kept | apply State.busWrite_kept | apply State.modRing_kept) | split | apply Kept.foldl | apply Kept.foldl1 | apply Kept.pair1 ‹_› | dsimp only
theorem State.retireRecord_kept {a1 : Nat} {a2 : Record} {a3 : Bool} {a4 : RetireWrites} (h : Kept ⟨A,false,C,false,false,F,false,false,I,false,false,L,M,N,O,P,false,R,S,T,U,V,X,Y,Z⟩ s0 s) : Kept ⟨A,false,C,false,false,F,false,false,I,false,false,L,M,N,O,P,false,R,S,T,U,V,X,Y,Z⟩ s0 (State.retireRecord s a1 a2 a3 a4).1 := by
  unfold State.retireRecord; with_reducible repeat' first | assumption | intros _ | apply Kept.ite | apply State.haltRing_kept | apply State.modRing_kept | apply State.writeHeader_kept | refine Kept.pair1 ‹_› (State.writeHeader_kept ?_) | apply State.writeRecord_kept | refine Kept.pair1 ‹_› (State.writeRecord_kept ?_) | apply State.raiseNum_kept | (refine Kept.upd ?_; first | assumption | apply State.haltRing_kept | apply State.modRing_kept | apply State.writeHeader_kept | refine Kept.pair1 ‹_› (State.writeHeader_kept ?_) | apply State.writeRecord_kept | refine Kept.pair1 ‹_› (State.writeRecord_kept ?_) | apply State.raiseNum_kept) | split | apply Kept.foldl | apply Kept.foldl1 | apply Kept.pair1 ‹_› | dsimp only
theorem execEntryRetire_kept {a1 : Fin 256} {a2 : RetireWrites} (h : Kept ⟨A,false,C,false,false,F,false,false,I,false,false,L,M,N,O,P,false,R,S,T,U,V,X,Y,Z⟩ s0 s) : KeptO ⟨A,false,C,false,false,F,false,false,I,false,false,L,M,N,O,P,false,R,S,T,U,V,X,Y,Z⟩ s0 (execEntryRetire a1 a2 s) := by
  unfold execEntryRetire; with_reducible repeat' first | assumption | intros _ | apply KeptO.next | apply Kept.ite | apply State.settleRing_kept | apply State.modRing_kept | apply State.retireRecord_kept | refine Kept.pair1 ‹_› (State.retireRecord_kept ?_) | (refine Kept.upd ?_; first | assumption | apply State.settleRing_kept | apply State.modRing_kept | apply State.retireRecord_kept | refine Kept.pair1 ‹_› (State.retireRecord_kept ?_)) | split
theorem State.drainSump_kept {a1 : Nat} {a2 : Nat} (h : Kept ⟨A,false,C,false,false,F,false,false,I,false,false,L,M,N,O,P,false,R,S,T,U,V,X,Y,Z⟩ s0 s) : Kept ⟨A,false,C,false,false,F,false,false,I,false,false,L,M,N,O,P,false,R,S,T,U,V,X,Y,Z⟩ s0 (State.drainSump s a1 a2) := by
  induction a2 generalizing s with
  | zero => exact h
  | succ n ih =>
    unfold State.drainSump
    dsimp only
    split
    · exact h
    · split
      · exact h
      · have k : ∀ u x b c, Kept ⟨A,false,C,false,false,F,false,false,I,false,false,L,M,N,O,P,false,R,S,T,U,V,X,Y,Z⟩ s0 u → Kept ⟨A,false,C,false,false,F,false,false,I,false,false,L,M,N,O,P,false,R,S,T,U,V,X,Y,Z⟩ s0 (u.retireRecord a1 x b c).1 := fun u x b c k => State.retireRecord_kept k
        split
        · exact ih (k _ _ _ _ (State.modRing_kept h))
        · exact k _ _ _ _ (State.modRing_kept h)
theorem execSumpDrain_kept {a1 : Fin 256} (h : Kept ⟨A,false,C,false,false,F,false,false,I,false,false,L,M,N,O,P,false,R,S,T,U,V,X,Y,Z⟩ s0 s) : KeptO ⟨A,false,C,false,false,F,false,false,I,false,false,L,M,N,O,P,false,R,S,T,U,V,X,Y,Z⟩ s0 (execSumpDrain a1 s) := by
  unfold execSumpDrain; with_reducible repeat' first | assumption | apply KeptO.next | apply Kept.ite | apply State.modRing_kept | apply State.drainSump_kept | apply State.settleRing_kept
theorem State.enableRing_kept {a1 : Nat} (h : Kept ⟨A,B,C,D,E,F,false,false,I,J,false,L,M,N,O,P,false,R,S,T,U,V,X,Y,Z⟩ s0 s) : Kept ⟨A,B,C,D,E,F,false,false,I,J,false,L,M,N,O,P,false,R,S,T,U,V,X,Y,Z⟩ s0 (State.enableRing s a1) := by
  unfold State.enableRing; with_reducible repeat' first | assumption | intros _ | apply Kept.ite | apply State.modRing_kept | apply State.queueLevels_kept | apply State.settleRing_kept | apply State.countBounds_kept | (refine Kept.upd ?_; first | assumption | apply State.modRing_kept | apply State.queueLevels_kept | apply State.settleRing_kept | apply State.countBounds_kept) | split
theorem execRingDisable_kept {a1 : Fn} {a2 : Fin 256} (h : Kept ⟨false,B,C,D,E,F,G,false,I,J,false,L,M,N,O,P,false,R,S,T,U,V,X,Y,Z⟩ s0 s) : KeptO ⟨false,B,C,D,E,F,G,false,I,J,false,L,M,N,O,P,false,R,S,T,U,V,X,Y,Z⟩ s0 (execRingDisable a1 a2 s) := by
  unfold execRingDisable; with_reducible repeat' first | assumption | apply KeptO.next | apply Kept.ite | apply State.privIgnore_kept | apply State.settleRing_kept | apply State.modRing_kept | apply State.fixParity_kept
theorem execRingStop_kept {a1 : Fn} {a2 : Fin 256} (h : Kept ⟨false,B,C,D,E,F,G,false,I,J,false,L,M,N,O,P,false,R,S,T,U,V,X,Y,Z⟩ s0 s) : KeptO ⟨false,B,C,D,E,F,G,false,I,J,false,L,M,N,O,P,false,R,S,T,U,V,X,Y,Z⟩ s0 (execRingStop a1 a2 s) := by
  unfold execRingStop; with_reducible repeat' first | assumption | apply KeptO.next | apply Kept.ite | apply State.privIgnore_kept | apply State.modRing_kept | apply State.fixParity_kept | apply State.settleRing_kept
theorem execRingResume_kept {a1 : Fn} {a2 : Fin 256} (h : Kept ⟨false,B,C,D,E,F,G,false,I,J,false,L,M,N,O,P,false,R,S,T,U,V,X,Y,Z⟩ s0 s) : KeptO ⟨false,B,C,D,E,F,G,false,I,J,false,L,M,N,O,P,false,R,S,T,U,V,X,Y,Z⟩ s0 (execRingResume a1 a2 s) := by
  unfold execRingResume; with_reducible repeat' first | assumption | apply KeptO.next | apply Kept.ite | apply State.privIgnore_kept | apply State.modRing_kept | apply State.fixParity_kept | apply State.settleRing_kept
theorem State.restartRing_kept {a1 : Nat} (h : Kept ⟨A,false,C,false,false,F,false,false,I,false,false,L,M,N,O,P,false,R,S,T,U,V,X,Y,Z⟩ s0 s) : Kept ⟨A,false,C,false,false,F,false,false,I,false,false,L,M,N,O,P,false,R,S,T,U,V,X,Y,Z⟩ s0 (State.restartRing s a1) := by
  unfold State.restartRing; with_reducible repeat' first | assumption | apply Kept.ite | apply State.modRing_kept | apply State.drainSump_kept | apply State.settleRing_kept
theorem execDoorbell_kept {a1 : Fn} {a2 : Fin 256} {a3 : Nat} {a4 : Nat} {a5 : List Byte} (h : Kept ⟨A,B,C,D,E,F,G,false,I,J,K,L,M,N,O,P,Q,R,S,T,U,V,X,Y,Z⟩ s0 s) : KeptO ⟨A,B,C,D,E,F,G,false,I,J,K,L,M,N,O,P,Q,R,S,T,U,V,X,Y,Z⟩ s0 (execDoorbell a1 a2 a3 a4 a5 s) := by
  unfold execDoorbell; with_reducible repeat' first | assumption | apply KeptO.next | apply Kept.ite | apply State.modRing_kept
theorem execCqconsWrite_kept {a1 : Fn} {a2 : Fin 256} {a3 : Nat} {a4 : Bool} (h : Kept ⟨A,B,C,D,E,F,G,false,I,J,K,L,M,N,O,P,Q,R,S,T,U,V,X,Y,Z⟩ s0 s) : KeptO ⟨A,B,C,D,E,F,G,false,I,J,K,L,M,N,O,P,Q,R,S,T,U,V,X,Y,Z⟩ s0 (execCqconsWrite a1 a2 a3 a4 s) := by
  unfold execCqconsWrite; with_reducible repeat' first | assumption | apply KeptO.next | apply Kept.ite | apply State.modRing_kept
theorem execPad_kept {a1 : Fin 256} (h : Kept ⟨A,B,C,D,E,F,G,false,I,J,K,L,M,N,O,P,Q,R,S,T,U,V,X,Y,Z⟩ s0 s) : KeptO ⟨A,B,C,D,E,F,G,false,I,J,K,L,M,N,O,P,Q,R,S,T,U,V,X,Y,Z⟩ s0 (execPad a1 s) := by
  unfold execPad; with_reducible repeat' first | assumption | intros _ | apply KeptO.next | apply Kept.ite | apply State.finishAt_kept | (refine Kept.upd ?_; first | assumption | apply State.finishAt_kept) | split
theorem execNop_kept {a1 : Fin 256} (h : Kept ⟨A,B,C,D,E,F,G,false,I,J,K,L,M,N,O,P,Q,R,S,T,U,V,X,Y,Z⟩ s0 s) : KeptO ⟨A,B,C,D,E,F,G,false,I,J,K,L,M,N,O,P,Q,R,S,T,U,V,X,Y,Z⟩ s0 (execNop a1 s) := by
  unfold execNop; with_reducible repeat' first | assumption | intros _ | apply KeptO.next | apply Kept.ite | apply State.finishAt_kept | (refine Kept.upd ?_; first | assumption | apply State.finishAt_kept) | split
theorem State.serveScene_kept {a1 : Nat} {a2 : Nat} {a3 : Exec → Option Status} {f4 : State → Exec → State} (h : Kept ⟨A,B,C,D,E,F,G,false,I,J,K,L,M,N,O,P,Q,R,S,T,U,V,X,Y,Z⟩ s0 s) (hf4 : ∀ t x1, Kept ⟨A,B,C,D,E,F,G,false,I,J,K,L,M,N,O,P,Q,R,S,T,U,V,X,Y,Z⟩ s0 t → Kept ⟨A,B,C,D,E,F,G,false,I,J,K,L,M,N,O,P,Q,R,S,T,U,V,X,Y,Z⟩ s0 (f4 t x1)) : Kept ⟨A,B,C,D,E,F,G,false,I,J,K,L,M,N,O,P,Q,R,S,T,U,V,X,Y,Z⟩ s0 (State.serveScene s a1 a2 a3 f4) := by
  unfold State.serveScene; with_reducible repeat' first | assumption | intros _ | apply Kept.ite | apply State.finishAt_kept | apply hf4 | (refine Kept.upd ?_; first | assumption | apply State.finishAt_kept | apply hf4) | split
theorem State.keepRunning_kept {a1 : Nat} {a2 : Nat} {a3 : List Nat} (h : Kept ⟨A,B,C,D,E,F,G,false,I,J,K,L,M,N,O,P,Q,R,S,T,U,V,X,Y,Z⟩ s0 s) : Kept ⟨A,B,C,D,E,F,G,false,I,J,K,L,M,N,O,P,Q,R,S,T,U,V,X,Y,Z⟩ s0 (State.keepRunning s a1 a2 a3) := by
  unfold State.keepRunning; with_reducible repeat' first | assumption | apply Kept.ite | apply State.modRing_kept
theorem State.updateReported_kept {a1 : Nat} (h : Kept ⟨A,false,C,D,E,F,G,H,I,J,false,false,M,N,O,P,false,R,S,T,U,V,X,Y,Z⟩ s0 s) : Kept ⟨A,false,C,D,E,F,G,H,I,J,false,false,M,N,O,P,false,R,S,T,U,V,X,Y,Z⟩ s0 (State.updateReported s a1) := by
  unfold State.updateReported; with_reducible repeat' first | assumption | intros _ | apply Kept.ite | apply State.setSource_kept | apply State.freshEvent_kept | (refine Kept.upd ?_; first | assumption | apply State.setSource_kept | apply State.freshEvent_kept) | split | apply Kept.foldl | apply Kept.foldl1 | apply Kept.pair1 ‹_› | dsimp only
theorem State.cancelBuffer_kept {a1 : Nat} {a2 : Nat} (h : Kept ⟨A,false,C,D,E,F,G,H,I,J,false,false,M,N,O,P,false,R,S,T,U,V,X,Y,Z⟩ s0 s) : Kept ⟨A,false,C,D,E,F,G,H,I,J,false,false,M,N,O,P,false,R,S,T,U,V,X,Y,Z⟩ s0 (State.cancelBuffer s a1 a2) := by
  unfold State.cancelBuffer; with_reducible repeat' first | assumption | apply Kept.ite | apply State.updateReported_kept | apply State.modSource_kept
theorem State.countUncorrectable_kept {a1 : Nat} (h : Kept ⟨A,false,C,D,E,F,false,H,I,J,false,L,M,N,O,P,false,R,S,T,U,V,X,Y,Z⟩ s0 s) : Kept ⟨A,false,C,D,E,F,false,H,I,J,false,L,M,N,O,P,false,R,S,T,U,V,X,Y,Z⟩ s0 (State.countUncorrectable s a1) := by
  unfold State.countUncorrectable; with_reducible repeat' first | assumption | intros _ | apply Kept.ite | apply State.raise_kept | (refine Kept.upd ?_; first | assumption | apply State.raise_kept) | split
theorem State.countRepeated_kept {a1 : Nat} (h : Kept ⟨A,false,C,D,E,F,false,H,I,J,false,L,M,N,O,P,false,R,S,T,U,V,X,Y,Z⟩ s0 s) : Kept ⟨A,false,C,D,E,F,false,H,I,J,false,L,M,N,O,P,false,R,S,T,U,V,X,Y,Z⟩ s0 (State.countRepeated s a1) := by
  unfold State.countRepeated; with_reducible repeat' first | assumption | apply Kept.ite | apply State.countUncorrectable_kept
theorem State.sendData_kept {a1 : Nat} {a2 : Nat} {a3 : List Byte} {a4 : Nat} (h : Kept ⟨A,B,C,D,E,F,G,H,I,J,K,L,M,N,O,P,Q,false,S,T,U,V,X,Y,Z⟩ s0 s) : Kept ⟨A,B,C,D,E,F,G,H,I,J,K,L,M,N,O,P,Q,false,S,T,U,V,X,Y,Z⟩ s0 (State.sendData s a1 a2 a3 a4) := by
  induction a4 generalizing s a3 with
  | zero => exact h
  | succ n ih =>
    unfold State.sendData
    split
    · exact h
    · exact ih (State.sendTree_kept h)
theorem State.startFrame_kept {a1 : Nat} {a2 : Nat} {a3 : List Byte} (h : Kept ⟨A,false,C,D,E,F,false,H,I,J,false,false,M,N,O,P,false,false,S,T,U,V,X,Y,Z⟩ s0 s) : Kept ⟨A,false,C,D,E,F,false,H,I,J,false,false,M,N,O,P,false,false,S,T,U,V,X,Y,Z⟩ s0 (State.startFrame s a1 a2 a3) := by
  unfold State.startFrame; with_reducible repeat' first | assumption | intros _ | apply Kept.ite | apply State.countBounds_kept | apply State.cancelBuffer_kept | apply State.countRepeated_kept | apply State.sendTree_kept | apply State.sendData_kept | (refine Kept.upd ?_; first | assumption | apply State.countBounds_kept | apply State.cancelBuffer_kept | apply State.countRepeated_kept | apply State.sendTree_kept | apply State.sendData_kept) | split
theorem State.egress_kept {a1 : Nat} {a2 : Nat} {a3 : List Byte} (h : Kept ⟨A,false,C,D,E,F,false,H,I,J,false,false,M,N,O,P,false,false,S,T,U,V,X,Y,Z⟩ s0 s) : Kept ⟨A,false,C,D,E,F,false,H,I,J,false,false,M,N,O,P,false,false,S,T,U,V,X,Y,Z⟩ s0 (State.egress s a1 a2 a3) := by
  unfold State.egress; with_reducible repeat' first | assumption | intros _ | apply Kept.ite | apply State.startFrame_kept | (refine Kept.upd ?_; first | assumption | apply State.startFrame_kept) | split
theorem State.rejectPub_kept {a1 : Nat} {a2 : Status} (h : Kept ⟨A,false,C,D,E,F,G,H,I,J,false,false,M,N,O,P,false,R,S,T,U,V,X,Y,Z⟩ s0 s) : Kept ⟨A,false,C,D,E,F,G,H,I,J,false,false,M,N,O,P,false,R,S,T,U,V,X,Y,Z⟩ s0 (State.rejectPub s a1 a2) := by
  unfold State.rejectPub; with_reducible repeat' first | assumption | apply Kept.ite | apply State.freshEvent_kept | apply State.modSource_kept
theorem State.answerPub_kept {a1 : Pub} {a2 : Status} (h : Kept ⟨A,B,C,D,E,F,G,false,I,J,K,L,M,N,O,P,Q,R,S,T,U,V,X,Y,Z⟩ s0 s) : Kept ⟨A,B,C,D,E,F,G,false,I,J,K,L,M,N,O,P,Q,R,S,T,U,V,X,Y,Z⟩ s0 (State.answerPub s a1 a2) := by
  unfold State.answerPub; with_reducible repeat' first | assumption | intros _ | apply Kept.ite | apply State.finishAt_kept | (refine Kept.upd ?_; first | assumption | apply State.finishAt_kept) | split
theorem State.admitPub_kept {a1 : Pub} (h : Kept ⟨A,false,C,D,E,F,false,false,I,J,false,false,M,N,O,P,false,false,S,T,U,V,X,Y,Z⟩ s0 s) : Kept ⟨A,false,C,D,E,F,false,false,I,J,false,false,M,N,O,P,false,false,S,T,U,V,X,Y,Z⟩ s0 (State.admitPub s a1) := by
  unfold State.admitPub; with_reducible repeat' first | assumption | intros _ | apply Kept.ite | apply State.answerPub_kept | apply State.rejectPub_kept | apply State.freshEvent_kept | apply State.setSource_kept | apply State.cancelBuffer_kept | apply State.updateReported_kept | apply State.egress_kept | (refine Kept.upd ?_; first | assumption | apply State.answerPub_kept | apply State.rejectPub_kept | apply State.freshEvent_kept | apply State.setSource_kept | apply State.cancelBuffer_kept | apply State.updateReported_kept | apply State.egress_kept) | split | apply Kept.foldl | apply Kept.foldl1 | apply Kept.pair1 ‹_› | dsimp only
theorem execAdmission_kept (h : Kept ⟨A,false,C,D,E,F,false,false,I,J,false,false,M,N,O,P,false,false,S,T,U,V,X,Y,Z⟩ s0 s) : KeptO ⟨A,false,C,D,E,F,false,false,I,J,false,false,M,N,O,P,false,false,S,T,U,V,X,Y,Z⟩ s0 (execAdmission s) := by
  unfold execAdmission; with_reducible repeat' first | assumption | intros _ | apply KeptO.next | apply Kept.ite | apply State.admitPub_kept | (refine Kept.upd ?_; first | assumption | apply State.admitPub_kept) | split
theorem execSourceStateCheck_kept (h : Kept ⟨A,false,C,D,E,F,G,H,I,J,false,false,M,N,O,P,false,R,S,T,U,V,X,Y,Z⟩ s0 s) : KeptO ⟨A,false,C,D,E,F,G,H,I,J,false,false,M,N,O,P,false,R,S,T,U,V,X,Y,Z⟩ s0 (execSourceStateCheck s) := by
  unfold execSourceStateCheck; with_reducible repeat' first | assumption | apply KeptO.next | apply Kept.ite | apply State.forEach_kept | apply State.updateReported_kept
theorem State.install_kept {a1 : List Byte} (h : Kept ⟨A,false,C,D,E,F,G,H,I,J,false,false,M,N,false,P,false,R,S,T,U,V,X,Y,Z⟩ s0 s) : Kept ⟨A,false,C,D,E,F,G,H,I,J,false,false,M,N,false,P,false,R,S,T,U,V,X,Y,Z⟩ s0 (State.install s a1) := by
  unfold State.install; with_reducible repeat' first | assumption | intros _ | apply Kept.ite | apply State.updateReported_kept | apply State.setSource_kept | (refine Kept.upd ?_; first | assumption | apply State.updateReported_kept | apply State.setSource_kept) | split | apply Kept.foldl | apply Kept.foldl1 | apply Kept.pair1 ‹_› | dsimp only
theorem State.distribute_kept {a1 : List Byte} (h : Kept ⟨A,B,C,D,E,F,G,H,I,J,K,L,M,N,O,P,Q,false,S,T,U,V,X,Y,Z⟩ s0 s) : Kept ⟨A,B,C,D,E,F,G,H,I,J,K,L,M,N,O,P,Q,false,S,T,U,V,X,Y,Z⟩ s0 (State.distribute s a1) := by
  unfold State.distribute; with_reducible repeat' first | assumption | intros _ | apply Kept.ite | apply State.forEach_kept | apply State.sendTo_kept | (refine Kept.upd ?_; first | assumption | apply State.forEach_kept | apply State.sendTo_kept) | split
theorem execRegisterSource_kept {a1 : Fin 256} (h : Kept ⟨A,false,C,D,E,F,false,false,I,J,false,false,M,N,false,P,false,false,S,T,U,V,X,Y,Z⟩ s0 s) : KeptO ⟨A,false,C,D,E,F,false,false,I,J,false,false,M,N,false,P,false,false,S,T,U,V,X,Y,Z⟩ s0 (execRegisterSource a1 s) := by
  unfold execRegisterSource; with_reducible repeat' first | assumption | intros _ | apply KeptO.next | apply Kept.ite | apply State.serveScene_kept | apply State.finishAt_kept | apply State.countBounds_kept | apply State.distribute_kept | apply State.install_kept | apply State.keepRunning_kept | apply State.sendTo_kept | (refine Kept.upd ?_; first | assumption | apply State.serveScene_kept | apply State.finishAt_kept | apply State.countBounds_kept | apply State.distribute_kept | apply State.install_kept | apply State.keepRunning_kept | apply State.sendTo_kept) | split | apply Kept.foldl | apply Kept.foldl1 | apply Kept.pair1 ‹_› | dsimp only
theorem State.discardFrame_kept (h : Kept ⟨A,false,C,D,E,F,G,H,I,J,false,L,M,N,O,P,false,false,S,T,U,V,X,Y,Z⟩ s0 s) : Kept ⟨A,false,C,D,E,F,G,H,I,J,false,L,M,N,O,P,false,false,S,T,U,V,X,Y,Z⟩ s0 (State.discardFrame s) := by
  unfold State.discardFrame; with_reducible repeat' first | assumption | intros _ | apply Kept.ite | apply State.raise_kept | (refine Kept.upd ?_; first | assumption | apply State.raise_kept) | split
theorem State.withdrawHere_kept {a1 : Nat} (h : Kept ⟨A,false,C,D,E,F,G,false,I,J,false,false,M,N,O,P,false,false,S,T,U,V,X,Y,Z⟩ s0 s) : Kept ⟨A,false,C,D,E,F,G,false,I,J,false,false,M,N,O,P,false,false,S,T,U,V,X,Y,Z⟩ s0 (State.withdrawHere s a1) := by
  unfold State.withdrawHere; with_reducible repeat' first | assumption | intros _ | apply Kept.ite | apply State.updateReported_kept | apply State.modSource_kept | apply State.discardFrame_kept | (refine Kept.upd ?_; first | assumption | apply State.updateReported_kept | apply State.modSource_kept | apply State.discardFrame_kept) | split | apply Kept.foldl | apply Kept.foldl1 | apply Kept.pair1 ‹_› | dsimp only
theorem execWithdrawSource_kept {a1 : Fin 256} (h : Kept ⟨A,false,C,D,E,F,G,false,I,J,false,false,M,N,O,P,false,false,S,T,U,V,X,Y,Z⟩ s0 s) : KeptO ⟨A,false,C,D,E,F,G,false,I,J,false,false,M,N,O,P,false,false,S,T,U,V,X,Y,Z⟩ s0 (execWithdrawSource a1 s) := by
  unfold execWithdrawSource; with_reducible repeat' first | assumption | intros _ | apply KeptO.next | apply Kept.ite | apply State.serveScene_kept | apply State.finishAt_kept | apply State.distribute_kept | apply State.withdrawHere_kept | apply State.keepRunning_kept | apply State.sendTo_kept | (refine Kept.upd ?_; first | assumption | apply State.serveScene_kept | apply State.finishAt_kept | apply State.distribute_kept | apply State.withdrawHere_kept | apply State.keepRunning_kept | apply State.sendTo_kept) | split | apply Kept.foldl | apply Kept.foldl1 | apply Kept.pair1 ‹_› | dsimp only
theorem execWithdrawalComplete_kept {a1 : Fin 256} (h : Kept ⟨A,B,C,D,E,F,G,false,I,J,K,L,M,N,O,P,Q,R,S,T,U,V,X,Y,Z⟩ s0 s) : KeptO ⟨A,B,C,D,E,F,G,false,I,J,K,L,M,N,O,P,Q,R,S,T,U,V,X,Y,Z⟩ s0 (execWithdrawalComplete a1 s) := by
  unfold execWithdrawalComplete; with_reducible repeat' first | assumption | intros _ | apply KeptO.next | apply Kept.ite | apply State.finishAt_kept | (refine Kept.upd ?_; first | assumption | apply State.finishAt_kept) | split
theorem execPublish_kept {a1 : Fin 256} (h : Kept ⟨A,B,C,D,E,F,G,false,I,J,K,false,M,N,O,P,Q,R,S,T,U,V,X,Y,Z⟩ s0 s) : KeptO ⟨A,B,C,D,E,F,G,false,I,J,K,false,M,N,O,P,Q,R,S,T,U,V,X,Y,Z⟩ s0 (execPublish a1 s) := by
  unfold execPublish; with_reducible repeat' first | assumption | intros _ | apply KeptO.next | apply Kept.ite | apply State.finishAt_kept | apply State.keepRunning_kept | (refine Kept.upd ?_; first | assumption | apply State.finishAt_kept | apply State.keepRunning_kept) | split
theorem execQuerySource_kept {a1 : Fin 256} (h : Kept ⟨A,B,C,false,false,F,false,false,I,J,K,L,M,N,O,P,Q,R,S,T,U,V,X,Y,Z⟩ s0 s) : KeptO ⟨A,B,C,false,false,F,false,false,I,J,K,L,M,N,O,P,Q,R,S,T,U,V,X,Y,Z⟩ s0 (execQuerySource a1 s) := by
  unfold execQuerySource; with_reducible repeat' first | assumption | intros _ | apply KeptO.next | apply Kept.ite | apply State.serveScene_kept | apply State.finishAt_kept | apply State.countBounds_kept | apply State.busWrite_kept | (refine Kept.upd ?_; first | assumption | apply State.serveScene_kept | apply State.finishAt_kept | apply State.countBounds_kept | apply State.busWrite_kept) | split
theorem State.cancelUnusable_kept (h : Kept ⟨A,false,C,D,E,F,G,H,I,J,false,false,M,N,O,P,false,R,S,T,U,V,X,Y,Z⟩ s0 s) : Kept ⟨A,false,C,D,E,F,G,H,I,J,false,false,M,N,O,P,false,R,S,T,U,V,X,Y,Z⟩ s0 (State.cancelUnusable s) := by
  unfold State.cancelUnusable; with_reducible repeat' first | assumption | intros _ | apply Kept.ite | apply State.forEach_kept | apply State.cancelBuffer_kept | (refine Kept.upd ?_; first | assumption | apply State.forEach_kept | apply State.cancelBuffer_kept) | split
theorem State.loseGranule_kept {a1 : Nat} (h : Kept ⟨false,false,false,D,E,F,G,H,I,J,false,false,M,N,O,P,false,R,false,T,U,V,X,Y,Z⟩ s0 s) : Kept ⟨false,false,false,D,E,F,G,H,I,J,false,false,M,N,O,P,false,R,false,T,U,V,X,Y,Z⟩ s0 (State.loseGranule s a1) := by
  unfold State.loseGranule; with_reducible repeat' first | assumption | intros _ | apply Kept.ite | apply State.raise_kept | apply State.healthDue_kept | apply State.noteConditions_kept | apply State.cancelUnusable_kept | (refine Kept.upd ?_; first | assumption | apply State.raise_kept | apply State.healthDue_kept | apply State.noteConditions_kept | apply State.cancelUnusable_kept) | split
theorem State.sparesLevel_kept (h : Kept ⟨A,B,C,D,E,F,G,H,I,J,false,L,M,N,O,P,false,R,S,T,U,V,X,Y,Z⟩ s0 s) : Kept ⟨A,B,C,D,E,F,G,H,I,J,false,L,M,N,O,P,false,R,S,T,U,V,X,Y,Z⟩ s0 (State.sparesLevel s) := by
  unfold State.sparesLevel; with_reducible repeat' first | assumption | apply Kept.ite | apply State.level_kept
theorem State.retireGranule_kept {a1 : Nat} (h : Kept ⟨false,false,false,D,E,F,false,H,I,J,false,false,M,N,O,P,false,R,false,T,U,V,X,Y,Z⟩ s0 s) : Kept ⟨false,false,false,D,E,F,false,H,I,J,false,false,M,N,O,P,false,R,false,T,U,V,X,Y,Z⟩ s0 (State.retireGranule s a1) := by
  unfold State.retireGranule; with_reducible repeat' first | assumption | intros _ | apply Kept.ite | apply State.noteReplacement_kept | apply State.sparesLevel_kept | apply State.loseGranule_kept | (refine Kept.upd ?_; first | assumption | apply State.noteReplacement_kept | apply State.sparesLevel_kept | apply State.loseGranule_kept) | split
theorem State.meetError_kept {a1 : Nat} {a2 : Bool} (h : Kept ⟨false,false,false,D,E,F,false,H,I,J,false,false,M,N,O,P,false,R,false,T,U,V,X,Y,Z⟩ s0 s) : Kept ⟨false,false,false,D,E,F,false,H,I,J,false,false,M,N,O,P,false,R,false,T,U,V,X,Y,Z⟩ s0 (State.meetError s a1 a2) := by
  unfold State.meetError; with_reducible repeat' first | assumption | intros _ | apply Kept.ite | apply State.countUncorrectable_kept | apply State.retireGranule_kept | (refine Kept.upd ?_; first | assumption | apply State.countUncorrectable_kept | apply State.retireGranule_kept) | split
theorem State.fetchObject_kept {a1 : Nat} {a2 : Nat} (h : Kept ⟨A,false,C,D,E,F,false,H,I,J,false,L,M,N,O,P,false,R,S,T,U,V,X,Y,Z⟩ s0 s) : Kept ⟨A,false,C,D,E,F,false,H,I,J,false,L,M,N,O,P,false,R,S,T,U,V,X,Y,Z⟩ s0 (State.fetchObject s a1 a2).1 := by
  unfold State.fetchObject; with_reducible repeat' first | assumption | intros _ | apply Kept.ite | apply State.countUncorrectable_kept | (refine Kept.upd ?_; first | assumption | apply State.countUncorrectable_kept) | split

end Sys2Proof.Machine
end

