-- ==== Sys2Proof/Laws/KeptHeads.lean ====
section
/-!
SUPPORT. What the functions of the model keep (see Kept): commits, galleries, Lantern, Lamp and heads. A lemma of a function names by false the parts it may write.
-/

set_option linter.all false
set_option Elab.async false

namespace Sys2Proof.Machine

variable {A B C D E F G H I J K L M N O P Q R S T U V X Y Z : Bool} {s0 s : State}

theorem State.freeReplicas_kept (h : Kept ⟨A,B,C,D,E,F,G,H,I,J,K,L,M,N,O,P,Q,false,S,T,U,V,X,Y,Z⟩ s0 s) : Kept ⟨A,B,C,D,E,F,G,H,I,J,K,L,M,N,O,P,Q,false,S,T,U,V,X,Y,Z⟩ s0 (State.freeReplicas s) := by
  unfold State.freeReplicas; with_reducible repeat' first | assumption | intros _ | apply Kept.ite | (refine Kept.upd ?_; first | assumption) | split
theorem State.subscribeScene_kept {a1 : Scene} (h : Kept ⟨A,B,C,D,E,F,G,H,I,J,K,false,M,N,O,P,Q,false,S,T,U,V,X,Y,Z⟩ s0 s) : Kept ⟨A,B,C,D,E,F,G,H,I,J,K,false,M,N,O,P,Q,false,S,T,U,V,X,Y,Z⟩ s0 (State.subscribeScene s a1) := by
  unfold State.subscribeScene
  refine State.forEach_kept (State.freeReplicas_kept h) ?_
  intro t a ht
  split
  · exact ht
  · split
    next e _ =>
      unfold State.reserve at e
      split at e
      · cases e
      · simp only [Option.map_eq_some_iff] at e
        obtain ⟨b, -, rfl⟩ := e
        exact State.sendTo_kept (Kept.upd (State.setSource_kept ht))
    · exact ht
theorem State.unsubscribeUnused_kept (h : Kept ⟨A,B,C,D,E,F,G,H,I,J,K,L,M,N,O,P,Q,false,S,T,U,V,X,Y,Z⟩ s0 s) : Kept ⟨A,B,C,D,E,F,G,H,I,J,K,L,M,N,O,P,Q,false,S,T,U,V,X,Y,Z⟩ s0 (State.unsubscribeUnused s) := by
  unfold State.unsubscribeUnused; with_reducible repeat' first | assumption | intros _ | apply Kept.ite | apply State.freeReplicas_kept | apply State.forEach_kept | apply State.sendTo_kept | (refine Kept.upd ?_; first | assumption | apply State.freeReplicas_kept | apply State.forEach_kept | apply State.sendTo_kept) | split
theorem State.writeDetail_kept {a1 : Nat} {a2 : Exec} {a3 : Detail} (h : Kept ⟨A,B,C,false,false,F,false,H,I,J,K,L,M,N,O,P,Q,R,S,T,U,V,X,Y,Z⟩ s0 s) : Kept ⟨A,B,C,false,false,F,false,H,I,J,K,L,M,N,O,P,Q,R,S,T,U,V,X,Y,Z⟩ s0 (State.writeDetail s a1 a2 a3) := by
  unfold State.writeDetail; with_reducible repeat' first | assumption | apply Kept.ite | apply State.busWrite_kept
theorem State.readScene_kept {a1 : Nat} {a2 : Exec} (h : Kept ⟨A,false,C,D,E,F,false,H,I,J,false,L,M,N,O,P,false,R,S,T,U,V,X,Y,Z⟩ s0 s) : Kept ⟨A,false,C,D,E,F,false,H,I,J,false,L,M,N,O,P,false,R,S,T,U,V,X,Y,Z⟩ s0 (State.readScene s a1 a2).1 := by
  unfold State.readScene; with_reducible repeat' first | assumption | intros _ | apply Kept.ite | apply State.countBounds_kept | apply State.fetchObject_kept | refine Kept.pair1 ‹_› (State.fetchObject_kept ?_) | (refine Kept.upd ?_; first | assumption | apply State.countBounds_kept | apply State.fetchObject_kept | refine Kept.pair1 ‹_› (State.fetchObject_kept ?_)) | split | apply Kept.foldl | apply Kept.foldl1 | apply Kept.pair1 ‹_› | dsimp only
theorem State.noteCheck_kept {a1 : Detail} {a2 : Nat} (h : Kept ⟨A,B,C,D,E,F,G,H,I,J,K,L,false,N,O,P,Q,R,S,T,U,V,X,Y,Z⟩ s0 s) : Kept ⟨A,B,C,D,E,F,G,H,I,J,K,L,false,N,O,P,Q,R,S,T,U,V,X,Y,Z⟩ s0 (State.noteCheck s a1 a2) := by
  unfold State.noteCheck; with_reducible repeat' first | assumption | intros _ | apply Kept.ite | (refine Kept.upd ?_; first | assumption) | split
theorem State.supersede_kept {a1 : Nat} (h : Kept ⟨A,false,C,D,E,F,G,H,I,J,false,L,M,N,false,P,false,R,S,T,U,V,X,Y,Z⟩ s0 s) : Kept ⟨A,false,C,D,E,F,G,H,I,J,false,L,M,N,false,P,false,R,S,T,U,V,X,Y,Z⟩ s0 (State.supersede s a1) := by
  unfold State.supersede; with_reducible repeat' first | assumption | apply Kept.ite | apply State.raiseHead_kept | apply State.modHead_kept
theorem State.acceptHead_kept {a1 : Scene} {a2 : Nat} (h : Kept ⟨A,false,C,D,E,F,G,H,I,J,false,L,M,N,false,P,false,R,S,T,U,V,X,Y,Z⟩ s0 s) : Kept ⟨A,false,C,D,E,F,G,H,I,J,false,L,M,N,false,P,false,R,S,T,U,V,X,Y,Z⟩ s0 (State.acceptHead s a1 a2) := by
  unfold State.acceptHead; with_reducible repeat' first | assumption | apply Kept.ite | apply State.supersede_kept | apply State.setHead_kept | apply State.raiseHead_kept
theorem State.countAccepted_kept {a1 : Nat} (h : Kept ⟨A,B,C,D,E,F,G,H,I,J,K,L,false,N,O,P,Q,R,S,T,U,V,X,Y,Z⟩ s0 s) : Kept ⟨A,B,C,D,E,F,G,H,I,J,K,L,false,N,O,P,Q,R,S,T,U,V,X,Y,Z⟩ s0 (State.countAccepted s a1) := by
  unfold State.countAccepted; with_reducible repeat' first | assumption | intros _ | apply Kept.ite | (refine Kept.upd ?_; first | assumption) | split
theorem State.countRejected_kept (h : Kept ⟨A,B,C,D,E,F,G,H,I,J,K,L,false,N,O,P,Q,R,S,T,U,V,X,Y,Z⟩ s0 s) : Kept ⟨A,B,C,D,E,F,G,H,I,J,K,L,false,N,O,P,Q,R,S,T,U,V,X,Y,Z⟩ s0 (State.countRejected s) := by
  unfold State.countRejected; with_reducible repeat' first | assumption | intros _ | apply Kept.ite | (refine Kept.upd ?_; first | assumption) | split
theorem State.acceptScene_kept {a1 : Scene} (h : Kept ⟨A,false,C,D,E,F,G,H,I,J,false,false,false,N,false,P,false,false,S,T,U,V,X,Y,Z⟩ s0 s) : Kept ⟨A,false,C,D,E,F,G,H,I,J,false,false,false,N,false,P,false,false,S,T,U,V,X,Y,Z⟩ s0 (State.acceptScene s a1) := by
  unfold State.acceptScene; with_reducible repeat' first | assumption | intros _ | apply Kept.ite | apply State.subscribeScene_kept | apply State.countAccepted_kept | apply State.forEach_kept | apply State.acceptHead_kept | (refine Kept.upd ?_; first | assumption | apply State.subscribeScene_kept | apply State.countAccepted_kept | apply State.forEach_kept | apply State.acceptHead_kept) | split
theorem State.serveCheck_kept {a1 : Nat} {a2 : Nat} {f3 : State → Exec → Except Detail Scene → State} (h : Kept ⟨A,false,C,D,E,F,false,false,I,J,false,L,M,N,O,P,false,R,S,T,U,V,X,Y,Z⟩ s0 s) (hf3 : ∀ t x1 x2, Kept ⟨A,false,C,D,E,F,false,false,I,J,false,L,M,N,O,P,false,R,S,T,U,V,X,Y,Z⟩ s0 t → Kept ⟨A,false,C,D,E,F,false,false,I,J,false,L,M,N,O,P,false,R,S,T,U,V,X,Y,Z⟩ s0 (f3 t x1 x2)) : Kept ⟨A,false,C,D,E,F,false,false,I,J,false,L,M,N,O,P,false,R,S,T,U,V,X,Y,Z⟩ s0 (State.serveCheck s a1 a2 f3) := by
  unfold State.serveCheck; with_reducible repeat' first | assumption | intros _ | apply Kept.ite | apply State.finishAt_kept | apply State.readScene_kept | refine Kept.pair1 ‹_› (State.readScene_kept ?_) | apply hf3 | (refine Kept.upd ?_; first | assumption | apply State.finishAt_kept | apply State.readScene_kept | refine Kept.pair1 ‹_› (State.readScene_kept ?_) | apply hf3) | split | apply Kept.foldl | apply Kept.foldl1 | apply Kept.pair1 ‹_› | dsimp only
theorem execCheckScene_kept {a1 : Fin 256} {a2 : Nat} (h : Kept ⟨A,false,C,false,false,F,false,false,I,J,false,false,false,N,O,P,false,false,S,T,U,V,X,Y,Z⟩ s0 s) : KeptO ⟨A,false,C,false,false,F,false,false,I,J,false,false,false,N,O,P,false,false,S,T,U,V,X,Y,Z⟩ s0 (execCheckScene a1 a2 s) := by
  unfold execCheckScene; with_reducible repeat' first | assumption | intros _ | apply KeptO.next | apply Kept.ite | apply State.serveCheck_kept | apply State.finishAt_kept | apply State.writeDetail_kept | apply State.noteCheck_kept | (refine Kept.upd ?_; first | assumption | apply State.serveCheck_kept | apply State.finishAt_kept | apply State.writeDetail_kept | apply State.noteCheck_kept) | split
theorem execQueryScene_kept {a1 : Fin 256} (h : Kept ⟨A,B,C,false,false,F,false,false,I,J,K,L,M,N,O,P,Q,R,S,T,U,V,X,Y,Z⟩ s0 s) : KeptO ⟨A,B,C,false,false,F,false,false,I,J,K,L,M,N,O,P,Q,R,S,T,U,V,X,Y,Z⟩ s0 (execQueryScene a1 s) := by
  unfold execQueryScene; with_reducible repeat' first | assumption | intros _ | apply KeptO.next | apply Kept.ite | apply State.serveScene_kept | apply State.finishAt_kept | apply State.countBounds_kept | apply State.busWrite_kept | (refine Kept.upd ?_; first | assumption | apply State.serveScene_kept | apply State.finishAt_kept | apply State.countBounds_kept | apply State.busWrite_kept) | split
theorem State.onLive_kept {a1 : Nat} (h : Kept ⟨A,B,C,D,E,F,G,H,I,J,K,L,M,N,O,false,Q,R,S,T,U,V,X,Y,Z⟩ s0 s) : Kept ⟨A,B,C,D,E,F,G,H,I,J,K,L,M,N,O,false,Q,R,S,T,U,V,X,Y,Z⟩ s0 (State.onLive s a1) := by
  unfold State.onLive; with_reducible repeat' first | assumption | intros _ | apply Kept.ite | (refine Kept.upd ?_; first | assumption) | split
theorem State.putForce_kept {a1 : Nat} {a2 : List Byte} (h : Kept ⟨A,B,C,D,E,F,G,H,I,J,false,L,M,N,O,P,false,R,S,false,U,V,X,Y,Z⟩ s0 s) : Kept ⟨A,B,C,D,E,F,G,H,I,J,false,L,M,N,O,P,false,R,S,false,U,V,X,Y,Z⟩ s0 (State.putForce s a1 a2) := by
  unfold State.putForce; with_reducible repeat' first | assumption | intros _ | apply Kept.ite | apply State.forEach_kept | apply State.levelTo_kept | (refine Kept.upd ?_; first | assumption | apply State.forEach_kept | apply State.levelTo_kept) | split | apply Kept.foldl | apply Kept.foldl1 | apply Kept.pair1 ‹_› | dsimp only
theorem State.settleKey_kept {a1 : Nat} {a2 : Bool} (h : Kept ⟨A,B,C,D,E,F,G,H,I,J,false,L,M,N,O,false,false,R,S,false,U,V,X,Y,Z⟩ s0 s) : Kept ⟨A,B,C,D,E,F,G,H,I,J,false,L,M,N,O,false,false,R,S,false,U,V,X,Y,Z⟩ s0 (State.settleKey s a1 a2) := by
  unfold State.settleKey; with_reducible repeat' first | assumption | intros _ | apply Kept.ite | apply State.onLive_kept | apply State.putForce_kept | (refine Kept.upd ?_; first | assumption | apply State.onLive_kept | apply State.putForce_kept) | split
theorem State.noteDirty_kept (h : Kept ⟨A,B,C,D,E,F,G,H,I,J,K,L,M,N,O,P,Q,R,S,false,U,V,X,Y,Z⟩ s0 s) : Kept ⟨A,B,C,D,E,F,G,H,I,J,K,L,M,N,O,P,Q,R,S,false,U,V,X,Y,Z⟩ s0 (State.noteDirty s) := by
  unfold State.noteDirty; with_reducible repeat' first | assumption | intros _ | apply Kept.ite | (refine Kept.upd ?_; first | assumption) | split
theorem State.writeEntry_kept {a1 : Nat} {a2 : List Byte} (h : Kept ⟨A,B,C,D,E,F,G,H,I,J,false,L,M,N,O,false,false,R,S,false,U,V,X,Y,Z⟩ s0 s) : Kept ⟨A,B,C,D,E,F,G,H,I,J,false,L,M,N,O,false,false,R,S,false,U,V,X,Y,Z⟩ s0 (State.writeEntry s a1 a2) := by
  unfold State.writeEntry; with_reducible repeat' first | assumption | intros _ | apply Kept.ite | apply State.noteDirty_kept | apply State.settleKey_kept | (refine Kept.upd ?_; first | assumption | apply State.noteDirty_kept | apply State.settleKey_kept) | split
theorem State.latchEntries_kept {a1 : Nat} {a2 : Bool} {a3 : List (Nat × List Byte)} (h : Kept ⟨A,B,C,D,E,F,G,H,I,J,false,L,M,N,O,P,false,R,S,false,U,V,X,Y,Z⟩ s0 s) : Kept ⟨A,B,C,D,E,F,G,H,I,J,false,L,M,N,O,P,false,R,S,false,U,V,X,Y,Z⟩ s0 (State.latchEntries s a1 a2 a3) := by
  unfold State.latchEntries; with_reducible repeat' first | assumption | intros _ | apply Kept.ite | apply State.forEach_kept | apply State.putForce_kept | (refine Kept.upd ?_; first | assumption | apply State.forEach_kept | apply State.putForce_kept) | split
theorem State.switchOverlay_kept {a1 : Tbl (List Byte)} (h : Kept ⟨A,B,C,D,E,F,G,H,I,J,false,L,M,N,O,false,false,R,S,false,U,V,X,Y,Z⟩ s0 s) : Kept ⟨A,B,C,D,E,F,G,H,I,J,false,L,M,N,O,false,false,R,S,false,U,V,X,Y,Z⟩ s0 (State.switchOverlay s a1) := by
  unfold State.switchOverlay; with_reducible repeat' first | assumption | intros _ | apply Kept.ite | apply State.forEach_kept | apply State.settleKey_kept | (refine Kept.upd ?_; first | assumption | apply State.forEach_kept | apply State.settleKey_kept) | split
theorem State.applyModeEntries_kept (h : Kept ⟨A,B,C,D,E,F,G,H,I,J,false,L,M,N,O,P,false,R,S,false,U,V,X,Y,Z⟩ s0 s) : Kept ⟨A,B,C,D,E,F,G,H,I,J,false,L,M,N,O,P,false,R,S,false,U,V,X,Y,Z⟩ s0 (State.applyModeEntries s) := by
  unfold State.applyModeEntries; with_reducible repeat' first | assumption | intros _ | apply Kept.ite | apply State.forEach_kept | apply State.putForce_kept | (refine Kept.upd ?_; first | assumption | apply State.forEach_kept | apply State.putForce_kept) | split
theorem State.freeStaged_kept (h : Kept ⟨A,B,C,D,E,F,G,H,I,J,K,L,M,N,O,P,Q,R,S,false,U,V,X,Y,Z⟩ s0 s) : Kept ⟨A,B,C,D,E,F,G,H,I,J,K,L,M,N,O,P,Q,R,S,false,U,V,X,Y,Z⟩ s0 (State.freeStaged s) := by
  unfold State.freeStaged; with_reducible repeat' first | assumption | intros _ | apply Kept.ite | (refine Kept.upd ?_; first | assumption) | split
theorem State.withMode_kept {a1 : Mode} (h : Kept ⟨A,B,C,D,E,F,G,H,I,J,false,L,M,N,O,false,false,R,S,false,U,V,X,Y,Z⟩ s0 s) : Kept ⟨A,B,C,D,E,F,G,H,I,J,false,L,M,N,O,false,false,R,S,false,U,V,X,Y,Z⟩ s0 (State.withMode s a1) := by
  unfold State.withMode; with_reducible repeat' first | assumption | apply Kept.ite | apply State.freeStaged_kept | apply State.applyModeEntries_kept | apply State.switchOverlay_kept
theorem State.modBand_kept {a1 : Nat} {a2 : Nat} {a3 : Nat} {a4 : Band → Band} (h : Kept ⟨A,B,C,D,E,F,G,H,I,J,K,L,M,N,false,P,Q,R,S,T,U,V,X,Y,Z⟩ s0 s) : Kept ⟨A,B,C,D,E,F,G,H,I,J,K,L,M,N,false,P,Q,R,S,T,U,V,X,Y,Z⟩ s0 (State.modBand s a1 a2 a3 a4) := by
  unfold State.modBand; with_reducible repeat' first | assumption | apply Kept.ite | apply State.modHead_kept
theorem State.assignBand_kept {a1 : Nat} {a2 : Band} (h : Kept ⟨A,B,C,D,E,F,G,H,I,J,K,L,M,false,false,P,Q,R,S,T,U,V,X,Y,Z⟩ s0 s) : Kept ⟨A,B,C,D,E,F,G,H,I,J,K,L,M,false,false,P,Q,R,S,T,U,V,X,Y,Z⟩ s0 (State.assignBand s a1 a2) := by
  unfold State.assignBand; with_reducible repeat' first | assumption | intros _ | apply Kept.ite | apply State.setHead_kept | (refine Kept.upd ?_; first | assumption | apply State.setHead_kept) | split
theorem State.checkFetches_kept {a1 : Nat} {a2 : Area} {a3 : Nat} {a4 : Bool} {a5 : List (Use × LayerDec)} (h : Kept ⟨A,false,C,D,E,F,false,H,I,J,false,L,M,N,false,P,false,R,S,T,U,V,X,Y,Z⟩ s0 s) : Kept ⟨A,false,C,D,E,F,false,H,I,J,false,L,M,N,false,P,false,R,S,T,U,V,X,Y,Z⟩ s0 (State.checkFetches s a1 a2 a3 a4 a5).1 := by
  unfold State.checkFetches; with_reducible repeat' first | assumption | intros _ | apply Kept.ite | apply State.modHead_kept | apply State.countBounds_kept | apply State.raiseHead_kept | (refine Kept.upd ?_; first | assumption | apply State.modHead_kept | apply State.countBounds_kept | apply State.raiseHead_kept) | split | apply Kept.foldl | apply Kept.foldl1 | apply Kept.pair1 ‹_› | dsimp only
theorem State.prepareBand_kept {a1 : Nat} {a2 : Nat} {a3 : Nat} {a4 : Nat} {a5 : HState} (h : Kept ⟨A,false,C,D,E,F,false,H,I,J,false,L,M,N,false,P,false,R,S,T,U,V,X,Y,Z⟩ s0 s) : Kept ⟨A,false,C,D,E,F,false,H,I,J,false,L,M,N,false,P,false,R,S,T,U,V,X,Y,Z⟩ s0 (State.prepareBand s a1 a2 a3 a4 a5).1 := by
  unfold State.prepareBand; with_reducible repeat' first | assumption | intros _ | apply Kept.ite | apply State.checkFetches_kept | refine Kept.pair1 ‹_› (State.checkFetches_kept ?_) | (refine Kept.upd ?_; first | assumption | apply State.checkFetches_kept | refine Kept.pair1 ‹_› (State.checkFetches_kept ?_)) | split | apply Kept.foldl | apply Kept.foldl1 | apply Kept.pair1 ‹_› | dsimp only
theorem State.dropJobs_kept {a1 : Nat} {a2 : Nat} {a3 : Nat} (h : Kept ⟨A,B,C,D,E,F,G,H,I,J,K,L,M,false,O,P,Q,R,S,T,U,V,X,Y,Z⟩ s0 s) : Kept ⟨A,B,C,D,E,F,G,H,I,J,K,L,M,false,O,P,Q,R,S,T,U,V,X,Y,Z⟩ s0 (State.dropJobs s a1 a2 a3) := by
  unfold State.dropJobs; with_reducible repeat' first | assumption | intros _ | apply Kept.ite | (refine Kept.upd ?_; first | assumption) | split
theorem State.composeBand_kept {a1 : Nat} {a2 : Nat} {a3 : Nat} {a4 : Nat} {a5 : HState} {a6 : Bool} (h : Kept ⟨A,false,C,D,E,F,false,H,I,J,false,L,M,false,false,false,false,R,S,T,U,V,X,Y,Z⟩ s0 s) : Kept ⟨A,false,C,D,E,F,false,H,I,J,false,L,M,false,false,false,false,R,S,T,U,V,X,Y,Z⟩ s0 (State.composeBand s a1 a2 a3 a4 a5 a6) := by
  unfold State.composeBand; with_reducible repeat' first | assumption | intros _ | apply Kept.ite | apply State.prepareBand_kept | refine Kept.pair1 ‹_› (State.prepareBand_kept ?_) | apply State.assignBand_kept | apply State.dropJobs_kept | (refine Kept.upd ?_; first | assumption | apply State.prepareBand_kept | refine Kept.pair1 ‹_› (State.prepareBand_kept ?_) | apply State.assignBand_kept | apply State.dropJobs_kept) | split | apply Kept.foldl | apply Kept.foldl1 | apply Kept.pair1 ‹_› | dsimp only
theorem execBandCompositionStart_kept {a1 : Fin 16} (h : Kept ⟨A,false,C,D,E,F,false,H,I,J,false,L,M,false,false,false,false,R,S,T,U,V,X,Y,Z⟩ s0 s) : KeptO ⟨A,false,C,D,E,F,false,H,I,J,false,L,M,false,false,false,false,R,S,T,U,V,X,Y,Z⟩ s0 (execBandCompositionStart a1 s) := by
  unfold execBandCompositionStart; with_reducible repeat' first | assumption | apply KeptO.next | apply Kept.ite | apply State.modHead_kept | apply State.composeBand_kept
theorem State.abandonBand_kept {a1 : Nat} {a2 : Band} {a3 : Nat} (h : Kept ⟨A,false,C,D,E,F,G,H,I,J,false,false,M,false,false,P,false,R,S,T,U,V,X,Y,Z⟩ s0 s) : Kept ⟨A,false,C,D,E,F,G,H,I,J,false,false,M,false,false,P,false,R,S,T,U,V,X,Y,Z⟩ s0 (State.abandonBand s a1 a2 a3) := by
  unfold State.abandonBand; with_reducible repeat' first | assumption | intros _ | apply Kept.ite | apply State.modBand_kept | apply State.dropJobs_kept | apply State.cancelBuffer_kept | (refine Kept.upd ?_; first | assumption | apply State.modBand_kept | apply State.dropJobs_kept | apply State.cancelBuffer_kept) | split
theorem execTileTake_kept {a1 : Fin 12} {a2 : Fin 17} (h : Kept ⟨A,false,C,D,E,F,false,H,I,J,false,false,M,false,false,P,false,R,S,T,U,V,X,Y,Z⟩ s0 s) : KeptO ⟨A,false,C,D,E,F,false,H,I,J,false,false,M,false,false,P,false,R,S,T,U,V,X,Y,Z⟩ s0 (execTileTake a1 a2 s) := by
  unfold execTileTake; with_reducible repeat' first | assumption | intros _ | apply KeptO.next | apply Kept.ite | apply State.abandonBand_kept | apply State.countRepeated_kept | apply State.modBand_kept | apply State.modGallery_kept | (refine Kept.upd ?_; first | assumption | apply State.abandonBand_kept | apply State.countRepeated_kept | apply State.modBand_kept | apply State.modGallery_kept) | split
theorem State.reissue_kept {a1 : Nat} {a2 : TileJob} (h : Kept ⟨A,B,C,D,E,F,G,H,I,J,K,L,M,false,false,P,Q,R,S,T,U,V,X,Y,Z⟩ s0 s) : Kept ⟨A,B,C,D,E,F,G,H,I,J,K,L,M,false,false,P,Q,R,S,T,U,V,X,Y,Z⟩ s0 (State.reissue s a1 a2) := by
  unfold State.reissue; with_reducible repeat' first | assumption | intros _ | apply Kept.ite | apply State.modGallery_kept | apply State.modBand_kept | (refine Kept.upd ?_; first | assumption | apply State.modGallery_kept | apply State.modBand_kept) | split
theorem State.keepOneGallery_kept (h : Kept ⟨A,B,C,D,E,F,G,H,I,J,K,L,M,false,O,P,Q,R,S,T,U,V,X,Y,Z⟩ s0 s) : Kept ⟨A,B,C,D,E,F,G,H,I,J,K,L,M,false,O,P,Q,R,S,T,U,V,X,Y,Z⟩ s0 (State.keepOneGallery s) := by
  unfold State.keepOneGallery; with_reducible repeat' first | assumption | intros _ | apply Kept.ite | (refine Kept.upd ?_; first | assumption) | split
theorem State.leaveService_kept {a1 : Nat} (h : Kept ⟨A,false,C,D,E,F,G,H,I,J,false,L,M,false,false,P,false,R,false,T,U,V,X,Y,Z⟩ s0 s) : Kept ⟨A,false,C,D,E,F,G,H,I,J,false,L,M,false,false,P,false,R,false,T,U,V,X,Y,Z⟩ s0 (State.leaveService s a1) := by
  unfold State.leaveService; with_reducible repeat' first | assumption | intros _ | apply Kept.ite | apply State.keepOneGallery_kept | apply State.modGallery_kept | apply State.noteMask_kept | apply State.forEach_kept | apply State.assignBand_kept | (refine Kept.upd ?_; first | assumption | apply State.keepOneGallery_kept | apply State.modGallery_kept | apply State.noteMask_kept | apply State.forEach_kept | apply State.assignBand_kept) | split
theorem State.recheckDue_kept (h : Kept ⟨A,B,C,D,E,F,G,H,I,J,K,L,false,N,O,P,Q,R,S,T,U,V,X,Y,Z⟩ s0 s) : Kept ⟨A,B,C,D,E,F,G,H,I,J,K,L,false,N,O,P,Q,R,S,T,U,V,X,Y,Z⟩ s0 (State.recheckDue s) := by
  unfold State.recheckDue; with_reducible repeat' first | assumption | intros _ | apply Kept.ite | (refine Kept.upd ?_; first | assumption) | split
theorem State.retireGallery_kept {a1 : Nat} (h : Kept ⟨false,false,false,D,E,F,G,H,I,J,false,L,false,false,false,P,false,R,false,T,U,V,X,Y,Z⟩ s0 s) : Kept ⟨false,false,false,D,E,F,G,H,I,J,false,L,false,false,false,P,false,R,false,T,U,V,X,Y,Z⟩ s0 (State.retireGallery s a1) := by
  unfold State.retireGallery; with_reducible repeat' first | assumption | apply Kept.ite | apply State.leaveService_kept | apply State.modGallery_kept | apply State.healthDue_kept | apply State.noteConditions_kept | apply State.recheckDue_kept | apply State.raise_kept
theorem State.retireEngine_kept {a1 : Nat} {a2 : Nat} (h : Kept ⟨false,false,false,D,E,F,G,H,I,J,false,L,false,false,false,P,false,R,false,T,U,V,X,Y,Z⟩ s0 s) : Kept ⟨false,false,false,D,E,F,G,H,I,J,false,L,false,false,false,P,false,R,false,T,U,V,X,Y,Z⟩ s0 (State.retireEngine s a1 a2) := by
  unfold State.retireEngine; with_reducible repeat' first | assumption | intros _ | apply Kept.ite | apply State.reissue_kept | apply State.modGallery_kept | apply State.raise_kept | apply State.forEach_kept | apply State.modBand_kept | apply State.healthDue_kept | apply State.noteConditions_kept | apply State.retireGallery_kept | apply State.recheckDue_kept | (refine Kept.upd ?_; first | assumption | apply State.reissue_kept | apply State.modGallery_kept | apply State.raise_kept | apply State.forEach_kept | apply State.modBand_kept | apply State.healthDue_kept | apply State.noteConditions_kept | apply State.retireGallery_kept | apply State.recheckDue_kept) | split
theorem State.engineFault_kept {a1 : Nat} {a2 : Nat} (h : Kept ⟨false,false,false,D,E,F,G,H,I,J,false,L,false,false,false,P,false,R,false,T,U,V,X,Y,Z⟩ s0 s) : Kept ⟨false,false,false,D,E,F,G,H,I,J,false,L,false,false,false,P,false,R,false,T,U,V,X,Y,Z⟩ s0 (State.engineFault s a1 a2) := by
  unfold State.engineFault; with_reducible repeat' first | assumption | intros _ | apply Kept.ite | apply State.modGallery_kept | apply State.raise_kept | apply State.retireEngine_kept | (refine Kept.upd ?_; first | assumption | apply State.modGallery_kept | apply State.raise_kept | apply State.retireEngine_kept) | split
theorem State.noteWriter_kept {a1 : Nat} {a2 : Nat} {a3 : Nat} {a4 : Nat} {a5 : Nat} {a6 : Nat} (h : Kept ⟨A,B,C,D,E,F,G,H,I,J,K,L,M,N,O,false,Q,R,S,T,U,V,X,Y,Z⟩ s0 s) : Kept ⟨A,B,C,D,E,F,G,H,I,J,K,L,M,N,O,false,Q,R,S,T,U,V,X,Y,Z⟩ s0 (State.noteWriter s a1 a2 a3 a4 a5 a6) := by
  unfold State.noteWriter; with_reducible repeat' first | assumption | intros _ | apply Kept.ite | (refine Kept.upd ?_; first | assumption) | split
theorem execTileWrite_kept {a1 : Fin 12} {a2 : Fin 17} {a3 : Bool} (h : Kept ⟨false,false,false,D,E,F,G,H,I,J,false,L,false,false,false,false,false,R,false,T,U,V,X,Y,Z⟩ s0 s) : KeptO ⟨false,false,false,D,E,F,G,H,I,J,false,L,false,false,false,false,false,R,false,T,U,V,X,Y,Z⟩ s0 (execTileWrite a1 a2 a3 s) := by
  unfold execTileWrite; with_reducible repeat' first | assumption | intros _ | apply KeptO.next | apply Kept.ite | apply State.engineFault_kept | apply State.reissue_kept | apply State.modGallery_kept | apply State.noteWriter_kept | apply State.modBand_kept | (refine Kept.upd ?_; first | assumption | apply State.engineFault_kept | apply State.reissue_kept | apply State.modGallery_kept | apply State.noteWriter_kept | apply State.modBand_kept) | split | apply Kept.foldl | apply Kept.foldl1 | apply Kept.pair1 ‹_› | dsimp only
theorem execGalleryFault_kept {a1 : Fin 12} (h : Kept ⟨false,false,false,D,E,F,G,H,I,J,false,L,false,false,false,P,false,R,false,T,U,V,X,Y,Z⟩ s0 s) : KeptO ⟨false,false,false,D,E,F,G,H,I,J,false,L,false,false,false,P,false,R,false,T,U,V,X,Y,Z⟩ s0 (execGalleryFault a1 s) := by
  unfold execGalleryFault; with_reducible repeat' first | assumption | intros _ | apply KeptO.next | apply Kept.ite | apply State.modGallery_kept | apply State.retireGallery_kept | apply State.raise_kept | apply State.leaveService_kept | (refine Kept.upd ?_; first | assumption | apply State.modGallery_kept | apply State.retireGallery_kept | apply State.raise_kept | apply State.leaveService_kept) | split
theorem execGalleryReturn_kept {a1 : Fin 12} (h : Kept ⟨A,false,C,D,E,F,G,H,I,J,false,L,M,false,O,P,false,R,false,T,U,V,X,Y,Z⟩ s0 s) : KeptO ⟨A,false,C,D,E,F,G,H,I,J,false,L,M,false,O,P,false,R,false,T,U,V,X,Y,Z⟩ s0 (execGalleryReturn a1 s) := by
  unfold execGalleryReturn; with_reducible repeat' first | assumption | apply KeptO.next | apply Kept.ite | apply State.noteMask_kept | apply State.modGallery_kept
theorem State.noteEngines_kept (h : Kept ⟨A,B,C,D,E,F,G,H,I,J,K,L,false,N,O,P,Q,R,S,T,U,V,X,Y,Z⟩ s0 s) : Kept ⟨A,B,C,D,E,F,G,H,I,J,K,L,false,N,O,P,Q,R,S,T,U,V,X,Y,Z⟩ s0 (State.noteEngines s) := by
  unfold State.noteEngines; with_reducible repeat' first | assumption | intros _ | apply Kept.ite | (refine Kept.upd ?_; first | assumption) | split
theorem State.runRecheck_kept (h : Kept ⟨false,false,C,D,E,F,G,H,I,J,false,L,false,N,O,P,false,R,false,T,U,V,X,Y,Z⟩ s0 s) : Kept ⟨false,false,C,D,E,F,G,H,I,J,false,L,false,N,O,P,false,R,false,T,U,V,X,Y,Z⟩ s0 (State.runRecheck s) := by
  unfold State.runRecheck; with_reducible repeat' first | assumption | intros _ | apply Kept.ite | apply State.noteEngines_kept | apply State.noteConditions_kept | (refine Kept.upd ?_; first | assumption | apply State.noteEngines_kept | apply State.noteConditions_kept) | split
theorem execSceneRecheck_kept (h : Kept ⟨false,false,C,D,E,F,G,H,I,J,false,L,false,N,O,P,false,R,false,T,U,V,X,Y,Z⟩ s0 s) : KeptO ⟨false,false,C,D,E,F,G,H,I,J,false,L,false,N,O,P,false,R,false,T,U,V,X,Y,Z⟩ s0 (execSceneRecheck s) := by
  unfold execSceneRecheck; with_reducible repeat' first | assumption | apply KeptO.next | apply Kept.ite | apply State.runRecheck_kept
theorem State.noteSqueeze_kept (h : Kept ⟨A,B,C,D,E,F,G,H,I,false,K,L,M,N,O,P,Q,R,S,T,U,V,X,Y,Z⟩ s0 s) : Kept ⟨A,B,C,D,E,F,G,H,I,false,K,L,M,N,O,P,Q,R,S,T,U,V,X,Y,Z⟩ s0 (State.noteSqueeze s) := by
  unfold State.noteSqueeze; with_reducible repeat' first | assumption | intros _ | apply Kept.ite | (refine Kept.upd ?_; first | assumption) | split
theorem State.readSensor_kept {a1 : List Int} {a2 : List Bool} {a3 : Nat} (h : Kept ⟨A,false,C,D,E,F,G,H,I,J,false,L,M,N,O,P,false,R,false,T,U,V,X,Y,Z⟩ s0 s) : Kept ⟨A,false,C,D,E,F,G,H,I,J,false,L,M,N,O,P,false,R,false,T,U,V,X,Y,Z⟩ s0 (State.readSensor s a1 a2 a3) := by
  unfold State.readSensor; with_reducible repeat' first | assumption | intros _ | apply Kept.ite | apply State.raise_kept | (refine Kept.upd ?_; first | assumption | apply State.raise_kept) | split
theorem State.noteHottest_kept (h : Kept ⟨false,B,C,D,E,F,G,H,I,J,K,L,M,N,O,P,Q,R,false,T,U,V,X,Y,Z⟩ s0 s) : Kept ⟨false,B,C,D,E,F,G,H,I,J,K,L,M,N,O,P,Q,R,false,T,U,V,X,Y,Z⟩ s0 (State.noteHottest s) := by
  unfold State.noteHottest; with_reducible repeat' first | assumption | intros _ | apply Kept.ite | (refine Kept.upd ?_; first | assumption) | split
theorem execSensorRead_kept {a1 : List Int} (h : Kept ⟨false,false,C,D,E,F,G,H,I,J,false,L,M,N,O,P,false,R,false,T,U,V,X,Y,Z⟩ s0 s) : KeptO ⟨false,false,C,D,E,F,G,H,I,J,false,L,M,N,O,P,false,R,false,T,U,V,X,Y,Z⟩ s0 (execSensorRead a1 s) := by
  unfold execSensorRead; with_reducible repeat' first | assumption | intros _ | apply KeptO.next | apply Kept.ite | apply State.noteHottest_kept | apply State.forEach_kept | apply State.readSensor_kept | (refine Kept.upd ?_; first | assumption | apply State.noteHottest_kept | apply State.forEach_kept | apply State.readSensor_kept) | split
theorem State.ageOneMs_kept (h : Kept ⟨A,B,false,D,E,F,G,H,I,J,K,L,M,N,O,P,Q,R,S,T,U,V,X,Y,Z⟩ s0 s) : Kept ⟨A,B,false,D,E,F,G,H,I,J,K,L,M,N,O,P,Q,R,S,T,U,V,X,Y,Z⟩ s0 (State.ageOneMs s) := by
  unfold State.ageOneMs; with_reducible repeat' first | assumption | intros _ | apply Kept.ite | (refine Kept.upd ?_; first | assumption) | split
theorem execLifeEvaluation_kept (h : Kept ⟨A,false,C,D,E,F,G,H,I,J,false,L,M,N,O,P,false,R,false,T,U,V,X,Y,Z⟩ s0 s) : KeptO ⟨A,false,C,D,E,F,G,H,I,J,false,L,M,N,O,P,false,R,false,T,U,V,X,Y,Z⟩ s0 (execLifeEvaluation s) := by
  unfold execLifeEvaluation; with_reducible repeat' first | assumption | intros _ | apply KeptO.next | apply Kept.ite | apply State.raise_kept | apply State.noteReplacement_kept | (refine Kept.upd ?_; first | assumption | apply State.raise_kept | apply State.noteReplacement_kept) | split
theorem State.setStage_kept {a1 : Nat} (h : Kept ⟨false,false,C,D,E,F,G,H,I,false,false,L,M,N,O,P,false,R,false,T,U,V,X,Y,Z⟩ s0 s) : Kept ⟨false,false,C,D,E,F,G,H,I,false,false,L,M,N,O,P,false,R,false,T,U,V,X,Y,Z⟩ s0 (State.setStage s a1) := by
  unfold State.setStage; with_reducible repeat' first | assumption | intros _ | apply Kept.ite | apply State.noteConditions_kept | apply State.noteSqueeze_kept | apply State.raise_kept | (refine Kept.upd ?_; first | assumption | apply State.noteConditions_kept | apply State.noteSqueeze_kept | apply State.raise_kept) | split
theorem State.noteUnmet_kept (h : Kept ⟨A,false,C,D,E,F,G,H,I,J,false,L,M,N,O,P,false,R,false,T,U,V,X,Y,Z⟩ s0 s) : Kept ⟨A,false,C,D,E,F,G,H,I,J,false,L,M,N,O,P,false,R,false,T,U,V,X,Y,Z⟩ s0 (State.noteUnmet s) := by
  unfold State.noteUnmet; with_reducible repeat' first | assumption | intros _ | apply Kept.ite | apply State.raise_kept | (refine Kept.upd ?_; first | assumption | apply State.raise_kept) | split
theorem State.noteOverGrade_kept (h : Kept ⟨A,false,false,D,E,F,G,H,I,J,false,L,M,N,O,P,false,R,false,T,U,V,X,Y,Z⟩ s0 s) : Kept ⟨A,false,false,D,E,F,G,H,I,J,false,L,M,N,O,P,false,R,false,T,U,V,X,Y,Z⟩ s0 (State.noteOverGrade s) := by
  unfold State.noteOverGrade; with_reducible repeat' first | assumption | intros _ | apply Kept.ite | apply State.raise_kept | (refine Kept.upd ?_; first | assumption | apply State.raise_kept) | split | apply Kept.foldl | apply Kept.foldl1 | apply Kept.pair1 ‹_› | dsimp only
theorem State.setMaskOut_kept {a1 : List Nat} (h : Kept ⟨A,false,C,D,E,F,G,H,I,J,false,L,M,false,O,P,false,R,false,T,U,V,X,Y,Z⟩ s0 s) : Kept ⟨A,false,C,D,E,F,G,H,I,J,false,L,M,false,O,P,false,R,false,T,U,V,X,Y,Z⟩ s0 (State.setMaskOut s a1) := by
  unfold State.setMaskOut; with_reducible repeat' first | assumption | intros _ | apply Kept.ite | apply State.forEach_kept | apply State.modGallery_kept | apply State.noteMask_kept | (refine Kept.upd ?_; first | assumption | apply State.forEach_kept | apply State.modGallery_kept | apply State.noteMask_kept) | split
theorem State.maskForScenes_kept (h : Kept ⟨A,false,C,D,E,F,G,H,I,J,false,L,M,false,O,P,false,R,false,T,U,V,X,Y,Z⟩ s0 s) : Kept ⟨A,false,C,D,E,F,G,H,I,J,false,L,M,false,O,P,false,R,false,T,U,V,X,Y,Z⟩ s0 (State.maskForScenes s) := by
  unfold State.maskForScenes; with_reducible repeat' first | assumption | apply Kept.ite | apply State.setMaskOut_kept
theorem State.moveMask_kept (h : Kept ⟨A,false,C,D,E,F,G,H,I,J,false,L,M,false,O,P,false,R,false,T,U,V,X,Y,Z⟩ s0 s) : Kept ⟨A,false,C,D,E,F,G,H,I,J,false,L,M,false,O,P,false,R,false,T,U,V,X,Y,Z⟩ s0 (State.moveMask s) := by
  unfold State.moveMask; with_reducible repeat' first | assumption | intros _ | apply Kept.ite | apply State.setMaskOut_kept | apply State.forEach_kept | apply State.modGallery_kept | (refine Kept.upd ?_; first | assumption | apply State.setMaskOut_kept | apply State.forEach_kept | apply State.modGallery_kept) | split
theorem State.formPower_kept {a1 : Option Nat} (h : Kept ⟨A,B,C,D,E,F,G,H,I,J,K,L,M,N,O,P,Q,R,false,T,U,false,X,Y,Z⟩ s0 s) : Kept ⟨A,B,C,D,E,F,G,H,I,J,K,L,M,N,O,P,Q,R,false,T,U,false,X,Y,Z⟩ s0 (State.formPower s a1) := by
  unfold State.formPower; with_reducible repeat' first | assumption | intros _ | apply Kept.ite | apply State.draw_kept | refine Kept.pair2 ‹_› (State.draw_kept ?_) | (refine Kept.upd ?_; first | assumption | apply State.draw_kept | refine Kept.pair2 ‹_› (State.draw_kept ?_)) | split
theorem execLampEvaluation_kept {a1 : Option Nat} (h : Kept ⟨false,false,false,D,E,F,G,H,I,false,false,L,M,false,O,P,false,R,false,T,U,false,X,Y,Z⟩ s0 s) : KeptO ⟨false,false,false,D,E,F,G,H,I,false,false,L,M,false,O,P,false,R,false,T,U,false,X,Y,Z⟩ s0 (execLampEvaluation a1 s) := by
  unfold execLampEvaluation; with_reducible repeat' first | assumption | intros _ | apply KeptO.next | apply Kept.ite | apply State.ageOneMs_kept | apply State.formPower_kept | apply State.noteSqueeze_kept | apply State.setStage_kept | apply State.moveMask_kept | apply State.noteOverGrade_kept | apply State.noteUnmet_kept | (refine Kept.upd ?_; first | assumption | apply State.ageOneMs_kept | apply State.formPower_kept | apply State.noteSqueeze_kept | apply State.setStage_kept | apply State.moveMask_kept | apply State.noteOverGrade_kept | apply State.noteUnmet_kept) | split
theorem execVcoreStep_kept {a1 : Nat} {a2 : Bool} (h : Kept ⟨A,false,C,D,E,F,G,H,I,J,false,L,M,N,O,P,false,R,false,T,U,V,X,Y,Z⟩ s0 s) : KeptO ⟨A,false,C,D,E,F,G,H,I,J,false,L,M,N,O,P,false,R,false,T,U,V,X,Y,Z⟩ s0 (execVcoreStep a1 a2 s) := by
  unfold execVcoreStep; with_reducible repeat' first | assumption | intros _ | apply KeptO.next | apply Kept.ite | apply State.raise_kept | (refine Kept.upd ?_; first | assumption | apply State.raise_kept) | split
theorem State.appendHealth_kept {a1 : Bool} (h : Kept ⟨A,B,false,D,E,F,G,H,I,J,K,L,M,N,O,P,Q,R,S,T,U,V,X,Y,Z⟩ s0 s) : Kept ⟨A,B,false,D,E,F,G,H,I,J,K,L,M,N,O,P,Q,R,S,T,U,V,X,Y,Z⟩ s0 (State.appendHealth s a1) := by
  unfold State.appendHealth; with_reducible repeat' first | assumption | intros _ | apply Kept.ite | (refine Kept.upd ?_; first | assumption) | split | apply Kept.foldl | apply Kept.foldl1 | apply Kept.pair1 ‹_› | dsimp only
theorem execHealthRecordAppend_kept {a1 : Bool} (h : Kept ⟨A,false,false,D,E,F,G,H,I,J,false,L,M,N,O,P,false,R,S,T,U,V,X,Y,Z⟩ s0 s) : KeptO ⟨A,false,false,D,E,F,G,H,I,J,false,L,M,N,O,P,false,R,S,T,U,V,X,Y,Z⟩ s0 (execHealthRecordAppend a1 s) := by
  unfold execHealthRecordAppend; with_reducible repeat' first | assumption | intros _ | apply KeptO.next | apply Kept.ite | apply State.appendHealth_kept | apply State.raise_kept | (refine Kept.upd ?_; first | assumption | apply State.appendHealth_kept | apply State.raise_kept) | split
theorem State.mapRegions_kept {a1 : Nat} {a2 : RegSt → RegSt} (h : Kept ⟨A,B,C,D,E,F,G,H,I,J,K,L,M,N,O,false,Q,R,S,T,U,V,X,Y,Z⟩ s0 s) : Kept ⟨A,B,C,D,E,F,G,H,I,J,K,L,M,N,O,false,Q,R,S,T,U,V,X,Y,Z⟩ s0 (State.mapRegions s a1 a2) := by
  unfold State.mapRegions; with_reducible repeat' first | assumption | intros _ | apply Kept.ite | (refine Kept.upd ?_; first | assumption) | split
theorem State.clearRefs_kept {a1 : Nat} (h : Kept ⟨A,B,C,D,E,F,G,H,I,J,K,L,M,N,O,false,Q,R,S,T,U,V,X,Y,Z⟩ s0 s) : Kept ⟨A,B,C,D,E,F,G,H,I,J,K,L,M,N,O,false,Q,R,S,T,U,V,X,Y,Z⟩ s0 (State.clearRefs s a1) := by
  unfold State.clearRefs; with_reducible repeat' first | assumption | apply Kept.ite | apply State.mapRegions_kept
theorem State.recompose_kept {a1 : Nat} {a2 : Nat} {a3 : Nat} {a4 : HState} (h : Kept ⟨A,false,C,D,E,F,false,H,I,J,false,L,M,false,false,false,false,R,S,T,U,V,X,Y,Z⟩ s0 s) : Kept ⟨A,false,C,D,E,F,false,H,I,J,false,L,M,false,false,false,false,R,S,T,U,V,X,Y,Z⟩ s0 (State.recompose s a1 a2 a3 a4) := by
  unfold State.recompose; with_reducible repeat' first | assumption | intros _ | apply Kept.ite | apply State.mapRegions_kept | apply State.modHead_kept | apply State.forEach_kept | apply State.composeBand_kept | (refine Kept.upd ?_; first | assumption | apply State.mapRegions_kept | apply State.modHead_kept | apply State.forEach_kept | apply State.composeBand_kept) | split
theorem State.followCall_kept {a1 : Nat} (h : Kept ⟨A,false,C,D,E,F,false,H,I,J,false,L,M,false,false,false,false,R,S,T,U,V,X,Y,Z⟩ s0 s) : Kept ⟨A,false,C,D,E,F,false,H,I,J,false,L,M,false,false,false,false,R,S,T,U,V,X,Y,Z⟩ s0 (State.followCall s a1) := by
  unfold State.followCall; with_reducible repeat' first | assumption | apply Kept.ite | apply State.recompose_kept
theorem State.callHead_kept {a1 : Nat} {a2 : Head → Head} (h : Kept ⟨A,false,C,D,E,F,false,H,I,J,false,L,M,false,false,false,false,R,S,T,U,V,X,Y,Z⟩ s0 s) : Kept ⟨A,false,C,D,E,F,false,H,I,J,false,L,M,false,false,false,false,R,S,T,U,V,X,Y,Z⟩ s0 (State.callHead s a1 a2) := by
  unfold State.callHead; with_reducible repeat' first | assumption | apply Kept.ite | apply State.modHead_kept | apply State.followCall_kept
theorem State.recordEvent_kept {a1 : LogRec} (h : Kept ⟨A,false,C,D,E,F,G,H,I,J,false,L,M,N,O,P,false,R,S,T,U,V,X,Y,Z⟩ s0 s) : Kept ⟨A,false,C,D,E,F,G,H,I,J,false,L,M,N,O,P,false,R,S,T,U,V,X,Y,Z⟩ s0 (State.recordEvent s a1) := by
  unfold State.recordEvent; with_reducible repeat' first | assumption | apply Kept.ite | apply State.raiseHead_kept
theorem State.dropRecord_kept {a1 : LogRec} (h : Kept ⟨A,false,C,D,E,F,G,H,I,J,false,L,M,N,O,false,false,R,S,T,U,V,X,Y,Z⟩ s0 s) : Kept ⟨A,false,C,D,E,F,G,H,I,J,false,L,M,N,O,false,false,R,S,T,U,V,X,Y,Z⟩ s0 (State.dropRecord s a1) := by
  unfold State.dropRecord; with_reducible repeat' first | assumption | intros _ | apply Kept.ite | apply State.raise_kept | apply State.recordEvent_kept | (refine Kept.upd ?_; first | assumption | apply State.raise_kept | apply State.recordEvent_kept) | split
theorem State.logRecord_kept {a1 : LogRec} (h : Kept ⟨A,false,C,D,E,F,G,H,I,J,false,L,M,N,O,false,false,R,S,T,U,V,X,Y,Z⟩ s0 s) : Kept ⟨A,false,C,D,E,F,G,H,I,J,false,L,M,N,O,false,false,R,S,T,U,V,X,Y,Z⟩ s0 (State.logRecord s a1) := by
  unfold State.logRecord; with_reducible repeat' first | assumption | intros _ | apply Kept.ite | apply State.recordEvent_kept | apply State.dropRecord_kept | (refine Kept.upd ?_; first | assumption | apply State.recordEvent_kept | apply State.dropRecord_kept) | split
theorem execLogWriteDone_kept (h : Kept ⟨A,false,C,false,E,F,false,H,I,J,false,L,M,N,O,false,false,R,S,T,U,V,X,Y,Z⟩ s0 s) : KeptO ⟨A,false,C,false,E,F,false,H,I,J,false,L,M,N,O,false,false,R,S,T,U,V,X,Y,Z⟩ s0 (execLogWriteDone s) := by
  unfold execLogWriteDone; with_reducible repeat' first | assumption | intros _ | apply KeptO.next | apply Kept.ite | apply State.recordEvent_kept | apply State.devWrite_kept | apply State.raise_kept | apply State.countBounds_kept | apply State.forEach_kept | apply State.dropRecord_kept | (refine Kept.upd ?_; first | assumption | apply State.recordEvent_kept | apply State.devWrite_kept | apply State.raise_kept | apply State.countBounds_kept | apply State.forEach_kept | apply State.dropRecord_kept) | split
theorem State.signLines_kept {a1 : Nat} {a2 : Nat} {a3 : Nat} {a4 : Region} {a5 : List (List Px)} {a6 : Nat} (h : Kept ⟨A,B,C,D,E,F,G,H,I,J,K,L,M,N,O,false,Q,R,S,T,U,V,X,Y,Z⟩ s0 s) : Kept ⟨A,B,C,D,E,F,G,H,I,J,K,L,M,N,O,false,Q,R,S,T,U,V,X,Y,Z⟩ s0 (State.signLines s a1 a2 a3 a4 a5 a6) := by
  unfold State.signLines; with_reducible repeat' first | assumption | intros _ | apply Kept.ite | apply State.modRegion_kept | (refine Kept.upd ?_; first | assumption | apply State.modRegion_kept) | split | apply Kept.foldl | apply Kept.foldl1 | apply Kept.pair1 ‹_› | dsimp only
theorem State.noteSubs_kept {a1 : Nat} {a2 : Nat} {a3 : Nat} {a4 : Bool} {a5 : List (Nat × Nat)} (h : Kept ⟨A,B,C,D,E,F,G,H,I,J,K,L,M,N,O,false,Q,R,S,T,U,V,X,Y,Z⟩ s0 s) : Kept ⟨A,B,C,D,E,F,G,H,I,J,K,L,M,N,O,false,Q,R,S,T,U,V,X,Y,Z⟩ s0 (State.noteSubs s a1 a2 a3 a4 a5) := by
  unfold State.noteSubs; with_reducible repeat' first | assumption | intros _ | apply Kept.ite | (refine Kept.upd ?_; first | assumption) | split
theorem State.wbLineZero_kept {a1 : Nat} {a2 : Nat} (h : Kept ⟨A,false,C,D,E,F,false,H,I,J,false,L,M,N,O,P,false,R,S,T,U,V,X,Y,Z⟩ s0 s) : Kept ⟨A,false,C,D,E,F,false,H,I,J,false,L,M,N,O,P,false,R,S,T,U,V,X,Y,Z⟩ s0 (State.wbLineZero s a1 a2) := by
  unfold State.wbLineZero; with_reducible repeat' first | assumption | intros _ | apply Kept.ite | apply State.setStream_kept | apply State.raiseNum_kept | apply State.countBounds_kept | (refine Kept.upd ?_; first | assumption | apply State.setStream_kept | apply State.raiseNum_kept | apply State.countBounds_kept) | split
theorem State.wbLines_kept {a1 : Nat} {a2 : Nat} {a3 : List (List Px)} {a4 : Nat} {a5 : Bool} (h : Kept ⟨A,B,C,false,E,F,false,H,I,J,K,L,M,N,O,P,false,R,S,T,U,V,X,Y,Z⟩ s0 s) : Kept ⟨A,B,C,false,E,F,false,H,I,J,K,L,M,N,O,P,false,R,S,T,U,V,X,Y,Z⟩ s0 (State.wbLines s a1 a2 a3 a4 a5) := by
  unfold State.wbLines; with_reducible repeat' first | assumption | intros _ | apply Kept.ite | apply State.setStream_kept | apply State.devWrite_kept | (refine Kept.upd ?_; first | assumption | apply State.setStream_kept | apply State.devWrite_kept) | split | apply Kept.foldl | apply Kept.foldl1 | apply Kept.pair1 ‹_› | dsimp only
theorem State.wbFinish_kept {a1 : Nat} (h : Kept ⟨A,false,C,false,E,F,false,H,I,J,false,L,M,N,O,P,false,R,S,T,U,V,X,Y,Z⟩ s0 s) : Kept ⟨A,false,C,false,E,F,false,H,I,J,false,L,M,N,O,P,false,R,S,T,U,V,X,Y,Z⟩ s0 (State.wbFinish s a1) := by
  unfold State.wbFinish; with_reducible repeat' first | assumption | apply Kept.ite | apply State.devWrite_kept | apply State.setStream_kept | apply State.raiseNum_kept
theorem execWbFrameDone_kept {a1 : Fin 4} (h : Kept ⟨A,false,C,false,E,F,false,H,I,J,false,L,M,N,O,P,false,R,S,T,U,V,X,Y,Z⟩ s0 s) : KeptO ⟨A,false,C,false,E,F,false,H,I,J,false,L,M,N,O,P,false,R,S,T,U,V,X,Y,Z⟩ s0 (execWbFrameDone a1 s) := by
  unfold execWbFrameDone; with_reducible repeat' first | assumption | apply KeptO.next | apply Kept.ite | apply State.wbFinish_kept
theorem State.wbArm_kept {a1 : Nat} (h : Kept ⟨A,B,C,D,E,F,G,H,I,J,K,L,M,N,O,P,false,R,S,T,U,V,X,Y,Z⟩ s0 s) : Kept ⟨A,B,C,D,E,F,G,H,I,J,K,L,M,N,O,P,false,R,S,T,U,V,X,Y,Z⟩ s0 (State.wbArm s a1) := by
  unfold State.wbArm; with_reducible repeat' first | assumption | apply Kept.ite | apply State.modStream_kept
theorem execWbCapture_kept {a1 : Fin 4} (h : Kept ⟨A,B,C,D,E,F,G,H,I,J,K,L,M,N,O,P,false,R,S,T,U,V,X,Y,Z⟩ s0 s) : KeptO ⟨A,B,C,D,E,F,G,H,I,J,K,L,M,N,O,P,false,R,S,T,U,V,X,Y,Z⟩ s0 (execWbCapture a1 s) := by
  unfold execWbCapture; with_reducible repeat' first | assumption | apply KeptO.next | apply Kept.ite | apply State.wbArm_kept
theorem State.missBand_kept {a1 : Nat} {a2 : Nat} {a3 : Option Band} (h : Kept ⟨A,false,C,D,E,F,G,H,I,J,false,L,M,N,false,false,false,R,S,T,U,V,X,Y,Z⟩ s0 s) : Kept ⟨A,false,C,D,E,F,G,H,I,J,false,L,M,N,false,false,false,R,S,T,U,V,X,Y,Z⟩ s0 (State.missBand s a1 a2 a3) := by
  unfold State.missBand; with_reducible repeat' first | assumption | intros _ | apply Kept.ite | apply State.modHead_kept | apply State.forEach_kept | apply State.modRegion_kept | apply State.raiseHead_kept | (refine Kept.upd ?_; first | assumption | apply State.modHead_kept | apply State.forEach_kept | apply State.modRegion_kept | apply State.raiseHead_kept) | split
theorem State.drainRows_kept {a1 : Nat} {a2 : Nat} (h : Kept ⟨A,false,C,D,E,F,G,H,I,J,false,L,M,false,false,false,false,R,S,T,U,V,X,Y,Z⟩ s0 s) : Kept ⟨A,false,C,D,E,F,G,H,I,J,false,L,M,false,false,false,false,R,S,T,U,V,X,Y,Z⟩ s0 (State.drainRows s a1 a2).1 := by
  unfold State.drainRows; with_reducible repeat' first | assumption | intros _ | apply Kept.ite | apply State.modHead_kept | apply State.dropJobs_kept | apply State.missBand_kept | (refine Kept.upd ?_; first | assumption | apply State.modHead_kept | apply State.dropJobs_kept | apply State.missBand_kept) | split | apply Kept.foldl | apply Kept.foldl1 | apply Kept.pair1 ‹_› | dsimp only
theorem State.drainLines_kept {a1 : Nat} {a2 : Nat} (h : Kept ⟨A,false,C,D,E,F,G,H,I,J,false,L,M,false,false,false,false,R,S,T,U,V,X,Y,Z⟩ s0 s) : Kept ⟨A,false,C,D,E,F,G,H,I,J,false,L,M,false,false,false,false,R,S,T,U,V,X,Y,Z⟩ s0 (State.drainLines s a1 a2).1 := by
  unfold State.drainLines; with_reducible repeat' first | assumption | intros _ | apply Kept.ite | apply State.drainRows_kept | refine Kept.pair1 ‹_› (State.drainRows_kept ?_) | (refine Kept.upd ?_; first | assumption | apply State.drainRows_kept | refine Kept.pair1 ‹_› (State.drainRows_kept ?_)) | split | apply Kept.foldl | apply Kept.foldl1 | apply Kept.pair1 ‹_› | dsimp only
theorem execBandDrain_kept {a1 : Fin 16} {a2 : List (Fin 4)} (h : Kept ⟨A,false,C,false,E,F,false,H,I,J,false,L,M,false,false,false,false,R,S,T,U,V,X,Y,Z⟩ s0 s) : KeptO ⟨A,false,C,false,E,F,false,H,I,J,false,L,M,false,false,false,false,R,S,T,U,V,X,Y,Z⟩ s0 (execBandDrain a1 a2 s) := by
  unfold execBandDrain; with_reducible repeat' first | assumption | intros _ | apply KeptO.next | apply Kept.ite | apply State.modHead_kept | apply State.drainLines_kept | refine Kept.pair1 ‹_› (State.drainLines_kept ?_) | apply State.modLink_kept | apply State.forEach_kept | apply State.noteSubs_kept | apply State.signLines_kept | apply State.wbLines_kept | (refine Kept.upd ?_; first | assumption | apply State.modHead_kept | apply State.drainLines_kept | refine Kept.pair1 ‹_› (State.drainLines_kept ?_) | apply State.modLink_kept | apply State.forEach_kept | apply State.noteSubs_kept | apply State.signLines_kept | apply State.wbLines_kept) | split
theorem State.echoFails_kept {a1 : Nat} {a2 : Nat} {a3 : Nat} (h : Kept ⟨A,B,C,D,E,F,G,H,I,J,K,L,M,N,O,false,Q,R,S,T,U,V,X,Y,Z⟩ s0 s) : Kept ⟨A,B,C,D,E,F,G,H,I,J,K,L,M,N,O,false,Q,R,S,T,U,V,X,Y,Z⟩ s0 (State.echoFails s a1 a2 a3) := by
  unfold State.echoFails; with_reducible repeat' first | assumption | apply Kept.ite | apply State.modRegion_kept
theorem State.echoFault_kept (h : Kept ⟨false,false,false,D,E,F,G,H,I,J,false,L,M,N,O,false,false,R,false,T,U,V,X,Y,Z⟩ s0 s) : Kept ⟨false,false,false,D,E,F,G,H,I,J,false,L,M,N,O,false,false,R,false,T,U,V,X,Y,Z⟩ s0 (State.echoFault s) := by
  unfold State.echoFault; with_reducible repeat' first | assumption | intros _ | apply Kept.ite | apply State.raise_kept | apply State.healthDue_kept | apply State.noteConditions_kept | (refine Kept.upd ?_; first | assumption | apply State.raise_kept | apply State.healthDue_kept | apply State.noteConditions_kept) | split
theorem State.echoDone_kept {a1 : Nat} {a2 : Region} {a3 : Nat} {a4 : Band} (h : Kept ⟨A,B,C,D,E,F,G,H,I,J,K,L,M,N,O,false,Q,R,S,T,U,V,X,Y,Z⟩ s0 s) : Kept ⟨A,B,C,D,E,F,G,H,I,J,K,L,M,N,O,false,Q,R,S,T,U,V,X,Y,Z⟩ s0 (State.echoDone s a1 a2 a3 a4) := by
  unfold State.echoDone; with_reducible repeat' first | assumption | intros _ | apply Kept.ite | apply State.modRegion_kept | apply State.noteSubs_kept | (refine Kept.upd ?_; first | assumption | apply State.modRegion_kept | apply State.noteSubs_kept) | split
theorem execEchoPartDone_kept {a1 : Fin 16} {a2 : Fin 64} {a3 : EchoOutcome} (h : Kept ⟨false,false,false,D,E,F,false,H,I,J,false,false,M,N,O,false,false,R,false,T,U,V,X,Y,Z⟩ s0 s) : KeptO ⟨false,false,false,D,E,F,false,H,I,J,false,false,M,N,O,false,false,R,false,T,U,V,X,Y,Z⟩ s0 (execEchoPartDone a1 a2 a3 s) := by
  unfold execEchoPartDone; with_reducible repeat' first | assumption | intros _ | apply KeptO.next | apply Kept.ite | apply State.echoFails_kept | apply State.echoFault_kept | apply State.countBounds_kept | apply State.countRepeated_kept | apply State.cancelBuffer_kept | apply State.echoDone_kept | (refine Kept.upd ?_; first | assumption | apply State.echoFails_kept | apply State.echoFault_kept | apply State.countBounds_kept | apply State.countRepeated_kept | apply State.cancelBuffer_kept | apply State.echoDone_kept) | split | apply Kept.foldl | apply Kept.foldl1 | apply Kept.pair1 ‹_› | dsimp only
theorem State.applyPolicy_kept {a1 : Nat} {a2 : Nat} (h : Kept ⟨A,false,C,D,E,F,false,H,I,J,false,L,M,false,false,false,false,R,S,T,U,V,X,Y,Z⟩ s0 s) : Kept ⟨A,false,C,D,E,F,false,H,I,J,false,L,M,false,false,false,false,R,S,T,U,V,X,Y,Z⟩ s0 (State.applyPolicy s a1 a2) := by
  unfold State.applyPolicy; with_reducible repeat' first | assumption | intros _ | apply Kept.ite | apply State.callHead_kept | (refine Kept.upd ?_; first | assumption | apply State.callHead_kept) | split
theorem State.countMismatch_kept {a1 : Nat} {a2 : Nat} {a3 : Region} (h : Kept ⟨A,false,C,D,E,F,false,H,I,J,false,L,M,false,false,false,false,R,S,T,U,V,X,Y,Z⟩ s0 s) : Kept ⟨A,false,C,D,E,F,false,H,I,J,false,L,M,false,false,false,false,R,S,T,U,V,X,Y,Z⟩ s0 (State.countMismatch s a1 a2 a3) := by
  unfold State.countMismatch; with_reducible repeat' first | assumption | intros _ | apply Kept.ite | apply State.applyPolicy_kept | (refine Kept.upd ?_; first | assumption | apply State.applyPolicy_kept) | split
theorem State.endAnalysis_kept {a1 : Nat} {a2 : Nat} {a3 : Nat} (h : Kept ⟨false,false,false,D,E,F,G,H,I,J,false,L,false,false,false,false,false,R,false,T,U,V,X,Y,Z⟩ s0 s) : Kept ⟨false,false,false,D,E,F,G,H,I,J,false,L,false,false,false,false,false,R,false,T,U,V,X,Y,Z⟩ s0 (State.endAnalysis s a1 a2 a3) := by
  unfold State.endAnalysis; with_reducible repeat' first | assumption | intros _ | apply Kept.ite | apply State.raise_kept | apply State.retireEngine_kept | (refine Kept.upd ?_; first | assumption | apply State.raise_kept | apply State.retireEngine_kept) | split
theorem State.evaluateFrame_kept {a1 : Analysis} {a2 : Nat} {a3 : Nat} (h : Kept ⟨false,false,false,D,E,F,G,H,I,J,false,L,false,false,false,false,false,R,false,T,U,V,X,Y,Z⟩ s0 s) : Kept ⟨false,false,false,D,E,F,G,H,I,J,false,L,false,false,false,false,false,R,false,T,U,V,X,Y,Z⟩ s0 (State.evaluateFrame s a1 a2 a3) := by
  unfold State.evaluateFrame; with_reducible repeat' first | assumption | intros _ | apply Kept.ite | apply State.endAnalysis_kept | (refine Kept.upd ?_; first | assumption | apply State.endAnalysis_kept) | split | apply Kept.foldl | apply Kept.foldl1 | apply Kept.pair1 ‹_› | dsimp only
theorem State.localise_kept {a1 : Nat} {a2 : Region} {a3 : Nat} {a4 : Nat} (h : Kept ⟨false,false,false,D,E,F,G,H,I,J,false,L,false,false,false,false,false,R,false,T,U,V,X,Y,Z⟩ s0 s) : Kept ⟨false,false,false,D,E,F,G,H,I,J,false,L,false,false,false,false,false,R,false,T,U,V,X,Y,Z⟩ s0 (State.localise s a1 a2 a3 a4) := by
  unfold State.localise; with_reducible repeat' first | assumption | intros _ | apply Kept.ite | apply State.evaluateFrame_kept | (refine Kept.upd ?_; first | assumption | apply State.evaluateFrame_kept) | split
theorem State.countUnchecked_kept (h : Kept ⟨A,false,C,D,E,F,G,H,I,J,false,L,M,N,O,false,false,R,S,T,U,V,X,Y,Z⟩ s0 s) : Kept ⟨A,false,C,D,E,F,G,H,I,J,false,L,M,N,O,false,false,R,S,T,U,V,X,Y,Z⟩ s0 (State.countUnchecked s) := by
  unfold State.countUnchecked; with_reducible repeat' first | assumption | intros _ | apply Kept.ite | apply State.raise_kept | (refine Kept.upd ?_; first | assumption | apply State.raise_kept) | split
theorem execRegionVerdict_kept {a1 : Fin 16} {a2 : Fin 64} (h : Kept ⟨false,false,false,D,E,F,false,H,I,J,false,L,false,false,false,false,false,R,false,T,U,V,X,Y,Z⟩ s0 s) : KeptO ⟨false,false,false,D,E,F,false,H,I,J,false,L,false,false,false,false,false,R,false,T,U,V,X,Y,Z⟩ s0 (execRegionVerdict a1 a2 s) := by
  unfold execRegionVerdict; with_reducible repeat' first | assumption | intros _ | apply KeptO.next | apply Kept.ite | apply State.setRegion_kept | apply State.countUnchecked_kept | apply State.countMismatch_kept | apply State.localise_kept | apply State.logRecord_kept | (refine Kept.upd ?_; first | assumption | apply State.setRegion_kept | apply State.countUnchecked_kept | apply State.countMismatch_kept | apply State.localise_kept | apply State.logRecord_kept) | split
theorem State.checkHead_kept {a1 : Nat} (h : Kept ⟨A,false,C,D,E,F,G,H,I,J,false,L,M,N,false,P,false,R,S,T,U,V,X,Y,Z⟩ s0 s) : Kept ⟨A,false,C,D,E,F,G,H,I,J,false,L,M,N,false,P,false,R,S,T,U,V,X,Y,Z⟩ s0 (State.checkHead s a1).1 := by
  unfold State.checkHead; with_reducible repeat' first | assumption | intros _ | apply Kept.ite | apply State.modHead_kept | apply State.raiseHead_kept | (refine Kept.upd ?_; first | assumption | apply State.modHead_kept | apply State.raiseHead_kept) | split | apply Kept.foldl | apply Kept.foldl1 | apply Kept.pair1 ‹_› | dsimp only
theorem State.linkLevel_kept {a1 : Nat} (h : Kept ⟨A,B,C,D,E,F,G,H,I,J,false,L,M,N,O,P,false,R,S,T,U,V,X,Y,Z⟩ s0 s) : Kept ⟨A,B,C,D,E,F,G,H,I,J,false,L,M,N,O,P,false,R,S,T,U,V,X,Y,Z⟩ s0 (State.linkLevel s a1) := by
  unfold State.linkLevel; with_reducible repeat' first | assumption | apply Kept.ite | apply State.levelHead_kept
theorem State.beginTraining_kept {a1 : Nat} (h : Kept ⟨A,B,C,D,E,F,G,H,I,J,false,L,M,N,false,P,false,R,S,T,U,V,X,Y,Z⟩ s0 s) : Kept ⟨A,B,C,D,E,F,G,H,I,J,false,L,M,N,false,P,false,R,S,T,U,V,X,Y,Z⟩ s0 (State.beginTraining s a1) := by
  unfold State.beginTraining; with_reducible repeat' first | assumption | intros _ | apply Kept.ite | apply State.linkLevel_kept | apply State.modLink_kept | (refine Kept.upd ?_; first | assumption | apply State.linkLevel_kept | apply State.modLink_kept) | split
theorem State.linkOff_kept {a1 : Nat} {a2 : Bool} (h : Kept ⟨A,B,C,D,E,F,G,H,I,J,false,L,M,N,false,P,false,R,S,T,U,V,X,Y,Z⟩ s0 s) : Kept ⟨A,B,C,D,E,F,G,H,I,J,false,L,M,N,false,P,false,R,S,T,U,V,X,Y,Z⟩ s0 (State.linkOff s a1 a2) := by
  unfold State.linkOff; with_reducible repeat' first | assumption | apply Kept.ite | apply State.linkLevel_kept | apply State.modLink_kept
theorem State.linkFailure_kept {a1 : Nat} {a2 : Bool} (h : Kept ⟨A,false,C,D,E,F,G,H,I,J,false,L,M,N,false,P,false,R,S,T,U,V,X,Y,Z⟩ s0 s) : Kept ⟨A,false,C,D,E,F,G,H,I,J,false,L,M,N,false,P,false,R,S,T,U,V,X,Y,Z⟩ s0 (State.linkFailure s a1 a2) := by
  unfold State.linkFailure; with_reducible repeat' first | assumption | apply Kept.ite | apply State.modHead_kept | apply State.raiseHead_kept | apply State.setLink_kept | apply State.beginTraining_kept
theorem State.linkLoss_kept {a1 : Nat} (h : Kept ⟨A,false,C,D,E,F,G,H,I,J,false,L,M,N,false,P,false,R,S,T,U,V,X,Y,Z⟩ s0 s) : Kept ⟨A,false,C,D,E,F,G,H,I,J,false,L,M,N,false,P,false,R,S,T,U,V,X,Y,Z⟩ s0 (State.linkLoss s a1) := by
  unfold State.linkLoss; with_reducible repeat' first | assumption | apply Kept.ite | apply State.linkFailure_kept | apply State.raiseHead_kept
theorem State.handleIrq_kept {a1 : Nat} {a2 : Bool} (h : Kept ⟨A,false,C,D,E,F,G,H,I,J,false,L,M,N,false,P,false,R,S,T,U,V,X,Y,Z⟩ s0 s) : Kept ⟨A,false,C,D,E,F,G,H,I,J,false,L,M,N,false,P,false,R,S,T,U,V,X,Y,Z⟩ s0 (State.handleIrq s a1 a2) := by
  unfold State.handleIrq; with_reducible repeat' first | assumption | apply Kept.ite | apply State.raiseHead_kept | apply State.linkLoss_kept
theorem State.afterAttempt_kept {a1 : Nat} (h : Kept ⟨A,false,C,D,E,F,G,H,I,J,false,L,M,N,false,P,false,R,S,T,U,V,X,Y,Z⟩ s0 s) : Kept ⟨A,false,C,D,E,F,G,H,I,J,false,L,M,N,false,P,false,R,S,T,U,V,X,Y,Z⟩ s0 (State.afterAttempt s a1) := by
  unfold State.afterAttempt; with_reducible repeat' first | assumption | intros _ | apply Kept.ite | apply State.handleIrq_kept | apply State.modLink_kept | (refine Kept.upd ?_; first | assumption | apply State.handleIrq_kept | apply State.modLink_kept) | split
theorem execHpdUnplug_kept {a1 : Fin 16} (h : Kept ⟨A,false,C,D,E,F,G,H,I,J,false,L,M,N,false,P,false,R,S,T,U,V,X,Y,Z⟩ s0 s) : KeptO ⟨A,false,C,D,E,F,G,H,I,J,false,L,M,N,false,P,false,R,S,T,U,V,X,Y,Z⟩ s0 (execHpdUnplug a1 s) := by
  unfold execHpdUnplug; with_reducible repeat' first | assumption | apply KeptO.next | apply Kept.ite | apply State.modLink_kept | apply State.raiseHead_kept | apply State.linkLevel_kept
theorem execHpdPlug_kept {a1 : Fin 16} {a2 : SinkCaps} (h : Kept ⟨A,false,C,D,E,F,G,H,I,J,false,L,M,N,false,P,false,R,S,T,U,V,X,Y,Z⟩ s0 s) : KeptO ⟨A,false,C,D,E,F,G,H,I,J,false,L,M,N,false,P,false,R,S,T,U,V,X,Y,Z⟩ s0 (execHpdPlug a1 a2 s) := by
  unfold execHpdPlug; with_reducible repeat' first | assumption | apply KeptO.next | apply Kept.ite | apply State.modLink_kept | apply State.raiseHead_kept | apply State.linkLevel_kept | apply State.beginTraining_kept
theorem execIrqHpd_kept {a1 : Fin 16} {a2 : Bool} (h : Kept ⟨A,false,C,D,E,F,G,H,I,J,false,L,M,N,false,P,false,R,S,T,U,V,X,Y,Z⟩ s0 s) : KeptO ⟨A,false,C,D,E,F,G,H,I,J,false,L,M,N,false,P,false,R,S,T,U,V,X,Y,Z⟩ s0 (execIrqHpd a1 a2 s) := by
  unfold execIrqHpd; with_reducible repeat' first | assumption | apply KeptO.next | apply Kept.ite | apply State.modLink_kept | apply State.handleIrq_kept
theorem execTrainingAttemptEnd_kept {a1 : Fin 16} {a2 : Option Trained} (h : Kept ⟨A,false,C,D,E,F,G,H,I,J,false,L,M,N,false,P,false,R,S,T,U,V,X,Y,Z⟩ s0 s) : KeptO ⟨A,false,C,D,E,F,G,H,I,J,false,L,M,N,false,P,false,R,S,T,U,V,X,Y,Z⟩ s0 (execTrainingAttemptEnd a1 a2 s) := by
  unfold execTrainingAttemptEnd; with_reducible repeat' first | assumption | intros _ | apply KeptO.next | apply Kept.ite | apply State.afterAttempt_kept | apply State.raiseHead_kept | apply State.modLink_kept | apply State.linkFailure_kept | (refine Kept.upd ?_; first | assumption | apply State.afterAttempt_kept | apply State.raiseHead_kept | apply State.modLink_kept | apply State.linkFailure_kept) | split
theorem execTrainingTimeout_kept {a1 : Fin 16} (h : Kept ⟨A,false,C,D,E,F,G,H,I,J,false,L,M,N,false,P,false,R,S,T,U,V,X,Y,Z⟩ s0 s) : KeptO ⟨A,false,C,D,E,F,G,H,I,J,false,L,M,N,false,P,false,R,S,T,U,V,X,Y,Z⟩ s0 (execTrainingTimeout a1 s) := by
  unfold execTrainingTimeout; with_reducible repeat' first | assumption | apply KeptO.next | apply Kept.ite | apply State.afterAttempt_kept | apply State.linkFailure_kept
theorem execTrainingRetry_kept {a1 : Fin 16} (h : Kept ⟨A,B,C,D,E,F,G,H,I,J,false,L,M,N,false,P,false,R,S,T,U,V,X,Y,Z⟩ s0 s) : KeptO ⟨A,B,C,D,E,F,G,H,I,J,false,L,M,N,false,P,false,R,S,T,U,V,X,Y,Z⟩ s0 (execTrainingRetry a1 s) := by
  unfold execTrainingRetry; with_reducible repeat' first | assumption | intros _ | apply KeptO.next | apply Kept.ite | apply State.beginTraining_kept | (refine Kept.upd ?_; first | assumption | apply State.beginTraining_kept) | split
theorem State.linkReenable_kept {a1 : Nat} (h : Kept ⟨A,B,C,D,E,F,G,H,I,J,false,L,M,N,false,P,false,R,S,T,U,V,X,Y,Z⟩ s0 s) : Kept ⟨A,B,C,D,E,F,G,H,I,J,false,L,M,N,false,P,false,R,S,T,U,V,X,Y,Z⟩ s0 (State.linkReenable s a1) := by
  unfold State.linkReenable; with_reducible repeat' first | assumption | apply Kept.ite | apply State.modLink_kept | apply State.beginTraining_kept
theorem execLinkReenable_kept {a1 : Fin 16} (h : Kept ⟨A,B,C,D,E,F,G,H,I,J,false,L,M,N,false,P,false,R,S,T,U,V,X,Y,Z⟩ s0 s) : KeptO ⟨A,B,C,D,E,F,G,H,I,J,false,L,M,N,false,P,false,R,S,T,U,V,X,Y,Z⟩ s0 (execLinkReenable a1 s) := by
  unfold execLinkReenable; with_reducible repeat' first | assumption | apply KeptO.next | apply Kept.ite | apply State.linkReenable_kept
theorem State.dropHead_kept {a1 : Nat} (h : Kept ⟨A,B,C,D,E,F,G,H,I,J,K,L,M,false,O,false,Q,R,S,T,U,V,X,Y,Z⟩ s0 s) : Kept ⟨A,B,C,D,E,F,G,H,I,J,K,L,M,false,O,false,Q,R,S,T,U,V,X,Y,Z⟩ s0 (State.dropHead s a1) := by
  unfold State.dropHead; with_reducible repeat' first | assumption | intros _ | apply Kept.ite | (refine Kept.upd ?_; first | assumption) | split
theorem State.startHead_kept {a1 : Nat} {a2 : HState} (h : Kept ⟨A,B,C,D,E,F,G,H,I,J,false,L,M,N,false,false,false,R,S,T,U,V,X,Y,Z⟩ s0 s) : Kept ⟨A,B,C,D,E,F,G,H,I,J,false,L,M,N,false,false,false,R,S,T,U,V,X,Y,Z⟩ s0 (State.startHead s a1 a2) := by
  unfold State.startHead; with_reducible repeat' first | assumption | apply Kept.ite | apply State.modHead_kept | apply State.levelHead_kept | apply State.clearRefs_kept
theorem State.stopHead_kept {a1 : Nat} (h : Kept ⟨A,B,C,D,E,F,G,H,I,J,false,L,M,false,false,false,false,R,S,T,U,V,X,Y,Z⟩ s0 s) : Kept ⟨A,B,C,D,E,F,G,H,I,J,false,L,M,false,false,false,false,R,S,T,U,V,X,Y,Z⟩ s0 (State.stopHead s a1) := by
  unfold State.stopHead; with_reducible repeat' first | assumption | intros _ | apply Kept.ite | apply State.modHead_kept | apply State.dropHead_kept | apply State.levelHead_kept | apply State.linkOff_kept | (refine Kept.upd ?_; first | assumption | apply State.modHead_kept | apply State.dropHead_kept | apply State.levelHead_kept | apply State.linkOff_kept) | split
theorem State.enterMode_kept {a1 : List Nat} {a2 : Nat} (h : Kept ⟨A,false,C,D,E,F,false,H,I,J,false,L,M,false,false,false,false,R,S,T,U,V,X,Y,Z⟩ s0 s) : Kept ⟨A,false,C,D,E,F,false,H,I,J,false,L,M,false,false,false,false,R,S,T,U,V,X,Y,Z⟩ s0 (State.enterMode s a1 a2) := by
  unfold State.enterMode; with_reducible repeat' first | assumption | intros _ | apply Kept.ite | apply State.checkHead_kept | refine Kept.pair1 ‹_› (State.checkHead_kept ?_) | apply State.startHead_kept | apply State.callHead_kept | (refine Kept.upd ?_; first | assumption | apply State.checkHead_kept | refine Kept.pair1 ‹_› (State.checkHead_kept ?_) | apply State.startHead_kept | apply State.callHead_kept) | split
theorem State.judgeMisfit_kept {a1 : Nat} {a2 : Bool} (h : Kept ⟨A,B,C,D,E,F,G,H,I,J,false,L,M,N,false,P,false,R,S,T,U,V,X,Y,Z⟩ s0 s) : Kept ⟨A,B,C,D,E,F,G,H,I,J,false,L,M,N,false,P,false,R,S,T,U,V,X,Y,Z⟩ s0 (State.judgeMisfit s a1 a2) := by
  unfold State.judgeMisfit; with_reducible repeat' first | assumption | apply Kept.ite | apply State.levelHead_kept | apply State.modHead_kept
theorem State.endAnalysisAt_kept {a1 : Nat} {a2 : Option Scene} {a3 : Option Scene} (h : Kept ⟨false,false,false,D,E,F,G,H,I,J,false,L,false,false,false,false,false,R,false,T,U,V,X,Y,Z⟩ s0 s) : Kept ⟨false,false,false,D,E,F,G,H,I,J,false,L,false,false,false,false,false,R,false,T,U,V,X,Y,Z⟩ s0 (State.endAnalysisAt s a1 a2 a3) := by
  unfold State.endAnalysisAt; with_reducible repeat' first | assumption | intros _ | apply Kept.ite | apply State.endAnalysis_kept | (refine Kept.upd ?_; first | assumption | apply State.endAnalysis_kept) | split
theorem State.takeScene_kept {a1 : Nat} (h : Kept ⟨false,false,false,D,E,F,G,H,I,J,false,L,false,false,false,false,false,R,false,T,U,V,X,Y,Z⟩ s0 s) : Kept ⟨false,false,false,D,E,F,G,H,I,J,false,L,false,false,false,false,false,R,false,T,U,V,X,Y,Z⟩ s0 (State.takeScene s a1) := by
  unfold State.takeScene; with_reducible repeat' first | assumption | intros _ | apply Kept.ite | apply State.modHead_kept | apply State.endAnalysisAt_kept | apply State.clearRefs_kept | (refine Kept.upd ?_; first | assumption | apply State.modHead_kept | apply State.endAnalysisAt_kept | apply State.clearRefs_kept) | split | apply Kept.foldl | apply Kept.foldl1 | apply Kept.pair1 ‹_› | dsimp only
theorem State.latchHead_kept {a1 : Nat} (h : Kept ⟨false,false,false,D,E,F,G,H,I,J,false,L,false,false,false,false,false,false,false,false,U,V,X,Y,Z⟩ s0 s) : Kept ⟨false,false,false,D,E,F,G,H,I,J,false,L,false,false,false,false,false,false,false,false,U,V,X,Y,Z⟩ s0 (State.latchHead s a1) := by
  unfold State.latchHead; with_reducible repeat' first | assumption | apply Kept.ite | apply State.latchEntries_kept | apply State.modHead_kept | apply State.unsubscribeUnused_kept | apply State.takeScene_kept | apply State.judgeMisfit_kept
theorem execCommitAhead_kept {a1 : Fin 16} (h : Kept ⟨A,false,C,D,E,F,G,H,I,J,false,L,M,N,O,P,false,R,S,T,U,V,X,Y,Z⟩ s0 s) : KeptO ⟨A,false,C,D,E,F,G,H,I,J,false,L,M,N,O,P,false,R,S,T,U,V,X,Y,Z⟩ s0 (execCommitAhead a1 s) := by
  unfold execCommitAhead; with_reducible repeat' first | assumption | apply KeptO.next | apply Kept.ite | apply State.raiseHead_kept
theorem State.headResume_kept {a1 : Nat} (h : Kept ⟨A,false,C,D,E,F,false,H,I,J,false,L,M,false,false,false,false,R,S,T,U,V,X,Y,Z⟩ s0 s) : Kept ⟨A,false,C,D,E,F,false,H,I,J,false,L,M,false,false,false,false,R,S,T,U,V,X,Y,Z⟩ s0 (State.headResume s a1) := by
  unfold State.headResume; with_reducible repeat' first | assumption | apply Kept.ite | apply State.callHead_kept
theorem execHeadResume_kept {a1 : Fin 16} (h : Kept ⟨A,false,C,D,E,F,false,H,I,J,false,L,M,false,false,false,false,R,S,T,U,V,X,Y,Z⟩ s0 s) : KeptO ⟨A,false,C,D,E,F,false,H,I,J,false,L,M,false,false,false,false,R,S,T,U,V,X,Y,Z⟩ s0 (execHeadResume a1 s) := by
  unfold execHeadResume; with_reducible repeat' first | assumption | apply KeptO.next | apply Kept.ite | apply State.headResume_kept
theorem State.steer_kept {a1 : Nat} {a2 : Nat} (h : Kept ⟨A,false,C,D,E,F,G,H,I,J,false,L,M,N,false,P,false,R,S,T,U,false,X,Y,Z⟩ s0 s) : Kept ⟨A,false,C,D,E,F,G,H,I,J,false,L,M,N,false,P,false,R,S,T,U,false,X,Y,Z⟩ s0 (State.steer s a1 a2) := by
  unfold State.steer; with_reducible repeat' first | assumption | intros _ | apply Kept.ite | apply State.draw_kept | refine Kept.pair2 ‹_› (State.draw_kept ?_) | apply State.setHead_kept | apply State.raiseHead_kept | (refine Kept.upd ?_; first | assumption | apply State.draw_kept | refine Kept.pair2 ‹_› (State.draw_kept ?_) | apply State.setHead_kept | apply State.raiseHead_kept) | split | apply Kept.foldl | apply Kept.foldl1 | apply Kept.pair1 ‹_› | dsimp only
theorem State.enterHoldover_kept {a1 : Nat} (h : Kept ⟨A,false,C,D,E,F,G,H,I,J,false,L,M,N,false,P,false,R,S,T,U,V,X,Y,Z⟩ s0 s) : Kept ⟨A,false,C,D,E,F,G,H,I,J,false,L,M,N,false,P,false,R,S,T,U,V,X,Y,Z⟩ s0 (State.enterHoldover s a1) := by
  unfold State.enterHoldover; with_reducible repeat' first | assumption | apply Kept.ite | apply State.setHead_kept | apply State.raiseHead_kept | apply State.levelHead_kept
theorem State.syncEdge_kept {a1 : Option Nat} {a2 : Nat} (h : Kept ⟨A,false,C,D,E,F,G,H,I,J,false,L,M,N,false,P,false,R,S,T,U,V,X,Y,Z⟩ s0 s) : Kept ⟨A,false,C,D,E,F,G,H,I,J,false,L,M,N,false,P,false,R,S,T,U,V,X,Y,Z⟩ s0 (State.syncEdge s a1 a2) := by
  unfold State.syncEdge; with_reducible repeat' first | assumption | apply Kept.ite | apply State.enterHoldover_kept | apply State.setHead_kept | apply State.levelHead_kept
theorem execSyncInEdge_kept (h : Kept ⟨A,false,C,D,E,F,G,H,I,J,false,L,M,N,false,P,false,R,S,T,U,V,X,Y,Z⟩ s0 s) : KeptO ⟨A,false,C,D,E,F,G,H,I,J,false,L,M,N,false,P,false,R,S,T,U,V,X,Y,Z⟩ s0 (execSyncInEdge s) := by
  unfold execSyncInEdge; with_reducible repeat' first | assumption | intros _ | apply KeptO.next | apply Kept.ite | apply State.forEach_kept | apply State.syncEdge_kept | (refine Kept.upd ?_; first | assumption | apply State.forEach_kept | apply State.syncEdge_kept) | split
theorem execSyncInLost_kept (h : Kept ⟨A,false,C,D,E,F,G,H,I,J,false,L,M,N,false,P,false,R,S,T,U,V,X,Y,Z⟩ s0 s) : KeptO ⟨A,false,C,D,E,F,G,H,I,J,false,L,M,N,false,P,false,R,S,T,U,V,X,Y,Z⟩ s0 (execSyncInLost s) := by
  unfold execSyncInLost; with_reducible repeat' first | assumption | intros _ | apply KeptO.next | apply Kept.ite | apply State.forEach_kept | apply State.enterHoldover_kept | (refine Kept.upd ?_; first | assumption | apply State.forEach_kept | apply State.enterHoldover_kept) | split
theorem State.compareSink_kept {a1 : Nat} {a2 : Bool} {a3 : SinkCrc} (h : Kept ⟨A,false,C,D,E,F,G,H,I,J,false,L,M,N,false,P,false,R,S,T,U,V,X,Y,Z⟩ s0 s) : Kept ⟨A,false,C,D,E,F,G,H,I,J,false,L,M,N,false,P,false,R,S,T,U,V,X,Y,Z⟩ s0 (State.compareSink s a1 a2 a3) := by
  unfold State.compareSink; with_reducible repeat' first | assumption | apply Kept.ite | apply State.setLink_kept | apply State.raiseHead_kept
theorem State.linkLineZero_kept {a1 : Nat} {a2 : HState} (h : Kept ⟨A,B,C,D,E,F,G,H,I,J,false,L,M,N,false,P,false,R,S,T,U,V,X,Y,Z⟩ s0 s) : Kept ⟨A,B,C,D,E,F,G,H,I,J,false,L,M,N,false,P,false,R,S,T,U,V,X,Y,Z⟩ s0 (State.linkLineZero s a1 a2) := by
  unfold State.linkLineZero; with_reducible repeat' first | assumption | apply Kept.ite | apply State.linkOff_kept | apply State.setLink_kept | apply State.beginTraining_kept
theorem State.wbAtLineZero_kept {a1 : Nat} (h : Kept ⟨A,false,C,false,E,F,false,H,I,J,false,L,M,N,O,false,false,R,S,T,U,V,X,Y,Z⟩ s0 s) : Kept ⟨A,false,C,false,E,F,false,H,I,J,false,L,M,N,O,false,false,R,S,T,U,V,X,Y,Z⟩ s0 (State.wbAtLineZero s a1) := by
  unfold State.wbAtLineZero; with_reducible repeat' first | assumption | intros _ | apply Kept.ite | apply State.forEach_kept | apply State.wbFinish_kept | (refine Kept.upd ?_; first | assumption | apply State.forEach_kept | apply State.wbFinish_kept) | split
theorem State.showFrame_kept {a1 : Nat} (h : Kept ⟨A,false,C,D,E,F,G,H,I,J,false,L,M,N,false,P,false,R,S,T,U,V,X,Y,Z⟩ s0 s) : Kept ⟨A,false,C,D,E,F,G,H,I,J,false,L,M,N,false,P,false,R,S,T,U,V,X,Y,Z⟩ s0 (State.showFrame s a1) := by
  unfold State.showFrame; with_reducible repeat' first | assumption | apply Kept.ite | apply State.setHead_kept | apply State.raiseHead_kept
theorem State.lineZero_kept {a1 : Nat} {a2 : Calls} {a3 : SinkCrc} (h : Kept ⟨A,false,C,false,E,F,false,H,I,J,false,L,M,false,false,false,false,R,S,T,U,false,X,Y,Z⟩ s0 s) : Kept ⟨A,false,C,false,E,F,false,H,I,J,false,L,M,false,false,false,false,R,S,T,U,false,X,Y,Z⟩ s0 (State.lineZero s a1 a2 a3) := by
  unfold State.lineZero; with_reducible repeat' first | assumption | intros _ | apply Kept.ite | apply State.compareSink_kept | apply State.wbAtLineZero_kept | apply State.setHead_kept | apply State.steer_kept | apply State.recompose_kept | apply State.mapRegions_kept | apply State.clearRefs_kept | apply State.levelHead_kept | apply State.showFrame_kept | apply State.judgeMisfit_kept | apply State.linkLineZero_kept | apply State.forEach_kept | apply State.wbLineZero_kept | (refine Kept.upd ?_; first | assumption | apply State.compareSink_kept | apply State.wbAtLineZero_kept | apply State.setHead_kept | apply State.steer_kept | apply State.recompose_kept | apply State.mapRegions_kept | apply State.clearRefs_kept | apply State.levelHead_kept | apply State.showFrame_kept | apply State.judgeMisfit_kept | apply State.linkLineZero_kept | apply State.forEach_kept | apply State.wbLineZero_kept) | split
theorem State.frameStart_kept {a1 : Nat} {a2 : Calls} {a3 : SinkCrc} (h : Kept ⟨A,false,C,false,E,F,false,H,I,J,false,L,M,false,false,false,false,R,S,T,U,false,X,Y,Z⟩ s0 s) : Kept ⟨A,false,C,false,E,F,false,H,I,J,false,L,M,false,false,false,false,R,S,T,U,false,X,Y,Z⟩ s0 (State.frameStart s a1 a2 a3) := by
  unfold State.frameStart; with_reducible repeat' first | assumption | apply Kept.ite | apply State.stopHead_kept | apply State.wbAtLineZero_kept | apply State.startHead_kept | apply State.lineZero_kept
theorem execFrameStart_kept {a1 : Fin 16} {a2 : SinkCrc} (h : Kept ⟨A,false,C,false,E,F,false,H,I,J,false,L,M,false,false,false,false,R,S,T,U,false,X,Y,Z⟩ s0 s) : KeptO ⟨A,false,C,false,E,F,false,H,I,J,false,L,M,false,false,false,false,R,S,T,U,false,X,Y,Z⟩ s0 (execFrameStart a1 a2 s) := by
  unfold execFrameStart; with_reducible repeat' first | assumption | apply KeptO.next | apply Kept.ite | apply State.frameStart_kept | apply State.modHead_kept

end Sys2Proof.Machine
end

