-- ==== Sys2Proof/Laws/KeptDomain.lean ====
section
/-!
SUPPORT. What the functions of the model keep (see Kept): the domain, the LOP base, modes and banks. A lemma of a function names by false the parts it may write.
-/

set_option linter.all false
set_option Elab.async false

namespace Sys2Proof.Machine

variable {A B C D E F G H I J K L M N O P Q R S T U V X Y Z : Bool} {s0 s : State}

theorem State.endCommit_kept {a1 : Nat} {a2 : Exec} {a3 : Detail} {a4 : Nat} (h : Kept ⟨A,B,C,false,false,F,false,false,I,J,K,L,M,N,O,P,Q,R,S,T,U,V,X,Y,Z⟩ s0 s) : Kept ⟨A,B,C,false,false,F,false,false,I,J,K,L,M,N,O,P,Q,R,S,T,U,V,X,Y,Z⟩ s0 (State.endCommit s a1 a2 a3 a4) := by
  unfold State.endCommit; with_reducible repeat' first | assumption | apply Kept.ite | apply State.finishAt_kept | apply State.writeDetail_kept
theorem State.commitElastic_kept {a1 : Nat} {a2 : Nat} {a3 : Exec} {a4 : Except Detail Scene} (h : Kept ⟨A,false,C,false,false,F,false,false,I,J,false,false,false,false,false,P,false,false,false,T,U,V,X,Y,Z⟩ s0 s) : Kept ⟨A,false,C,false,false,F,false,false,I,J,false,false,false,false,false,P,false,false,false,T,U,V,X,Y,Z⟩ s0 (State.commitElastic s a1 a2 a3 a4) := by
  unfold State.commitElastic; with_reducible repeat' first | assumption | intros _ | apply Kept.ite | apply State.endCommit_kept | apply State.countRejected_kept | apply State.noteCheck_kept | apply State.maskForScenes_kept | apply State.acceptScene_kept | (refine Kept.upd ?_; first | assumption | apply State.endCommit_kept | apply State.countRejected_kept | apply State.noteCheck_kept | apply State.maskForScenes_kept | apply State.acceptScene_kept) | split
theorem State.scheduleHead_kept {a1 : Offer} {a2 : Nat} {a3 : Nat} (h : Kept ⟨A,false,C,D,E,F,G,H,I,J,false,L,M,N,false,P,false,R,S,T,U,V,X,Y,Z⟩ s0 s) : Kept ⟨A,false,C,D,E,F,G,H,I,J,false,L,M,N,false,P,false,R,S,T,U,V,X,Y,Z⟩ s0 (State.scheduleHead s a1 a2 a3) := by
  unfold State.scheduleHead; with_reducible repeat' first | assumption | apply Kept.ite | apply State.supersede_kept | apply State.modHead_kept
theorem State.offerDone_kept {a1 : Offer} {a2 : Detail} {a3 : Nat} (h : Kept ⟨A,B,C,false,false,F,false,false,I,J,K,L,M,N,O,P,Q,R,S,T,U,V,X,Y,Z⟩ s0 s) : Kept ⟨A,B,C,false,false,F,false,false,I,J,K,L,M,N,O,P,Q,R,S,T,U,V,X,Y,Z⟩ s0 (State.offerDone s a1 a2 a3) := by
  unfold State.offerDone; with_reducible repeat' first | assumption | intros _ | apply Kept.ite | apply State.endCommit_kept | (refine Kept.upd ?_; first | assumption | apply State.endCommit_kept) | split
theorem State.takeEpoch_kept {a1 : Offer} {a2 : Bool} (h : Kept ⟨A,false,C,false,false,F,false,false,I,J,false,false,false,false,false,P,false,false,false,T,U,V,X,Y,Z⟩ s0 s) : Kept ⟨A,false,C,false,false,F,false,false,I,J,false,false,false,false,false,P,false,false,false,T,U,V,X,Y,Z⟩ s0 (State.takeEpoch s a1 a2) := by
  unfold State.takeEpoch; with_reducible repeat' first | assumption | intros _ | (extract_lets +onlyGivenNames x; first | (refine Kept.cut (A := Kept ⟨A,false,C,false,false,F,false,false,I,J,false,false,false,false,false,P,false,false,false,T,U,V,X,Y,Z⟩ s0 x) ?_ ?_; (on_goal 1 => unfold x; clear x); on_goal 2 => clear_value x; intro hx) | (refine Kept.cut (A := Kept ⟨A,false,C,false,false,F,false,false,I,J,false,false,false,false,false,P,false,false,false,T,U,V,X,Y,Z⟩ s0 x.1) ?_ ?_; (on_goal 1 => unfold x; clear x); on_goal 2 => clear_value x; intro hx) | (have y : Sys := x; clear y; unfold x; clear x) | clear_value x) | apply Kept.ite | apply State.scheduleHead_kept | apply State.maskForScenes_kept | apply State.subscribeScene_kept | apply State.countAccepted_kept | apply State.offerDone_kept | (refine Kept.upd ?_; first | assumption | apply State.scheduleHead_kept | apply State.maskForScenes_kept | apply State.subscribeScene_kept | apply State.countAccepted_kept | apply State.offerDone_kept) | split | apply Kept.foldl | apply Kept.foldl1 | apply Kept.pair1 ‹_› | dsimp only
theorem State.abortAnswer_kept {a1 : Offer} (h : Kept ⟨A,false,C,false,false,F,false,false,I,J,false,L,M,N,O,P,false,false,S,T,U,V,X,Y,Z⟩ s0 s) : Kept ⟨A,false,C,false,false,F,false,false,I,J,false,L,M,N,O,P,false,false,S,T,U,V,X,Y,Z⟩ s0 (State.abortAnswer s a1) := by
  unfold State.abortAnswer; with_reducible repeat' first | assumption | intros _ | apply Kept.ite | apply State.raise_kept | apply State.offerDone_kept | (refine Kept.upd ?_; first | assumption | apply State.raise_kept | apply State.offerDone_kept) | split
theorem State.splitFlip_kept {a1 : Offer} (h : Kept ⟨A,false,C,false,false,F,false,false,I,J,false,false,false,false,false,P,false,false,false,T,U,V,X,Y,Z⟩ s0 s) : Kept ⟨A,false,C,false,false,F,false,false,I,J,false,false,false,false,false,P,false,false,false,T,U,V,X,Y,Z⟩ s0 (State.splitFlip s a1) := by
  unfold State.splitFlip; with_reducible repeat' first | assumption | intros _ | apply Kept.ite | apply State.raise_kept | apply State.takeEpoch_kept | (refine Kept.upd ?_; first | assumption | apply State.raise_kept | apply State.takeEpoch_kept) | split
theorem State.reportShows_kept {a1 : Nat} {a2 : Nat} (h : Kept ⟨A,false,C,false,false,F,false,false,I,J,false,false,false,false,false,P,false,false,false,T,U,V,X,Y,Z⟩ s0 s) : Kept ⟨A,false,C,false,false,F,false,false,I,J,false,false,false,false,false,P,false,false,false,T,U,V,X,Y,Z⟩ s0 (State.reportShows s a1 a2) := by
  unfold State.reportShows; with_reducible repeat' first | assumption | intros _ | apply Kept.ite | apply State.splitFlip_kept | (refine Kept.upd ?_; first | assumption | apply State.splitFlip_kept) | split
theorem State.dropOffer_kept (h : Kept ⟨A,false,C,false,false,F,false,false,I,J,false,L,M,N,O,P,false,false,S,T,U,V,X,Y,Z⟩ s0 s) : Kept ⟨A,false,C,false,false,F,false,false,I,J,false,L,M,N,O,P,false,false,S,T,U,V,X,Y,Z⟩ s0 (State.dropOffer s) := by
  unfold State.dropOffer; with_reducible repeat' first | assumption | intros _ | apply Kept.ite | apply State.forEach_kept | apply State.raiseHead_kept | apply State.offerDone_kept | (refine Kept.upd ?_; first | assumption | apply State.forEach_kept | apply State.raiseHead_kept | apply State.offerDone_kept) | split
theorem State.judgePrepare_kept {a1 : Nat} {a2 : Nat} (h : Kept ⟨A,false,C,false,false,F,false,false,I,J,false,false,false,N,O,P,false,false,S,T,U,V,X,Y,Z⟩ s0 s) : Kept ⟨A,false,C,false,false,F,false,false,I,J,false,false,false,N,O,P,false,false,S,T,U,V,X,Y,Z⟩ s0 (State.judgePrepare s a1 a2).1 := by
  unfold State.judgePrepare; with_reducible repeat' first | assumption | intros _ | apply Kept.ite | apply State.dropOffer_kept | apply State.offerDone_kept | apply State.countRejected_kept | apply State.noteCheck_kept | apply State.subscribeScene_kept | (refine Kept.upd ?_; first | assumption | apply State.dropOffer_kept | apply State.offerDone_kept | apply State.countRejected_kept | apply State.noteCheck_kept | apply State.subscribeScene_kept) | split | apply Kept.foldl | apply Kept.foldl1 | apply Kept.pair1 ‹_› | dsimp only
theorem State.takeDecision_kept {a1 : Nat} {a2 : Nat} {a3 : Nat} (h : Kept ⟨A,false,C,false,false,F,false,false,I,J,false,false,false,false,false,P,false,false,false,T,U,V,X,Y,Z⟩ s0 s) : Kept ⟨A,false,C,false,false,F,false,false,I,J,false,false,false,false,false,P,false,false,false,T,U,V,X,Y,Z⟩ s0 (State.takeDecision s a1 a2 a3) := by
  unfold State.takeDecision; with_reducible repeat' first | assumption | intros _ | apply Kept.ite | apply State.abortAnswer_kept | apply State.takeEpoch_kept | (refine Kept.upd ?_; first | assumption | apply State.abortAnswer_kept | apply State.takeEpoch_kept) | split | apply Kept.foldl | apply Kept.foldl1 | apply Kept.pair1 ‹_› | dsimp only
theorem State.decideFlight_kept {a1 : Flight} {a2 : Nat} (h : Kept ⟨A,false,C,false,false,F,false,false,I,J,false,false,false,false,false,P,false,false,false,T,U,V,X,Y,Z⟩ s0 s) : Kept ⟨A,false,C,false,false,F,false,false,I,J,false,false,false,false,false,P,false,false,false,T,U,V,X,Y,Z⟩ s0 (State.decideFlight s a1 a2) := by
  unfold State.decideFlight; with_reducible repeat' first | assumption | intros _ | apply Kept.ite | apply State.sendTree_kept | apply State.takeDecision_kept | (refine Kept.upd ?_; first | assumption | apply State.sendTree_kept | apply State.takeDecision_kept) | split
theorem State.noteAnswer_kept {a1 : Nat} {a2 : Nat} {a3 : Nat} (h : Kept ⟨A,false,C,false,false,F,false,false,I,J,false,false,false,false,false,P,false,false,false,T,U,V,X,Y,Z⟩ s0 s) : Kept ⟨A,false,C,false,false,F,false,false,I,J,false,false,false,false,false,P,false,false,false,T,U,V,X,Y,Z⟩ s0 (State.noteAnswer s a1 a2 a3) := by
  unfold State.noteAnswer; with_reducible repeat' first | assumption | intros _ | apply Kept.ite | apply State.decideFlight_kept | (refine Kept.upd ?_; first | assumption | apply State.decideFlight_kept) | split
theorem State.sendPrepare_kept (h : Kept ⟨A,false,C,false,false,F,false,false,I,J,false,false,false,false,false,P,false,false,false,T,U,V,X,Y,Z⟩ s0 s) : Kept ⟨A,false,C,false,false,F,false,false,I,J,false,false,false,false,false,P,false,false,false,T,U,V,X,Y,Z⟩ s0 (State.sendPrepare s) := by
  unfold State.sendPrepare; with_reducible repeat' first | assumption | intros _ | apply Kept.ite | apply State.sendTreesAB_kept | apply State.judgePrepare_kept | refine Kept.pair1 ‹_› (State.judgePrepare_kept ?_) | apply State.noteAnswer_kept | (refine Kept.upd ?_; first | assumption | apply State.sendTreesAB_kept | apply State.judgePrepare_kept | refine Kept.pair1 ‹_› (State.judgePrepare_kept ?_) | apply State.noteAnswer_kept) | split
theorem State.prepareIfAll_kept (h : Kept ⟨A,false,C,false,false,F,false,false,I,J,false,false,false,false,false,P,false,false,false,T,U,V,X,Y,Z⟩ s0 s) : Kept ⟨A,false,C,false,false,F,false,false,I,J,false,false,false,false,false,P,false,false,false,T,U,V,X,Y,Z⟩ s0 (State.prepareIfAll s) := by
  unfold State.prepareIfAll; with_reducible repeat' first | assumption | apply Kept.ite | apply State.sendPrepare_kept
theorem State.noteOffer_kept {a1 : Nat} {a2 : Nat} (h : Kept ⟨A,false,C,false,false,F,false,false,I,J,false,false,false,false,false,P,false,false,false,T,U,V,X,Y,Z⟩ s0 s) : Kept ⟨A,false,C,false,false,F,false,false,I,J,false,false,false,false,false,P,false,false,false,T,U,V,X,Y,Z⟩ s0 (State.noteOffer s a1 a2) := by
  unfold State.noteOffer; with_reducible repeat' first | assumption | intros _ | apply Kept.ite | apply State.prepareIfAll_kept | (refine Kept.upd ?_; first | assumption | apply State.prepareIfAll_kept) | split
theorem State.commitCoherent_kept {a1 : Nat} {a2 : Nat} {a3 : Exec} {a4 : Except Detail Scene} (h : Kept ⟨A,false,C,false,false,F,false,false,I,J,false,false,false,false,false,P,false,false,false,T,U,V,X,Y,Z⟩ s0 s) : Kept ⟨A,false,C,false,false,F,false,false,I,J,false,false,false,false,false,P,false,false,false,T,U,V,X,Y,Z⟩ s0 (State.commitCoherent s a1 a2 a3 a4) := by
  unfold State.commitCoherent; with_reducible repeat' first | assumption | intros _ | apply Kept.ite | apply State.endCommit_kept | apply State.countRejected_kept | apply State.noteCheck_kept | apply State.keepRunning_kept | apply State.dropOffer_kept | apply State.noteOffer_kept | apply State.sendTo_kept | (refine Kept.upd ?_; first | assumption | apply State.endCommit_kept | apply State.countRejected_kept | apply State.noteCheck_kept | apply State.keepRunning_kept | apply State.dropOffer_kept | apply State.noteOffer_kept | apply State.sendTo_kept) | split | apply Kept.foldl | apply Kept.foldl1 | apply Kept.pair1 ‹_› | dsimp only
theorem execCommitScene_kept {a1 : Fin 256} {a2 : Nat} (h : Kept ⟨A,false,C,false,false,F,false,false,I,J,false,false,false,false,false,P,false,false,false,T,U,V,X,Y,Z⟩ s0 s) : KeptO ⟨A,false,C,false,false,F,false,false,I,J,false,false,false,false,false,P,false,false,false,T,U,V,X,Y,Z⟩ s0 (execCommitScene a1 a2 s) := by
  unfold execCommitScene; with_reducible repeat' first | assumption | intros _ | apply KeptO.next | apply Kept.ite | apply State.serveCheck_kept | apply State.commitCoherent_kept | apply State.commitElastic_kept | (refine Kept.upd ?_; first | assumption | apply State.serveCheck_kept | apply State.commitCoherent_kept | apply State.commitElastic_kept) | split
theorem State.leaveDomain_kept (h : Kept ⟨A,false,C,false,false,F,false,false,I,J,false,L,M,N,O,P,false,false,S,T,U,V,X,Y,Z⟩ s0 s) : Kept ⟨A,false,C,false,false,F,false,false,I,J,false,L,M,N,O,P,false,false,S,T,U,V,X,Y,Z⟩ s0 (State.leaveDomain s) := by
  unfold State.leaveDomain; with_reducible repeat' first | assumption | intros _ | apply Kept.ite | apply State.dropOffer_kept | apply State.raise_kept | apply State.offerDone_kept | (refine Kept.upd ?_; first | assumption | apply State.dropOffer_kept | apply State.raise_kept | apply State.offerDone_kept) | split | apply Kept.foldl | apply Kept.foldl1 | apply Kept.pair1 ‹_› | dsimp only
theorem execOffer_kept {a1 : Msg} (h : Kept ⟨A,false,C,false,false,F,false,false,I,J,false,false,false,false,false,P,false,false,false,T,U,V,X,Y,Z⟩ s0 s) : KeptO ⟨A,false,C,false,false,F,false,false,I,J,false,false,false,false,false,P,false,false,false,T,U,V,X,Y,Z⟩ s0 (execOffer a1 s) := by
  unfold execOffer; with_reducible repeat' first | assumption | apply KeptO.next | apply Kept.ite | apply State.noteOffer_kept
theorem execGatherTimeout_kept (h : Kept ⟨A,false,C,false,false,F,false,false,I,J,false,false,false,false,false,P,false,false,false,T,U,V,X,Y,Z⟩ s0 s) : KeptO ⟨A,false,C,false,false,F,false,false,I,J,false,false,false,false,false,P,false,false,false,T,U,V,X,Y,Z⟩ s0 (execGatherTimeout s) := by
  unfold execGatherTimeout; with_reducible repeat' first | assumption | intros _ | apply KeptO.next | apply Kept.ite | apply State.sendPrepare_kept | (refine Kept.upd ?_; first | assumption | apply State.sendPrepare_kept) | split
theorem execPrepare_kept {a1 : Msg} (h : Kept ⟨A,false,C,false,false,F,false,false,I,J,false,false,false,N,O,P,false,false,S,T,U,V,X,Y,Z⟩ s0 s) : KeptO ⟨A,false,C,false,false,F,false,false,I,J,false,false,false,N,O,P,false,false,S,T,U,V,X,Y,Z⟩ s0 (execPrepare a1 s) := by
  unfold execPrepare; with_reducible repeat' first | assumption | apply KeptO.next | apply Kept.ite | apply State.judgePrepare_kept | refine Kept.pair1 ‹_› (State.judgePrepare_kept ?_) | apply State.sendTo_kept
theorem execAnswer_kept {a1 : Msg} (h : Kept ⟨A,false,C,false,false,F,false,false,I,J,false,false,false,false,false,P,false,false,false,T,U,V,X,Y,Z⟩ s0 s) : KeptO ⟨A,false,C,false,false,F,false,false,I,J,false,false,false,false,false,P,false,false,false,T,U,V,X,Y,Z⟩ s0 (execAnswer a1 s) := by
  unfold execAnswer; with_reducible repeat' first | assumption | apply KeptO.next | apply Kept.ite | apply State.noteAnswer_kept
theorem execDecisionDeadline_kept (h : Kept ⟨A,false,C,false,false,F,false,false,I,J,false,false,false,false,false,P,false,false,false,T,U,V,X,Y,Z⟩ s0 s) : KeptO ⟨A,false,C,false,false,F,false,false,I,J,false,false,false,false,false,P,false,false,false,T,U,V,X,Y,Z⟩ s0 (execDecisionDeadline s) := by
  unfold execDecisionDeadline; with_reducible repeat' first | assumption | intros _ | apply KeptO.next | apply Kept.ite | apply State.decideFlight_kept | (refine Kept.upd ?_; first | assumption | apply State.decideFlight_kept) | split
theorem execDecision_kept {a1 : Msg} (h : Kept ⟨A,false,C,false,false,F,false,false,I,J,false,false,false,false,false,P,false,false,false,T,U,V,X,Y,Z⟩ s0 s) : KeptO ⟨A,false,C,false,false,F,false,false,I,J,false,false,false,false,false,P,false,false,false,T,U,V,X,Y,Z⟩ s0 (execDecision a1 s) := by
  unfold execDecision; with_reducible repeat' first | assumption | apply KeptO.next | apply Kept.ite | apply State.takeDecision_kept
theorem State.setTimeState_kept {a1 : Nat} (h : Kept ⟨A,false,C,D,E,F,G,H,I,J,false,L,M,N,O,P,false,false,S,T,U,V,X,Y,Z⟩ s0 s) : Kept ⟨A,false,C,D,E,F,G,H,I,J,false,L,M,N,O,P,false,false,S,T,U,V,X,Y,Z⟩ s0 (State.setTimeState s a1) := by
  unfold State.setTimeState; with_reducible repeat' first | assumption | intros _ | apply Kept.ite | apply State.level_kept | apply State.raise_kept | (refine Kept.upd ?_; first | assumption | apply State.level_kept | apply State.raise_kept) | split
theorem State.setTimeRoot_kept {a1 : Nat} (h : Kept ⟨A,false,C,D,E,F,G,H,I,J,false,L,M,N,O,P,false,false,S,T,U,V,X,Y,Z⟩ s0 s) : Kept ⟨A,false,C,D,E,F,G,H,I,J,false,L,M,N,O,P,false,false,S,T,U,V,X,Y,Z⟩ s0 (State.setTimeRoot s a1) := by
  unfold State.setTimeRoot; with_reducible repeat' first | assumption | intros _ | apply Kept.ite | apply State.setTimeState_kept | apply State.raise_kept | (refine Kept.upd ?_; first | assumption | apply State.setTimeState_kept | apply State.raise_kept) | split
theorem State.chooseRoot_kept (h : Kept ⟨A,B,C,D,E,F,G,H,I,J,K,L,M,N,O,P,Q,R,S,T,U,false,X,Y,Z⟩ s0 s) : Kept ⟨A,B,C,D,E,F,G,H,I,J,K,L,M,N,O,P,Q,R,S,T,U,false,X,Y,Z⟩ s0 (State.chooseRoot s).2 := by
  unfold State.chooseRoot; with_reducible repeat' first | assumption | apply Kept.ite | apply State.draw_kept | refine Kept.pair2 ‹_› (State.draw_kept ?_)
theorem State.setGenerations_kept {a1 : Nat} (h : Kept ⟨A,false,C,D,E,F,G,H,I,J,false,L,M,N,O,P,false,false,S,T,U,V,X,Y,Z⟩ s0 s) : Kept ⟨A,false,C,D,E,F,G,H,I,J,false,L,M,N,O,P,false,false,S,T,U,V,X,Y,Z⟩ s0 (State.setGenerations s a1) := by
  unfold State.setGenerations; with_reducible repeat' first | assumption | intros _ | apply Kept.ite | apply State.raise_kept | (refine Kept.upd ?_; first | assumption | apply State.raise_kept) | split
theorem State.sendBeat_kept {a1 : Beat} (h : Kept ⟨A,B,C,D,E,F,G,H,I,J,K,L,M,N,O,P,Q,false,S,T,U,V,X,Y,Z⟩ s0 s) : Kept ⟨A,B,C,D,E,F,G,H,I,J,K,L,M,N,O,P,Q,false,S,T,U,V,X,Y,Z⟩ s0 (State.sendBeat s a1) := by
  unfold State.sendBeat; with_reducible repeat' first | assumption | intros _ | apply Kept.ite | apply State.forEach_kept | apply State.sendNeighbour_kept | apply State.sendTo_kept | (refine Kept.upd ?_; first | assumption | apply State.forEach_kept | apply State.sendNeighbour_kept | apply State.sendTo_kept) | split | apply Kept.foldl | apply Kept.foldl1 | apply Kept.pair1 ‹_› | dsimp only
theorem State.noteDomainState_kept (h : Kept ⟨A,B,C,D,E,F,G,H,I,J,K,L,M,N,O,P,Q,false,S,T,U,V,X,Y,Z⟩ s0 s) : Kept ⟨A,B,C,D,E,F,G,H,I,J,K,L,M,N,O,P,Q,false,S,T,U,V,X,Y,Z⟩ s0 (State.noteDomainState s) := by
  unfold State.noteDomainState; with_reducible repeat' first | assumption | intros _ | apply Kept.ite | (refine Kept.upd ?_; first | assumption) | split
theorem State.follow_kept {a1 : Nat} (h : Kept ⟨A,false,C,D,E,F,G,H,I,J,false,L,M,N,O,P,false,false,S,T,U,V,X,Y,Z⟩ s0 s) : Kept ⟨A,false,C,D,E,F,G,H,I,J,false,L,M,N,O,P,false,false,S,T,U,V,X,Y,Z⟩ s0 (State.follow s a1) := by
  unfold State.follow; with_reducible repeat' first | assumption | intros _ | apply Kept.ite | apply State.noteDomainState_kept | apply State.level_kept | apply State.raise_kept | (refine Kept.upd ?_; first | assumption | apply State.noteDomainState_kept | apply State.level_kept | apply State.raise_kept) | split
theorem State.loseQuorum_kept (h : Kept ⟨A,B,C,D,E,F,G,H,I,J,false,L,M,N,O,P,false,false,S,T,U,V,X,Y,Z⟩ s0 s) : Kept ⟨A,B,C,D,E,F,G,H,I,J,false,L,M,N,O,P,false,false,S,T,U,V,X,Y,Z⟩ s0 (State.loseQuorum s) := by
  unfold State.loseQuorum; with_reducible repeat' first | assumption | intros _ | apply Kept.ite | apply State.noteDomainState_kept | apply State.level_kept | (refine Kept.upd ?_; first | assumption | apply State.noteDomainState_kept | apply State.level_kept) | split
theorem State.judgeSplit_kept {a1 : Nat} {a2 : List (Nat × Nat)} (h : Kept ⟨A,false,C,false,false,F,false,false,I,J,false,false,false,false,false,P,false,false,false,T,U,V,X,Y,Z⟩ s0 s) : Kept ⟨A,false,C,false,false,F,false,false,I,J,false,false,false,false,false,P,false,false,false,T,U,V,X,Y,Z⟩ s0 (State.judgeSplit s a1 a2) := by
  unfold State.judgeSplit; with_reducible repeat' first | assumption | intros _ | apply Kept.ite | apply State.splitFlip_kept | apply State.abortAnswer_kept | (refine Kept.upd ?_; first | assumption | apply State.splitFlip_kept | apply State.abortAnswer_kept) | split
theorem State.takeSummary_kept {a1 : SummaryMsg} (h : Kept ⟨false,false,C,false,false,F,false,false,I,J,false,false,false,false,false,P,false,false,false,T,U,V,X,Y,Z⟩ s0 s) : Kept ⟨false,false,C,false,false,F,false,false,I,J,false,false,false,false,false,P,false,false,false,T,U,V,X,Y,Z⟩ s0 (State.takeSummary s a1) := by
  unfold State.takeSummary; with_reducible repeat' first | assumption | intros _ | (extract_lets +onlyGivenNames x; first | (refine Kept.cut (A := Kept ⟨false,false,C,false,false,F,false,false,I,J,false,false,false,false,false,P,false,false,false,T,U,V,X,Y,Z⟩ s0 x) ?_ ?_; (on_goal 1 => unfold x; clear x); on_goal 2 => clear_value x; intro hx) | (refine Kept.cut (A := Kept ⟨false,false,C,false,false,F,false,false,I,J,false,false,false,false,false,P,false,false,false,T,U,V,X,Y,Z⟩ s0 x.1) ?_ ?_; (on_goal 1 => unfold x; clear x); on_goal 2 => clear_value x; intro hx) | (have y : Sys := x; clear y; unfold x; clear x) | clear_value x) | apply Kept.ite | apply State.follow_kept | apply State.setGenerations_kept | apply State.setTimeRoot_kept | apply State.raise_kept | apply State.noteConditions_kept | apply State.noteDomainState_kept | apply State.judgeSplit_kept | (refine Kept.upd ?_; first | assumption | apply State.follow_kept | apply State.setGenerations_kept | apply State.setTimeRoot_kept | apply State.raise_kept | apply State.noteConditions_kept | apply State.noteDomainState_kept | apply State.judgeSplit_kept) | split | apply Kept.foldl | apply Kept.foldl1 | apply Kept.pair1 ‹_› | dsimp only
theorem State.sendSummaryMsg_kept {a1 : SummaryMsg} (h : Kept ⟨A,B,C,D,E,F,G,H,I,J,K,L,M,N,O,P,Q,false,S,T,U,V,X,Y,Z⟩ s0 s) : Kept ⟨A,B,C,D,E,F,G,H,I,J,K,L,M,N,O,P,Q,false,S,T,U,V,X,Y,Z⟩ s0 (State.sendSummaryMsg s a1) := by
  unfold State.sendSummaryMsg; with_reducible repeat' first | assumption | apply Kept.ite | apply State.sendTreesAB_kept
theorem State.summarise_kept {a1 : Nat} (h : Kept ⟨false,false,C,false,false,F,false,false,I,J,false,false,false,false,false,P,false,false,false,T,U,false,X,Y,Z⟩ s0 s) : Kept ⟨false,false,C,false,false,F,false,false,I,J,false,false,false,false,false,P,false,false,false,T,U,false,X,Y,Z⟩ s0 (State.summarise s a1) := by
  unfold State.summarise; with_reducible repeat' first | assumption | apply Kept.ite | apply State.loseQuorum_kept | apply State.setGenerations_kept | apply State.chooseRoot_kept | refine Kept.pair2 ‹_› (State.chooseRoot_kept ?_) | apply State.setTimeRoot_kept | apply State.takeSummary_kept | apply State.sendSummaryMsg_kept
theorem execWallFrameTick_kept (h : Kept ⟨A,false,C,D,E,F,G,H,I,J,false,L,M,N,O,P,false,false,S,T,U,V,X,Y,Z⟩ s0 s) : KeptO ⟨A,false,C,D,E,F,G,H,I,J,false,L,M,N,O,P,false,false,S,T,U,V,X,Y,Z⟩ s0 (execWallFrameTick s) := by
  unfold execWallFrameTick; with_reducible repeat' first | assumption | intros _ | apply KeptO.next | apply Kept.ite | apply State.setTimeRoot_kept | apply State.noteDomainState_kept | apply State.sendBeat_kept | (refine Kept.upd ?_; first | assumption | apply State.setTimeRoot_kept | apply State.noteDomainState_kept | apply State.sendBeat_kept) | split
theorem execHeartbeat_kept {a1 : Msg} (h : Kept ⟨A,false,C,false,false,F,false,false,I,J,false,false,false,false,false,P,false,false,false,T,U,V,X,Y,Z⟩ s0 s) : KeptO ⟨A,false,C,false,false,F,false,false,I,J,false,false,false,false,false,P,false,false,false,T,U,V,X,Y,Z⟩ s0 (execHeartbeat a1 s) := by
  unfold execHeartbeat; with_reducible repeat' first | assumption | intros _ | apply KeptO.next | apply Kept.ite | apply State.setGenerations_kept | apply State.reportShows_kept | (refine Kept.upd ?_; first | assumption | apply State.setGenerations_kept | apply State.reportShows_kept) | split
theorem State.summaryPart_kept {a1 : Nat} {a2 : List Byte} (h : Kept ⟨A,B,C,D,E,F,G,H,I,J,K,L,M,N,O,P,Q,false,S,T,U,V,X,Y,Z⟩ s0 s) : Kept ⟨A,B,C,D,E,F,G,H,I,J,K,L,M,N,O,P,Q,false,S,T,U,V,X,Y,Z⟩ s0 (State.summaryPart s a1 a2).1 := by
  unfold State.summaryPart; with_reducible repeat' first | assumption | intros _ | apply Kept.ite | (refine Kept.upd ?_; first | assumption) | split | apply Kept.foldl | apply Kept.foldl1 | apply Kept.pair1 ‹_› | dsimp only
theorem execSummary_kept {a1 : Msg} (h : Kept ⟨false,false,C,false,false,F,false,false,I,J,false,false,false,false,false,P,false,false,false,T,U,V,X,Y,Z⟩ s0 s) : KeptO ⟨false,false,C,false,false,F,false,false,I,J,false,false,false,false,false,P,false,false,false,T,U,V,X,Y,Z⟩ s0 (execSummary a1 s) := by
  unfold execSummary; with_reducible repeat' first | assumption | intros _ | apply KeptO.next | apply Kept.ite | apply State.summaryPart_kept | refine Kept.pair1 ‹_› (State.summaryPart_kept ?_) | apply State.takeSummary_kept | (refine Kept.upd ?_; first | assumption | apply State.summaryPart_kept | refine Kept.pair1 ‹_› (State.summaryPart_kept ?_) | apply State.takeSummary_kept) | split
theorem execSummarySend_kept (h : Kept ⟨false,false,C,false,false,F,false,false,I,J,false,false,false,false,false,P,false,false,false,T,U,false,X,Y,Z⟩ s0 s) : KeptO ⟨false,false,C,false,false,F,false,false,I,J,false,false,false,false,false,P,false,false,false,T,U,false,X,Y,Z⟩ s0 (execSummarySend s) := by
  unfold execSummarySend; with_reducible repeat' first | assumption | apply KeptO.next | apply Kept.ite | apply State.summarise_kept
theorem execCoordinatorTimeout_kept (h : Kept ⟨A,B,C,D,E,F,G,H,I,J,false,L,M,N,O,P,false,false,S,T,U,V,X,Y,Z⟩ s0 s) : KeptO ⟨A,B,C,D,E,F,G,H,I,J,false,L,M,N,O,P,false,false,S,T,U,V,X,Y,Z⟩ s0 (execCoordinatorTimeout s) := by
  unfold execCoordinatorTimeout; with_reducible repeat' first | assumption | intros _ | apply KeptO.next | apply Kept.ite | apply State.loseQuorum_kept | apply State.noteDomainState_kept | (refine Kept.upd ?_; first | assumption | apply State.loseQuorum_kept | apply State.noteDomainState_kept) | split | apply Kept.foldl | apply Kept.foldl1 | apply Kept.pair1 ‹_› | dsimp only
theorem State.settlePending_kept {a1 : List (Nat × Beat)} {a2 : Nat} (h : Kept ⟨A,false,C,false,false,F,false,false,I,J,false,false,false,false,false,P,false,false,false,T,U,V,X,Y,Z⟩ s0 s) : Kept ⟨A,false,C,false,false,F,false,false,I,J,false,false,false,false,false,P,false,false,false,T,U,V,X,Y,Z⟩ s0 (State.settlePending s a1 a2) := by
  unfold State.settlePending; with_reducible repeat' first | assumption | apply Kept.ite | apply State.decideFlight_kept
theorem execTakeOffice_kept (h : Kept ⟨false,false,C,false,false,F,false,false,I,J,false,false,false,false,false,P,false,false,false,T,U,false,X,Y,Z⟩ s0 s) : KeptO ⟨false,false,C,false,false,F,false,false,I,J,false,false,false,false,false,P,false,false,false,T,U,false,X,Y,Z⟩ s0 (execTakeOffice s) := by
  unfold execTakeOffice; with_reducible repeat' first | assumption | intros _ | apply KeptO.next | apply Kept.ite | apply State.summarise_kept | apply State.follow_kept | apply State.forEach_kept | apply State.settlePending_kept | (refine Kept.upd ?_; first | assumption | apply State.summarise_kept | apply State.follow_kept | apply State.forEach_kept | apply State.settlePending_kept) | split
theorem execIsolation_kept (h : Kept ⟨false,false,C,D,E,F,G,H,I,J,false,L,M,N,O,P,false,false,false,T,U,V,X,Y,Z⟩ s0 s) : KeptO ⟨false,false,C,D,E,F,G,H,I,J,false,L,M,N,O,P,false,false,false,T,U,V,X,Y,Z⟩ s0 (execIsolation s) := by
  unfold execIsolation; with_reducible repeat' first | assumption | intros _ | apply KeptO.next | apply Kept.ite | apply State.noteDomainState_kept | apply State.noteConditions_kept | (refine Kept.upd ?_; first | assumption | apply State.noteDomainState_kept | apply State.noteConditions_kept) | split
theorem State.nameDomainWrite_kept {a1 : Nat} {a2 : List Byte} (h : Kept ⟨A,B,C,D,E,F,G,H,I,J,K,L,M,N,O,P,Q,false,S,T,U,V,X,Y,Z⟩ s0 s) : Kept ⟨A,B,C,D,E,F,G,H,I,J,K,L,M,N,O,P,Q,false,S,T,U,V,X,Y,Z⟩ s0 (State.nameDomainWrite s a1 a2) := by
  unfold State.nameDomainWrite; with_reducible repeat' first | assumption | intros _ | apply Kept.ite | (refine Kept.upd ?_; first | assumption) | split
theorem execDomainEntryApply_kept (h : Kept ⟨A,B,C,D,E,F,G,H,I,J,false,L,M,N,O,false,false,false,S,false,U,V,X,Y,Z⟩ s0 s) : KeptO ⟨A,B,C,D,E,F,G,H,I,J,false,L,M,N,O,false,false,false,S,false,U,V,X,Y,Z⟩ s0 (execDomainEntryApply s) := by
  unfold execDomainEntryApply; with_reducible repeat' first | assumption | intros _ | apply KeptO.next | apply Kept.ite | apply State.forEach_kept | apply State.writeEntry_kept | (refine Kept.upd ?_; first | assumption | apply State.forEach_kept | apply State.writeEntry_kept) | split
theorem State.storeResponse_kept {a1 : LopCtx} {a2 : List Byte} (h : Kept ⟨A,B,C,D,E,F,G,H,I,J,K,L,M,N,O,P,Q,R,S,T,false,V,X,Y,Z⟩ s0 s) : Kept ⟨A,B,C,D,E,F,G,H,I,J,K,L,M,N,O,P,Q,R,S,T,false,V,X,Y,Z⟩ s0 (State.storeResponse s a1 a2) := by
  unfold State.storeResponse; with_reducible repeat' first | assumption | intros _ | apply Kept.ite | (refine Kept.upd ?_; first | assumption) | split
theorem State.sendLop_kept {a1 : Nat} {a2 : Nat} {a3 : List Byte} (h : Kept ⟨A,B,C,D,E,F,G,H,I,J,K,L,M,N,O,P,Q,false,S,T,U,V,X,Y,Z⟩ s0 s) : Kept ⟨A,B,C,D,E,F,G,H,I,J,K,L,M,N,O,P,Q,false,S,T,U,V,X,Y,Z⟩ s0 (State.sendLop s a1 a2 a3) := by
  unfold State.sendLop; with_reducible repeat' first | assumption | intros _ | apply Kept.ite | apply State.forEach_kept | apply State.sendFlit_kept | (refine Kept.upd ?_; first | assumption | apply State.forEach_kept | apply State.sendFlit_kept) | split
theorem State.windowAnswer_kept {a1 : List Byte} {a2 : Status} (h : Kept ⟨A,false,C,D,E,F,G,H,I,J,false,L,M,N,O,P,false,R,S,T,false,V,X,Y,Z⟩ s0 s) : Kept ⟨A,false,C,D,E,F,G,H,I,J,false,L,M,N,O,P,false,R,S,T,false,V,X,Y,Z⟩ s0 (State.windowAnswer s a1 a2) := by
  unfold State.windowAnswer; with_reducible repeat' first | assumption | intros _ | apply Kept.ite | apply State.raise_kept | (refine Kept.upd ?_; first | assumption | apply State.raise_kept) | split
theorem State.exchangeAnswer_kept {a1 : Nat} {a2 : LopCtx} {a3 : List Byte} (h : Kept ⟨A,B,C,false,false,F,false,false,I,J,K,L,M,N,O,P,Q,R,S,T,U,V,X,Y,Z⟩ s0 s) : Kept ⟨A,B,C,false,false,F,false,false,I,J,K,L,M,N,O,P,Q,R,S,T,U,V,X,Y,Z⟩ s0 (State.exchangeAnswer s a1 a2 a3) := by
  unfold State.exchangeAnswer; with_reducible repeat' first | assumption | intros _ | apply Kept.ite | apply State.finishAt_kept | apply State.busWrite_kept | (refine Kept.upd ?_; first | assumption | apply State.finishAt_kept | apply State.busWrite_kept) | split
theorem State.answerVia_kept {a1 : LopCtx} {a2 : List Byte} (h : Kept ⟨A,false,C,false,false,F,false,false,I,J,false,L,M,N,O,P,false,false,S,T,false,V,X,Y,Z⟩ s0 s) : Kept ⟨A,false,C,false,false,F,false,false,I,J,false,L,M,N,O,P,false,false,S,T,false,V,X,Y,Z⟩ s0 (State.answerVia s a1 a2) := by
  unfold State.answerVia; with_reducible repeat' first | assumption | intros _ | apply Kept.ite | apply State.windowAnswer_kept | apply State.exchangeAnswer_kept | apply State.sendLop_kept | (refine Kept.upd ?_; first | assumption | apply State.windowAnswer_kept | apply State.exchangeAnswer_kept | apply State.sendLop_kept) | split
theorem State.countResponse_kept {a1 : Nat} (h : Kept ⟨A,B,C,D,E,F,G,H,I,J,K,L,M,N,O,P,Q,R,S,T,false,V,X,Y,Z⟩ s0 s) : Kept ⟨A,B,C,D,E,F,G,H,I,J,K,L,M,N,O,P,Q,R,S,T,false,V,X,Y,Z⟩ s0 (State.countResponse s a1) := by
  unfold State.countResponse; with_reducible repeat' first | assumption | intros _ | apply Kept.ite | (refine Kept.upd ?_; first | assumption) | split
theorem State.respond_kept {a1 : LopCtx} {a2 : Nat} {a3 : Nat} {a4 : Nat} {a5 : List Byte} {a6 : Bool} (h : Kept ⟨A,false,C,false,false,F,false,false,I,J,false,L,M,N,O,P,false,false,S,T,false,V,X,Y,Z⟩ s0 s) : Kept ⟨A,false,C,false,false,F,false,false,I,J,false,L,M,N,O,P,false,false,S,T,false,V,X,Y,Z⟩ s0 (State.respond s a1 a2 a3 a4 a5 a6) := by
  unfold State.respond; with_reducible repeat' first | assumption | apply Kept.ite | apply State.countResponse_kept | apply State.storeResponse_kept | apply State.answerVia_kept
theorem State.reply_kept {a1 : LopCtx} {a2 : Nat} {a3 : Nat} {a4 : List Byte} (h : Kept ⟨A,false,C,false,false,F,false,false,I,J,false,L,M,N,O,P,false,false,S,T,false,V,X,Y,Z⟩ s0 s) : Kept ⟨A,false,C,false,false,F,false,false,I,J,false,L,M,N,O,P,false,false,S,T,false,V,X,Y,Z⟩ s0 (State.reply s a1 a2 a3 a4) := by
  unfold State.reply; with_reducible repeat' first | assumption | apply Kept.ite | apply State.respond_kept
theorem State.complete_kept {a1 : Reply} {a2 : Nat} (h : Kept ⟨A,false,C,false,false,F,false,false,I,J,false,L,M,N,O,P,false,false,S,T,false,V,X,Y,Z⟩ s0 s) : Kept ⟨A,false,C,false,false,F,false,false,I,J,false,L,M,N,O,P,false,false,S,T,false,V,X,Y,Z⟩ s0 (State.complete s a1 a2) := by
  unfold State.complete; with_reducible repeat' first | assumption | apply Kept.ite | apply State.reply_kept
theorem State.discardDatagram_kept (h : Kept ⟨A,B,C,D,E,F,G,H,I,J,K,L,M,N,O,P,Q,R,S,T,false,V,X,Y,Z⟩ s0 s) : Kept ⟨A,B,C,D,E,F,G,H,I,J,K,L,M,N,O,P,Q,R,S,T,false,V,X,Y,Z⟩ s0 (State.discardDatagram s) := by
  unfold State.discardDatagram; with_reducible repeat' first | assumption | intros _ | apply Kept.ite | (refine Kept.upd ?_; first | assumption) | split
theorem State.countRefused_kept (h : Kept ⟨false,B,C,D,E,F,G,H,I,J,K,L,M,N,O,P,Q,R,S,T,U,V,X,Y,Z⟩ s0 s) : Kept ⟨false,B,C,D,E,F,G,H,I,J,K,L,M,N,O,P,Q,R,S,T,U,V,X,Y,Z⟩ s0 (State.countRefused s) := by
  unfold State.countRefused; with_reducible repeat' first | assumption | intros _ | apply Kept.ite | (refine Kept.upd ?_; first | assumption) | split
theorem State.refuseMode_kept {a1 : Reply} {a2 : Status} (h : Kept ⟨false,false,C,false,false,F,false,false,I,J,false,L,M,N,O,P,false,false,S,T,false,V,X,Y,Z⟩ s0 s) : Kept ⟨false,false,C,false,false,F,false,false,I,J,false,L,M,N,O,P,false,false,S,T,false,V,X,Y,Z⟩ s0 (State.refuseMode s a1 a2) := by
  unfold State.refuseMode; with_reducible repeat' first | assumption | apply Kept.ite | apply State.complete_kept | apply State.countRefused_kept
theorem State.serveMode_kept {a1 : ModeReq} (h : Kept ⟨false,false,C,false,false,F,false,false,I,J,false,L,M,N,O,P,false,false,S,T,false,V,X,Y,Z⟩ s0 s) : Kept ⟨false,false,C,false,false,F,false,false,I,J,false,L,M,N,O,P,false,false,S,T,false,V,X,Y,Z⟩ s0 (State.serveMode s a1) := by
  unfold State.serveMode; with_reducible repeat' first | assumption | intros _ | apply Kept.ite | apply State.refuseMode_kept | apply State.complete_kept | (refine Kept.upd ?_; first | assumption | apply State.refuseMode_kept | apply State.complete_kept) | split
theorem State.serveModes_kept {a1 : Nat} (h : Kept ⟨false,false,C,false,false,F,false,false,I,J,false,L,M,N,O,P,false,false,S,T,false,V,X,Y,Z⟩ s0 s) : Kept ⟨false,false,C,false,false,F,false,false,I,J,false,L,M,N,O,P,false,false,S,T,false,V,X,Y,Z⟩ s0 (State.serveModes s a1) := by
  induction a1 generalizing s with
  | zero => exact h
  | succ n ih =>
    unfold State.serveModes
    split
    · exact h
    · split
      · exact h
      · exact ih (State.serveMode_kept (Kept.upd h))
theorem State.requestMode_kept {a1 : ModeReq} (h : Kept ⟨false,false,C,false,false,F,false,false,I,J,false,L,M,N,O,P,false,false,S,T,false,V,X,Y,Z⟩ s0 s) : Kept ⟨false,false,C,false,false,F,false,false,I,J,false,L,M,N,O,P,false,false,S,T,false,V,X,Y,Z⟩ s0 (State.requestMode s a1) := by
  unfold State.requestMode; with_reducible repeat' first | assumption | intros _ | apply Kept.ite | apply State.serveModes_kept | (refine Kept.upd ?_; first | assumption | apply State.serveModes_kept) | split
theorem State.applyExclude_kept (h : Kept ⟨A,false,C,D,E,F,G,H,I,J,false,L,false,false,false,P,false,R,false,T,U,V,X,Y,Z⟩ s0 s) : Kept ⟨A,false,C,D,E,F,G,H,I,J,false,L,false,false,false,P,false,R,false,T,U,V,X,Y,Z⟩ s0 (State.applyExclude s) := by
  unfold State.applyExclude; with_reducible repeat' first | assumption | intros _ | apply Kept.ite | apply State.forEach_kept | apply State.setGallery_kept | apply State.leaveService_kept | apply State.noteMask_kept | apply State.noteEngines_kept | apply State.recheckDue_kept | (refine Kept.upd ?_; first | assumption | apply State.forEach_kept | apply State.setGallery_kept | apply State.leaveService_kept | apply State.noteMask_kept | apply State.noteEngines_kept | apply State.recheckDue_kept) | split
theorem State.entriesFor_kept {a1 : Mode} (h : Kept ⟨A,B,C,D,E,F,G,H,I,J,false,L,M,N,O,false,false,R,S,false,U,V,X,Y,Z⟩ s0 s) : Kept ⟨A,B,C,D,E,F,G,H,I,J,false,L,M,N,O,false,false,R,S,false,U,V,X,Y,Z⟩ s0 (State.entriesFor s a1) := by
  unfold State.entriesFor; with_reducible repeat' first | assumption | apply Kept.ite | apply State.withMode_kept
theorem State.passBoundary_kept {a1 : Mode} {a2 : Nat} (h : Kept ⟨false,false,C,false,false,F,false,false,I,J,false,L,false,false,false,false,false,false,false,false,U,V,X,Y,false⟩ s0 s) : Kept ⟨false,false,C,false,false,F,false,false,I,J,false,L,false,false,false,false,false,false,false,false,U,V,X,Y,false⟩ s0 (State.passBoundary s a1 a2) := by
  unfold State.passBoundary; with_reducible repeat' first | assumption | intros _ | apply Kept.ite | apply State.entriesFor_kept | apply State.raise_kept | apply State.applyExclude_kept | apply State.forEach_kept | apply State.enterMode_kept | apply State.leaveDomain_kept | apply State.noteConditions_kept | (refine Kept.upd ?_; first | assumption | apply State.entriesFor_kept | apply State.raise_kept | apply State.applyExclude_kept | apply State.forEach_kept | apply State.enterMode_kept | apply State.leaveDomain_kept | apply State.noteConditions_kept) | split
theorem State.requestBoundary_kept {a1 : ModeReq} (h : Kept ⟨false,false,C,false,false,F,false,false,I,J,false,L,false,false,false,false,false,false,false,false,false,V,X,Y,false⟩ s0 s) : Kept ⟨false,false,C,false,false,F,false,false,I,J,false,L,false,false,false,false,false,false,false,false,false,V,X,Y,false⟩ s0 (State.requestBoundary s a1) := by
  unfold State.requestBoundary; with_reducible repeat' first | assumption | intros _ | apply Kept.ite | apply State.refuseMode_kept | apply State.complete_kept | apply State.passBoundary_kept | (refine Kept.upd ?_; first | assumption | apply State.refuseMode_kept | apply State.complete_kept | apply State.passBoundary_kept) | split | apply Kept.foldl | apply Kept.foldl1 | apply Kept.pair1 ‹_› | dsimp only
theorem State.forcedBoundary_kept (h : Kept ⟨false,false,C,false,false,F,false,false,I,J,false,L,false,false,false,false,false,false,false,false,U,V,X,Y,false⟩ s0 s) : Kept ⟨false,false,C,false,false,F,false,false,I,J,false,L,false,false,false,false,false,false,false,false,U,V,X,Y,false⟩ s0 (State.forcedBoundary s) := by
  unfold State.forcedBoundary; with_reducible repeat' first | assumption | apply Kept.ite | apply State.passBoundary_kept
theorem execModeBoundary_kept (h : Kept ⟨false,false,C,false,false,F,false,false,I,J,false,L,false,false,false,false,false,false,false,false,false,V,X,Y,false⟩ s0 s) : KeptO ⟨false,false,C,false,false,F,false,false,I,J,false,L,false,false,false,false,false,false,false,false,false,V,X,Y,false⟩ s0 (execModeBoundary s) := by
  unfold execModeBoundary; with_reducible repeat' first | assumption | intros _ | apply KeptO.next | apply Kept.ite | apply State.serveModes_kept | apply State.forcedBoundary_kept | apply State.requestBoundary_kept | (refine Kept.upd ?_; first | assumption | apply State.serveModes_kept | apply State.forcedBoundary_kept | apply State.requestBoundary_kept) | split | apply Kept.foldl | apply Kept.foldl1 | apply Kept.pair1 ‹_› | dsimp only
theorem State.firstLatch_kept (h : Kept ⟨false,false,C,false,false,F,false,false,I,J,false,L,false,false,false,false,false,false,false,false,U,V,X,Y,false⟩ s0 s) : Kept ⟨false,false,C,false,false,F,false,false,I,J,false,L,false,false,false,false,false,false,false,false,U,V,X,Y,false⟩ s0 (State.firstLatch s) := by
  unfold State.firstLatch; with_reducible repeat' first | assumption | intros _ | apply Kept.ite | apply State.forcedBoundary_kept | (refine Kept.upd ?_; first | assumption | apply State.forcedBoundary_kept) | split
theorem execLatch_kept {a1 : Fin 16} (h : Kept ⟨false,false,false,false,false,F,false,false,I,J,false,L,false,false,false,false,false,false,false,false,U,V,X,Y,false⟩ s0 s) : KeptO ⟨false,false,false,false,false,F,false,false,I,J,false,L,false,false,false,false,false,false,false,false,U,V,X,Y,false⟩ s0 (execLatch a1 s) := by
  unfold execLatch; with_reducible repeat' first | assumption | apply KeptO.next | apply Kept.ite | apply State.firstLatch_kept | apply State.latchHead_kept
theorem execGallerySelfTest_kept {a1 : Nat} {a2 : List (Fin 17)} (h : Kept ⟨false,false,false,D,E,F,G,H,I,J,false,L,false,false,false,P,false,R,false,T,U,V,X,Y,Z⟩ s0 s) : KeptO ⟨false,false,false,D,E,F,G,H,I,J,false,L,false,false,false,P,false,R,false,T,U,V,X,Y,Z⟩ s0 (execGallerySelfTest a1 a2 s) := by
  unfold execGallerySelfTest; with_reducible repeat' first | assumption | intros _ | apply KeptO.next | apply Kept.ite | apply State.forEach_kept | apply State.retireEngine_kept | (refine Kept.upd ?_; first | assumption | apply State.forEach_kept | apply State.retireEngine_kept) | split
theorem State.setBank_kept {a1 : Nat} {a2 : List Byte} (h : Kept ⟨A,B,C,D,E,F,G,H,I,J,K,L,M,N,O,P,Q,R,S,false,U,V,X,Y,Z⟩ s0 s) : Kept ⟨A,B,C,D,E,F,G,H,I,J,K,L,M,N,O,P,Q,R,S,false,U,V,X,Y,Z⟩ s0 (State.setBank s a1 a2) := by
  unfold State.setBank; with_reducible repeat' first | assumption | intros _ | apply Kept.ite | (refine Kept.upd ?_; first | assumption) | split
theorem State.loadBank_kept {a1 : Nat} (h : Kept ⟨A,B,C,D,E,F,G,H,I,J,K,L,M,N,O,P,Q,R,S,false,U,V,X,Y,Z⟩ s0 s) : Kept ⟨A,B,C,D,E,F,G,H,I,J,K,L,M,N,O,P,Q,R,S,false,U,V,X,Y,Z⟩ s0 (State.loadBank s a1) := by
  unfold State.loadBank; with_reducible repeat' first | assumption | intros _ | apply Kept.ite | (refine Kept.upd ?_; first | assumption) | split
theorem State.loadDictionary_kept (h : Kept ⟨A,B,C,D,E,F,G,H,I,J,K,L,M,N,O,P,Q,R,S,false,U,V,X,Y,Z⟩ s0 s) : Kept ⟨A,B,C,D,E,F,G,H,I,J,K,L,M,N,O,P,Q,R,S,false,U,V,X,Y,Z⟩ s0 (State.loadDictionary s) := by
  unfold State.loadDictionary; with_reducible repeat' first | assumption | intros _ | apply Kept.ite | apply State.loadBank_kept | (refine Kept.upd ?_; first | assumption | apply State.loadBank_kept) | split
theorem State.beginStore_kept (h : Kept ⟨A,B,C,D,E,F,G,H,I,J,K,L,M,N,O,P,Q,R,S,false,U,V,X,Y,Z⟩ s0 s) : Kept ⟨A,B,C,D,E,F,G,H,I,J,K,L,M,N,O,P,Q,R,S,false,U,V,X,Y,Z⟩ s0 (State.beginStore s) := by
  unfold State.beginStore; with_reducible repeat' first | assumption | intros _ | apply Kept.ite | apply State.setBank_kept | (refine Kept.upd ?_; first | assumption | apply State.setBank_kept) | split
theorem State.askStore_kept (h : Kept ⟨A,B,C,D,E,F,G,H,I,J,K,L,M,N,O,P,Q,R,S,false,U,V,X,Y,Z⟩ s0 s) : Kept ⟨A,B,C,D,E,F,G,H,I,J,K,L,M,N,O,P,Q,R,S,false,U,V,X,Y,Z⟩ s0 (State.askStore s) := by
  unfold State.askStore; with_reducible repeat' first | assumption | intros _ | apply Kept.ite | apply State.beginStore_kept | (refine Kept.upd ?_; first | assumption | apply State.beginStore_kept) | split
theorem execAutoStore_kept (h : Kept ⟨A,B,C,D,E,F,G,H,I,J,K,L,M,N,O,P,Q,R,S,false,U,V,X,Y,Z⟩ s0 s) : KeptO ⟨A,B,C,D,E,F,G,H,I,J,K,L,M,N,O,P,Q,R,S,false,U,V,X,Y,Z⟩ s0 (execAutoStore s) := by
  unfold execAutoStore; with_reducible repeat' first | assumption | apply KeptO.next | apply Kept.ite | apply State.beginStore_kept
theorem State.countStore_kept {a1 : Nat} (h : Kept ⟨A,false,C,D,E,F,G,H,I,J,false,L,M,N,O,P,false,R,S,false,U,V,X,Y,Z⟩ s0 s) : Kept ⟨A,false,C,D,E,F,G,H,I,J,false,L,M,N,O,P,false,R,S,false,U,V,X,Y,Z⟩ s0 (State.countStore s a1) := by
  unfold State.countStore; with_reducible repeat' first | assumption | intros _ | apply Kept.ite | apply State.raise_kept | (refine Kept.upd ?_; first | assumption | apply State.raise_kept) | split
theorem State.completeStore_kept {a1 : Nat} {a2 : List Byte} (h : Kept ⟨A,false,C,D,E,F,G,H,I,J,false,L,M,N,O,P,false,R,S,false,U,V,X,Y,Z⟩ s0 s) : Kept ⟨A,false,C,D,E,F,G,H,I,J,false,L,M,N,O,P,false,R,S,false,U,V,X,Y,Z⟩ s0 (State.completeStore s a1 a2) := by
  unfold State.completeStore; with_reducible repeat' first | assumption | intros _ | apply Kept.ite | apply State.setBank_kept | apply State.raise_kept | apply State.countStore_kept | (refine Kept.upd ?_; first | assumption | apply State.setBank_kept | apply State.raise_kept | apply State.countStore_kept) | split
theorem State.failStore_kept (h : Kept ⟨A,false,C,D,E,F,G,H,I,J,false,L,M,N,O,P,false,R,S,false,U,V,X,Y,Z⟩ s0 s) : Kept ⟨A,false,C,D,E,F,G,H,I,J,false,L,M,N,O,P,false,R,S,false,U,V,X,Y,Z⟩ s0 (State.failStore s) := by
  unfold State.failStore; with_reducible repeat' first | assumption | intros _ | apply Kept.ite | apply State.raise_kept | (refine Kept.upd ?_; first | assumption | apply State.raise_kept) | split
theorem execStoreDone_kept {a1 : Bool} (h : Kept ⟨A,false,C,D,E,F,G,H,I,J,false,L,M,N,O,P,false,R,S,false,U,V,X,Y,Z⟩ s0 s) : KeptO ⟨A,false,C,D,E,F,G,H,I,J,false,L,M,N,O,P,false,R,S,false,U,V,X,Y,Z⟩ s0 (execStoreDone a1 s) := by
  unfold execStoreDone; with_reducible repeat' first | assumption | intros _ | apply KeptO.next | apply Kept.ite | apply State.completeStore_kept | apply State.failStore_kept | (refine Kept.upd ?_; first | assumption | apply State.completeStore_kept | apply State.failStore_kept) | split

end Sys2Proof.Machine
end

