-- ==== Sys2Proof/Laws/KeptEngines.lean ====
section
/-!
SUPPORT. What the functions of the model keep (see Kept): the 2D engine, Siphon and the queue engine. A lemma of a function names by false the parts it may write.
-/

set_option linter.all false
set_option Elab.async false

namespace Sys2Proof.Machine

variable {A B C D E F G H I J K L M N O P Q R S T U V X Y Z : Bool} {s0 s : State}

theorem State.blitLines_kept {a1 : Nat} {a2 : BlitCmd} {a3 : List Host.Cell} {a4 : Nat} {a5 : Nat} (h : Kept ⟨A,B,C,false,false,F,false,H,I,false,K,L,M,N,O,P,Q,R,S,T,U,V,X,Y,Z⟩ s0 s) : Kept ⟨A,B,C,false,false,F,false,H,I,false,K,L,M,N,O,P,Q,R,S,T,U,V,X,Y,Z⟩ s0 (State.blitLines s a1 a2 a3 a4 a5) := by
  unfold State.blitLines; with_reducible repeat' first | assumption | intros _ | apply Kept.ite | apply State.forEach_kept | apply State.busWrite_kept | apply State.modUnit_kept | (refine Kept.upd ?_; first | assumption | apply State.forEach_kept | apply State.busWrite_kept | apply State.modUnit_kept) | split
theorem State.blitRest_kept {a1 : BlitCmd} {a2 : List Host.Cell} {a3 : Nat} (h : Kept ⟨A,B,C,false,false,F,false,H,I,J,K,L,M,N,O,P,Q,R,S,T,U,false,X,Y,Z⟩ s0 s) : Kept ⟨A,B,C,false,false,F,false,H,I,J,K,L,M,N,O,P,Q,R,S,T,U,false,X,Y,Z⟩ s0 (State.blitRest s a1 a2 a3) := by
  unfold State.blitRest; with_reducible repeat' first | assumption | intros _ | apply Kept.ite | apply State.draw_kept | refine Kept.pair2 ‹_› (State.draw_kept ?_) | apply State.forEach_kept | apply State.busWrite_kept | (refine Kept.upd ?_; first | assumption | apply State.draw_kept | refine Kept.pair2 ‹_› (State.draw_kept ?_) | apply State.forEach_kept | apply State.busWrite_kept) | split
theorem State.freeStaging_kept {a1 : Nat} (h : Kept ⟨A,B,C,D,E,F,G,H,I,false,K,L,M,N,O,P,Q,R,S,T,U,V,X,Y,Z⟩ s0 s) : Kept ⟨A,B,C,D,E,F,G,H,I,false,K,L,M,N,O,P,Q,R,S,T,U,V,X,Y,Z⟩ s0 (State.freeStaging s a1) := by
  unfold State.freeStaging; with_reducible repeat' first | assumption | intros _ | apply Kept.ite | apply State.modUnit_kept | (refine Kept.upd ?_; first | assumption | apply State.modUnit_kept) | split
theorem State.endBlit_kept {a1 : Nat} {a2 : Nat} {a3 : Exec} {a4 : Status} {a5 : Nat} (h : Kept ⟨A,B,C,D,E,F,G,false,I,false,false,L,M,N,O,P,false,R,S,T,U,V,X,Y,Z⟩ s0 s) : Kept ⟨A,B,C,D,E,F,G,false,I,false,false,L,M,N,O,P,false,R,S,T,U,V,X,Y,Z⟩ s0 (State.endBlit s a1 a2 a3 a4 a5) := by
  unfold State.endBlit; with_reducible repeat' first | assumption | intros _ | apply Kept.ite | apply State.freeStaging_kept | apply State.finishAt_kept | apply State.modUnit_kept | apply State.settleRing_kept | (refine Kept.upd ?_; first | assumption | apply State.freeStaging_kept | apply State.finishAt_kept | apply State.modUnit_kept | apply State.settleRing_kept) | split
theorem State.retireBlitEntries_kept (h : Kept ⟨A,B,C,D,E,F,G,false,I,J,K,L,M,N,O,P,Q,R,S,T,U,V,X,Y,Z⟩ s0 s) : Kept ⟨A,B,C,D,E,F,G,false,I,J,K,L,M,N,O,P,Q,R,S,T,U,V,X,Y,Z⟩ s0 (State.retireBlitEntries s) := by
  unfold State.retireBlitEntries; with_reducible repeat' first | assumption | intros _ | apply Kept.ite | apply State.forEach_kept | apply State.finishAt_kept | (refine Kept.upd ?_; first | assumption | apply State.forEach_kept | apply State.finishAt_kept) | split
theorem State.unitFault_kept {a1 : Nat} (h : Kept ⟨A,false,false,D,E,F,G,H,I,false,false,L,M,N,O,P,false,R,false,T,U,V,X,Y,Z⟩ s0 s) : Kept ⟨A,false,false,D,E,F,G,H,I,false,false,L,M,N,O,P,false,R,false,T,U,V,X,Y,Z⟩ s0 (State.unitFault s a1).1 := by
  unfold State.unitFault; with_reducible repeat' first | assumption | intros _ | apply Kept.ite | apply State.setUnit_kept | apply State.raise_kept | apply State.healthDue_kept | apply State.noteReplacement_kept | (refine Kept.upd ?_; first | assumption | apply State.setUnit_kept | apply State.raise_kept | apply State.healthDue_kept | apply State.noteReplacement_kept) | split | apply Kept.foldl | apply Kept.foldl1 | apply Kept.pair1 ‹_› | dsimp only
theorem State.moveCommand_kept {a1 : Nat} {a2 : Exec} {a3 : Nat} (h : Kept ⟨A,B,C,D,E,F,G,false,I,false,K,L,M,N,O,P,Q,R,S,T,U,V,X,Y,Z⟩ s0 s) : Kept ⟨A,B,C,D,E,F,G,false,I,false,K,L,M,N,O,P,Q,R,S,T,U,V,X,Y,Z⟩ s0 (State.moveCommand s a1 a2 a3) := by
  unfold State.moveCommand; with_reducible repeat' first | assumption | intros _ | apply Kept.ite | apply State.modRing_kept | apply State.retireBlitEntries_kept | (refine Kept.upd ?_; first | assumption | apply State.modRing_kept | apply State.retireBlitEntries_kept) | split
theorem State.stage_kept {a1 : BlitCmd} {a2 : Bool} (h : Kept ⟨A,false,C,D,E,F,false,H,I,false,false,L,M,N,O,P,false,R,S,T,U,V,X,Y,Z⟩ s0 s) : Kept ⟨A,false,C,D,E,F,false,H,I,false,false,L,M,N,O,P,false,R,S,T,U,V,X,Y,Z⟩ s0 (State.stage s a1 a2).1 := by
  unfold State.stage; with_reducible repeat' first | assumption | intros _ | apply Kept.ite | apply State.countRepeated_kept | (refine Kept.upd ?_; first | assumption | apply State.countRepeated_kept) | split | apply Kept.foldl | apply Kept.foldl1 | apply Kept.pair1 ‹_› | dsimp only
theorem State.blitFinish_kept {a1 : Nat} {a2 : Nat} {a3 : Exec} {a4 : BlitCmd} {a5 : List Host.Cell} {a6 : Nat} {a7 : Option (Nat × Option Nat)} (h : Kept ⟨A,false,C,false,false,F,false,false,I,false,false,L,M,N,O,P,false,R,S,T,U,false,X,Y,Z⟩ s0 s) : Kept ⟨A,false,C,false,false,F,false,false,I,false,false,L,M,N,O,P,false,R,S,T,U,false,X,Y,Z⟩ s0 (State.blitFinish s a1 a2 a3 a4 a5 a6 a7) := by
  unfold State.blitFinish; with_reducible repeat' first | assumption | intros _ | apply Kept.ite | apply State.endBlit_kept | apply State.blitLines_kept | apply State.countRepeated_kept | apply State.blitRest_kept | (refine Kept.upd ?_; first | assumption | apply State.endBlit_kept | apply State.blitLines_kept | apply State.countRepeated_kept | apply State.blitRest_kept) | split
theorem State.blitRun_kept {a1 : Nat} {a2 : Nat} {a3 : BlitEvent} (h : Kept ⟨A,false,false,false,false,F,false,false,I,false,false,L,M,N,O,P,false,R,false,T,U,false,X,Y,Z⟩ s0 s) : Kept ⟨A,false,false,false,false,F,false,false,I,false,false,L,M,N,O,P,false,R,false,T,U,false,X,Y,Z⟩ s0 (State.blitRun s a1 a2 a3) := by
  unfold State.blitRun; with_reducible repeat' first | assumption | intros _ | apply Kept.ite | apply State.stage_kept | refine Kept.pair1 ‹_› (State.stage_kept ?_) | apply State.endBlit_kept | apply State.blitFinish_kept | apply State.unitFault_kept | refine Kept.pair1 ‹_› (State.unitFault_kept ?_) | apply State.blitLines_kept | apply State.moveCommand_kept | (refine Kept.upd ?_; first | assumption | apply State.stage_kept | refine Kept.pair1 ‹_› (State.stage_kept ?_) | apply State.endBlit_kept | apply State.blitFinish_kept | apply State.unitFault_kept | refine Kept.pair1 ‹_› (State.unitFault_kept ?_) | apply State.blitLines_kept | apply State.moveCommand_kept) | split | apply Kept.foldl | apply Kept.foldl1 | apply Kept.pair1 ‹_› | dsimp only
theorem execCopy_kept {a1 : Fin 4} {a2 : BlitEvent} (h : Kept ⟨A,false,false,false,false,F,false,false,I,false,false,L,M,N,O,P,false,R,false,T,U,false,X,Y,Z⟩ s0 s) : KeptO ⟨A,false,false,false,false,F,false,false,I,false,false,L,M,N,O,P,false,R,false,T,U,false,X,Y,Z⟩ s0 (execCopy a1 a2 s) := by
  unfold execCopy; with_reducible repeat' first | assumption | apply KeptO.next | apply Kept.ite | apply State.blitRun_kept
theorem execFill_kept {a1 : Fin 4} {a2 : BlitEvent} (h : Kept ⟨A,false,false,false,false,F,false,false,I,false,false,L,M,N,O,P,false,R,false,T,U,false,X,Y,Z⟩ s0 s) : KeptO ⟨A,false,false,false,false,F,false,false,I,false,false,L,M,N,O,P,false,R,false,T,U,false,X,Y,Z⟩ s0 (execFill a1 a2 s) := by
  unfold execFill; with_reducible repeat' first | assumption | apply KeptO.next | apply Kept.ite | apply State.blitRun_kept
theorem execConvert_kept {a1 : Fin 4} {a2 : BlitEvent} (h : Kept ⟨A,false,false,false,false,F,false,false,I,false,false,L,M,N,O,P,false,R,false,T,U,false,X,Y,Z⟩ s0 s) : KeptO ⟨A,false,false,false,false,F,false,false,I,false,false,L,M,N,O,P,false,R,false,T,U,false,X,Y,Z⟩ s0 (execConvert a1 a2 s) := by
  unfold execConvert; with_reducible repeat' first | assumption | apply KeptO.next | apply Kept.ite | apply State.blitRun_kept
theorem execTransform_kept {a1 : Fin 4} {a2 : BlitEvent} (h : Kept ⟨A,false,false,false,false,F,false,false,I,false,false,L,M,N,O,P,false,R,false,T,U,false,X,Y,Z⟩ s0 s) : KeptO ⟨A,false,false,false,false,F,false,false,I,false,false,L,M,N,O,P,false,R,false,T,U,false,X,Y,Z⟩ s0 (execTransform a1 a2 s) := by
  unfold execTransform; with_reducible repeat' first | assumption | apply KeptO.next | apply Kept.ite | apply State.blitRun_kept
theorem execBlitUnitTake_kept {a1 : Fin 4} (h : Kept ⟨A,B,C,D,E,F,G,false,I,false,K,L,M,N,O,P,Q,R,S,T,U,V,X,Y,Z⟩ s0 s) : KeptO ⟨A,B,C,D,E,F,G,false,I,false,K,L,M,N,O,P,Q,R,S,T,U,V,X,Y,Z⟩ s0 (execBlitUnitTake a1 s) := by
  unfold execBlitUnitTake; with_reducible repeat' first | assumption | intros _ | apply KeptO.next | apply Kept.ite | apply State.setUnit_kept | apply State.modRing_kept | (refine Kept.upd ?_; first | assumption | apply State.setUnit_kept | apply State.modRing_kept) | split
theorem State.descFailed_kept {a1 : Nat} {a2 : Status} (h : Kept ⟨A,false,C,D,E,F,G,H,false,J,false,L,M,N,O,P,false,R,S,T,U,V,X,Y,Z⟩ s0 s) : Kept ⟨A,false,C,D,E,F,G,H,false,J,false,L,M,N,O,P,false,R,S,T,U,V,X,Y,Z⟩ s0 (State.descFailed s a1 a2) := by
  unfold State.descFailed; with_reducible repeat' first | assumption | apply Kept.ite | apply State.modChan_kept | apply State.raise_kept
theorem State.retireDescriptor_kept {a1 : Nat} {a2 : RetireWrites} (h : Kept ⟨A,false,C,false,false,F,false,false,false,false,false,L,M,N,O,P,false,R,S,T,U,V,X,Y,Z⟩ s0 s) : Kept ⟨A,false,C,false,false,F,false,false,false,false,false,L,M,N,O,P,false,R,S,T,U,V,X,Y,Z⟩ s0 (State.retireDescriptor s a1 a2) := by
  unfold State.retireDescriptor; with_reducible repeat' first | assumption | intros _ | apply Kept.ite | apply State.descFailed_kept | apply State.modRing_kept | apply State.modChan_kept | apply State.settleRing_kept | apply State.retireRecord_kept | refine Kept.pair1 ‹_› (State.retireRecord_kept ?_) | (refine Kept.upd ?_; first | assumption | apply State.descFailed_kept | apply State.modRing_kept | apply State.modChan_kept | apply State.settleRing_kept | apply State.retireRecord_kept | refine Kept.pair1 ‹_› (State.retireRecord_kept ?_)) | split | apply Kept.foldl | apply Kept.foldl1 | apply Kept.pair1 ‹_› | dsimp only
theorem execDescriptorRetire_kept {a1 : Fin 64} (h : Kept ⟨A,false,C,false,false,F,false,false,false,false,false,L,M,N,O,P,false,R,S,T,U,V,X,Y,Z⟩ s0 s) : KeptO ⟨A,false,C,false,false,F,false,false,false,false,false,L,M,N,O,P,false,R,S,T,U,V,X,Y,Z⟩ s0 (execDescriptorRetire a1 s) := by
  unfold execDescriptorRetire; with_reducible repeat' first | assumption | apply KeptO.next | apply Kept.ite | apply State.retireDescriptor_kept
theorem State.scatter_kept {a1 : List (Nat × Nat)} {a2 : List Byte} (h : Kept ⟨A,B,C,false,false,F,false,H,I,J,K,L,M,N,O,P,Q,R,S,T,U,V,X,Y,Z⟩ s0 s) : Kept ⟨A,B,C,false,false,F,false,H,I,J,K,L,M,N,O,P,Q,R,S,T,U,V,X,Y,Z⟩ s0 (State.scatter s a1 a2) := by
  unfold State.scatter; with_reducible repeat' first | assumption | intros _ | apply Kept.ite | apply State.busWrite_kept | (refine Kept.upd ?_; first | assumption | apply State.busWrite_kept) | split | apply Kept.foldl | apply Kept.foldl1 | apply Kept.pair1 ‹_› | dsimp only
theorem State.moveBytes_kept {a1 : Nat} {a2 : List (Nat × Nat)} {a3 : List Byte} (h : Kept ⟨A,B,C,false,false,F,false,H,false,J,K,L,M,N,O,P,Q,R,S,T,U,V,X,Y,Z⟩ s0 s) : Kept ⟨A,B,C,false,false,F,false,H,false,J,K,L,M,N,O,P,Q,R,S,T,U,V,X,Y,Z⟩ s0 (State.moveBytes s a1 a2 a3) := by
  unfold State.moveBytes; with_reducible repeat' first | assumption | apply Kept.ite | apply State.modChan_kept | apply State.scatter_kept
theorem State.partialMove_kept {a1 : Nat} (h : Kept ⟨A,B,C,false,false,F,false,H,I,J,K,L,M,N,O,P,Q,R,S,T,U,false,X,Y,Z⟩ s0 s) : Kept ⟨A,B,C,false,false,F,false,H,I,J,K,L,M,N,O,P,Q,R,S,T,U,false,X,Y,Z⟩ s0 (State.partialMove s a1) := by
  unfold State.partialMove; with_reducible repeat' first | assumption | intros _ | apply Kept.ite | apply State.draw_kept | refine Kept.pair2 ‹_› (State.draw_kept ?_) | apply State.scatter_kept | (refine Kept.upd ?_; first | assumption | apply State.draw_kept | refine Kept.pair2 ‹_› (State.draw_kept ?_) | apply State.scatter_kept) | split | apply Kept.foldl | apply Kept.foldl1 | apply Kept.pair1 ‹_› | dsimp only
theorem State.openWindow_kept {a1 : Nat} (h : Kept ⟨A,B,C,D,E,F,G,H,false,J,K,L,M,N,O,P,Q,R,S,T,U,V,X,Y,Z⟩ s0 s) : Kept ⟨A,B,C,D,E,F,G,H,false,J,K,L,M,N,O,P,Q,R,S,T,U,V,X,Y,Z⟩ s0 (State.openWindow s a1) := by
  unfold State.openWindow; with_reducible repeat' first | assumption | intros _ | apply Kept.ite | (refine Kept.upd ?_; first | assumption) | split
theorem State.busError_kept {a1 : BusErrKind} {a2 : Nat} {a3 : List Nat} (h : Kept ⟨A,B,C,false,false,F,false,false,false,J,false,L,M,N,O,P,false,R,S,T,U,false,X,Y,Z⟩ s0 s) : Kept ⟨A,B,C,false,false,F,false,false,false,J,false,L,M,N,O,P,false,R,S,T,U,false,X,Y,Z⟩ s0 (State.busError s a1 a2 a3) := by
  unfold State.busError; with_reducible repeat' first | assumption | intros _ | apply Kept.ite | apply State.forEach_kept | apply State.partialMove_kept | apply State.openWindow_kept | apply State.haltRing_kept | apply State.level_kept | (refine Kept.upd ?_; first | assumption | apply State.forEach_kept | apply State.partialMove_kept | apply State.openWindow_kept | apply State.haltRing_kept | apply State.level_kept) | split
theorem execSiphonBusError_kept {a1 : BusErrKind} {a2 : Nat} {a3 : List (Fin 64)} (h : Kept ⟨A,false,C,false,false,F,false,false,false,J,false,L,M,N,O,P,false,R,S,T,U,false,X,Y,Z⟩ s0 s) : KeptO ⟨A,false,C,false,false,F,false,false,false,J,false,L,M,N,O,P,false,R,S,T,U,false,X,Y,Z⟩ s0 (execSiphonBusError a1 a2 a3 s) := by
  unfold execSiphonBusError; with_reducible repeat' first | assumption | apply KeptO.next | apply Kept.ite | apply State.busError_kept | apply State.countUncorrectable_kept
theorem State.runMove_kept {a1 : Nat} {a2 : Exec} {a3 : SgCheck} (h : Kept ⟨A,false,C,false,false,F,false,false,false,J,false,L,M,N,O,P,false,R,S,T,U,false,X,Y,Z⟩ s0 s) : Kept ⟨A,false,C,false,false,F,false,false,false,J,false,L,M,N,O,P,false,R,S,T,U,false,X,Y,Z⟩ s0 (State.runMove s a1 a2 a3) := by
  unfold State.runMove; with_reducible repeat' first | assumption | intros _ | apply Kept.ite | apply State.finishAt_kept | apply State.countBounds_kept | apply State.busError_kept | apply State.countUncorrectable_kept | apply State.moveBytes_kept | (refine Kept.upd ?_; first | assumption | apply State.finishAt_kept | apply State.countBounds_kept | apply State.busError_kept | apply State.countUncorrectable_kept | apply State.moveBytes_kept) | split
theorem execSgCopy_kept {a1 : Fin 64} (h : Kept ⟨A,false,C,false,false,F,false,false,false,J,false,L,M,N,O,P,false,R,S,T,U,false,X,Y,Z⟩ s0 s) : KeptO ⟨A,false,C,false,false,F,false,false,false,J,false,L,M,N,O,P,false,R,S,T,U,false,X,Y,Z⟩ s0 (execSgCopy a1 s) := by
  unfold execSgCopy; with_reducible repeat' first | assumption | intros _ | apply KeptO.next | apply Kept.ite | apply State.runMove_kept | (refine Kept.upd ?_; first | assumption | apply State.runMove_kept) | split
theorem execSiphonFill_kept {a1 : Fin 64} (h : Kept ⟨A,false,C,false,false,F,false,false,false,J,false,L,M,N,O,P,false,R,S,T,U,false,X,Y,Z⟩ s0 s) : KeptO ⟨A,false,C,false,false,F,false,false,false,J,false,L,M,N,O,P,false,R,S,T,U,false,X,Y,Z⟩ s0 (execSiphonFill a1 s) := by
  unfold execSiphonFill; with_reducible repeat' first | assumption | intros _ | apply KeptO.next | apply Kept.ite | apply State.runMove_kept | (refine Kept.upd ?_; first | assumption | apply State.runMove_kept) | split
theorem State.failDesc_kept {a1 : Nat} {a2 : Exec} {a3 : Status} (h : Kept ⟨A,B,C,D,E,F,false,false,I,J,K,L,M,N,O,P,Q,R,S,T,U,V,X,Y,Z⟩ s0 s) : Kept ⟨A,B,C,D,E,F,false,false,I,J,K,L,M,N,O,P,Q,R,S,T,U,V,X,Y,Z⟩ s0 (State.failDesc s a1 a2 a3) := by
  unfold State.failDesc; with_reducible repeat' first | assumption | apply Kept.ite | apply State.finishAt_kept | apply State.countBounds_kept
theorem execCrc_kept {a1 : Fin 64} (h : Kept ⟨A,B,C,false,false,F,false,false,false,J,K,L,M,N,O,P,Q,R,S,T,U,V,X,Y,Z⟩ s0 s) : KeptO ⟨A,B,C,false,false,F,false,false,false,J,K,L,M,N,O,P,Q,R,S,T,U,V,X,Y,Z⟩ s0 (execCrc a1 s) := by
  unfold execCrc; with_reducible repeat' first | assumption | intros _ | apply KeptO.next | apply Kept.ite | apply State.failDesc_kept | apply State.busWrite_kept | apply State.modChan_kept | apply State.finishAt_kept | (refine Kept.upd ?_; first | assumption | apply State.failDesc_kept | apply State.busWrite_kept | apply State.modChan_kept | apply State.finishAt_kept) | split
theorem execSiphonPublish_kept {a1 : Fin 64} (h : Kept ⟨A,false,C,false,false,F,false,false,false,false,false,false,M,N,O,P,false,R,S,T,U,V,X,Y,Z⟩ s0 s) : KeptO ⟨A,false,C,false,false,F,false,false,false,false,false,false,M,N,O,P,false,R,S,T,U,V,X,Y,Z⟩ s0 (execSiphonPublish a1 s) := by
  unfold execSiphonPublish; with_reducible repeat' first | assumption | intros _ | apply KeptO.next | apply Kept.ite | apply State.retireDescriptor_kept | apply State.failDesc_kept | apply State.raise_kept | apply State.modChan_kept | apply State.finishAt_kept | (refine Kept.upd ?_; first | assumption | apply State.retireDescriptor_kept | apply State.failDesc_kept | apply State.raise_kept | apply State.modChan_kept | apply State.finishAt_kept) | split
theorem State.endWait_kept {a1 : Nat} (h : Kept ⟨A,false,C,false,false,F,false,false,false,false,false,L,M,N,O,P,false,R,S,T,U,V,X,Y,Z⟩ s0 s) : Kept ⟨A,false,C,false,false,F,false,false,false,false,false,L,M,N,O,P,false,R,S,T,U,V,X,Y,Z⟩ s0 (State.endWait s a1) := by
  unfold State.endWait; with_reducible repeat' first | assumption | intros _ | apply Kept.ite | apply State.modChan_kept | apply State.retireDescriptor_kept | apply State.finishAt_kept | (refine Kept.upd ?_; first | assumption | apply State.modChan_kept | apply State.retireDescriptor_kept | apply State.finishAt_kept) | split
theorem State.pulseWait_kept {a1 : Nat} (h : Kept ⟨A,false,C,false,false,F,false,false,false,false,false,L,M,N,O,P,false,R,S,T,U,V,X,Y,Z⟩ s0 s) : Kept ⟨A,false,C,false,false,F,false,false,false,false,false,L,M,N,O,P,false,R,S,T,U,V,X,Y,Z⟩ s0 (State.pulseWait s a1) := by
  unfold State.pulseWait; with_reducible repeat' first | assumption | intros _ | apply Kept.ite | apply State.forEach_kept | apply State.modChan_kept | apply State.endWait_kept | (refine Kept.upd ?_; first | assumption | apply State.forEach_kept | apply State.modChan_kept | apply State.endWait_kept) | split
theorem execWait_kept {a1 : Fin 64} (h : Kept ⟨A,false,C,false,false,F,false,false,false,false,false,L,M,N,O,P,false,R,S,T,U,V,X,Y,Z⟩ s0 s) : KeptO ⟨A,false,C,false,false,F,false,false,false,false,false,L,M,N,O,P,false,R,S,T,U,V,X,Y,Z⟩ s0 (execWait a1 s) := by
  unfold execWait; with_reducible repeat' first | assumption | intros _ | apply KeptO.next | apply Kept.ite | apply State.endWait_kept | apply State.failDesc_kept | apply State.modChan_kept | apply State.modRing_kept | (refine Kept.upd ?_; first | assumption | apply State.endWait_kept | apply State.failDesc_kept | apply State.modChan_kept | apply State.modRing_kept) | split
theorem execWaitTimeout_kept {a1 : Fin 64} (h : Kept ⟨A,false,C,false,false,F,false,false,false,false,false,L,M,N,O,P,false,R,S,T,U,V,X,Y,Z⟩ s0 s) : KeptO ⟨A,false,C,false,false,F,false,false,false,false,false,L,M,N,O,P,false,R,S,T,U,V,X,Y,Z⟩ s0 (execWaitTimeout a1 s) := by
  unfold execWaitTimeout; with_reducible repeat' first | assumption | intros _ | apply KeptO.next | apply Kept.ite | apply State.endWait_kept | apply State.retireDescriptor_kept | apply State.finishAt_kept | (refine Kept.upd ?_; first | assumption | apply State.endWait_kept | apply State.retireDescriptor_kept | apply State.finishAt_kept) | split
theorem execWaitSourcePulse_kept {a1 : Fin 160} (h : Kept ⟨A,false,C,false,false,F,false,false,false,false,false,L,M,N,O,P,false,R,S,T,U,V,X,Y,Z⟩ s0 s) : KeptO ⟨A,false,C,false,false,F,false,false,false,false,false,L,M,N,O,P,false,R,S,T,U,V,X,Y,Z⟩ s0 (execWaitSourcePulse a1 s) := by
  unfold execWaitSourcePulse; with_reducible repeat' first | assumption | apply KeptO.next | apply Kept.ite | apply State.pulseWait_kept
theorem execSignal_kept {a1 : Fin 64} (h : Kept ⟨A,false,C,false,false,F,false,false,false,false,false,L,M,N,O,P,false,R,S,T,U,V,X,Y,Z⟩ s0 s) : KeptO ⟨A,false,C,false,false,F,false,false,false,false,false,L,M,N,O,P,false,R,S,T,U,V,X,Y,Z⟩ s0 (execSignal a1 s) := by
  unfold execSignal; with_reducible repeat' first | assumption | intros _ | apply KeptO.next | apply Kept.ite | apply State.failDesc_kept | apply State.finishAt_kept | apply State.raiseNum_kept | apply State.pulseWait_kept | (refine Kept.upd ?_; first | assumption | apply State.failDesc_kept | apply State.finishAt_kept | apply State.raiseNum_kept | apply State.pulseWait_kept) | split
theorem execFence_kept {a1 : Fin 64} (h : Kept ⟨A,B,C,D,E,F,false,false,I,J,K,L,M,N,O,P,Q,R,S,T,U,V,X,Y,Z⟩ s0 s) : KeptO ⟨A,B,C,D,E,F,false,false,I,J,K,L,M,N,O,P,Q,R,S,T,U,V,X,Y,Z⟩ s0 (execFence a1 s) := by
  unfold execFence; with_reducible repeat' first | assumption | intros _ | apply KeptO.next | apply Kept.ite | apply State.finishAt_kept | apply State.failDesc_kept | (refine Kept.upd ?_; first | assumption | apply State.finishAt_kept | apply State.failDesc_kept) | split
theorem State.reenableNow_kept {a1 : Nat} (h : Kept ⟨A,B,C,D,E,F,G,H,false,J,K,L,M,N,O,P,Q,R,S,T,U,V,X,Y,Z⟩ s0 s) : Kept ⟨A,B,C,D,E,F,G,H,false,J,K,L,M,N,O,P,Q,R,S,T,U,V,X,Y,Z⟩ s0 (State.reenableNow s a1) := by
  unfold State.reenableNow; with_reducible repeat' first | assumption | apply Kept.ite | apply State.modChan_kept
theorem State.restartChannel_kept {a1 : Nat} (h : Kept ⟨A,false,C,false,false,F,false,false,false,false,false,L,M,N,O,P,false,R,S,T,U,V,X,Y,Z⟩ s0 s) : Kept ⟨A,false,C,false,false,F,false,false,false,false,false,L,M,N,O,P,false,R,S,T,U,V,X,Y,Z⟩ s0 (State.restartChannel s a1) := by
  unfold State.restartChannel; with_reducible repeat' first | assumption | apply Kept.ite | apply State.modChan_kept | apply State.modRing_kept | apply State.restartRing_kept
theorem execSiphonRestart_kept (h : Kept ⟨A,false,C,false,false,F,false,false,false,false,false,L,M,N,O,P,false,R,S,T,U,V,X,Y,Z⟩ s0 s) : KeptO ⟨A,false,C,false,false,F,false,false,false,false,false,L,M,N,O,P,false,R,S,T,U,V,X,Y,Z⟩ s0 (execSiphonRestart s) := by
  unfold execSiphonRestart; with_reducible repeat' first | assumption | intros _ | apply KeptO.next | apply Kept.ite | apply State.forEach_kept | apply State.haltRing_kept | apply State.modChan_kept | apply State.raise_kept | apply State.level_kept | apply State.restartChannel_kept | apply State.reenableNow_kept | (refine Kept.upd ?_; first | assumption | apply State.forEach_kept | apply State.haltRing_kept | apply State.modChan_kept | apply State.raise_kept | apply State.level_kept | apply State.restartChannel_kept | apply State.reenableNow_kept) | split
theorem State.reenable_kept {a1 : Fn} {a2 : Nat} (h : Kept ⟨false,B,C,D,E,F,G,H,false,J,K,L,M,N,O,P,Q,R,S,T,U,V,X,Y,Z⟩ s0 s) : Kept ⟨false,B,C,D,E,F,G,H,false,J,K,L,M,N,O,P,Q,R,S,T,U,V,X,Y,Z⟩ s0 (State.reenable s a1 a2) := by
  unfold State.reenable; with_reducible repeat' first | assumption | intros _ | apply Kept.ite | apply State.privIgnore_kept | apply State.reenableNow_kept | (refine Kept.upd ?_; first | assumption | apply State.privIgnore_kept | apply State.reenableNow_kept) | split
theorem execReenable_kept {a1 : Fn} {a2 : Fin 64} (h : Kept ⟨false,B,C,D,E,F,G,H,false,J,K,L,M,N,O,P,Q,R,S,T,U,V,X,Y,Z⟩ s0 s) : KeptO ⟨false,B,C,D,E,F,G,H,false,J,K,L,M,N,O,P,Q,R,S,T,U,V,X,Y,Z⟩ s0 (execReenable a1 a2 s) := by
  unfold execReenable; with_reducible repeat' first | assumption | apply KeptO.next | apply Kept.ite | apply State.reenable_kept
theorem State.refuseChannel_kept {a1 : Nat} (h : Kept ⟨A,B,C,D,E,F,G,H,false,J,K,L,M,N,O,P,Q,R,S,T,U,V,X,Y,Z⟩ s0 s) : Kept ⟨A,B,C,D,E,F,G,H,false,J,K,L,M,N,O,P,Q,R,S,T,U,V,X,Y,Z⟩ s0 (State.refuseChannel s a1) := by
  unfold State.refuseChannel; with_reducible repeat' first | assumption | apply Kept.ite | apply State.modChan_kept
theorem State.startChannel_kept {a1 : Nat} (h : Kept ⟨A,B,C,D,E,F,G,H,false,J,K,L,M,N,O,P,Q,R,S,T,U,V,X,Y,Z⟩ s0 s) : Kept ⟨A,B,C,D,E,F,G,H,false,J,K,L,M,N,O,P,Q,R,S,T,U,V,X,Y,Z⟩ s0 (State.startChannel s a1) := by
  unfold State.startChannel; with_reducible repeat' first | assumption | apply Kept.ite | apply State.modChan_kept
theorem State.ringEnable_kept {a1 : Nat} (h : Kept ⟨false,B,C,D,E,F,false,false,false,J,false,L,M,N,O,P,false,R,S,T,U,V,X,Y,Z⟩ s0 s) : Kept ⟨false,B,C,D,E,F,false,false,false,J,false,L,M,N,O,P,false,R,S,T,U,V,X,Y,Z⟩ s0 (State.ringEnable s a1) := by
  unfold State.ringEnable; with_reducible repeat' first | assumption | apply Kept.ite | apply State.refuseChannel_kept | apply State.enableRing_kept | apply State.fixParity_kept | apply State.startChannel_kept
theorem execRingEnable_kept {a1 : Fn} {a2 : Fin 256} (h : Kept ⟨false,B,C,D,E,F,false,false,false,J,false,L,M,N,O,P,false,R,S,T,U,V,X,Y,Z⟩ s0 s) : KeptO ⟨false,B,C,D,E,F,false,false,false,J,false,L,M,N,O,P,false,R,S,T,U,V,X,Y,Z⟩ s0 (execRingEnable a1 a2 s) := by
  unfold execRingEnable; with_reducible repeat' first | assumption | apply KeptO.next | apply Kept.ite | apply State.privIgnore_kept | apply State.ringEnable_kept
theorem State.ringRestart_kept {a1 : Nat} (h : Kept ⟨A,false,C,false,false,F,false,false,false,false,false,L,M,N,O,P,false,R,S,T,U,V,X,Y,Z⟩ s0 s) : Kept ⟨A,false,C,false,false,F,false,false,false,false,false,L,M,N,O,P,false,R,S,T,U,V,X,Y,Z⟩ s0 (State.ringRestart s a1) := by
  unfold State.ringRestart; with_reducible repeat' first | assumption | apply Kept.ite | apply State.refuseChannel_kept | apply State.restartRing_kept | apply State.modChan_kept | apply State.restartChannel_kept
theorem execRestart_kept {a1 : Fn} {a2 : Fin 256} (h : Kept ⟨false,false,C,false,false,F,false,false,false,false,false,L,M,N,O,P,false,R,S,T,U,V,X,Y,Z⟩ s0 s) : KeptO ⟨false,false,C,false,false,F,false,false,false,false,false,L,M,N,O,P,false,R,S,T,U,V,X,Y,Z⟩ s0 (execRestart a1 a2 s) := by
  unfold execRestart; with_reducible repeat' first | assumption | apply KeptO.next | apply Kept.ite | apply State.privIgnore_kept | apply State.ringRestart_kept | apply State.fixParity_kept
theorem State.readHead_kept {a1 : Nat} {a2 : Nat} {a3 : RingRead} (h : Kept ⟨A,false,C,D,E,F,false,H,I,J,false,L,M,N,O,P,false,R,S,T,U,false,X,Y,Z⟩ s0 s) : Kept ⟨A,false,C,D,E,F,false,H,I,J,false,L,M,N,O,P,false,R,S,T,U,false,X,Y,Z⟩ s0 (State.readHead s a1 a2 a3).1 := by
  unfold State.readHead; with_reducible repeat' first | assumption | intros _ | apply Kept.ite | apply State.countBounds_kept | apply State.countUncorrectable_kept | apply State.draw_kept | refine Kept.pair2 ‹_› (State.draw_kept ?_) | (refine Kept.upd ?_; first | assumption | apply State.countBounds_kept | apply State.countUncorrectable_kept | apply State.draw_kept | refine Kept.pair2 ‹_› (State.draw_kept ?_)) | split | apply Kept.foldl | apply Kept.foldl1 | apply Kept.pair1 ‹_› | dsimp only
theorem State.readFailed_kept {a1 : Nat} {a2 : HeadRead} (h : Kept ⟨A,B,C,false,false,F,false,false,false,J,false,L,M,N,O,P,false,R,S,T,U,false,X,Y,Z⟩ s0 s) : Kept ⟨A,B,C,false,false,F,false,false,false,J,false,L,M,N,O,P,false,R,S,T,U,false,X,Y,Z⟩ s0 (State.readFailed s a1 a2) := by
  unfold State.readFailed; with_reducible repeat' first | assumption | intros _ | apply Kept.ite | apply State.busError_kept | apply State.haltRing_kept | (refine Kept.upd ?_; first | assumption | apply State.busError_kept | apply State.haltRing_kept) | split
theorem State.beginEntry_kept {a1 : Nat} {a2 : Exec} (h : Kept ⟨A,B,C,D,E,F,false,false,I,J,false,L,M,N,O,P,false,R,S,T,U,V,X,Y,Z⟩ s0 s) : Kept ⟨A,B,C,D,E,F,false,false,I,J,false,L,M,N,O,P,false,R,S,T,U,V,X,Y,Z⟩ s0 (State.beginEntry s a1 a2) := by
  unfold State.beginEntry; with_reducible repeat' first | assumption | apply Kept.ite | apply State.countBounds_kept | apply State.settleRing_kept | apply State.modRing_kept
theorem execEntryRead_kept {a1 : Fin 256} {a2 : RingRead} (h : Kept ⟨A,false,C,false,false,F,false,false,false,J,false,L,M,N,O,P,false,R,S,T,U,false,X,Y,Z⟩ s0 s) : KeptO ⟨A,false,C,false,false,F,false,false,false,J,false,L,M,N,O,P,false,R,S,T,U,false,X,Y,Z⟩ s0 (execEntryRead a1 a2 s) := by
  unfold execEntryRead; with_reducible repeat' first | assumption | intros _ | apply KeptO.next | apply Kept.ite | apply State.modRing_kept | apply State.readHead_kept | refine Kept.pair1 ‹_› (State.readHead_kept ?_) | apply State.queueLevels_kept | apply State.haltRing_kept | apply State.beginEntry_kept | apply State.readFailed_kept | (refine Kept.upd ?_; first | assumption | apply State.modRing_kept | apply State.readHead_kept | refine Kept.pair1 ‹_› (State.readHead_kept ?_) | apply State.queueLevels_kept | apply State.haltRing_kept | apply State.beginEntry_kept | apply State.readFailed_kept) | split | apply Kept.foldl | apply Kept.foldl1 | apply Kept.pair1 ‹_› | dsimp only
theorem State.haltByField_kept {a1 : Nat} (h : Kept ⟨A,B,C,D,E,F,G,false,I,J,false,L,M,N,O,P,false,R,S,T,U,V,X,Y,Z⟩ s0 s) : Kept ⟨A,B,C,D,E,F,G,false,I,J,false,L,M,N,O,P,false,R,S,T,U,V,X,Y,Z⟩ s0 (State.haltByField s a1) := by
  unfold State.haltByField; with_reducible repeat' first | assumption | apply Kept.ite | apply State.modRing_kept | apply State.haltRing_kept
theorem State.writeRingField_kept {a1 : Nat} {a2 : Nat} {a3 : RingCfg → RingCfg} (h : Kept ⟨false,B,C,D,E,F,G,false,I,J,false,L,M,N,O,P,false,R,S,T,U,V,X,Y,Z⟩ s0 s) : Kept ⟨false,B,C,D,E,F,G,false,I,J,false,L,M,N,O,P,false,R,S,T,U,V,X,Y,Z⟩ s0 (State.writeRingField s a1 a2 a3) := by
  unfold State.writeRingField; with_reducible repeat' first | assumption | apply Kept.ite | apply State.haltByField_kept | apply State.fixParity_kept | apply State.queueLevels_kept | apply State.modRing_kept
theorem State.writeRingClass_kept {a1 : Nat} {a2 : Nat} (h : Kept ⟨false,B,C,D,E,F,G,false,I,J,false,L,M,N,O,P,false,R,S,T,U,V,X,Y,Z⟩ s0 s) : Kept ⟨false,B,C,D,E,F,G,false,I,J,false,L,M,N,O,P,false,R,S,T,U,V,X,Y,Z⟩ s0 (State.writeRingClass s a1 a2) := by
  unfold State.writeRingClass; with_reducible repeat' first | assumption | apply Kept.ite | apply State.badAccess_kept | apply State.fixParity_kept | apply State.queueLevels_kept | apply State.modRing_kept | apply State.writeRingField_kept
theorem State.writeChanCfg_kept {a1 : Nat} {a2 : Nat} (h : Kept ⟨false,B,C,D,E,F,G,false,false,J,false,L,M,N,O,P,false,R,S,T,U,V,X,Y,Z⟩ s0 s) : Kept ⟨false,B,C,D,E,F,G,false,false,J,false,L,M,N,O,P,false,R,S,T,U,V,X,Y,Z⟩ s0 (State.writeChanCfg s a1 a2) := by
  unfold State.writeChanCfg; with_reducible repeat' first | assumption | apply Kept.ite | apply State.modChan_kept | apply State.fixParity_kept | apply State.haltRing_kept
theorem execHaltingFieldWrite_kept {a1 : Fn} {a2 : HaltField} {a3 : Nat} (h : Kept ⟨false,B,C,D,E,F,G,false,false,J,false,L,M,N,O,P,false,R,S,T,U,V,X,Y,Z⟩ s0 s) : KeptO ⟨false,B,C,D,E,F,G,false,false,J,false,L,M,N,O,P,false,R,S,T,U,V,X,Y,Z⟩ s0 (execHaltingFieldWrite a1 a2 a3 s) := by
  unfold execHaltingFieldWrite; with_reducible repeat' first | assumption | intros _ | apply KeptO.next | apply Kept.ite | apply State.writeRingField_kept | apply State.privIgnore_kept | apply State.writeRingClass_kept | apply State.writeChanCfg_kept | (refine Kept.upd ?_; first | assumption | apply State.writeRingField_kept | apply State.privIgnore_kept | apply State.writeRingClass_kept | apply State.writeChanCfg_kept) | split
theorem State.stopRing_kept {a1 : Nat} (h : Kept ⟨A,B,C,D,E,F,G,H,I,false,K,false,M,N,O,P,Q,false,S,T,U,V,X,Y,Z⟩ s0 s) : Kept ⟨A,B,C,D,E,F,G,H,I,false,K,false,M,N,O,P,Q,false,S,T,U,V,X,Y,Z⟩ s0 (State.stopRing s a1) := by
  unfold State.stopRing; with_reducible repeat' first | assumption | intros _ | apply Kept.ite | apply State.forEach_kept | apply State.modUnit_kept | apply State.freeStaging_kept | (refine Kept.upd ?_; first | assumption | apply State.forEach_kept | apply State.modUnit_kept | apply State.freeStaging_kept) | split | apply Kept.foldl | apply Kept.foldl1 | apply Kept.pair1 ‹_› | dsimp only
theorem State.resetSources_kept {a1 : Fn} (h : Kept ⟨A,B,C,D,E,F,G,H,I,J,false,L,M,N,O,P,Q,R,S,T,U,V,X,Y,Z⟩ s0 s) : Kept ⟨A,B,C,D,E,F,G,H,I,J,false,L,M,N,O,P,Q,R,S,T,U,V,X,Y,Z⟩ s0 (State.resetSources s a1) := by
  unfold State.resetSources; with_reducible repeat' first | assumption | intros _ | apply Kept.ite | (refine Kept.upd ?_; first | assumption) | split
theorem State.resetFunction_kept {a1 : Fn} (h : Kept ⟨false,B,C,D,E,F,G,false,I,false,false,false,M,N,O,P,false,false,S,T,U,V,X,Y,Z⟩ s0 s) : Kept ⟨false,B,C,D,E,F,G,false,I,false,false,false,M,N,O,P,false,false,S,T,U,V,X,Y,Z⟩ s0 (State.resetFunction s a1) := by
  unfold State.resetFunction; with_reducible repeat' first | assumption | intros _ | apply Kept.ite | apply State.forEach_kept | apply State.setRing_kept | apply State.stopRing_kept | apply State.setFnCfg_kept | apply State.resetSources_kept | apply State.reorder_kept | apply State.queueLevels_kept | (refine Kept.upd ?_; first | assumption | apply State.forEach_kept | apply State.setRing_kept | apply State.stopRing_kept | apply State.setFnCfg_kept | apply State.resetSources_kept | apply State.reorder_kept | apply State.queueLevels_kept) | split
theorem execFunctionLevelReset_kept {a1 : Fn} (h : Kept ⟨false,B,C,D,E,F,G,false,I,false,false,false,M,N,O,P,false,false,S,T,U,V,X,Y,Z⟩ s0 s) : KeptO ⟨false,B,C,D,E,F,G,false,I,false,false,false,M,N,O,P,false,false,S,T,U,V,X,Y,Z⟩ s0 (execFunctionLevelReset a1 s) := by
  unfold execFunctionLevelReset; with_reducible repeat' first | assumption | apply KeptO.next | apply Kept.ite | apply State.resetFunction_kept

end Sys2Proof.Machine
end

