-- ==== Sys2Proof/Laws/KeptLop.lean ====
section
/-!
SUPPORT. What the functions of the model keep (see Kept): start-up and the LOP services. A lemma of a function names by false the parts it may write.
-/

set_option linter.all false
set_option Elab.async false

namespace Sys2Proof.Machine

variable {A B C D E F G H I J K L M N O P Q R S T U V X Y Z : Bool} {s0 s : State}

theorem State.resetAll_kept {a1 : Nat} (h : Kept ⟨false,false,false,false,false,false,false,false,false,false,false,false,false,false,false,false,false,false,false,false,false,false,false,false,false⟩ s0 s) : Kept ⟨false,false,false,false,false,false,false,false,false,false,false,false,false,false,false,false,false,false,false,false,false,false,false,false,false⟩ s0 (State.resetAll s a1) := by
  refine h.raw (fun x => ?_) rfl
  have := x
  exact ⟨⟨rfl, this.1.2.1, rfl, rfl⟩, fun p hp => absurd hp List.not_mem_nil⟩
theorem State.enterReset_kept {a1 : Nat} (h : Kept ⟨false,false,false,false,false,false,false,false,false,false,false,false,false,false,false,false,false,false,false,false,false,false,false,false,false⟩ s0 s) : Kept ⟨false,false,false,false,false,false,false,false,false,false,false,false,false,false,false,false,false,false,false,false,false,false,false,false,false⟩ s0 (State.enterReset s a1) := by
  unfold State.enterReset; with_reducible repeat' first | assumption | intros _ | apply Kept.ite | apply State.appendHealth_kept | apply State.resetAll_kept | (refine Kept.upd ?_; first | assumption | apply State.appendHealth_kept | apply State.resetAll_kept) | split
theorem State.powerOn_kept (h : Kept ⟨false,false,false,false,false,false,false,false,false,false,false,false,false,false,false,false,false,false,false,false,false,false,false,false,false⟩ s0 s) : Kept ⟨false,false,false,false,false,false,false,false,false,false,false,false,false,false,false,false,false,false,false,false,false,false,false,false,false⟩ s0 (State.powerOn s) := by
  unfold State.powerOn; with_reducible repeat' first | assumption | intros _ | apply Kept.ite | apply State.enterReset_kept | (refine Kept.upd ?_; first | assumption | apply State.enterReset_kept) | split | apply Kept.foldl | apply Kept.foldl1 | apply Kept.pair1 ‹_› | dsimp only
theorem execPowerOnReset_kept (h : Kept ⟨false,false,false,false,false,false,false,false,false,false,false,false,false,false,false,false,false,false,false,false,false,false,false,false,false⟩ s0 s) : KeptO ⟨false,false,false,false,false,false,false,false,false,false,false,false,false,false,false,false,false,false,false,false,false,false,false,false,false⟩ s0 (execPowerOnReset s) := by
  unfold execPowerOnReset; with_reducible repeat' first | assumption | apply KeptO.next | apply Kept.ite | apply State.powerOn_kept
theorem execSupplyMonitorTrip_kept (h : Kept ⟨false,false,false,false,false,false,false,false,false,false,false,false,false,false,false,false,false,false,false,false,false,false,false,false,false⟩ s0 s) : KeptO ⟨false,false,false,false,false,false,false,false,false,false,false,false,false,false,false,false,false,false,false,false,false,false,false,false,false⟩ s0 (execSupplyMonitorTrip s) := by
  unfold execSupplyMonitorTrip; with_reducible repeat' first | assumption | apply KeptO.next | apply Kept.ite | apply State.powerOn_kept
theorem execThermalTrip_kept (h : Kept ⟨false,false,false,false,false,false,false,false,false,false,false,false,false,false,false,false,false,false,false,false,false,false,false,false,false⟩ s0 s) : KeptO ⟨false,false,false,false,false,false,false,false,false,false,false,false,false,false,false,false,false,false,false,false,false,false,false,false,false⟩ s0 (execThermalTrip s) := by
  unfold execThermalTrip; with_reducible repeat' first | assumption | intros _ | apply KeptO.next | apply Kept.ite | apply State.enterReset_kept | (refine Kept.upd ?_; first | assumption | apply State.enterReset_kept) | split
theorem execDeviceReset_kept (h : Kept ⟨false,false,false,false,false,false,false,false,false,false,false,false,false,false,false,false,false,false,false,false,false,false,false,false,false⟩ s0 s) : KeptO ⟨false,false,false,false,false,false,false,false,false,false,false,false,false,false,false,false,false,false,false,false,false,false,false,false,false⟩ s0 (execDeviceReset s) := by
  unfold execDeviceReset; with_reducible repeat' first | assumption | intros _ | apply KeptO.next | apply Kept.ite | apply State.enterReset_kept | (refine Kept.upd ?_; first | assumption | apply State.enterReset_kept) | split
theorem State.holdReset_kept (h : Kept ⟨false,false,false,false,false,false,false,false,false,false,false,false,false,false,false,false,false,false,false,false,false,false,false,false,false⟩ s0 s) : Kept ⟨false,false,false,false,false,false,false,false,false,false,false,false,false,false,false,false,false,false,false,false,false,false,false,false,false⟩ s0 (State.holdReset s) := by
  unfold State.holdReset; with_reducible repeat' first | assumption | intros _ | apply Kept.ite | apply State.resetAll_kept | (refine Kept.upd ?_; first | assumption | apply State.resetAll_kept) | split
theorem execTestEn_kept {a1 : Bool} (h : Kept ⟨false,false,false,false,false,false,false,false,false,false,false,false,false,false,false,false,false,false,false,false,false,false,false,false,false⟩ s0 s) : KeptO ⟨false,false,false,false,false,false,false,false,false,false,false,false,false,false,false,false,false,false,false,false,false,false,false,false,false⟩ s0 (execTestEn a1 s) := by
  unfold execTestEn; with_reducible repeat' first | assumption | intros _ | apply KeptO.next | apply Kept.ite | apply State.holdReset_kept | (refine Kept.upd ?_; first | assumption | apply State.holdReset_kept) | split
theorem execExtest_kept {a1 : Bool} (h : Kept ⟨false,false,false,false,false,false,false,false,false,false,false,false,false,false,false,false,false,false,false,false,false,false,false,false,false⟩ s0 s) : KeptO ⟨false,false,false,false,false,false,false,false,false,false,false,false,false,false,false,false,false,false,false,false,false,false,false,false,false⟩ s0 (execExtest a1 s) := by
  unfold execExtest; with_reducible repeat' first | assumption | intros _ | apply KeptO.next | apply Kept.ite | apply State.holdReset_kept | (refine Kept.upd ?_; first | assumption | apply State.holdReset_kept) | split
theorem State.pcieResetNow_kept (h : Kept ⟨false,B,C,D,E,F,G,false,I,false,false,false,M,N,O,P,false,false,S,T,U,V,X,Y,Z⟩ s0 s) : Kept ⟨false,B,C,D,E,F,G,false,I,false,false,false,M,N,O,P,false,false,S,T,U,V,X,Y,Z⟩ s0 (State.pcieResetNow s) := by
  unfold State.pcieResetNow; with_reducible repeat' first | assumption | intros _ | apply Kept.ite | apply State.resetFunction_kept | (refine Kept.upd ?_; first | assumption | apply State.resetFunction_kept) | split
theorem execPerst_kept (h : Kept ⟨false,false,false,false,false,false,false,false,false,false,false,false,false,false,false,false,false,false,false,false,false,false,false,false,false⟩ s0 s) : KeptO ⟨false,false,false,false,false,false,false,false,false,false,false,false,false,false,false,false,false,false,false,false,false,false,false,false,false⟩ s0 (execPerst s) := by
  unfold execPerst; with_reducible repeat' first | assumption | apply KeptO.next | apply Kept.ite | apply State.pcieResetNow_kept | apply State.enterReset_kept
theorem execPcieReset_kept (h : Kept ⟨false,B,C,D,E,F,G,false,I,false,false,false,M,N,O,P,false,false,S,T,U,V,X,Y,Z⟩ s0 s) : KeptO ⟨false,B,C,D,E,F,G,false,I,false,false,false,M,N,O,P,false,false,S,T,U,V,X,Y,Z⟩ s0 (execPcieReset s) := by
  unfold execPcieReset; with_reducible repeat' first | assumption | apply KeptO.next | apply Kept.ite | apply State.pcieResetNow_kept
theorem execPcieResetEnd_kept (h : Kept ⟨false,false,C,D,E,F,G,H,I,J,false,L,M,N,O,P,false,R,S,T,U,V,X,Y,Z⟩ s0 s) : KeptO ⟨false,false,C,D,E,F,G,H,I,J,false,L,M,N,O,P,false,R,S,T,U,V,X,Y,Z⟩ s0 (execPcieResetEnd s) := by
  unfold execPcieResetEnd; with_reducible repeat' first | assumption | intros _ | apply KeptO.next | apply Kept.ite | apply State.raise_kept | (refine Kept.upd ?_; first | assumption | apply State.raise_kept) | split
theorem execConfigurationWrite_kept {a1 : Fn} {a2 : CfgWrite} (h : Kept ⟨A,B,C,D,E,F,G,H,I,J,false,L,M,N,O,P,Q,R,S,T,U,V,X,Y,Z⟩ s0 s) : KeptO ⟨A,B,C,D,E,F,G,H,I,J,false,L,M,N,O,P,Q,R,S,T,U,V,X,Y,Z⟩ s0 (execConfigurationWrite a1 a2 s) := by
  unfold execConfigurationWrite; with_reducible repeat' first | assumption | intros _ | apply KeptO.next | apply Kept.ite | apply State.setFnCfg_kept | (refine Kept.upd ?_; first | assumption | apply State.setFnCfg_kept) | split
theorem execRefClockLost_kept (h : Kept ⟨false,false,C,D,E,F,G,H,I,J,false,L,M,N,O,P,false,R,S,T,U,V,X,Y,Z⟩ s0 s) : KeptO ⟨false,false,C,D,E,F,G,H,I,J,false,L,M,N,O,P,false,R,S,T,U,V,X,Y,Z⟩ s0 (execRefClockLost s) := by
  unfold execRefClockLost; with_reducible repeat' first | assumption | intros _ | apply KeptO.next | apply Kept.ite | apply State.raise_kept | (refine Kept.upd ?_; first | assumption | apply State.raise_kept) | split
theorem execRefClockRestored_kept (h : Kept ⟨false,false,C,D,E,F,G,H,I,J,false,L,M,N,O,P,false,R,S,T,U,V,X,Y,Z⟩ s0 s) : KeptO ⟨false,false,C,D,E,F,G,H,I,J,false,L,M,N,O,P,false,R,S,T,U,V,X,Y,Z⟩ s0 (execRefClockRestored s) := by
  unfold execRefClockRestored; with_reducible repeat' first | assumption | intros _ | apply KeptO.next | apply Kept.ite | apply State.raise_kept | (refine Kept.upd ?_; first | assumption | apply State.raise_kept) | split
theorem execResetRelease_kept {a1 : StrapBalls} (h : Kept ⟨false,false,C,D,E,F,G,H,I,J,K,L,M,N,O,P,Q,R,S,T,U,V,X,Y,false⟩ s0 s) : KeptO ⟨false,false,C,D,E,F,G,H,I,J,K,L,M,N,O,P,Q,R,S,T,U,V,X,Y,false⟩ s0 (execResetRelease a1 s) := by
  unfold execResetRelease
  refine KeptO.next (Kept.ite h ?_)
  refine Kept.upd h rfl rfl rfl ?_ rfl
  dsimp only
  split
  · rfl
  · generalize hb : ({ s.boot with straps := StrapBalls.value a1, releaseAt := 0, watchdog := true, bootFault := 0 } : Boot) = b
    have e : b.recovBuf = s.boot.recovBuf := by rw [← hb]
    have c := b.choose_recovBuf
    split
    · rename_i d; rw [d] at c; exact c.trans e
    · rename_i d; rw [d] at c; exact c.trans e
theorem execBootWatchdog_kept (h : Kept ⟨false,false,false,false,false,false,false,false,false,false,false,false,false,false,false,false,false,false,false,false,false,false,false,false,false⟩ s0 s) : KeptO ⟨false,false,false,false,false,false,false,false,false,false,false,false,false,false,false,false,false,false,false,false,false,false,false,false,false⟩ s0 (execBootWatchdog s) := by
  unfold execBootWatchdog; with_reducible repeat' first | assumption | apply KeptO.next | apply Kept.ite | apply State.enterReset_kept
theorem State.retireEcho_kept (h : Kept ⟨false,false,false,D,E,F,G,H,I,J,false,L,M,N,O,false,false,R,false,T,U,V,X,Y,Z⟩ s0 s) : Kept ⟨false,false,false,D,E,F,G,H,I,J,false,L,M,N,O,false,false,R,false,T,U,V,X,Y,Z⟩ s0 (State.retireEcho s) := by
  unfold State.retireEcho; with_reducible repeat' first | assumption | intros _ | apply Kept.ite | apply State.healthDue_kept | apply State.noteConditions_kept | apply State.raise_kept | (refine Kept.upd ?_; first | assumption | apply State.healthDue_kept | apply State.noteConditions_kept | apply State.raise_kept) | split
theorem State.retireUnit_kept {a1 : Nat} (h : Kept ⟨A,false,false,D,E,F,G,H,I,false,false,L,M,N,O,P,false,R,false,T,U,V,X,Y,Z⟩ s0 s) : Kept ⟨A,false,false,D,E,F,G,H,I,false,false,L,M,N,O,P,false,R,false,T,U,V,X,Y,Z⟩ s0 (State.retireUnit s a1) := by
  unfold State.retireUnit; with_reducible repeat' first | assumption | apply Kept.ite | apply State.healthDue_kept | apply State.noteReplacement_kept | apply State.raise_kept | apply State.modUnit_kept
theorem State.selfTest_kept {a1 : SelfTest} (h : Kept ⟨false,false,false,D,E,F,false,H,I,false,false,false,false,false,false,false,false,R,false,T,U,V,X,Y,Z⟩ s0 s) : Kept ⟨false,false,false,D,E,F,false,H,I,false,false,false,false,false,false,false,false,R,false,T,U,V,X,Y,Z⟩ s0 (State.selfTest s a1) := by
  unfold State.selfTest; with_reducible repeat' first | assumption | intros _ | apply Kept.ite | apply State.forEach_kept | apply State.retireEngine_kept | apply State.retireGallery_kept | apply State.retireEcho_kept | apply State.retireUnit_kept | apply State.retireGranule_kept | (refine Kept.upd ?_; first | assumption | apply State.forEach_kept | apply State.retireEngine_kept | apply State.retireGallery_kept | apply State.retireEcho_kept | apply State.retireUnit_kept | apply State.retireGranule_kept) | split
theorem State.faultBoot_kept {a1 : Nat} (h : Kept ⟨A,false,C,D,E,F,G,H,I,J,K,L,M,N,O,P,Q,R,S,T,U,V,X,Y,Z⟩ s0 s) : Kept ⟨A,false,C,D,E,F,G,H,I,J,K,L,M,N,O,P,Q,R,S,T,U,V,X,Y,Z⟩ s0 (State.faultBoot s a1) := by
  unfold State.faultBoot; with_reducible repeat' first | assumption | intros _ | apply Kept.ite | (refine Kept.upd ?_; first | assumption) | split
theorem State.setFwReady_kept (h : Kept ⟨false,false,C,D,E,F,G,H,I,J,false,L,M,N,O,P,false,R,S,T,U,V,X,Y,Z⟩ s0 s) : Kept ⟨false,false,C,D,E,F,G,H,I,J,false,L,M,N,O,P,false,R,S,T,U,V,X,Y,Z⟩ s0 (State.setFwReady s) := by
  unfold State.setFwReady; with_reducible repeat' first | assumption | intros _ | apply Kept.ite | apply State.forEach_kept | apply State.occur_kept | (refine Kept.upd ?_; first | assumption | apply State.forEach_kept | apply State.occur_kept) | split
theorem execFwReady_kept {a1 : BootOutcome} {a2 : SelfTest} (h : Kept ⟨false,false,false,false,false,false,false,false,false,false,false,false,false,false,false,false,false,false,false,false,false,false,false,false,false⟩ s0 s) : KeptO ⟨false,false,false,false,false,false,false,false,false,false,false,false,false,false,false,false,false,false,false,false,false,false,false,false,false⟩ s0 (execFwReady a1 a2 s) := by
  unfold execFwReady; with_reducible repeat' first | assumption | intros _ | apply KeptO.next | apply Kept.ite | apply State.faultBoot_kept | apply State.enterReset_kept | apply State.loadDictionary_kept | apply State.noteConditions_kept | apply State.noteEngines_kept | apply State.selfTest_kept | apply State.sparesLevel_kept | apply State.setFwReady_kept | apply State.raise_kept | (refine Kept.upd ?_; first | assumption | apply State.faultBoot_kept | apply State.enterReset_kept | apply State.loadDictionary_kept | apply State.noteConditions_kept | apply State.noteEngines_kept | apply State.selfTest_kept | apply State.sparesLevel_kept | apply State.setFwReady_kept | apply State.raise_kept) | split
theorem State.countTrip_kept (h : Kept ⟨A,false,false,D,E,F,G,H,I,J,false,L,M,N,O,P,false,R,false,T,U,V,X,Y,Z⟩ s0 s) : Kept ⟨A,false,false,D,E,F,G,H,I,J,false,L,M,N,O,P,false,R,false,T,U,V,X,Y,Z⟩ s0 (State.countTrip s) := by
  unfold State.countTrip; with_reducible repeat' first | assumption | intros _ | apply Kept.ite | apply State.healthDue_kept | apply State.noteReplacement_kept | apply State.raise_kept | (refine Kept.upd ?_; first | assumption | apply State.healthDue_kept | apply State.noteReplacement_kept | apply State.raise_kept) | split
theorem execBootEnd_kept (h : Kept ⟨false,false,false,false,false,F,false,false,I,J,false,L,false,false,false,false,false,false,false,false,U,V,X,Y,false⟩ s0 s) : KeptO ⟨false,false,false,false,false,F,false,false,I,J,false,L,false,false,false,false,false,false,false,false,U,V,X,Y,false⟩ s0 (execBootEnd s) := by
  unfold execBootEnd
  refine KeptO.next (Kept.ite h ?_)
  extract_lets unplanned hs s1 sets s2 trial bs b1 b2 ss fs s3 s4 s5
  have h1 : Kept ⟨false,false,false,false,false,F,false,false,I,J,false,L,false,false,false,false,false,false,false,false,U,V,X,Y,false⟩ s0 s1 := Kept.upd h
  have h2 : Kept ⟨false,false,false,false,false,F,false,false,I,J,false,L,false,false,false,false,false,false,false,false,U,V,X,Y,false⟩ s0 s2 := State.forEach_kept h1 (fun t a k => State.modGallery_kept k)
  have hb : b2.recovBuf = s2.boot.recovBuf := by unfold b2; split <;> rfl
  have h3 : Kept ⟨false,false,false,false,false,F,false,false,I,J,false,L,false,false,false,false,false,false,false,false,U,V,X,Y,false⟩ s0 s3 := Kept.upd h2 rfl rfl rfl hb rfl
  have h4 : Kept ⟨false,false,false,false,false,F,false,false,I,J,false,L,false,false,false,false,false,false,false,false,U,V,X,Y,false⟩ s0 s5 := State.raise_kept (State.passBoundary_kept h3)
  exact State.countTrip_kept (Kept.ite (State.raise_kept h4) h4)
theorem State.confirmImage_kept (h : Kept ⟨A,false,C,D,E,F,G,H,I,J,false,L,M,N,O,P,false,R,S,T,U,V,X,Y,Z⟩ s0 s) : Kept ⟨A,false,C,D,E,F,G,H,I,J,false,L,M,N,O,P,false,R,S,T,U,V,X,Y,Z⟩ s0 (State.confirmImage s) := by
  unfold State.confirmImage; with_reducible repeat' first | assumption | intros _ | apply Kept.ite | apply State.raise_kept | (refine Kept.upd ?_; first | assumption | apply State.raise_kept) | split
theorem execConfirmDelay_kept (h : Kept ⟨A,false,C,D,E,F,G,H,I,J,false,L,M,N,O,P,false,R,S,T,U,V,X,Y,Z⟩ s0 s) : KeptO ⟨A,false,C,D,E,F,G,H,I,J,false,L,M,N,O,P,false,R,S,T,U,V,X,Y,Z⟩ s0 (execConfirmDelay s) := by
  unfold execConfirmDelay; with_reducible repeat' first | assumption | apply KeptO.next | apply Kept.ite | apply State.confirmImage_kept
theorem execRecoveryStart_kept {a1 : Fn} (h : Kept ⟨A,false,C,D,E,F,G,H,I,J,K,L,M,N,O,P,Q,R,S,T,U,V,X,Y,Z⟩ s0 s) : KeptO ⟨A,false,C,D,E,F,G,H,I,J,K,L,M,N,O,P,Q,R,S,T,U,V,X,Y,Z⟩ s0 (execRecoveryStart a1 s) := by
  unfold execRecoveryStart; with_reducible repeat' first | assumption | intros _ | apply KeptO.next | apply Kept.ite | (refine Kept.upd ?_; first | assumption) | split
theorem execRecoveryChunk_kept {a1 : Fn} (h : Kept ⟨A,false,C,D,E,F,G,H,I,J,K,L,M,N,O,P,Q,R,S,T,U,V,X,Y,Z⟩ s0 s) : KeptO ⟨A,false,C,D,E,F,G,H,I,J,K,L,M,N,O,P,Q,R,S,T,U,V,X,Y,Z⟩ s0 (execRecoveryChunk a1 s) := by
  unfold execRecoveryChunk; with_reducible repeat' first | assumption | intros _ | apply KeptO.next | apply Kept.ite | (refine Kept.upd ?_; first | assumption) | split
theorem execRecoveryFinish_kept {a1 : Fn} (h : Kept ⟨false,false,false,false,false,false,false,false,false,false,false,false,false,false,false,false,false,false,false,false,false,false,false,false,false⟩ s0 s) : KeptO ⟨false,false,false,false,false,false,false,false,false,false,false,false,false,false,false,false,false,false,false,false,false,false,false,false,false⟩ s0 (execRecoveryFinish a1 s) := by
  unfold execRecoveryFinish; with_reducible repeat' first | assumption | intros _ | apply KeptO.next | apply Kept.ite | apply State.enterReset_kept | (refine Kept.upd ?_; first | assumption | apply State.enterReset_kept) | split
theorem State.setCore_kept {a1 : Nat} {a2 : Core} (h : Kept ⟨false,B,C,D,E,F,G,H,I,J,K,L,M,N,O,P,Q,R,S,T,U,V,X,false,Z⟩ s0 s) : Kept ⟨false,B,C,D,E,F,G,H,I,J,K,L,M,N,O,P,Q,R,S,T,U,V,X,false,Z⟩ s0 (State.setCore s a1 a2) := by
  unfold State.setCore; with_reducible repeat' first | assumption | intros _ | apply Kept.ite | (refine Kept.upd ?_; first | assumption) | split
theorem State.mapFirmware_kept {a1 : State → Ring → Nat → Bool} {a2 : State → Ring → Exec → Exec} (h : Kept ⟨A,B,C,D,E,F,G,false,I,J,K,L,M,N,O,P,Q,R,S,T,U,V,X,Y,Z⟩ s0 s) : Kept ⟨A,B,C,D,E,F,G,false,I,J,K,L,M,N,O,P,Q,R,S,T,U,V,X,Y,Z⟩ s0 (State.mapFirmware s a1 a2) := by
  unfold State.mapFirmware; with_reducible repeat' first | assumption | intros _ | apply Kept.ite | (refine Kept.upd ?_; first | assumption) | split
theorem State.rerun_kept {a1 : Nat} (h : Kept ⟨A,B,C,D,E,F,G,false,I,J,K,L,M,N,O,P,Q,false,S,T,U,V,X,Y,Z⟩ s0 s) : Kept ⟨A,B,C,D,E,F,G,false,I,J,K,L,M,N,O,P,Q,false,S,T,U,V,X,Y,Z⟩ s0 (State.rerun s a1) := by
  unfold State.rerun; with_reducible repeat' first | assumption | intros _ | apply Kept.ite | apply State.mapFirmware_kept | (refine Kept.upd ?_; first | assumption | apply State.mapFirmware_kept) | split
theorem State.closeFirmware_kept (h : Kept ⟨false,false,C,false,false,F,false,false,I,J,false,L,false,false,false,false,false,false,false,false,false,V,X,Y,false⟩ s0 s) : Kept ⟨false,false,C,false,false,F,false,false,I,J,false,L,false,false,false,false,false,false,false,false,false,V,X,Y,false⟩ s0 (State.closeFirmware s) := by
  unfold State.closeFirmware; with_reducible repeat' first | assumption | intros _ | apply Kept.ite | apply State.mapFirmware_kept | apply State.windowAnswer_kept | apply State.passBoundary_kept | (refine Kept.upd ?_; first | assumption | apply State.mapFirmware_kept | apply State.windowAnswer_kept | apply State.passBoundary_kept) | split
theorem execLockstepFault_kept {a1 : Fin 2} (h : Kept ⟨false,false,C,false,false,F,false,false,I,J,false,L,false,false,false,false,false,false,false,false,false,V,X,false,false⟩ s0 s) : KeptO ⟨false,false,C,false,false,F,false,false,I,J,false,L,false,false,false,false,false,false,false,false,false,V,X,false,false⟩ s0 (execLockstepFault a1 s) := by
  unfold execLockstepFault; with_reducible repeat' first | assumption | apply KeptO.next | apply Kept.ite | apply State.raise_kept | apply State.setCore_kept | apply State.noteConditions_kept | apply State.closeFirmware_kept | apply State.rerun_kept
theorem execCoreRestartDone_kept {a1 : Fin 2} (h : Kept ⟨false,B,C,D,E,F,G,false,I,J,K,L,M,N,O,P,Q,false,S,T,U,V,X,false,Z⟩ s0 s) : KeptO ⟨false,B,C,D,E,F,G,false,I,J,K,L,M,N,O,P,Q,false,S,T,U,V,X,false,Z⟩ s0 (execCoreRestartDone a1 s) := by
  unfold execCoreRestartDone; with_reducible repeat' first | assumption | apply KeptO.next | apply Kept.ite | apply State.rerun_kept | apply State.setCore_kept
theorem State.dropTransfer_kept {a1 : Nat} (h : Kept ⟨A,false,C,D,E,F,G,H,I,J,K,L,M,N,O,P,Q,R,S,T,false,V,X,Y,Z⟩ s0 s) : Kept ⟨A,false,C,D,E,F,G,H,I,J,K,L,M,N,O,P,Q,R,S,T,false,V,X,Y,Z⟩ s0 (State.dropTransfer s a1) := by
  unfold State.dropTransfer
  dsimp only
  split
  · exact Kept.upd h rfl rfl rfl (Boot.setSlot_recovBuf _ _ _) rfl
  · exact Kept.upd h
theorem State.closeSession_kept {a1 : Nat} (h : Kept ⟨A,false,C,D,E,F,G,H,I,J,K,L,M,N,O,P,Q,R,S,T,false,V,X,Y,Z⟩ s0 s) : Kept ⟨A,false,C,D,E,F,G,H,I,J,K,L,M,N,O,P,Q,R,S,T,false,V,X,Y,Z⟩ s0 (State.closeSession s a1) := by
  unfold State.closeSession; with_reducible repeat' first | assumption | intros _ | apply Kept.ite | apply State.forEach_kept | apply State.dropTransfer_kept | (refine Kept.upd ?_; first | assumption | apply State.forEach_kept | apply State.dropTransfer_kept) | split
theorem State.purge_kept (h : Kept ⟨A,false,C,D,E,F,G,H,I,J,K,L,M,N,O,P,Q,R,S,T,false,V,X,Y,Z⟩ s0 s) : Kept ⟨A,false,C,D,E,F,G,H,I,J,K,L,M,N,O,P,Q,R,S,T,false,V,X,Y,Z⟩ s0 (State.purge s) := by
  unfold State.purge; with_reducible repeat' first | assumption | apply Kept.ite | apply State.forEach_kept | apply State.dropTransfer_kept | apply State.closeSession_kept
theorem State.touchSession_kept {a1 : LopCtx} (h : Kept ⟨A,B,C,D,E,F,G,H,I,J,K,L,M,N,O,P,Q,R,S,T,false,V,X,Y,Z⟩ s0 s) : Kept ⟨A,B,C,D,E,F,G,H,I,J,K,L,M,N,O,P,Q,R,S,T,false,V,X,Y,Z⟩ s0 (State.touchSession s a1) := by
  unfold State.touchSession; with_reducible repeat' first | assumption | intros _ | apply Kept.ite | (refine Kept.upd ?_; first | assumption) | split
theorem State.svcRead_kept {a1 : LopCtx} {a2 : Nat} {a3 : Nat} {a4 : Nat} (h : Kept ⟨A,false,C,false,false,F,false,false,I,J,false,L,M,N,O,P,false,false,S,T,false,V,X,Y,Z⟩ s0 s) : Kept ⟨A,false,C,false,false,F,false,false,I,J,false,L,M,N,O,P,false,false,S,T,false,V,X,Y,Z⟩ s0 (State.svcRead s a1 a2 a3 a4) := by
  unfold State.svcRead; with_reducible repeat' first | assumption | intros _ | apply Kept.ite | apply State.reply_kept | (refine Kept.upd ?_; first | assumption | apply State.reply_kept) | split
theorem State.svcDescribe_kept {a1 : LopCtx} {a2 : Nat} {a3 : Nat} (h : Kept ⟨A,false,C,false,false,F,false,false,I,J,false,L,M,N,O,P,false,false,S,T,false,V,X,Y,Z⟩ s0 s) : Kept ⟨A,false,C,false,false,F,false,false,I,J,false,L,M,N,O,P,false,false,S,T,false,V,X,Y,Z⟩ s0 (State.svcDescribe s a1 a2 a3) := by
  unfold State.svcDescribe; with_reducible repeat' first | assumption | intros _ | apply Kept.ite | apply State.reply_kept | (refine Kept.upd ?_; first | assumption | apply State.reply_kept) | split
theorem State.activateImage_kept (h : Kept ⟨A,false,C,D,E,F,G,H,I,J,K,L,M,N,O,P,Q,R,S,T,U,V,X,Y,Z⟩ s0 s) : Kept ⟨A,false,C,D,E,F,G,H,I,J,K,L,M,N,O,P,Q,R,S,T,U,V,X,Y,Z⟩ s0 (State.activateImage s).1 := by
  unfold State.activateImage; with_reducible repeat' first | assumption | intros _ | apply Kept.ite | (refine Kept.upd ?_; first | assumption) | split | apply Kept.foldl | apply Kept.foldl1 | apply Kept.pair1 ‹_› | dsimp only
theorem State.advanceRollback_kept {a1 : Nat} (h : Kept ⟨A,false,C,D,E,F,G,H,I,J,K,L,M,N,O,P,Q,R,S,T,U,V,X,Y,Z⟩ s0 s) : Kept ⟨A,false,C,D,E,F,G,H,I,J,K,L,M,N,O,P,Q,R,S,T,U,V,X,Y,Z⟩ s0 (State.advanceRollback s a1).1 := by
  unfold State.advanceRollback; with_reducible repeat' first | assumption | intros _ | apply Kept.ite | (refine Kept.upd ?_; first | assumption) | split | apply Kept.foldl | apply Kept.foldl1 | apply Kept.pair1 ‹_› | dsimp only
theorem State.keyWritten_kept {a1 : LopCtx} (h : Kept ⟨A,false,C,D,E,F,G,H,I,J,K,L,M,N,O,P,Q,R,S,T,false,V,X,Y,Z⟩ s0 s) : Kept ⟨A,false,C,D,E,F,G,H,I,J,K,L,M,N,O,P,Q,R,S,T,false,V,X,Y,Z⟩ s0 (State.keyWritten s a1) := by
  unfold State.keyWritten; with_reducible repeat' first | assumption | apply Kept.ite | apply State.forEach_kept | apply State.closeSession_kept
theorem State.keepForward_kept {a1 : LopCtx} {a2 : Nat} (h : Kept ⟨A,B,C,D,E,F,G,H,I,J,K,L,M,N,O,P,Q,R,S,T,false,V,X,Y,Z⟩ s0 s) : Kept ⟨A,B,C,D,E,F,G,H,I,J,K,L,M,N,O,P,Q,R,S,T,false,V,X,Y,Z⟩ s0 (State.keepForward s a1 a2) := by
  unfold State.keepForward; with_reducible repeat' first | assumption | intros _ | apply Kept.ite | (refine Kept.upd ?_; first | assumption) | split
theorem State.forward_kept {a1 : LopCtx} {a2 : Nat} {a3 : Nat} {a4 : List Byte} (h : Kept ⟨A,false,C,false,false,F,false,false,I,J,false,L,M,N,O,P,false,false,S,T,false,V,X,Y,Z⟩ s0 s) : Kept ⟨A,false,C,false,false,F,false,false,I,J,false,L,M,N,O,P,false,false,S,T,false,V,X,Y,Z⟩ s0 (State.forward s a1 a2 a3 a4) := by
  unfold State.forward; with_reducible repeat' first | assumption | intros _ | apply Kept.ite | apply State.reply_kept | apply State.sendLop_kept | apply State.keepForward_kept | (refine Kept.upd ?_; first | assumption | apply State.reply_kept | apply State.sendLop_kept | apply State.keepForward_kept) | split | apply Kept.foldl | apply Kept.foldl1 | apply Kept.pair1 ‹_› | dsimp only
theorem State.domainWrite_kept {a1 : LopCtx} {a2 : Nat} {a3 : Nat} {a4 : List Byte} (h : Kept ⟨A,false,C,false,false,F,false,false,I,J,false,L,M,N,O,P,false,false,S,T,false,V,X,Y,Z⟩ s0 s) : Kept ⟨A,false,C,false,false,F,false,false,I,J,false,L,M,N,O,P,false,false,S,T,false,V,X,Y,Z⟩ s0 (State.domainWrite s a1 a2 a3 a4) := by
  unfold State.domainWrite; with_reducible repeat' first | assumption | intros _ | apply Kept.ite | apply State.nameDomainWrite_kept | apply State.forEach_kept | apply State.sendLop_kept | apply State.reply_kept | apply State.forward_kept | (refine Kept.upd ?_; first | assumption | apply State.nameDomainWrite_kept | apply State.forEach_kept | apply State.sendLop_kept | apply State.reply_kept | apply State.forward_kept) | split
theorem State.modeWrite_kept {a1 : LopCtx} {a2 : Nat} {a3 : List Byte} (h : Kept ⟨false,false,C,false,false,F,false,false,I,J,false,L,M,N,O,P,false,false,S,T,false,V,X,Y,Z⟩ s0 s) : Kept ⟨false,false,C,false,false,F,false,false,I,J,false,L,M,N,O,P,false,false,S,T,false,V,X,Y,Z⟩ s0 (State.modeWrite s a1 a2 a3) := by
  unfold State.modeWrite; with_reducible repeat' first | assumption | apply Kept.ite | apply State.reply_kept | apply State.countRefused_kept | apply State.requestMode_kept
theorem State.commandWrite_kept {a1 a2 : Nat} {a3 : List Byte} (h : Kept ⟨false,false,C,D,E,F,false,H,I,J,false,L,M,false,false,false,false,R,S,false,U,V,X,Y,Z⟩ s0 s) :
    KeptP ⟨false,false,C,D,E,F,false,H,I,J,false,L,M,false,false,false,false,R,S,false,U,V,X,Y,Z⟩ s0 (State.commandWrite s a1 a2 a3) := by
  unfold State.commandWrite
  extract_lets n given
  have g : ∀ f : State × Nat, Kept ⟨false,false,C,D,E,F,false,H,I,J,false,L,M,false,false,false,false,R,S,false,U,V,X,Y,Z⟩ s0 f.1 → KeptP ⟨false,false,C,D,E,F,false,H,I,J,false,L,M,false,false,false,false,R,S,false,U,V,X,Y,Z⟩ s0 (some (given f)) := by
    intro f k
    exact KeptP.some (Kept.ite1 k h)
  clear_value given
  refine KeptP.ite (g _ (State.askStore_kept h)) ?_
  refine KeptP.ite (g _ (State.activateImage_kept h)) ?_
  refine KeptP.ite (g _ (Kept.ite1 (State.confirmImage_kept h) h)) ?_
  refine KeptP.ite (KeptP.some (State.advanceRollback_kept h)) ?_
  refine KeptP.ite (KeptP.some (Kept.ite1 (Kept.upd h) h)) ?_
  refine KeptP.ite (g _ (State.linkReenable_kept h)) ?_
  refine KeptP.ite (g _ (State.headResume_kept h)) ?_
  exact KeptP.ite (g _ (State.wbArm_kept h)) KeptP.none
theorem State.svcWrite_kept {a1 : LopCtx} {a2 : Nat} {a3 : Nat} {a4 : List Byte} (h : Kept ⟨false,false,C,false,false,F,false,false,I,J,false,L,M,false,false,false,false,false,S,false,false,V,X,Y,Z⟩ s0 s) : Kept ⟨false,false,C,false,false,F,false,false,I,J,false,L,M,false,false,false,false,false,S,false,false,V,X,Y,Z⟩ s0 (State.svcWrite s a1 a2 a3 a4) := by
  unfold State.svcWrite
  extract_lets answer
  have ga : ∀ t a, Kept ⟨false,false,C,false,false,F,false,false,I,J,false,L,M,false,false,false,false,false,S,false,false,V,X,Y,Z⟩ s0 t → Kept ⟨false,false,C,false,false,F,false,false,I,J,false,L,M,false,false,false,false,false,S,false,false,V,X,Y,Z⟩ s0 (answer t a) := fun t a k => State.reply_kept k
  clear_value answer
  split
  · exact ga _ _ h
  · refine Kept.ite (ga _ _ h) ?_
    extract_lets a
    clear_value a
    refine Kept.ite (State.modeWrite_kept h) (Kept.ite (ga _ _ h) ?_)
    split
    · exact ga _ _ h
    · refine Kept.ite (State.domainWrite_kept h) ?_
      split
      · rename_i e
        exact ga _ _ ((State.commandWrite_kept h).out _ e)
      · exact ga _ _ (Kept.ite (State.keyWritten_kept (State.writeEntry_kept h)) (State.writeEntry_kept h))
theorem State.openTransfer_kept {a1 : LopCtx} {a2 : Nat} {a3 : Bool} {a4 : Nat} {a5 : List Byte} (h : Kept ⟨A,B,C,D,E,F,G,H,I,J,K,L,M,N,O,P,Q,R,S,T,false,V,X,Y,Z⟩ s0 s) : Kept ⟨A,B,C,D,E,F,G,H,I,J,K,L,M,N,O,P,Q,R,S,T,false,V,X,Y,Z⟩ s0 (State.openTransfer s a1 a2 a3 a4 a5).1 := by
  unfold State.openTransfer; with_reducible repeat' first | assumption | intros _ | apply Kept.ite | (refine Kept.upd ?_; first | assumption) | split
theorem State.svcSegReadStart_kept {a1 : LopCtx} {a2 : Nat} {a3 : Nat} {a4 : Nat} (h : Kept ⟨A,false,C,false,false,F,false,false,I,J,false,L,M,N,O,P,false,false,S,T,false,V,X,Y,Z⟩ s0 s) : Kept ⟨A,false,C,false,false,F,false,false,I,J,false,L,M,N,O,P,false,false,S,T,false,V,X,Y,Z⟩ s0 (State.svcSegReadStart s a1 a2 a3 a4) := by
  unfold State.svcSegReadStart; with_reducible repeat' first | assumption | intros _ | apply Kept.ite | apply State.reply_kept | apply State.openTransfer_kept | refine Kept.pair1 ‹_› (State.openTransfer_kept ?_) | (refine Kept.upd ?_; first | assumption | apply State.reply_kept | apply State.openTransfer_kept | refine Kept.pair1 ‹_› (State.openTransfer_kept ?_)) | split
theorem State.svcSegRead_kept {a1 : LopCtx} {a2 : Nat} {a3 : Nat} {a4 : Nat} (h : Kept ⟨A,false,C,false,false,F,false,false,I,J,false,L,M,N,O,P,false,false,S,T,false,V,X,Y,Z⟩ s0 s) : Kept ⟨A,false,C,false,false,F,false,false,I,J,false,L,M,N,O,P,false,false,S,T,false,V,X,Y,Z⟩ s0 (State.svcSegRead s a1 a2 a3 a4) := by
  unfold State.svcSegRead; with_reducible repeat' first | assumption | intros _ | apply Kept.ite | apply State.reply_kept | (refine Kept.upd ?_; first | assumption | apply State.reply_kept) | split
theorem State.stageSlot_kept {a1 : Nat} (h : Kept ⟨A,false,C,D,E,F,G,H,I,J,K,L,M,N,O,P,Q,R,S,T,U,V,X,Y,Z⟩ s0 s) : Kept ⟨A,false,C,D,E,F,G,H,I,J,K,L,M,N,O,P,Q,R,S,T,U,V,X,Y,Z⟩ s0 (State.stageSlot s a1) := by
  unfold State.stageSlot
  refine Kept.upd h rfl rfl rfl ?_ rfl
  refine (Boot.setSlot_recovBuf _ _ _).trans ?_
  dsimp only
  split <;> rfl
theorem State.svcSegWriteStart_kept {a1 : LopCtx} {a2 : Nat} {a3 : Nat} {a4 : Nat} (h : Kept ⟨A,false,C,false,false,F,false,false,I,J,false,L,M,N,O,P,false,false,S,T,false,V,X,Y,Z⟩ s0 s) : Kept ⟨A,false,C,false,false,F,false,false,I,J,false,L,M,N,O,P,false,false,S,T,false,V,X,Y,Z⟩ s0 (State.svcSegWriteStart s a1 a2 a3 a4) := by
  unfold State.svcSegWriteStart; with_reducible repeat' first | assumption | intros _ | apply Kept.ite | apply State.reply_kept | apply State.openTransfer_kept | refine Kept.pair1 ‹_› (State.openTransfer_kept ?_) | apply State.stageSlot_kept | (refine Kept.upd ?_; first | assumption | apply State.reply_kept | apply State.openTransfer_kept | refine Kept.pair1 ‹_› (State.openTransfer_kept ?_) | apply State.stageSlot_kept) | split
theorem State.finishImage_kept {a1 : LopCtx} {a2 : List Byte} (h : Kept ⟨A,false,C,false,false,F,false,false,I,J,false,L,M,N,O,P,false,false,S,T,false,V,X,Y,Z⟩ s0 s) : Kept ⟨A,false,C,false,false,F,false,false,I,J,false,L,M,N,O,P,false,false,S,T,false,V,X,Y,Z⟩ s0 (State.finishImage s a1 a2) := by
  unfold State.finishImage
  dsimp only
  have k : ∀ x, Kept ⟨A,false,C,false,false,F,false,false,I,J,false,L,M,N,O,P,false,false,S,T,false,V,X,Y,Z⟩ s0 { s with boot := { s.boot.setSlot (1 - s.boot.active) x with staging := none } } :=
    fun x => Kept.upd h rfl rfl rfl (Boot.setSlot_recovBuf _ _ _) rfl
  split
  · exact State.reply_kept (k _)
  · refine State.reply_kept (State.raise_kept ?_)
    exact Kept.upd h rfl rfl rfl ((Boot.control_recovBuf _).trans ((Boot.setFailed_recovBuf _ _ _).trans (Boot.setSlot_recovBuf _ _ _))) rfl
theorem State.finishSegments_kept {a1 : LopCtx} {a2 : Nat} {a3 : Transfer} {a4 : List Byte} (h : Kept ⟨A,false,C,false,false,F,false,false,I,J,false,L,M,false,O,false,false,false,S,false,false,V,X,Y,Z⟩ s0 s) : Kept ⟨A,false,C,false,false,F,false,false,I,J,false,L,M,false,O,false,false,false,S,false,false,V,X,Y,Z⟩ s0 (State.finishSegments s a1 a2 a3 a4) := by
  unfold State.finishSegments
  dsimp only
  have k : Kept ⟨A,false,C,false,false,F,false,false,I,J,false,L,M,false,O,false,false,false,S,false,false,V,X,Y,Z⟩ s0 { s with lop := { s.lop with transfers := Tbl.erase s.lop.transfers a2 } } := Kept.upd h
  split
  · exact State.reply_kept (State.dropTransfer_kept h)
  · split
    · exact State.reply_kept (State.dropTransfer_kept h)
    · split
      · exact State.reply_kept (State.dropTransfer_kept h)
      · split
        · exact State.finishImage_kept k
        · split
          · split
            · rename_i e
              refine State.reply_kept ?_
              unfold State.stageBank at e
              dsimp only at e
              repeat' split at e
              all_goals first
                | cases e; exact Kept.upd (State.setBank_kept k)
                | cases e
            · exact State.reply_kept k
          · split
            · exact Kept.upd (State.writeEntry_kept k)
            · exact State.reply_kept (State.writeEntry_kept k)
theorem State.putSegment_kept {a1 : Nat} {a2 : Transfer} {a3 : List Byte} (h : Kept ⟨A,B,C,D,E,F,G,H,I,J,K,L,M,N,O,P,Q,R,S,T,false,V,X,Y,Z⟩ s0 s) : Kept ⟨A,B,C,D,E,F,G,H,I,J,K,L,M,N,O,P,Q,R,S,T,false,V,X,Y,Z⟩ s0 (State.putSegment s a1 a2 a3) := by
  unfold State.putSegment; with_reducible repeat' first | assumption | intros _ | apply Kept.ite | (refine Kept.upd ?_; first | assumption) | split
theorem State.stageBytes_kept {a1 : Nat} {a2 : List Byte} (h : Kept ⟨A,false,C,D,E,F,G,H,I,J,K,L,M,N,O,P,Q,R,S,T,U,V,X,Y,Z⟩ s0 s) : Kept ⟨A,false,C,D,E,F,G,H,I,J,K,L,M,N,O,P,Q,R,S,T,U,V,X,Y,Z⟩ s0 (State.stageBytes s a1 a2) := by
  unfold State.stageBytes
  exact Kept.ite (Kept.upd h rfl rfl rfl (Boot.setSlot_recovBuf _ _ _)) h
theorem State.svcSegWrite_kept {a1 : LopCtx} {a2 : Nat} {a3 : Nat} {a4 : Bool} {a5 : List Byte} (h : Kept ⟨A,false,C,false,false,F,false,false,I,J,false,L,M,false,O,false,false,false,S,false,false,V,X,Y,Z⟩ s0 s) : Kept ⟨A,false,C,false,false,F,false,false,I,J,false,L,M,false,O,false,false,false,S,false,false,V,X,Y,Z⟩ s0 (State.svcSegWrite s a1 a2 a3 a4 a5) := by
  unfold State.svcSegWrite; with_reducible repeat' first | assumption | intros _ | apply Kept.ite | apply State.reply_kept | apply State.putSegment_kept | apply State.finishSegments_kept | apply State.stageBytes_kept | (refine Kept.upd ?_; first | assumption | apply State.reply_kept | apply State.putSegment_kept | apply State.finishSegments_kept | apply State.stageBytes_kept) | split
theorem State.svcSegCancel_kept {a1 : LopCtx} {a2 : Nat} (h : Kept ⟨A,false,C,false,false,F,false,false,I,J,false,L,M,N,O,P,false,false,S,T,false,V,X,Y,Z⟩ s0 s) : Kept ⟨A,false,C,false,false,F,false,false,I,J,false,L,M,N,O,P,false,false,S,T,false,V,X,Y,Z⟩ s0 (State.svcSegCancel s a1 a2) := by
  unfold State.svcSegCancel; with_reducible repeat' first | assumption | intros _ | apply Kept.ite | apply State.reply_kept | apply State.dropTransfer_kept | (refine Kept.upd ?_; first | assumption | apply State.reply_kept | apply State.dropTransfer_kept) | split
theorem State.grantSession_kept {a1 : LopCtx} {a2 : Nat} {a3 : Option (List Byte)} (h : Kept ⟨A,false,C,false,false,F,false,false,I,J,false,L,M,N,O,P,false,false,S,T,false,false,X,Y,Z⟩ s0 s) : Kept ⟨A,false,C,false,false,F,false,false,I,J,false,L,M,N,O,P,false,false,S,T,false,false,X,Y,Z⟩ s0 (State.grantSession s a1 a2 a3) := by
  unfold State.grantSession; with_reducible repeat' first | assumption | intros _ | apply Kept.ite | apply State.reply_kept | (refine Kept.upd ?_; first | assumption | apply State.reply_kept) | split
theorem State.svcSessionOpen_kept {a1 : LopCtx} {a2 : Nat} (h : Kept ⟨A,false,C,false,false,F,false,false,I,J,false,L,M,N,O,P,false,false,S,T,false,false,X,Y,Z⟩ s0 s) : Kept ⟨A,false,C,false,false,F,false,false,I,J,false,L,M,N,O,P,false,false,S,T,false,false,X,Y,Z⟩ s0 (State.svcSessionOpen s a1 a2) := by
  unfold State.svcSessionOpen; with_reducible repeat' first | assumption | intros _ | apply Kept.ite | apply State.reply_kept | apply State.grantSession_kept | (refine Kept.upd ?_; first | assumption | apply State.reply_kept | apply State.grantSession_kept) | split
theorem State.svcSessionProve_kept {a1 : LopCtx} {a2 : List Byte} (h : Kept ⟨A,false,C,false,false,F,false,false,I,J,false,L,M,N,O,P,false,false,S,T,false,V,X,Y,Z⟩ s0 s) : Kept ⟨A,false,C,false,false,F,false,false,I,J,false,L,M,N,O,P,false,false,S,T,false,V,X,Y,Z⟩ s0 (State.svcSessionProve s a1 a2) := by
  unfold State.svcSessionProve; with_reducible repeat' first | assumption | intros _ | apply Kept.ite | apply State.reply_kept | apply State.raise_kept | apply State.closeSession_kept | (refine Kept.upd ?_; first | assumption | apply State.reply_kept | apply State.raise_kept | apply State.closeSession_kept) | split
theorem State.svcSessionClose_kept {a1 : LopCtx} (h : Kept ⟨A,false,C,false,false,F,false,false,I,J,false,L,M,N,O,P,false,false,S,T,false,V,X,Y,Z⟩ s0 s) : Kept ⟨A,false,C,false,false,F,false,false,I,J,false,L,M,N,O,P,false,false,S,T,false,V,X,Y,Z⟩ s0 (State.svcSessionClose s a1) := by
  unfold State.svcSessionClose; with_reducible repeat' first | assumption | intros _ | apply Kept.ite | apply State.reply_kept | apply State.closeSession_kept | (refine Kept.upd ?_; first | assumption | apply State.reply_kept | apply State.closeSession_kept) | split
theorem State.svcKeepalive_kept {a1 : LopCtx} (h : Kept ⟨A,false,C,false,false,F,false,false,I,J,false,L,M,N,O,P,false,false,S,T,false,V,X,Y,Z⟩ s0 s) : Kept ⟨A,false,C,false,false,F,false,false,I,J,false,L,M,N,O,P,false,false,S,T,false,V,X,Y,Z⟩ s0 (State.svcKeepalive s a1) := by
  unfold State.svcKeepalive; with_reducible repeat' first | assumption | apply Kept.ite | apply State.reply_kept
theorem State.service_kept {a1 : LopCtx} {a2 : Nat} {a3 : List Byte} (h : Kept ⟨false,false,C,false,false,F,false,false,I,J,false,L,M,false,false,false,false,false,S,false,false,false,X,Y,Z⟩ s0 s) : Kept ⟨false,false,C,false,false,F,false,false,I,J,false,L,M,false,false,false,false,false,S,false,false,false,X,Y,Z⟩ s0 (State.service s a1 a2 a3) := by
  unfold State.service; with_reducible repeat' first | assumption | intros _ | apply Kept.ite | apply State.reply_kept | apply State.svcRead_kept | apply State.svcWrite_kept | apply State.svcDescribe_kept | apply State.svcSegReadStart_kept | apply State.svcSegRead_kept | apply State.svcSegWriteStart_kept | apply State.svcSegWrite_kept | apply State.svcSegCancel_kept | apply State.svcSessionOpen_kept | apply State.svcSessionProve_kept | apply State.svcSessionClose_kept | apply State.svcKeepalive_kept | (refine Kept.upd ?_; first | assumption | apply State.reply_kept | apply State.svcRead_kept | apply State.svcWrite_kept | apply State.svcDescribe_kept | apply State.svcSegReadStart_kept | apply State.svcSegRead_kept | apply State.svcSegWriteStart_kept | apply State.svcSegWrite_kept | apply State.svcSegCancel_kept | apply State.svcSessionOpen_kept | apply State.svcSessionProve_kept | apply State.svcSessionClose_kept | apply State.svcKeepalive_kept) | split
theorem State.serveOwn_kept {a1 : LopCtx} {a2 : Nat} {a3 : List Byte} (h : Kept ⟨false,false,C,false,false,F,false,false,I,J,false,L,M,false,false,false,false,false,S,false,false,false,X,Y,Z⟩ s0 s) : Kept ⟨false,false,C,false,false,F,false,false,I,J,false,L,M,false,false,false,false,false,S,false,false,false,X,Y,Z⟩ s0 (State.serveOwn s a1 a2 a3) := by
  unfold State.serveOwn; with_reducible repeat' first | assumption | intros _ | apply Kept.ite | apply State.touchSession_kept | apply State.answerVia_kept | apply State.countResponse_kept | apply State.reply_kept | apply State.forward_kept | apply State.service_kept | (refine Kept.upd ?_; first | assumption | apply State.touchSession_kept | apply State.answerVia_kept | apply State.countResponse_kept | apply State.reply_kept | apply State.forward_kept | apply State.service_kept) | split | apply Kept.foldl | apply Kept.foldl1 | apply Kept.pair1 ‹_› | dsimp only
theorem State.serveMessage_kept {a1 : Via} {a2 : List Byte} (h : Kept ⟨false,false,C,false,false,F,false,false,I,J,false,L,M,false,false,false,false,false,S,false,false,false,X,Y,Z⟩ s0 s) : Kept ⟨false,false,C,false,false,F,false,false,I,J,false,L,M,false,false,false,false,false,S,false,false,false,X,Y,Z⟩ s0 (State.serveMessage s a1 a2) := by
  unfold State.serveMessage; with_reducible repeat' first | assumption | apply Kept.ite | apply State.purge_kept | apply State.respond_kept | apply State.serveOwn_kept
theorem State.serveWindow_kept (h : Kept ⟨false,false,C,false,false,F,false,false,I,J,false,L,M,false,false,false,false,false,S,false,false,false,X,Y,Z⟩ s0 s) : Kept ⟨false,false,C,false,false,F,false,false,I,J,false,L,M,false,false,false,false,false,S,false,false,false,X,Y,Z⟩ s0 (State.serveWindow s) := by
  unfold State.serveWindow; with_reducible repeat' first | assumption | intros _ | apply Kept.ite | apply State.serveMessage_kept | (refine Kept.upd ?_; first | assumption | apply State.serveMessage_kept) | split
theorem execLopWindowGo_kept {a1 : Fn} (h : Kept ⟨false,false,C,D,E,F,G,H,I,J,false,L,M,N,O,P,false,R,S,T,false,V,X,Y,Z⟩ s0 s) : KeptO ⟨false,false,C,D,E,F,G,H,I,J,false,L,M,N,O,P,false,R,S,T,false,V,X,Y,Z⟩ s0 (execLopWindowGo a1 s) := by
  unfold execLopWindowGo; with_reducible repeat' first | assumption | intros _ | apply KeptO.next | apply Kept.ite | apply State.privIgnore_kept | apply State.windowAnswer_kept | (refine Kept.upd ?_; first | assumption | apply State.privIgnore_kept | apply State.windowAnswer_kept) | split | apply Kept.foldl | apply Kept.foldl1 | apply Kept.pair1 ‹_› | dsimp only
theorem execLopWindowDone_kept (h : Kept ⟨false,false,C,false,false,F,false,false,I,J,false,L,M,false,false,false,false,false,S,false,false,false,X,Y,Z⟩ s0 s) : KeptO ⟨false,false,C,false,false,F,false,false,I,J,false,L,M,false,false,false,false,false,S,false,false,false,X,Y,Z⟩ s0 (execLopWindowDone s) := by
  unfold execLopWindowDone; with_reducible repeat' first | assumption | apply KeptO.next | apply Kept.ite | apply State.serveWindow_kept
theorem State.serveExchange_kept {a1 : Fin 256} (h : Kept ⟨false,false,C,false,false,F,false,false,I,J,false,L,M,false,false,false,false,false,S,false,false,false,X,Y,Z⟩ s0 s) : Kept ⟨false,false,C,false,false,F,false,false,I,J,false,L,M,false,false,false,false,false,S,false,false,false,X,Y,Z⟩ s0 (State.serveExchange s a1) := by
  unfold State.serveExchange; with_reducible repeat' first | assumption | intros _ | apply Kept.ite | apply State.finishAt_kept | apply State.countBounds_kept | apply State.fetchObject_kept | refine Kept.pair1 ‹_› (State.fetchObject_kept ?_) | apply State.serveMessage_kept | apply State.keepRunning_kept | (refine Kept.upd ?_; first | assumption | apply State.finishAt_kept | apply State.countBounds_kept | apply State.fetchObject_kept | refine Kept.pair1 ‹_› (State.fetchObject_kept ?_) | apply State.serveMessage_kept | apply State.keepRunning_kept) | split | apply Kept.foldl | apply Kept.foldl1 | apply Kept.pair1 ‹_› | dsimp only
theorem execLopExchange_kept {a1 : Fin 256} (h : Kept ⟨false,false,C,false,false,F,false,false,I,J,false,L,M,false,false,false,false,false,S,false,false,false,X,Y,Z⟩ s0 s) : KeptO ⟨false,false,C,false,false,F,false,false,I,J,false,L,M,false,false,false,false,false,S,false,false,false,X,Y,Z⟩ s0 (execLopExchange a1 s) := by
  unfold execLopExchange; with_reducible repeat' first | assumption | intros _ | apply KeptO.next | apply Kept.ite | apply State.finishAt_kept | apply State.serveExchange_kept | (refine Kept.upd ?_; first | assumption | apply State.finishAt_kept | apply State.serveExchange_kept) | split
theorem State.arrive_kept {a1 : LopCtx} {a2 : Nat} {a3 : List Byte} (h : Kept ⟨false,false,C,false,false,F,false,false,I,J,false,L,M,false,false,false,false,false,S,false,false,false,X,Y,Z⟩ s0 s) : Kept ⟨false,false,C,false,false,F,false,false,I,J,false,L,M,false,false,false,false,false,S,false,false,false,X,Y,Z⟩ s0 (State.arrive s a1 a2 a3) := by
  unfold State.arrive; with_reducible repeat' first | assumption | intros _ | apply Kept.ite | apply State.serveWindow_kept | apply State.serveExchange_kept | apply State.discardDatagram_kept | apply State.serveMessage_kept | (refine Kept.upd ?_; first | assumption | apply State.serveWindow_kept | apply State.serveExchange_kept | apply State.discardDatagram_kept | apply State.serveMessage_kept) | split
theorem execRead_kept {a1 : LopCtx} {a2 : Nat} {a3 : Nat} {a4 : Nat} (h : Kept ⟨false,false,C,false,false,F,false,false,I,J,false,L,M,false,false,false,false,false,S,false,false,false,X,Y,Z⟩ s0 s) : KeptO ⟨false,false,C,false,false,F,false,false,I,J,false,L,M,false,false,false,false,false,S,false,false,false,X,Y,Z⟩ s0 (execRead a1 a2 a3 a4 s) := by
  unfold execRead; with_reducible repeat' first | assumption | apply KeptO.next | apply Kept.ite | apply State.arrive_kept
theorem execWrite_kept {a1 : LopCtx} {a2 : Nat} {a3 : Nat} {a4 : List Byte} (h : Kept ⟨false,false,C,false,false,F,false,false,I,J,false,L,M,false,false,false,false,false,S,false,false,false,X,Y,Z⟩ s0 s) : KeptO ⟨false,false,C,false,false,F,false,false,I,J,false,L,M,false,false,false,false,false,S,false,false,false,X,Y,Z⟩ s0 (execWrite a1 a2 a3 a4 s) := by
  unfold execWrite; with_reducible repeat' first | assumption | apply KeptO.next | apply Kept.ite | apply State.arrive_kept
theorem execDescribe_kept {a1 : LopCtx} {a2 : Nat} {a3 : Nat} (h : Kept ⟨false,false,C,false,false,F,false,false,I,J,false,L,M,false,false,false,false,false,S,false,false,false,X,Y,Z⟩ s0 s) : KeptO ⟨false,false,C,false,false,F,false,false,I,J,false,L,M,false,false,false,false,false,S,false,false,false,X,Y,Z⟩ s0 (execDescribe a1 a2 a3 s) := by
  unfold execDescribe; with_reducible repeat' first | assumption | apply KeptO.next | apply Kept.ite | apply State.arrive_kept
theorem execSegReadStart_kept {a1 : LopCtx} {a2 : Nat} {a3 : Nat} {a4 : Nat} (h : Kept ⟨false,false,C,false,false,F,false,false,I,J,false,L,M,false,false,false,false,false,S,false,false,false,X,Y,Z⟩ s0 s) : KeptO ⟨false,false,C,false,false,F,false,false,I,J,false,L,M,false,false,false,false,false,S,false,false,false,X,Y,Z⟩ s0 (execSegReadStart a1 a2 a3 a4 s) := by
  unfold execSegReadStart; with_reducible repeat' first | assumption | apply KeptO.next | apply Kept.ite | apply State.arrive_kept
theorem execSegRead_kept {a1 : LopCtx} {a2 : Nat} {a3 : Nat} {a4 : Nat} (h : Kept ⟨false,false,C,false,false,F,false,false,I,J,false,L,M,false,false,false,false,false,S,false,false,false,X,Y,Z⟩ s0 s) : KeptO ⟨false,false,C,false,false,F,false,false,I,J,false,L,M,false,false,false,false,false,S,false,false,false,X,Y,Z⟩ s0 (execSegRead a1 a2 a3 a4 s) := by
  unfold execSegRead; with_reducible repeat' first | assumption | apply KeptO.next | apply Kept.ite | apply State.arrive_kept
theorem execSegWriteStart_kept {a1 : LopCtx} {a2 : Nat} {a3 : Nat} {a4 : Nat} (h : Kept ⟨false,false,C,false,false,F,false,false,I,J,false,L,M,false,false,false,false,false,S,false,false,false,X,Y,Z⟩ s0 s) : KeptO ⟨false,false,C,false,false,F,false,false,I,J,false,L,M,false,false,false,false,false,S,false,false,false,X,Y,Z⟩ s0 (execSegWriteStart a1 a2 a3 a4 s) := by
  unfold execSegWriteStart; with_reducible repeat' first | assumption | apply KeptO.next | apply Kept.ite | apply State.arrive_kept
theorem execSegWrite_kept {a1 : LopCtx} {a2 : Nat} {a3 : Nat} {a4 : Bool} {a5 : List Byte} (h : Kept ⟨false,false,C,false,false,F,false,false,I,J,false,L,M,false,false,false,false,false,S,false,false,false,X,Y,Z⟩ s0 s) : KeptO ⟨false,false,C,false,false,F,false,false,I,J,false,L,M,false,false,false,false,false,S,false,false,false,X,Y,Z⟩ s0 (execSegWrite a1 a2 a3 a4 a5 s) := by
  unfold execSegWrite; with_reducible repeat' first | assumption | apply KeptO.next | apply Kept.ite | apply State.arrive_kept
theorem execSegCancel_kept {a1 : LopCtx} {a2 : Nat} (h : Kept ⟨false,false,C,false,false,F,false,false,I,J,false,L,M,false,false,false,false,false,S,false,false,false,X,Y,Z⟩ s0 s) : KeptO ⟨false,false,C,false,false,F,false,false,I,J,false,L,M,false,false,false,false,false,S,false,false,false,X,Y,Z⟩ s0 (execSegCancel a1 a2 s) := by
  unfold execSegCancel; with_reducible repeat' first | assumption | apply KeptO.next | apply Kept.ite | apply State.arrive_kept
theorem execSessionOpen_kept {a1 : LopCtx} {a2 : Nat} (h : Kept ⟨false,false,C,false,false,F,false,false,I,J,false,L,M,false,false,false,false,false,S,false,false,false,X,Y,Z⟩ s0 s) : KeptO ⟨false,false,C,false,false,F,false,false,I,J,false,L,M,false,false,false,false,false,S,false,false,false,X,Y,Z⟩ s0 (execSessionOpen a1 a2 s) := by
  unfold execSessionOpen; with_reducible repeat' first | assumption | apply KeptO.next | apply Kept.ite | apply State.arrive_kept
theorem execSessionProve_kept {a1 : LopCtx} {a2 : List Byte} (h : Kept ⟨false,false,C,false,false,F,false,false,I,J,false,L,M,false,false,false,false,false,S,false,false,false,X,Y,Z⟩ s0 s) : KeptO ⟨false,false,C,false,false,F,false,false,I,J,false,L,M,false,false,false,false,false,S,false,false,false,X,Y,Z⟩ s0 (execSessionProve a1 a2 s) := by
  unfold execSessionProve; with_reducible repeat' first | assumption | apply KeptO.next | apply Kept.ite | apply State.arrive_kept
theorem execSessionClose_kept {a1 : LopCtx} (h : Kept ⟨false,false,C,false,false,F,false,false,I,J,false,L,M,false,false,false,false,false,S,false,false,false,X,Y,Z⟩ s0 s) : KeptO ⟨false,false,C,false,false,F,false,false,I,J,false,L,M,false,false,false,false,false,S,false,false,false,X,Y,Z⟩ s0 (execSessionClose a1 s) := by
  unfold execSessionClose; with_reducible repeat' first | assumption | apply KeptO.next | apply Kept.ite | apply State.arrive_kept
theorem execKeepalive_kept {a1 : LopCtx} (h : Kept ⟨false,false,C,false,false,F,false,false,I,J,false,L,M,false,false,false,false,false,S,false,false,false,X,Y,Z⟩ s0 s) : KeptO ⟨false,false,C,false,false,F,false,false,I,J,false,L,M,false,false,false,false,false,S,false,false,false,X,Y,Z⟩ s0 (execKeepalive a1 s) := by
  unfold execKeepalive; with_reducible repeat' first | assumption | apply KeptO.next | apply Kept.ite | apply State.arrive_kept
theorem execModeRequest_kept {a1 : LopCtx} {a2 : Nat} (h : Kept ⟨false,false,C,false,false,F,false,false,I,J,false,L,M,false,false,false,false,false,S,false,false,false,X,Y,Z⟩ s0 s) : KeptO ⟨false,false,C,false,false,F,false,false,I,J,false,L,M,false,false,false,false,false,S,false,false,false,X,Y,Z⟩ s0 (execModeRequest a1 a2 s) := by
  unfold execModeRequest; with_reducible repeat' first | assumption | apply KeptO.next | apply Kept.ite | apply State.arrive_kept
theorem execImageActivate_kept {a1 : LopCtx} (h : Kept ⟨false,false,C,false,false,F,false,false,I,J,false,L,M,false,false,false,false,false,S,false,false,false,X,Y,Z⟩ s0 s) : KeptO ⟨false,false,C,false,false,F,false,false,I,J,false,L,M,false,false,false,false,false,S,false,false,false,X,Y,Z⟩ s0 (execImageActivate a1 s) := by
  unfold execImageActivate; with_reducible repeat' first | assumption | apply KeptO.next | apply Kept.ite | apply State.arrive_kept
theorem execImageConfirm_kept {a1 : LopCtx} (h : Kept ⟨false,false,C,false,false,F,false,false,I,J,false,L,M,false,false,false,false,false,S,false,false,false,X,Y,Z⟩ s0 s) : KeptO ⟨false,false,C,false,false,F,false,false,I,J,false,L,M,false,false,false,false,false,S,false,false,false,X,Y,Z⟩ s0 (execImageConfirm a1 s) := by
  unfold execImageConfirm; with_reducible repeat' first | assumption | apply KeptO.next | apply Kept.ite | apply State.arrive_kept
theorem execRollbackAdvance_kept {a1 : LopCtx} {a2 : Nat} (h : Kept ⟨false,false,C,false,false,F,false,false,I,J,false,L,M,false,false,false,false,false,S,false,false,false,X,Y,Z⟩ s0 s) : KeptO ⟨false,false,C,false,false,F,false,false,I,J,false,L,M,false,false,false,false,false,S,false,false,false,X,Y,Z⟩ s0 (execRollbackAdvance a1 a2 s) := by
  unfold execRollbackAdvance; with_reducible repeat' first | assumption | apply KeptO.next | apply Kept.ite | apply State.arrive_kept
theorem execStoreNow_kept (h : Kept ⟨A,B,C,D,E,F,G,H,I,J,K,L,M,N,O,P,Q,R,S,false,U,V,X,Y,Z⟩ s0 s) : KeptO ⟨A,B,C,D,E,F,G,H,I,J,K,L,M,N,O,P,Q,R,S,false,U,V,X,Y,Z⟩ s0 (execStoreNow s) := by
  unfold execStoreNow; with_reducible repeat' first | assumption | apply KeptO.next | apply Kept.ite | apply State.askStore_kept
theorem execTransferTimeout_kept {a1 : Nat} (h : Kept ⟨A,false,C,D,E,F,G,H,I,J,K,L,M,N,O,P,Q,R,S,T,false,V,X,Y,Z⟩ s0 s) : KeptO ⟨A,false,C,D,E,F,G,H,I,J,K,L,M,N,O,P,Q,R,S,T,false,V,X,Y,Z⟩ s0 (execTransferTimeout a1 s) := by
  unfold execTransferTimeout; with_reducible repeat' first | assumption | intros _ | apply KeptO.next | apply Kept.ite | apply State.dropTransfer_kept | (refine Kept.upd ?_; first | assumption | apply State.dropTransfer_kept) | split
theorem execSessionTimeout_kept {a1 : Nat} (h : Kept ⟨A,false,C,D,E,F,G,H,I,J,K,L,M,N,O,P,Q,R,S,T,false,V,X,Y,Z⟩ s0 s) : KeptO ⟨A,false,C,D,E,F,G,H,I,J,K,L,M,N,O,P,Q,R,S,T,false,V,X,Y,Z⟩ s0 (execSessionTimeout a1 s) := by
  unfold execSessionTimeout; with_reducible repeat' first | assumption | intros _ | apply KeptO.next | apply Kept.ite | apply State.closeSession_kept | (refine Kept.upd ?_; first | assumption | apply State.closeSession_kept) | split
theorem execCoefficientSetLoaded_kept (h : Kept ⟨A,false,C,false,false,F,false,false,I,J,false,L,M,false,O,P,false,false,S,T,false,V,X,Y,Z⟩ s0 s) : KeptO ⟨A,false,C,false,false,F,false,false,I,J,false,L,M,false,O,P,false,false,S,T,false,V,X,Y,Z⟩ s0 (execCoefficientSetLoaded s) := by
  unfold execCoefficientSetLoaded; with_reducible repeat' first | assumption | intros _ | apply KeptO.next | apply Kept.ite | apply State.forEach_kept | apply State.modGallery_kept | apply State.complete_kept | (refine Kept.upd ?_; first | assumption | apply State.forEach_kept | apply State.modGallery_kept | apply State.complete_kept) | split
theorem State.forwardAnswered_kept {a1 : List Byte} (h : Kept ⟨A,false,C,false,false,F,false,false,I,J,false,L,M,N,O,P,false,false,S,T,false,V,X,Y,Z⟩ s0 s) : Kept ⟨A,false,C,false,false,F,false,false,I,J,false,L,M,N,O,P,false,false,S,T,false,V,X,Y,Z⟩ s0 (State.forwardAnswered s a1) := by
  unfold State.forwardAnswered; with_reducible repeat' first | assumption | intros _ | apply Kept.ite | apply State.reply_kept | (refine Kept.upd ?_; first | assumption | apply State.reply_kept) | split
theorem execLopForwardResponse_kept {a1 : List Byte} (h : Kept ⟨A,false,C,false,false,F,false,false,I,J,false,L,M,N,O,P,false,false,S,T,false,V,X,Y,Z⟩ s0 s) : KeptO ⟨A,false,C,false,false,F,false,false,I,J,false,L,M,N,O,P,false,false,S,T,false,V,X,Y,Z⟩ s0 (execLopForwardResponse a1 s) := by
  unfold execLopForwardResponse; with_reducible repeat' first | assumption | apply KeptO.next | apply Kept.ite | apply State.forwardAnswered_kept
theorem execForwardTimeout_kept {a1 : Nat} (h : Kept ⟨A,false,C,false,false,F,false,false,I,J,false,L,M,N,O,P,false,false,S,T,false,V,X,Y,Z⟩ s0 s) : KeptO ⟨A,false,C,false,false,F,false,false,I,J,false,L,M,N,O,P,false,false,S,T,false,V,X,Y,Z⟩ s0 (execForwardTimeout a1 s) := by
  unfold execForwardTimeout; with_reducible repeat' first | assumption | intros _ | apply KeptO.next | apply Kept.ite | apply State.respond_kept | (refine Kept.upd ?_; first | assumption | apply State.respond_kept) | split
theorem execDtlsHandshake_kept {a1 : DtlsEvent} (h : Kept ⟨A,false,C,D,E,F,G,H,I,J,K,L,M,N,O,P,Q,false,S,T,false,V,X,Y,Z⟩ s0 s) : KeptO ⟨A,false,C,D,E,F,G,H,I,J,K,L,M,N,O,P,Q,false,S,T,false,V,X,Y,Z⟩ s0 (execDtlsHandshake a1 s) := by
  unfold execDtlsHandshake; with_reducible repeat' first | assumption | intros _ | apply KeptO.next | apply Kept.ite | apply State.forEach_kept | apply State.closeSession_kept | (refine Kept.upd ?_; first | assumption | apply State.forEach_kept | apply State.closeSession_kept) | split

end Sys2Proof.Machine
end

