-- ==== Sys2Proof/Laws/KeptLinks.lean ====
section
/-!
SUPPORT. What the functions of the model keep (see Kept): streams, links, memory and registers. A lemma of a function names by false the parts it may write.
-/

set_option linter.all false
set_option Elab.async false

namespace Sys2Proof.Machine

variable {A B C D E F G H I J K L M N O P Q R S T U V X Y Z : Bool} {s0 s : State}

theorem State.finishWaiting_kept {a1 : Exec → Bool} {a2 : Status} (h : Kept ⟨A,B,C,D,E,F,G,false,I,J,K,L,M,N,O,P,Q,R,S,T,U,V,X,Y,Z⟩ s0 s) : Kept ⟨A,B,C,D,E,F,G,false,I,J,K,L,M,N,O,P,Q,R,S,T,U,V,X,Y,Z⟩ s0 (State.finishWaiting s a1 a2) := by
  unfold State.finishWaiting; with_reducible repeat' first | assumption | intros _ | apply Kept.ite | (refine Kept.upd ?_; first | assumption) | split
theorem State.takeRegistration_kept {a1 : Nat} {a2 : List Byte} (h : Kept ⟨A,false,C,D,E,F,false,false,I,J,false,false,M,N,false,P,false,false,S,T,U,V,X,Y,Z⟩ s0 s) : Kept ⟨A,false,C,D,E,F,false,false,I,J,false,false,M,N,false,P,false,false,S,T,U,V,X,Y,Z⟩ s0 (State.takeRegistration s a1 a2) := by
  unfold State.takeRegistration; with_reducible repeat' first | assumption | intros _ | apply Kept.ite | apply State.sendTo_kept | apply State.countBounds_kept | apply State.distribute_kept | apply State.install_kept | apply State.finishWaiting_kept | (refine Kept.upd ?_; first | assumption | apply State.sendTo_kept | apply State.countBounds_kept | apply State.distribute_kept | apply State.install_kept | apply State.finishWaiting_kept) | split
theorem State.takeWithdrawal_kept {a1 : Nat} {a2 : Nat} (h : Kept ⟨A,false,C,D,E,F,G,false,I,J,false,false,M,N,O,P,false,false,S,T,U,V,X,Y,Z⟩ s0 s) : Kept ⟨A,false,C,D,E,F,G,false,I,J,false,false,M,N,O,P,false,false,S,T,U,V,X,Y,Z⟩ s0 (State.takeWithdrawal s a1 a2) := by
  unfold State.takeWithdrawal; with_reducible repeat' first | assumption | intros _ | apply Kept.ite | apply State.sendTo_kept | apply State.distribute_kept | apply State.withdrawHere_kept | (refine Kept.upd ?_; first | assumption | apply State.sendTo_kept | apply State.distribute_kept | apply State.withdrawHere_kept) | split
theorem execRegistry_kept {a1 : Msg} (h : Kept ⟨A,false,C,D,E,F,false,false,I,J,false,false,M,N,false,P,false,false,S,T,U,V,X,Y,Z⟩ s0 s) : KeptO ⟨A,false,C,D,E,F,false,false,I,J,false,false,M,N,false,P,false,false,S,T,U,V,X,Y,Z⟩ s0 (execRegistry a1 s) := by
  unfold execRegistry; with_reducible repeat' first | assumption | apply KeptO.next | apply Kept.ite | apply State.takeRegistration_kept | apply State.finishWaiting_kept | apply State.takeWithdrawal_kept
theorem execSubscribe_kept {a1 : Msg} (h : Kept ⟨A,false,C,D,E,F,false,H,I,J,false,false,M,N,O,P,false,false,S,T,U,V,X,Y,Z⟩ s0 s) : KeptO ⟨A,false,C,D,E,F,false,H,I,J,false,false,M,N,O,P,false,false,S,T,U,V,X,Y,Z⟩ s0 (execSubscribe a1 s) := by
  unfold execSubscribe; with_reducible repeat' first | assumption | intros _ | apply KeptO.next | apply Kept.ite | apply State.egress_kept | (refine Kept.upd ?_; first | assumption | apply State.egress_kept) | split
theorem execUnsubscribe_kept {a1 : Msg} (h : Kept ⟨A,B,C,D,E,F,G,H,I,J,K,L,M,N,O,P,Q,false,S,T,U,V,X,Y,Z⟩ s0 s) : KeptO ⟨A,B,C,D,E,F,G,H,I,J,K,L,M,N,O,P,Q,false,S,T,U,V,X,Y,Z⟩ s0 (execUnsubscribe a1 s) := by
  unfold execUnsubscribe; with_reducible repeat' first | assumption | intros _ | apply KeptO.next | apply Kept.ite | (refine Kept.upd ?_; first | assumption) | split
theorem State.writeRuns_kept {a1 : List (Nat × Nat)} {a2 : Nat} {a3 : List Byte} (h : Kept ⟨A,B,C,false,E,F,false,H,I,J,K,L,M,N,O,P,Q,R,S,T,U,V,X,Y,Z⟩ s0 s) : Kept ⟨A,B,C,false,E,F,false,H,I,J,K,L,M,N,O,P,Q,R,S,T,U,V,X,Y,Z⟩ s0 (State.writeRuns s a1 a2 a3) := by
  induction a1 generalizing s a2 a3 with
  | nil => exact h
  | cons p r ih =>
    unfold State.writeRuns
    split
    · exact h
    · split
      · exact ih h
      · exact ih (State.devWrite_kept h)
theorem execStreamStart_kept {a1 : Fin 8192} {a2 : Msg} (h : Kept ⟨A,false,C,D,E,F,G,H,I,J,false,L,M,N,O,P,false,false,S,T,U,V,X,Y,Z⟩ s0 s) : KeptO ⟨A,false,C,D,E,F,G,H,I,J,false,L,M,N,O,P,false,false,S,T,U,V,X,Y,Z⟩ s0 (execStreamStart a1 a2 s) := by
  unfold execStreamStart; with_reducible repeat' first | assumption | intros _ | apply KeptO.next | apply Kept.ite | apply State.discardFrame_kept | (refine Kept.upd ?_; first | assumption | apply State.discardFrame_kept) | split
theorem State.endFrame_kept {a1 : Nat} {a2 : Source} {a3 : Rx} {a4 : Nat} (h : Kept ⟨A,false,C,D,E,F,G,H,I,J,false,false,M,N,O,P,false,false,S,T,U,V,X,Y,Z⟩ s0 s) : Kept ⟨A,false,C,D,E,F,G,H,I,J,false,false,M,N,O,P,false,false,S,T,U,V,X,Y,Z⟩ s0 (State.endFrame s a1 a2 a3 a4) := by
  unfold State.endFrame; with_reducible repeat' first | assumption | intros _ | apply Kept.ite | apply State.discardFrame_kept | (refine Kept.upd ?_; first | assumption | apply State.discardFrame_kept) | split | apply Kept.foldl | apply Kept.foldl1 | apply Kept.pair1 ‹_› | dsimp only
theorem execStreamData_kept {a1 : Fin 8192} {a2 : Msg} (h : Kept ⟨A,false,C,false,E,F,false,H,I,J,false,false,M,N,O,P,false,false,S,T,U,V,X,Y,Z⟩ s0 s) : KeptO ⟨A,false,C,false,E,F,false,H,I,J,false,false,M,N,O,P,false,false,S,T,U,V,X,Y,Z⟩ s0 (execStreamData a1 a2 s) := by
  unfold execStreamData; with_reducible repeat' first | assumption | intros _ | apply KeptO.next | apply Kept.ite | apply State.writeRuns_kept | apply State.endFrame_kept | (refine Kept.upd ?_; first | assumption | apply State.writeRuns_kept | apply State.endFrame_kept) | split
theorem execStreamFrameSent_kept {a1 : Fin 8192} (h : Kept ⟨A,false,C,D,E,F,false,H,I,J,false,false,M,N,O,P,false,false,S,T,U,V,X,Y,Z⟩ s0 s) : KeptO ⟨A,false,C,D,E,F,false,H,I,J,false,false,M,N,O,P,false,false,S,T,U,V,X,Y,Z⟩ s0 (execStreamFrameSent a1 s) := by
  unfold execStreamFrameSent; with_reducible repeat' first | assumption | intros _ | apply KeptO.next | apply Kept.ite | apply State.startFrame_kept | (refine Kept.upd ?_; first | assumption | apply State.startFrame_kept) | split
theorem State.sendStatus_kept {a1 : Nat} (h : Kept ⟨A,B,C,D,E,F,G,H,I,J,K,L,M,N,O,P,Q,false,S,T,U,V,X,Y,Z⟩ s0 s) : Kept ⟨A,B,C,D,E,F,G,H,I,J,K,L,M,N,O,P,Q,false,S,T,U,V,X,Y,Z⟩ s0 (State.sendStatus s a1) := by
  unfold State.sendStatus; with_reducible repeat' first | assumption | apply Kept.ite | apply State.sendNeighbour_kept | apply State.modPort_kept
theorem State.noteRoute_kept {a1 : Nat} {a2 : Nat} {a3 : Bool} {a4 : Option Nat} (h : Kept ⟨A,false,C,D,E,F,G,H,I,J,false,L,M,N,O,P,false,false,S,T,U,V,X,Y,Z⟩ s0 s) : Kept ⟨A,false,C,D,E,F,G,H,I,J,false,L,M,N,O,P,false,false,S,T,U,V,X,Y,Z⟩ s0 (State.noteRoute s a1 a2 a3 a4) := by
  unfold State.noteRoute; with_reducible repeat' first | assumption | intros _ | apply Kept.ite | apply State.raise_kept | apply State.forEach_kept | apply State.sendNeighbour_kept | (refine Kept.upd ?_; first | assumption | apply State.raise_kept | apply State.forEach_kept | apply State.sendNeighbour_kept) | split
theorem State.startBringUp_kept {a1 : Nat} {a2 : List Nat} (h : Kept ⟨A,B,C,D,E,F,G,H,I,J,K,L,M,N,O,P,Q,false,S,T,U,V,X,Y,Z⟩ s0 s) : Kept ⟨A,B,C,D,E,F,G,H,I,J,K,L,M,N,O,P,Q,false,S,T,U,V,X,Y,Z⟩ s0 (State.startBringUp s a1 a2) := by
  unfold State.startBringUp; with_reducible repeat' first | assumption | apply Kept.ite | apply State.setPort_kept
theorem execBringUpStart_kept {a1 : Fin 4} {a2 : List (Fin 4)} (h : Kept ⟨A,B,C,D,E,F,G,H,I,J,K,L,M,N,O,P,Q,false,S,T,U,V,X,Y,Z⟩ s0 s) : KeptO ⟨A,B,C,D,E,F,G,H,I,J,K,L,M,N,O,P,Q,false,S,T,U,V,X,Y,Z⟩ s0 (execBringUpStart a1 a2 s) := by
  unfold execBringUpStart; with_reducible repeat' first | assumption | apply KeptO.next | apply Kept.ite | apply State.startBringUp_kept
theorem execBringUpRetry_kept {a1 : Fin 4} {a2 : List (Fin 4)} (h : Kept ⟨A,B,C,D,E,F,G,H,I,J,K,L,M,N,O,P,Q,false,S,T,U,V,X,Y,Z⟩ s0 s) : KeptO ⟨A,B,C,D,E,F,G,H,I,J,K,L,M,N,O,P,Q,false,S,T,U,V,X,Y,Z⟩ s0 (execBringUpRetry a1 a2 s) := by
  unfold execBringUpRetry; with_reducible repeat' first | assumption | apply KeptO.next | apply Kept.ite | apply State.startBringUp_kept | apply State.modPort_kept
theorem State.failBringUp_kept {a1 : Nat} (h : Kept ⟨A,B,C,D,E,F,G,H,I,J,K,L,M,N,O,P,Q,false,S,T,U,V,X,Y,Z⟩ s0 s) : Kept ⟨A,B,C,D,E,F,G,H,I,J,K,L,M,N,O,P,Q,false,S,T,U,V,X,Y,Z⟩ s0 (State.failBringUp s a1) := by
  unfold State.failBringUp; with_reducible repeat' first | assumption | apply Kept.ite | apply State.modPort_kept
theorem State.loseLink_kept {a1 : Nat} (h : Kept ⟨A,false,C,D,E,F,G,H,I,J,false,L,M,N,O,P,false,false,S,T,U,V,X,Y,Z⟩ s0 s) : Kept ⟨A,false,C,D,E,F,G,H,I,J,false,L,M,N,O,P,false,false,S,T,U,V,X,Y,Z⟩ s0 (State.loseLink s a1) := by
  unfold State.loseLink; with_reducible repeat' first | assumption | apply Kept.ite | apply State.setPort_kept | apply State.noteDomainState_kept | apply State.noteRoute_kept | apply State.raiseNum_kept
theorem execLinkDown_kept {a1 : Fin 4} (h : Kept ⟨A,false,C,D,E,F,G,H,I,J,false,L,M,N,O,P,false,false,S,T,U,V,X,Y,Z⟩ s0 s) : KeptO ⟨A,false,C,D,E,F,G,H,I,J,false,L,M,N,O,P,false,false,S,T,U,V,X,Y,Z⟩ s0 (execLinkDown a1 s) := by
  unfold execLinkDown; with_reducible repeat' first | assumption | apply KeptO.next | apply Kept.ite | apply State.loseLink_kept
theorem execBringUpTimeout_kept {a1 : Fin 4} (h : Kept ⟨A,false,C,D,E,F,G,H,I,J,false,L,M,N,O,P,false,false,S,T,U,V,X,Y,Z⟩ s0 s) : KeptO ⟨A,false,C,D,E,F,G,H,I,J,false,L,M,N,O,P,false,false,S,T,U,V,X,Y,Z⟩ s0 (execBringUpTimeout a1 s) := by
  unfold execBringUpTimeout; with_reducible repeat' first | assumption | apply KeptO.next | apply Kept.ite | apply State.loseLink_kept | apply State.failBringUp_kept
theorem State.sendWaiting_kept {a1 : Nat} (h : Kept ⟨A,B,C,D,E,F,G,H,I,J,K,L,M,N,O,P,Q,false,S,T,U,V,X,Y,Z⟩ s0 s) : Kept ⟨A,B,C,D,E,F,G,H,I,J,K,L,M,N,O,P,Q,false,S,T,U,V,X,Y,Z⟩ s0 (State.sendWaiting s a1) := by
  unfold State.sendWaiting; with_reducible repeat' first | assumption | intros _ | apply Kept.ite | apply State.forEach_kept | apply State.modPort_kept | apply State.sendFlit_kept | (refine Kept.upd ?_; first | assumption | apply State.forEach_kept | apply State.modPort_kept | apply State.sendFlit_kept) | split
theorem execBlockAlignment_kept {a1 : Fin 4} {a2 : List (Fin 4)} (h : Kept ⟨A,false,C,D,E,F,G,H,I,J,false,L,M,N,O,P,false,false,S,T,U,V,X,Y,Z⟩ s0 s) : KeptO ⟨A,false,C,D,E,F,G,H,I,J,false,L,M,N,O,P,false,false,S,T,U,V,X,Y,Z⟩ s0 (execBlockAlignment a1 a2 s) := by
  unfold execBlockAlignment; with_reducible repeat' first | assumption | apply KeptO.next | apply Kept.ite | apply State.loseLink_kept | apply State.setPort_kept | apply State.sendStatus_kept | apply State.sendWaiting_kept | apply State.failBringUp_kept | apply State.sendNeighbour_kept
theorem execIdent_kept {a1 : Msg} (h : Kept ⟨A,false,C,D,E,F,G,H,I,J,false,L,M,N,O,P,false,false,S,T,U,V,X,Y,Z⟩ s0 s) : KeptO ⟨A,false,C,D,E,F,G,H,I,J,false,L,M,N,O,P,false,false,S,T,U,V,X,Y,Z⟩ s0 (execIdent a1 s) := by
  unfold execIdent; with_reducible repeat' first | assumption | apply KeptO.next | apply Kept.ite | apply State.setPort_kept | apply State.raise_kept | apply State.sendStatus_kept
theorem execLinkStatus_kept {a1 : Msg} (h : Kept ⟨A,B,C,D,E,F,G,H,I,J,K,L,M,N,O,P,Q,false,S,T,U,V,X,Y,Z⟩ s0 s) : KeptO ⟨A,B,C,D,E,F,G,H,I,J,K,L,M,N,O,P,Q,false,S,T,U,V,X,Y,Z⟩ s0 (execLinkStatus a1 s) := by
  unfold execLinkStatus; with_reducible repeat' first | assumption | apply KeptO.next | apply Kept.ite | apply State.modPort_kept
theorem execLinkStatusTick_kept (h : Kept ⟨A,B,C,D,E,F,G,H,I,J,K,L,M,N,O,P,Q,false,S,T,U,V,X,Y,Z⟩ s0 s) : KeptO ⟨A,B,C,D,E,F,G,H,I,J,K,L,M,N,O,P,Q,false,S,T,U,V,X,Y,Z⟩ s0 (execLinkStatusTick s) := by
  unfold execLinkStatusTick; with_reducible repeat' first | assumption | intros _ | apply KeptO.next | apply Kept.ite | apply State.forEach_kept | apply State.sendStatus_kept | (refine Kept.upd ?_; first | assumption | apply State.forEach_kept | apply State.sendStatus_kept) | split
theorem execRouteUpdate_kept {a1 : Msg} (h : Kept ⟨A,false,C,D,E,F,G,H,I,J,false,L,M,N,O,P,false,false,S,T,U,V,X,Y,Z⟩ s0 s) : KeptO ⟨A,false,C,D,E,F,G,H,I,J,false,L,M,N,O,P,false,false,S,T,U,V,X,Y,Z⟩ s0 (execRouteUpdate a1 s) := by
  unfold execRouteUpdate; with_reducible repeat' first | assumption | apply KeptO.next | apply Kept.ite | apply State.noteRoute_kept
theorem State.portReenable_kept {a1 : Nat} (h : Kept ⟨A,false,C,D,E,F,G,H,I,J,false,L,M,N,O,P,false,false,S,T,U,V,X,Y,Z⟩ s0 s) : Kept ⟨A,false,C,D,E,F,G,H,I,J,false,L,M,N,O,P,false,false,S,T,U,V,X,Y,Z⟩ s0 (State.portReenable s a1) := by
  unfold State.portReenable; with_reducible repeat' first | assumption | apply Kept.ite | apply State.loseLink_kept | apply State.modPort_kept
theorem execPortReenable_kept {a1 : Fn} {a2 : Fin 4} (h : Kept ⟨false,false,C,D,E,F,G,H,I,J,false,L,M,N,O,P,false,false,S,T,U,V,X,Y,Z⟩ s0 s) : KeptO ⟨false,false,C,D,E,F,G,H,I,J,false,L,M,N,O,P,false,false,S,T,U,V,X,Y,Z⟩ s0 (execPortReenable a1 a2 s) := by
  unfold execPortReenable; with_reducible repeat' first | assumption | apply KeptO.next | apply Kept.ite | apply State.privIgnore_kept | apply State.portReenable_kept
theorem State.setWallFine_kept {a1 : Int} (h : Kept ⟨false,B,C,D,E,F,G,H,I,J,K,L,M,N,O,P,Q,R,S,T,U,V,X,Y,Z⟩ s0 s) : Kept ⟨false,B,C,D,E,F,G,H,I,J,K,L,M,N,O,P,Q,R,S,T,U,V,X,Y,Z⟩ s0 (State.setWallFine s a1) := by
  unfold State.setWallFine; with_reducible repeat' first | assumption | intros _ | apply Kept.ite | (refine Kept.upd ?_; first | assumption) | split
theorem State.tick_kept (h : Kept ⟨false,B,C,D,E,F,G,H,I,J,K,L,M,N,O,P,Q,R,S,T,U,V,X,Y,Z⟩ s0 s) : Kept ⟨false,B,C,D,E,F,G,H,I,J,K,L,M,N,O,P,Q,R,S,T,U,V,X,Y,Z⟩ s0 (State.tick s) := by
  unfold State.tick; with_reducible repeat' first | assumption | apply Kept.ite | apply State.setWallFine_kept
theorem State.steerRate_kept {a1 : Int} (h : Kept ⟨false,B,C,D,E,F,G,H,I,J,K,L,M,N,O,P,Q,R,S,T,U,false,X,Y,Z⟩ s0 s) : Kept ⟨false,B,C,D,E,F,G,H,I,J,K,L,M,N,O,P,Q,R,S,T,U,false,X,Y,Z⟩ s0 (State.steerRate s a1) := by
  unfold State.steerRate; with_reducible repeat' first | assumption | intros _ | apply Kept.ite | apply State.draw_kept | refine Kept.pair2 ‹_› (State.draw_kept ?_) | (refine Kept.upd ?_; first | assumption | apply State.draw_kept | refine Kept.pair2 ‹_› (State.draw_kept ?_)) | split
theorem State.reacquire_kept (h : Kept ⟨A,B,C,D,E,F,G,H,I,J,K,L,M,N,false,P,Q,R,S,T,U,V,X,Y,Z⟩ s0 s) : Kept ⟨A,B,C,D,E,F,G,H,I,J,K,L,M,N,false,P,Q,R,S,T,U,V,X,Y,Z⟩ s0 (State.reacquire s) := by
  unfold State.reacquire; with_reducible repeat' first | assumption | intros _ | apply Kept.ite | apply State.forEach_kept | apply State.modHead_kept | (refine Kept.upd ?_; first | assumption | apply State.forEach_kept | apply State.modHead_kept) | split
theorem State.followParent_kept {a1 : Int} (h : Kept ⟨false,false,C,D,E,F,G,H,I,J,false,L,M,N,false,P,false,false,S,T,U,false,X,Y,Z⟩ s0 s) : Kept ⟨false,false,C,D,E,F,G,H,I,J,false,L,M,N,false,P,false,false,S,T,U,false,X,Y,Z⟩ s0 (State.followParent s a1) := by
  unfold State.followParent; with_reducible repeat' first | assumption | intros _ | apply Kept.ite | apply State.setTimeState_kept | apply State.reacquire_kept | apply State.setWallFine_kept | apply State.steerRate_kept | (refine Kept.upd ?_; first | assumption | apply State.setTimeState_kept | apply State.reacquire_kept | apply State.setWallFine_kept | apply State.steerRate_kept) | split | apply Kept.foldl | apply Kept.foldl1 | apply Kept.pair1 ‹_› | dsimp only
theorem State.linkUp_kept {a1 : Nat} (h : Kept ⟨A,false,C,D,E,F,G,H,I,J,false,L,M,N,O,P,false,false,S,T,U,V,X,Y,Z⟩ s0 s) : Kept ⟨A,false,C,D,E,F,G,H,I,J,false,L,M,N,O,P,false,false,S,T,U,V,X,Y,Z⟩ s0 (State.linkUp s a1) := by
  unfold State.linkUp; with_reducible repeat' first | assumption | apply Kept.ite | apply State.raiseNum_kept | apply State.modPort_kept | apply State.noteDomainState_kept | apply State.sendStatus_kept | apply State.noteRoute_kept
theorem State.timeExchange_kept {a1 : Nat} {a2 : Nat} {a3 : Nat} {a4 : Nat} {a5 : Nat} (h : Kept ⟨false,false,C,D,E,F,G,H,I,J,false,L,M,N,false,P,false,false,S,T,U,false,X,Y,Z⟩ s0 s) : Kept ⟨false,false,C,D,E,F,G,H,I,J,false,L,M,N,false,P,false,false,S,T,U,false,X,Y,Z⟩ s0 (State.timeExchange s a1 a2 a3 a4 a5) := by
  unfold State.timeExchange; with_reducible repeat' first | assumption | apply Kept.ite | apply State.setPort_kept | apply State.linkUp_kept | apply State.followParent_kept
theorem execTimeSync_kept {a1 : Fin 4} {a2 : Nat} {a3 : Nat} {a4 : Nat} {a5 : Nat} (h : Kept ⟨false,false,C,D,E,F,G,H,I,J,false,L,M,N,false,P,false,false,S,T,U,false,X,Y,Z⟩ s0 s) : KeptO ⟨false,false,C,D,E,F,G,H,I,J,false,L,M,N,false,P,false,false,S,T,U,false,X,Y,Z⟩ s0 (execTimeSync a1 a2 a3 a4 a5 s) := by
  unfold execTimeSync; with_reducible repeat' first | assumption | apply KeptO.next | apply Kept.ite | apply State.timeExchange_kept
theorem State.timeMessage_kept {a1 : Nat} {a2 : List Byte} (h : Kept ⟨false,false,C,D,E,F,G,H,I,J,false,L,M,N,false,P,false,false,S,T,U,false,X,Y,Z⟩ s0 s) : Kept ⟨false,false,C,D,E,F,G,H,I,J,false,L,M,N,false,P,false,false,S,T,U,false,X,Y,Z⟩ s0 (State.timeMessage s a1 a2) := by
  unfold State.timeMessage; with_reducible repeat' first | assumption | apply Kept.ite | apply State.sendNeighbour_kept | apply State.timeExchange_kept
theorem execTimeSyncTick_kept (h : Kept ⟨A,B,C,D,E,F,G,H,I,J,K,L,M,N,O,P,Q,false,S,T,U,V,X,Y,Z⟩ s0 s) : KeptO ⟨A,B,C,D,E,F,G,H,I,J,K,L,M,N,O,P,Q,false,S,T,U,V,X,Y,Z⟩ s0 (execTimeSyncTick s) := by
  unfold execTimeSyncTick; with_reducible repeat' first | assumption | intros _ | apply KeptO.next | apply Kept.ite | apply State.forEach_kept | apply State.sendNeighbour_kept | (refine Kept.upd ?_; first | assumption | apply State.forEach_kept | apply State.sendNeighbour_kept) | split
theorem execTimeSyncTimeout_kept (h : Kept ⟨A,false,C,D,E,F,G,H,I,J,false,L,M,N,O,P,false,false,S,T,U,V,X,Y,Z⟩ s0 s) : KeptO ⟨A,false,C,D,E,F,G,H,I,J,false,L,M,N,O,P,false,false,S,T,U,V,X,Y,Z⟩ s0 (execTimeSyncTimeout s) := by
  unfold execTimeSyncTimeout; with_reducible repeat' first | assumption | intros _ | apply KeptO.next | apply Kept.ite | apply State.setTimeState_kept | (refine Kept.upd ?_; first | assumption | apply State.setTimeState_kept) | split
theorem State.followReference_kept (h : Kept ⟨false,B,C,D,E,F,G,H,I,J,K,L,M,N,O,P,Q,R,S,T,U,false,X,Y,Z⟩ s0 s) : Kept ⟨false,B,C,D,E,F,G,H,I,J,K,L,M,N,O,P,Q,R,S,T,U,false,X,Y,Z⟩ s0 (State.followReference s) := by
  unfold State.followReference; with_reducible repeat' first | assumption | apply Kept.ite | apply State.steerRate_kept
theorem execPpsEdge_kept (h : Kept ⟨false,B,C,D,E,F,G,H,I,J,K,L,M,N,O,P,Q,false,S,T,U,false,X,Y,Z⟩ s0 s) : KeptO ⟨false,B,C,D,E,F,G,H,I,J,K,L,M,N,O,P,Q,false,S,T,U,false,X,Y,Z⟩ s0 (execPpsEdge s) := by
  unfold execPpsEdge; with_reducible repeat' first | assumption | intros _ | apply KeptO.next | apply Kept.ite | apply State.followReference_kept | (refine Kept.upd ?_; first | assumption | apply State.followReference_kept) | split | apply Kept.foldl | apply Kept.foldl1 | apply Kept.pair1 ‹_› | dsimp only
theorem execPtpMessage_kept {a1 : PtpEvent} (h : Kept ⟨false,B,C,D,E,F,G,H,I,J,K,L,M,N,O,P,Q,false,S,T,U,false,X,Y,Z⟩ s0 s) : KeptO ⟨false,B,C,D,E,F,G,H,I,J,K,L,M,N,O,P,Q,false,S,T,U,false,X,Y,Z⟩ s0 (execPtpMessage a1 s) := by
  unfold execPtpMessage; with_reducible repeat' first | assumption | intros _ | apply KeptO.next | apply Kept.ite | apply State.followReference_kept | (refine Kept.upd ?_; first | assumption | apply State.followReference_kept) | split | apply Kept.foldl | apply Kept.foldl1 | apply Kept.pair1 ‹_› | dsimp only
theorem State.retirePort_kept {a1 : Nat} (h : Kept ⟨A,false,C,D,E,F,G,H,I,J,false,L,M,N,O,P,false,false,S,T,U,V,X,Y,Z⟩ s0 s) : Kept ⟨A,false,C,D,E,F,G,H,I,J,false,L,M,N,O,P,false,false,S,T,U,V,X,Y,Z⟩ s0 (State.retirePort s a1) := by
  unfold State.retirePort; with_reducible repeat' first | assumption | apply Kept.ite | apply State.loseLink_kept | apply State.raiseNum_kept | apply State.modPort_kept
theorem State.retireLanes_kept {a1 : Nat} (h : Kept ⟨A,false,C,D,E,F,G,H,I,J,false,L,M,N,O,P,false,false,S,T,U,V,X,Y,Z⟩ s0 s) : Kept ⟨A,false,C,D,E,F,G,H,I,J,false,L,M,N,O,P,false,false,S,T,U,V,X,Y,Z⟩ s0 (State.retireLanes s a1) := by
  unfold State.retireLanes; with_reducible repeat' first | assumption | intros _ | apply Kept.ite | apply State.setPort_kept | apply State.forEach_kept | apply State.raiseNum_kept | apply State.retirePort_kept | apply State.modPort_kept | apply State.failBringUp_kept | (refine Kept.upd ?_; first | assumption | apply State.setPort_kept | apply State.forEach_kept | apply State.raiseNum_kept | apply State.retirePort_kept | apply State.modPort_kept | apply State.failBringUp_kept) | split
theorem State.failFlit_kept {a1 : Nat} {a2 : List Byte} (h : Kept ⟨A,false,C,D,E,F,G,H,I,J,false,L,M,N,O,P,false,false,S,T,U,V,X,Y,Z⟩ s0 s) : Kept ⟨A,false,C,D,E,F,G,H,I,J,false,L,M,N,O,P,false,false,S,T,U,V,X,Y,Z⟩ s0 (State.failFlit s a1 a2) := by
  unfold State.failFlit; with_reducible repeat' first | assumption | apply Kept.ite | apply State.setPort_kept | apply State.loseLink_kept | apply State.failBringUp_kept | apply State.retireLanes_kept
theorem State.takeAck_kept {a1 : Nat} {a2 : Nat} (h : Kept ⟨A,B,C,D,E,F,G,H,I,J,K,L,M,N,O,P,Q,false,S,T,U,false,X,Y,Z⟩ s0 s) : Kept ⟨A,B,C,D,E,F,G,H,I,J,K,L,M,N,O,P,Q,false,S,T,U,false,X,Y,Z⟩ s0 (State.takeAck s a1 a2) := by
  unfold State.takeAck; with_reducible repeat' first | assumption | apply Kept.ite | apply State.setPort_kept | apply State.draw_kept | refine Kept.pair2 ‹_› (State.draw_kept ?_) | apply State.modPort_kept | apply State.sendWaiting_kept
theorem State.acceptFlit_kept {a1 : Nat} {a2 : List Byte} (h : Kept ⟨A,B,C,D,E,F,G,H,I,J,K,L,M,N,O,P,Q,false,S,T,U,false,X,Y,Z⟩ s0 s) : Kept ⟨A,B,C,D,E,F,G,H,I,J,K,L,M,N,O,P,Q,false,S,T,U,false,X,Y,Z⟩ s0 (State.acceptFlit s a1 a2).1 := by
  unfold State.acceptFlit; with_reducible repeat' first | assumption | intros _ | apply Kept.ite | apply State.takeAck_kept | apply State.modPort_kept | (refine Kept.upd ?_; first | assumption | apply State.takeAck_kept | apply State.modPort_kept) | split | apply Kept.foldl | apply Kept.foldl1 | apply Kept.pair1 ‹_› | dsimp only
theorem State.lopFragment_kept {a1 : Nat} {a2 : List Byte} (h : Kept ⟨false,false,C,false,false,F,false,false,I,J,false,L,M,false,false,false,false,false,S,false,false,false,X,Y,Z⟩ s0 s) : Kept ⟨false,false,C,false,false,F,false,false,I,J,false,L,M,false,false,false,false,false,S,false,false,false,X,Y,Z⟩ s0 (State.lopFragment s a1 a2) := by
  unfold State.lopFragment; with_reducible repeat' first | assumption | intros _ | apply Kept.ite | apply State.forwardAnswered_kept | apply State.serveMessage_kept | (refine Kept.upd ?_; first | assumption | apply State.forwardAnswered_kept | apply State.serveMessage_kept) | split
theorem State.deliver_kept {a1 : Fin 4} {a2 : Nat} {a3 : Nat} {a4 : Fin 4096} {a5 : List Byte} (h : Kept ⟨false,false,C,false,false,F,false,false,I,J,false,false,false,false,false,false,false,false,false,false,false,false,X,Y,Z⟩ s0 s) : Kept ⟨false,false,C,false,false,F,false,false,I,J,false,false,false,false,false,false,false,false,false,false,false,false,X,Y,Z⟩ s0 (State.deliver s a1 a2 a3 a4 a5) := by
  unfold State.deliver; with_reducible repeat' first | assumption | apply Kept.ite | apply Kept.afterO (execIdent_kept _) | apply Kept.afterO (execLinkStatus_kept _) | apply State.lopFragment_kept | apply State.timeMessage_kept | apply Kept.afterO (execHeartbeat_kept _) | apply Kept.afterO (execSummary_kept _) | apply Kept.afterO (execRouteUpdate_kept _) | apply Kept.afterO (execOffer_kept _) | apply Kept.afterO (execPrepare_kept _) | apply Kept.afterO (execAnswer_kept _) | apply Kept.afterO (execDecision_kept _) | apply Kept.afterO (execRegistry_kept _) | apply Kept.afterO (execSubscribe_kept _) | apply Kept.afterO (execUnsubscribe_kept _) | apply Kept.afterO (execStreamStart_kept _) | apply Kept.afterO (execStreamData_kept _)
theorem State.routeFlit_kept {a1 : Fin 4} {a2 : List Byte} (h : Kept ⟨false,false,C,false,false,F,false,false,I,J,false,false,false,false,false,false,false,false,false,false,false,false,X,Y,Z⟩ s0 s) : Kept ⟨false,false,C,false,false,F,false,false,I,J,false,false,false,false,false,false,false,false,false,false,false,false,X,Y,Z⟩ s0 (State.routeFlit s a1 a2) := by
  unfold State.routeFlit; with_reducible repeat' first | assumption | intros _ | apply Kept.ite | apply State.deliver_kept | apply State.sendFlit_kept | apply State.forEach_kept | (refine Kept.upd ?_; first | assumption | apply State.deliver_kept | apply State.sendFlit_kept | apply State.forEach_kept) | split | apply Kept.foldl | apply Kept.foldl1 | apply Kept.pair1 ‹_› | dsimp only
theorem execFlitReceive_kept {a1 : Fin 4} {a2 : List Byte} (h : Kept ⟨false,false,C,false,false,F,false,false,I,J,false,false,false,false,false,false,false,false,false,false,false,false,X,Y,Z⟩ s0 s) : KeptO ⟨false,false,C,false,false,F,false,false,I,J,false,false,false,false,false,false,false,false,false,false,false,false,X,Y,Z⟩ s0 (execFlitReceive a1 a2 s) := by
  unfold execFlitReceive; with_reducible repeat' first | assumption | intros _ | apply KeptO.next | apply Kept.ite | apply State.failFlit_kept | apply State.acceptFlit_kept | refine Kept.pair1 ‹_› (State.acceptFlit_kept ?_) | apply State.routeFlit_kept | (refine Kept.upd ?_; first | assumption | apply State.failFlit_kept | apply State.acceptFlit_kept | refine Kept.pair1 ‹_› (State.acceptFlit_kept ?_) | apply State.routeFlit_kept) | split
theorem State.setWin_kept {n : Nat} {x : Win} (h : Kept ⟨A,B,C,D,E,false,G,H,I,J,K,L,M,N,O,P,Q,R,S,T,U,V,X,Y,Z⟩ s0 s) (hx : s.winsSound → x.sound) :
    Kept ⟨A,B,C,D,E,false,G,H,I,J,K,L,M,N,O,P,Q,R,S,T,U,V,X,Y,Z⟩ s0 (s.setWin n x) := by
  refine h.raw (fun i => ?_) rfl
  have := i
  exact ⟨this.1, State.setWin_winsSound this.2 (hx this.2)⟩
theorem State.rejectCode_zero {s : State} {w : Win} (h : s.rejectCode w = 0) :
    w.size ≠ 0 ∧ (if w.hostspace = true then (w.base + w.size) * 4096 ≤ 2 ^ 63 ∧ w.rights < 256
      else (w.base + w.size) * 4096 ≤ spareBase) := by
  have hf : s.fwBase ≤ spareBase := Nat.sub_le _ _
  generalize hg : s.fwBase = f at hf
  unfold State.rejectCode at h
  rw [hg] at h
  dsimp only at h
  split at h
  · cases h
  · refine ⟨by assumption, ?_⟩
    split at h
    · rename_i hs
      rw [if_pos hs]
      split at h
      · cases h
      · split at h
        · cases h
        · rename_i h1 h2
          have : w.rights / 256 = 0 := by simpa using h2
          constructor
          · omega
          · omega
    · rename_i hs
      rw [if_neg hs]
      split at h
      · cases h
      · split at h
        · cases h
        · omega
theorem State.writeWindow_kept {a1 : Nat} {a2 : Nat} (h : Kept ⟨false,false,C,D,E,false,false,H,I,J,false,L,M,N,O,P,false,R,S,T,U,V,X,Y,Z⟩ s0 s) : Kept ⟨false,false,C,D,E,false,false,H,I,J,false,L,M,N,O,P,false,R,S,T,U,V,X,Y,Z⟩ s0 (State.writeWindow s a1 a2) := by
  unfold State.writeWindow
  extract_lets s1 w0 w code ms s2 s3
  have h1 : Kept ⟨false,false,C,D,E,false,false,H,I,J,false,L,M,N,O,P,false,R,S,T,U,V,X,Y,Z⟩ s0 s1 := State.fixParity_kept h
  have h2 : Kept ⟨false,false,C,D,E,false,false,H,I,J,false,L,M,N,O,P,false,R,S,T,U,V,X,Y,Z⟩ s0 s2 := Kept.upd h1
  have h3 : Kept ⟨false,false,C,D,E,false,false,H,I,J,false,L,M,N,O,P,false,R,S,T,U,V,X,Y,Z⟩ s0 s3 := by
    refine State.setWin_kept h2 (fun _ => ?_)
    intro e
    have e : (bit a2 31 && code == 0) = true := e
    have e1 : bit a2 31 = true := (Bool.and_eq_true_iff.1 e).1
    have e2 : code = 0 := by simpa using (Bool.and_eq_true_iff.1 e).2
    have e3 : s1.rejectCode w = 0 := by
      have : code = s1.rejectCode w := if_pos e1
      rw [← this]; exact e2
    exact State.rejectCode_zero e3
  split
  · exact h3
  · exact State.raise_kept h3
theorem execMemWinControlWrite_kept {a1 : Fn} {a2 : Fin 512} {a3 : Nat} (h : Kept ⟨false,false,C,D,E,false,false,H,I,J,false,L,M,N,O,P,false,R,S,T,U,V,X,Y,Z⟩ s0 s) : KeptO ⟨false,false,C,D,E,false,false,H,I,J,false,L,M,N,O,P,false,R,S,T,U,V,X,Y,Z⟩ s0 (execMemWinControlWrite a1 a2 a3 s) := by
  unfold execMemWinControlWrite; with_reducible repeat' first | assumption | apply KeptO.next | apply Kept.ite | apply State.privIgnore_kept | apply State.writeWindow_kept
theorem execMemWinsync_kept {a1 : Fn} (h : Kept ⟨A,B,C,D,E,F,false,H,I,J,K,L,M,N,O,P,Q,R,S,T,U,V,false,Y,Z⟩ s0 s) : KeptO ⟨A,B,C,D,E,F,false,H,I,J,K,L,M,N,O,P,Q,R,S,T,U,V,false,Y,Z⟩ s0 (execMemWinsync a1 s) := by
  unfold execMemWinsync; with_reducible repeat' first | assumption | intros _ | apply KeptO.next | apply Kept.ite | apply State.answer_kept | (refine Kept.upd ?_; first | assumption | apply State.answer_kept) | split
theorem State.hostBounds_kept (h : Kept ⟨A,false,C,D,E,F,false,H,I,J,false,L,M,N,O,P,false,R,S,T,U,V,X,Y,Z⟩ s0 s) : Kept ⟨A,false,C,D,E,F,false,H,I,J,false,L,M,N,O,P,false,R,S,T,U,V,X,Y,Z⟩ s0 (State.hostBounds s) := by
  unfold State.hostBounds; with_reducible repeat' first | assumption | apply Kept.ite | apply State.raise_kept | apply State.countBounds_kept
theorem State.partialReads_kept {a1 : Nat} {a2 : Nat} (h : Kept ⟨A,false,C,D,E,F,false,H,I,J,false,L,M,N,O,P,false,R,S,T,U,V,X,Y,Z⟩ s0 s) : Kept ⟨A,false,C,D,E,F,false,H,I,J,false,L,M,N,O,P,false,R,S,T,U,V,X,Y,Z⟩ s0 (State.partialReads s a1 a2) := by
  unfold State.partialReads; with_reducible repeat' first | assumption | intros _ | apply Kept.ite | apply State.forEach_kept | apply State.countUncorrectable_kept | (refine Kept.upd ?_; first | assumption | apply State.forEach_kept | apply State.countUncorrectable_kept) | split
theorem execBar2Write_kept {a1 : Nat} {a2 : List Byte} (h : Kept ⟨A,false,C,false,E,F,false,H,I,J,false,L,M,N,O,P,false,R,S,T,U,V,X,Y,Z⟩ s0 s) : KeptO ⟨A,false,C,false,E,F,false,H,I,J,false,L,M,N,O,P,false,R,S,T,U,V,X,Y,Z⟩ s0 (execBar2Write a1 a2 s) := by
  unfold execBar2Write; with_reducible repeat' first | assumption | intros _ | apply KeptO.next | apply Kept.ite | apply State.hostBounds_kept | apply State.devWrite_kept | apply State.partialReads_kept | (refine Kept.upd ?_; first | assumption | apply State.hostBounds_kept | apply State.devWrite_kept | apply State.partialReads_kept) | split
theorem execBar2Read_kept {a1 : Nat} {a2 : Nat} (h : Kept ⟨A,false,C,D,E,F,false,H,I,J,false,L,M,N,O,P,false,R,S,T,U,V,false,Y,Z⟩ s0 s) : KeptO ⟨A,false,C,D,E,F,false,H,I,J,false,L,M,N,O,P,false,R,S,T,U,V,false,Y,Z⟩ s0 (execBar2Read a1 a2 s) := by
  unfold execBar2Read; with_reducible repeat' first | assumption | intros _ | apply KeptO.next | apply Kept.ite | apply State.answer_kept | apply State.hostBounds_kept | apply State.countUncorrectable_kept | (refine Kept.upd ?_; first | assumption | apply State.answer_kept | apply State.hostBounds_kept | apply State.countUncorrectable_kept) | split
theorem State.correctedRead_kept {a1 : Nat} (h : Kept ⟨false,false,false,D,E,F,false,H,I,J,false,false,M,N,O,P,false,R,false,T,U,V,X,Y,Z⟩ s0 s) : Kept ⟨false,false,false,D,E,F,false,H,I,J,false,false,M,N,O,P,false,R,false,T,U,V,X,Y,Z⟩ s0 (State.correctedRead s a1) := by
  unfold State.correctedRead; with_reducible repeat' first | assumption | intros _ | apply Kept.ite | apply State.raise_kept | apply State.retireGranule_kept | (refine Kept.upd ?_; first | assumption | apply State.raise_kept | apply State.retireGranule_kept) | split
theorem execScrubPass_kept {a1 : List ScrubFind} (h : Kept ⟨false,false,false,D,E,F,false,H,I,J,false,false,M,N,O,P,false,R,false,T,U,V,X,Y,Z⟩ s0 s) : KeptO ⟨false,false,false,D,E,F,false,H,I,J,false,false,M,N,O,P,false,R,false,T,U,V,X,Y,Z⟩ s0 (execScrubPass a1 s) := by
  unfold execScrubPass; with_reducible repeat' first | assumption | intros _ | apply KeptO.next | apply Kept.ite | apply State.forEach_kept | apply State.correctedRead_kept | apply State.meetError_kept | (refine Kept.upd ?_; first | assumption | apply State.forEach_kept | apply State.correctedRead_kept | apply State.meetError_kept) | split
theorem execCorrectedRewrite_kept {a1 : Nat} (h : Kept ⟨false,false,false,D,E,F,false,H,I,J,false,false,M,N,O,P,false,R,false,T,U,V,X,Y,Z⟩ s0 s) : KeptO ⟨false,false,false,D,E,F,false,H,I,J,false,false,M,N,O,P,false,R,false,T,U,V,X,Y,Z⟩ s0 (execCorrectedRewrite a1 s) := by
  have k : Kept ⟨false,false,false,D,E,F,false,H,I,J,false,false,M,N,O,P,false,R,false,T,U,V,X,Y,Z⟩ s0 (if s.mem.rewrite.contains (blockOf a1) then s else s.correctedRead a1) :=
    Kept.ite h (State.correctedRead_kept h)
  unfold execCorrectedRewrite
  dsimp only
  revert k
  generalize (if s.mem.rewrite.contains (blockOf a1) = true then s else s.correctedRead a1) = t
  intro k
  exact KeptO.next (Kept.ite h (Kept.upd k))
theorem execGranuleRemap_kept (h : Kept ⟨A,false,false,D,E,F,false,H,I,J,false,L,M,N,O,P,false,R,false,T,U,V,X,Y,Z⟩ s0 s) : KeptO ⟨A,false,false,D,E,F,false,H,I,J,false,L,M,N,O,P,false,R,false,T,U,V,X,Y,Z⟩ s0 (execGranuleRemap s) := by
  unfold execGranuleRemap; with_reducible repeat' first | assumption | intros _ | apply KeptO.next | apply Kept.ite | apply State.healthDue_kept | apply State.noteReplacement_kept | apply State.raise_kept | (refine Kept.upd ?_; first | assumption | apply State.healthDue_kept | apply State.noteReplacement_kept | apply State.raise_kept) | split
theorem State.dropEgress_kept {a1 : Nat} (h : Kept ⟨A,false,C,D,E,F,false,H,I,J,false,false,M,N,O,P,false,false,S,T,U,V,X,Y,Z⟩ s0 s) : Kept ⟨A,false,C,D,E,F,false,H,I,J,false,false,M,N,O,P,false,false,S,T,U,V,X,Y,Z⟩ s0 (State.dropEgress s a1) := by
  unfold State.dropEgress; with_reducible repeat' first | assumption | intros _ | apply Kept.ite | apply State.cancelBuffer_kept | apply State.startFrame_kept | (refine Kept.upd ?_; first | assumption | apply State.cancelBuffer_kept | apply State.startFrame_kept) | split
theorem State.commandReadFails_kept {a1 : Nat} (h : Kept ⟨A,B,C,D,E,F,G,false,I,J,K,L,M,N,O,P,Q,R,S,T,U,V,X,Y,Z⟩ s0 s) : Kept ⟨A,B,C,D,E,F,G,false,I,J,K,L,M,N,O,P,Q,R,S,T,U,V,X,Y,Z⟩ s0 (State.commandReadFails s a1) := by
  unfold State.commandReadFails; with_reducible repeat' first | assumption | intros _ | apply Kept.ite | apply State.finishAt_kept | (refine Kept.upd ?_; first | assumption | apply State.finishAt_kept) | split
theorem State.echoReadFails_kept {a1 : Nat} {a2 : Nat} {a3 : Nat} {a4 : Nat} (h : Kept ⟨A,false,C,D,E,F,G,H,I,J,false,false,M,N,O,false,false,R,S,T,U,V,X,Y,Z⟩ s0 s) : Kept ⟨A,false,C,D,E,F,G,H,I,J,false,false,M,N,O,false,false,R,S,T,U,V,X,Y,Z⟩ s0 (State.echoReadFails s a1 a2 a3 a4) := by
  unfold State.echoReadFails; with_reducible repeat' first | assumption | intros _ | apply Kept.ite | apply State.echoFails_kept | apply State.cancelBuffer_kept | (refine Kept.upd ?_; first | assumption | apply State.echoFails_kept | apply State.cancelBuffer_kept) | split
theorem execUncorrectableRead_kept {a1 : Reader} {a2 : Nat} {a3 : Bool} (h : Kept ⟨false,false,false,false,false,F,false,false,false,false,false,false,M,false,false,false,false,false,false,T,U,false,false,Y,Z⟩ s0 s) : KeptO ⟨false,false,false,false,false,F,false,false,false,false,false,false,M,false,false,false,false,false,false,T,U,false,false,Y,Z⟩ s0 (execUncorrectableRead a1 a2 a3 s) := by
  unfold execUncorrectableRead; with_reducible repeat' first | assumption | intros _ | apply KeptO.next | apply Kept.ite | apply State.meetError_kept | apply State.countUncorrectable_kept | apply State.abandonBand_kept | apply State.echoReadFails_kept | apply State.dropEgress_kept | apply State.busError_kept | apply State.blitRun_kept | apply State.commandReadFails_kept | (refine Kept.upd ?_; first | assumption | apply State.meetError_kept | apply State.countUncorrectable_kept | apply State.abandonBand_kept | apply State.echoReadFails_kept | apply State.dropEgress_kept | apply State.busError_kept | apply State.blitRun_kept | apply State.commandReadFails_kept) | split
theorem State.clearRc_kept {a1 : Fn} {a2 : Nat} (h : Kept ⟨false,B,C,D,E,F,G,false,false,false,false,L,false,false,false,false,Q,false,S,T,U,V,X,Y,Z⟩ s0 s) : Kept ⟨false,B,C,D,E,F,G,false,false,false,false,L,false,false,false,false,Q,false,S,T,U,V,X,Y,Z⟩ s0 (State.clearRc s a1 a2) := by
  unfold State.clearRc; with_reducible repeat' first | assumption | intros _ | apply Kept.ite | apply State.modGroup_kept | apply State.modRing_kept | apply State.modChan_kept | apply State.modHead_kept | apply State.modGallery_kept | apply State.modUnit_kept | apply State.modPort_kept | (refine Kept.upd ?_; first | assumption | apply State.modGroup_kept | apply State.modRing_kept | apply State.modChan_kept | apply State.modHead_kept | apply State.modGallery_kept | apply State.modUnit_kept | apply State.modPort_kept) | split
theorem State.setShadow_kept {a1 : Fn} {a2 : Option (Nat × Nat)} (h : Kept ⟨false,B,C,D,E,F,G,H,I,J,K,L,M,N,O,P,Q,R,S,T,U,V,X,Y,Z⟩ s0 s) : Kept ⟨false,B,C,D,E,F,G,H,I,J,K,L,M,N,O,P,Q,R,S,T,U,V,X,Y,Z⟩ s0 (State.setShadow s a1 a2) := by
  unfold State.setShadow; with_reducible repeat' first | assumption | intros _ | apply Kept.ite | (refine Kept.upd ?_; first | assumption) | split
theorem State.read4_kept {a1 : Fn} {a2 : Nat} (h : Kept ⟨false,B,C,D,E,F,G,false,false,false,false,L,false,false,false,false,Q,false,S,T,U,V,false,Y,Z⟩ s0 s) : Kept ⟨false,B,C,D,E,F,G,false,false,false,false,L,false,false,false,false,Q,false,S,T,U,V,false,Y,Z⟩ s0 (State.read4 s a1 a2) := by
  unfold State.read4; with_reducible repeat' first | assumption | apply Kept.ite | apply State.answer_kept | apply State.clearRc_kept | apply State.setShadow_kept
theorem State.read8_kept {a1 : Fn} {a2 : Nat} (h : Kept ⟨false,B,C,D,E,F,G,false,false,false,false,L,false,false,false,false,Q,false,S,T,U,V,false,Y,Z⟩ s0 s) : Kept ⟨false,B,C,D,E,F,G,false,false,false,false,L,false,false,false,false,Q,false,S,T,U,V,false,Y,Z⟩ s0 (State.read8 s a1 a2) := by
  unfold State.read8; with_reducible repeat' first | assumption | apply Kept.ite | apply State.answer_kept | apply State.clearRc_kept | apply State.setShadow_kept
theorem State.readBar0_kept {a1 : Fn} {a2 : Nat} {a3 : Nat} (h : Kept ⟨false,B,C,D,E,F,false,false,false,false,false,L,false,false,false,false,Q,false,S,T,U,V,false,Y,Z⟩ s0 s) : Kept ⟨false,B,C,D,E,F,false,false,false,false,false,L,false,false,false,false,Q,false,S,T,U,V,false,Y,Z⟩ s0 (State.readBar0 s a1 a2 a3) := by
  unfold State.readBar0; with_reducible repeat' first | assumption | apply Kept.ite | apply State.answer_kept | apply State.setShadow_kept | apply Kept.afterO (execMemWinsync_kept _) | apply State.read4_kept | apply State.read8_kept | apply State.badAccess_kept
theorem execReadClear_kept {a1 : Fn} {a2 : Offset} {a3 : Nat} (h : Kept ⟨false,B,C,D,E,F,false,false,false,false,false,L,false,false,false,false,Q,false,S,T,U,V,false,Y,Z⟩ s0 s) : KeptO ⟨false,B,C,D,E,F,false,false,false,false,false,L,false,false,false,false,Q,false,S,T,U,V,false,Y,Z⟩ s0 (execReadClear a1 a2 a3 s) := by
  unfold execReadClear; with_reducible repeat' first | assumption | apply KeptO.next | apply Kept.ite | apply State.readBar0_kept
theorem State.devReset_kept {a1 : Fn} {a2 : Nat} (h : Kept ⟨false,B,C,D,E,F,G,H,I,J,K,L,M,N,O,P,Q,R,S,T,U,V,X,Y,Z⟩ s0 s) : Kept ⟨false,B,C,D,E,F,G,H,I,J,K,L,M,N,O,P,Q,R,S,T,U,V,X,Y,Z⟩ s0 (State.devReset s a1 a2) := by
  unfold State.devReset; with_reducible repeat' first | assumption | intros _ | apply Kept.ite | apply State.privIgnore_kept | apply State.badAccess_kept | (refine Kept.upd ?_; first | assumption | apply State.privIgnore_kept | apply State.badAccess_kept) | split
theorem execDevReset_kept {a1 : Fn} {a2 : Nat} (h : Kept ⟨false,B,C,D,E,F,G,H,I,J,K,L,M,N,O,P,Q,R,S,T,U,V,X,Y,Z⟩ s0 s) : KeptO ⟨false,B,C,D,E,F,G,H,I,J,K,L,M,N,O,P,Q,R,S,T,U,V,X,Y,Z⟩ s0 (execDevReset a1 a2 s) := by
  unfold execDevReset; with_reducible repeat' first | assumption | apply KeptO.next | apply Kept.ite | apply State.devReset_kept
theorem State.writeRecovery_kept {a1 : Nat} {a2 : Nat} (h : Kept ⟨false,false,false,false,false,false,false,false,false,false,false,false,false,false,false,false,false,false,false,false,false,false,false,false,false⟩ s0 s) : Kept ⟨false,false,false,false,false,false,false,false,false,false,false,false,false,false,false,false,false,false,false,false,false,false,false,false,false⟩ s0 (State.writeRecovery s a1 a2) := by
  unfold State.writeRecovery
  split
  · split
    · exact Kept.afterO (execRecoveryStart_kept h) h
    · split
      · exact Kept.afterO (execRecoveryChunk_kept h) h
      · split
        · exact Kept.afterO (execRecoveryFinish_kept h) h
        · exact h
  · split
    · exact State.fixParity_kept (Kept.upd h)
    · split
      · refine h.raw (fun x => ?_) rfl
        have := x
        exact ⟨⟨this.1.1, this.1.2.1, Memory.wf_write _ _ _ this.1.2.2.1, this.1.2.2.2⟩, this.2⟩
      · exact h
theorem State.writeMsix_kept {a1 : Fn} {a2 : Nat} {a3 : Nat} (h : Kept ⟨A,B,C,D,E,F,G,H,I,J,false,L,M,N,O,P,Q,R,S,T,U,V,X,Y,Z⟩ s0 s) : Kept ⟨A,B,C,D,E,F,G,H,I,J,false,L,M,N,O,P,Q,R,S,T,U,V,X,Y,Z⟩ s0 (State.writeMsix s a1 a2 a3) := by
  unfold State.writeMsix; with_reducible repeat' first | assumption | apply Kept.ite | apply State.setFnCfg_kept
theorem State.writeGroup_kept {a1 : Fn} {a2 : Nat} {a3 : Nat} {a4 : Nat} (h : Kept ⟨false,B,C,D,E,F,G,H,I,J,false,L,M,N,O,P,Q,R,S,T,U,V,X,Y,Z⟩ s0 s) : Kept ⟨false,B,C,D,E,F,G,H,I,J,false,L,M,N,O,P,Q,R,S,T,U,V,X,Y,Z⟩ s0 (State.writeGroup s a1 a2 a3 a4) := by
  unfold State.writeGroup; with_reducible repeat' first | assumption | apply Kept.ite | apply State.privIgnore_kept | apply State.fixParity_kept | apply State.modGroup_kept
theorem State.writeEvc_kept {a1 : Fn} {a2 : Nat} {a3 : Nat} (h : Kept ⟨false,B,C,D,E,F,G,H,I,J,false,L,M,N,O,P,false,R,S,T,U,V,X,Y,Z⟩ s0 s) : Kept ⟨false,B,C,D,E,F,G,H,I,J,false,L,M,N,O,P,false,R,S,T,U,V,X,Y,Z⟩ s0 (State.writeEvc s a1 a2 a3) := by
  unfold State.writeEvc
  extract_lets i src x word page
  clear_value src x page
  repeat' first
    | with_reducible exact h
    | with_reducible refine Kept.ite ?_ ?_
    | with_reducible exact Kept.afterO (execEvcSourceWrite_kept h) h
    | with_reducible exact Kept.afterO (execEventEnableWrite_kept h) h
    | with_reducible exact Kept.afterO (execPendingSet_kept h) h
    | with_reducible exact Kept.afterO (execPendingClear_kept h) h
    | with_reducible exact Kept.afterO (execEoi_kept h) h
    | with_reducible exact State.privIgnore_kept h
    | with_reducible exact State.countForeign_kept h
    | with_reducible exact State.writeGroup_kept h
    | with_reducible exact State.fixParity_kept (State.writeMsix_kept h)
theorem State.writeRingControl_kept {a1 : Fn} {a2 : Fin 256} {a3 : Nat} (h : Kept ⟨false,false,C,false,false,F,false,false,false,false,false,L,M,N,O,P,false,R,S,T,U,V,X,Y,Z⟩ s0 s) : Kept ⟨false,false,C,false,false,F,false,false,false,false,false,L,M,N,O,P,false,R,S,T,U,V,X,Y,Z⟩ s0 (State.writeRingControl s a1 a2 a3) := by
  unfold State.writeRingControl; with_reducible repeat' first | assumption | apply Kept.ite | apply Kept.afterO (execRingStop_kept _) | apply Kept.afterO (execRingResume_kept _) | apply Kept.afterO (execRingEnable_kept _) | apply Kept.afterO (execRingDisable_kept _) | apply Kept.afterO (execRestart_kept _)
theorem State.writeQue_kept {a1 : Fn} {a2 : Nat} {a3 : Nat} (h : Kept ⟨false,false,C,false,false,F,false,false,false,false,false,L,M,N,O,P,false,R,S,T,U,V,X,Y,Z⟩ s0 s) : Kept ⟨false,false,C,false,false,F,false,false,false,false,false,L,M,N,O,P,false,R,S,T,U,V,X,Y,Z⟩ s0 (State.writeQue s a1 a2 a3) := by
  unfold State.writeQue
  extract_lets q
  clear_value q
  refine Kept.ite (State.privIgnore_kept h) ?_
  split
  · exact State.writeRingControl_kept h
  · exact Kept.ite (State.writeRingClass_kept h) (State.privIgnore_kept h)
  · exact State.writeRingField_kept h
  · exact State.writeRingField_kept h
  · exact h
theorem State.writeSiph_kept {a1 : Fn} {a2 : Nat} {a3 : Nat} (h : Kept ⟨false,B,C,D,E,F,G,false,false,J,false,L,M,N,O,P,false,R,S,T,U,V,X,Y,Z⟩ s0 s) : Kept ⟨false,B,C,D,E,F,G,false,false,J,false,L,M,N,O,P,false,R,S,T,U,V,X,Y,Z⟩ s0 (State.writeSiph s a1 a2 a3) := by
  unfold State.writeSiph; with_reducible repeat' first | assumption | intros _ | apply Kept.ite | apply State.privIgnore_kept | apply State.writeChanCfg_kept | apply State.reenable_kept | (refine Kept.upd ?_; first | assumption | apply State.privIgnore_kept | apply State.writeChanCfg_kept | apply State.reenable_kept) | split
theorem State.portEnable_kept {a1 : Nat} {a2 : Bool} (h : Kept ⟨A,false,C,D,E,F,G,H,I,J,false,L,M,N,O,P,false,false,S,T,U,V,X,Y,Z⟩ s0 s) : Kept ⟨A,false,C,D,E,F,G,H,I,J,false,L,M,N,O,P,false,false,S,T,U,V,X,Y,Z⟩ s0 (State.portEnable s a1 a2) := by
  unfold State.portEnable; with_reducible repeat' first | assumption | apply Kept.ite | apply State.loseLink_kept | apply State.modPort_kept
theorem State.writePort_kept {a1 : Nat} {a2 : Nat} {a3 : Nat} (h : Kept ⟨false,false,C,D,E,F,G,H,I,J,false,L,M,N,O,P,false,false,S,T,U,V,X,Y,Z⟩ s0 s) : Kept ⟨false,false,C,D,E,F,G,H,I,J,false,L,M,N,O,P,false,false,S,T,U,V,X,Y,Z⟩ s0 (State.writePort s a1 a2 a3) := by
  unfold State.writePort; with_reducible repeat' first | assumption | apply Kept.ite | apply State.portEnable_kept | apply State.fixParity_kept | apply State.portReenable_kept
theorem State.writeReqBuf_kept {a1 : Nat} {a2 : List Byte} (h : Kept ⟨A,B,C,D,E,F,G,H,I,J,K,L,M,N,O,P,Q,R,S,T,false,V,X,Y,Z⟩ s0 s) : Kept ⟨A,B,C,D,E,F,G,H,I,J,K,L,M,N,O,P,Q,R,S,T,false,V,X,Y,Z⟩ s0 (State.writeReqBuf s a1 a2) := by
  unfold State.writeReqBuf
  dsimp only
  split
  · exact h
  · split
    · exact Kept.upd h
    · refine h.raw (fun x => ?_) rfl
      have := x
      exact ⟨⟨this.1.1, this.1.2.1, this.1.2.2.1, Memory.wf_write _ _ _ this.1.2.2.2⟩, this.2⟩
theorem State.writeDictWindow_kept {a1 : Nat} {a2 : Nat} (h : Kept ⟨false,false,C,D,E,F,G,H,I,J,false,L,M,N,O,P,false,R,S,T,false,V,X,Y,Z⟩ s0 s) : Kept ⟨false,false,C,D,E,F,G,H,I,J,false,L,M,N,O,P,false,R,S,T,false,V,X,Y,Z⟩ s0 (State.writeDictWindow s a1 a2) := by
  unfold State.writeDictWindow; with_reducible repeat' first | assumption | intros _ | apply Kept.ite | apply Kept.afterO (execLopWindowGo_kept _) | apply State.fixParity_kept | apply State.writeReqBuf_kept | (refine Kept.upd ?_; first | assumption | apply Kept.afterO (execLopWindowGo_kept _) | apply State.fixParity_kept | apply State.writeReqBuf_kept) | split
theorem State.writeWide_kept {a1 : Nat} {a2 : Nat} (h : Kept ⟨false,B,C,D,E,false,false,false,I,J,false,L,M,N,O,P,false,R,S,T,U,V,X,Y,Z⟩ s0 s) : Kept ⟨false,B,C,D,E,false,false,false,I,J,false,L,M,N,O,P,false,R,S,T,U,V,X,Y,Z⟩ s0 (State.writeWide s a1 a2) := by
  unfold State.writeWide
  refine Kept.ite (State.fixParity_kept (Kept.upd h)) ?_
  refine Kept.ite (State.fixParity_kept (Kept.upd h)) ?_
  refine Kept.ite ?_ ?_
  · exact Kept.ite (State.writeRingField_kept h) (State.writeRingField_kept h)
  · refine State.fixParity_kept (State.setWin_kept h (fun k => ?_))
    have := State.win_sound k ((a1 - 0x40_4000) / 0x20)
    split
    · exact this
    · exact this
theorem State.writeHalf_kept {a1 : Fn} {a2 : Nat} {a3 : Nat} (h : Kept ⟨false,B,C,D,E,false,false,false,I,J,false,L,M,N,O,P,false,R,S,T,U,V,X,Y,Z⟩ s0 s) : Kept ⟨false,B,C,D,E,false,false,false,I,J,false,L,M,N,O,P,false,R,S,T,U,V,X,Y,Z⟩ s0 (State.writeHalf s a1 a2 a3) := by
  unfold State.writeHalf; with_reducible repeat' first | assumption | intros _ | apply Kept.ite | apply State.privIgnore_kept | apply State.writeWide_kept | (refine Kept.upd ?_; first | assumption | apply State.privIgnore_kept | apply State.writeWide_kept) | split
theorem State.write4_kept {a1 : Fn} {a2 : Nat} {a3 : Nat} (h : Kept ⟨false,false,false,false,false,false,false,false,false,false,false,false,false,false,false,false,false,false,false,false,false,false,false,false,false⟩ s0 s) : Kept ⟨false,false,false,false,false,false,false,false,false,false,false,false,false,false,false,false,false,false,false,false,false,false,false,false,false⟩ s0 (State.write4 s a1 a2 a3) := by
  unfold State.write4
  repeat' first
    | with_reducible exact h
    | with_reducible refine Kept.ite ?_ ?_
    | with_reducible exact State.writeHalf_kept h
    | with_reducible exact State.devReset_kept h
    | with_reducible exact State.writeRecovery_kept h
    | with_reducible exact State.writeEvc_kept h
    | with_reducible exact State.writeQue_kept h
    | with_reducible exact State.writeSiph_kept h
    | with_reducible exact State.privIgnore_kept h
    | with_reducible exact State.writeWindow_kept h
    | with_reducible exact State.writePort_kept h
    | with_reducible exact State.writeDictWindow_kept h
theorem State.write8_kept {a1 : Fn} {a2 : Nat} {a3 : Nat} (h : Kept ⟨false,false,false,false,false,false,false,false,false,false,false,false,false,false,false,false,false,false,false,false,false,false,false,false,false⟩ s0 s) : Kept ⟨false,false,false,false,false,false,false,false,false,false,false,false,false,false,false,false,false,false,false,false,false,false,false,false,false⟩ s0 (State.write8 s a1 a2 a3) := by
  unfold State.write8; with_reducible repeat' first | assumption | intros _ | apply Kept.ite | apply State.writeWide_kept | apply State.privIgnore_kept | apply State.write4_kept | (refine Kept.upd ?_; first | assumption | apply State.writeWide_kept | apply State.privIgnore_kept | apply State.write4_kept) | split
theorem State.writeBar0_kept {a1 : Fn} {a2 : Nat} {a3 : Nat} {a4 : Nat} (h : Kept ⟨false,false,false,false,false,false,false,false,false,false,false,false,false,false,false,false,false,false,false,false,false,false,false,false,false⟩ s0 s) : Kept ⟨false,false,false,false,false,false,false,false,false,false,false,false,false,false,false,false,false,false,false,false,false,false,false,false,false⟩ s0 (State.writeBar0 s a1 a2 a3 a4) := by
  unfold State.writeBar0; with_reducible repeat' first | assumption | intros _ | apply Kept.ite | apply State.writeReqBuf_kept | apply State.write4_kept | apply State.forEach_kept | apply State.write8_kept | apply State.badAccess_kept | (refine Kept.upd ?_; first | assumption | apply State.writeReqBuf_kept | apply State.write4_kept | apply State.forEach_kept | apply State.write8_kept | apply State.badAccess_kept) | split
theorem execRegisterWrite_kept {a1 : Fn} {a2 : Offset} {a3 : Nat} {a4 : Nat} (h : Kept ⟨false,false,false,false,false,false,false,false,false,false,false,false,false,false,false,false,false,false,false,false,false,false,false,false,false⟩ s0 s) : KeptO ⟨false,false,false,false,false,false,false,false,false,false,false,false,false,false,false,false,false,false,false,false,false,false,false,false,false⟩ s0 (execRegisterWrite a1 a2 a3 a4 s) := by
  unfold execRegisterWrite; with_reducible repeat' first | assumption | apply KeptO.next | apply Kept.ite | apply State.writeBar0_kept
theorem State.callSafe_kept {a1 : Nat} (h : Kept ⟨A,false,C,D,E,F,false,H,I,J,false,L,M,false,false,false,false,R,S,T,U,V,X,Y,Z⟩ s0 s) : Kept ⟨A,false,C,D,E,F,false,H,I,J,false,L,M,false,false,false,false,R,S,T,U,V,X,Y,Z⟩ s0 (State.callSafe s a1) := by
  unfold State.callSafe; with_reducible repeat' first | assumption | apply Kept.ite | apply State.callHead_kept
theorem State.parityHalt_kept {a1 : Nat} (h : Kept ⟨A,B,C,D,E,F,G,false,I,J,false,L,M,N,O,P,false,R,S,T,U,V,X,Y,Z⟩ s0 s) : Kept ⟨A,B,C,D,E,F,G,false,I,J,false,L,M,N,O,P,false,R,S,T,U,V,X,Y,Z⟩ s0 (State.parityHalt s a1) := by
  unfold State.parityHalt; with_reducible repeat' first | assumption | apply Kept.ite | apply State.haltRing_kept
theorem State.parityUnit_kept {a1 : Nat} (h : Kept ⟨A,false,false,D,E,F,G,false,I,false,false,L,M,N,O,P,false,R,false,T,U,V,X,Y,Z⟩ s0 s) : Kept ⟨A,false,false,D,E,F,G,false,I,false,false,L,M,N,O,P,false,R,false,T,U,V,X,Y,Z⟩ s0 (State.parityUnit s a1) := by
  unfold State.parityUnit; with_reducible repeat' first | assumption | intros _ | apply Kept.ite | apply State.unitFault_kept | refine Kept.pair1 ‹_› (State.unitFault_kept ?_) | apply State.moveCommand_kept | (refine Kept.upd ?_; first | assumption | apply State.unitFault_kept | refine Kept.pair1 ‹_› (State.unitFault_kept ?_) | apply State.moveCommand_kept) | split | apply Kept.foldl | apply Kept.foldl1 | apply Kept.pair1 ‹_› | dsimp only
theorem State.dropLog_kept (h : Kept ⟨A,false,C,D,E,F,G,H,I,J,false,L,M,N,O,false,false,R,S,T,U,V,X,Y,Z⟩ s0 s) : Kept ⟨A,false,C,D,E,F,G,H,I,J,false,L,M,N,O,false,false,R,S,T,U,V,X,Y,Z⟩ s0 (State.dropLog s) := by
  unfold State.dropLog; with_reducible repeat' first | assumption | intros _ | apply Kept.ite | apply State.forEach_kept | apply State.dropRecord_kept | (refine Kept.upd ?_; first | assumption | apply State.forEach_kept | apply State.dropRecord_kept) | split
theorem State.safeAction_kept {a1 : Nat} (h : Kept ⟨false,false,false,D,E,F,false,false,I,false,false,L,false,false,false,false,false,false,false,T,U,false,X,Y,Z⟩ s0 s) : Kept ⟨false,false,false,D,E,F,false,false,I,false,false,L,false,false,false,false,false,false,false,T,U,false,X,Y,Z⟩ s0 (State.safeAction s a1) := by
  unfold State.safeAction; with_reducible repeat' first | assumption | intros _ | apply Kept.ite | apply State.reorder_kept | apply State.parityHalt_kept | apply State.forEach_kept | apply State.callSafe_kept | apply Kept.afterO (execGalleryFault_kept _) | apply State.dropLog_kept | apply State.echoFault_kept | apply State.parityUnit_kept | apply State.draw_kept | refine Kept.pair2 ‹_› (State.draw_kept ?_) | apply State.loseLink_kept | (refine Kept.upd ?_; first | assumption | apply State.reorder_kept | apply State.parityHalt_kept | apply State.forEach_kept | apply State.callSafe_kept | apply Kept.afterO (execGalleryFault_kept _) | apply State.dropLog_kept | apply State.echoFault_kept | apply State.parityUnit_kept | apply State.draw_kept | refine Kept.pair2 ‹_› (State.draw_kept ?_) | apply State.loseLink_kept) | split
theorem State.parityMismatch_kept {a1 : Nat} (h : Kept ⟨false,false,false,D,E,F,false,false,I,false,false,L,false,false,false,false,false,false,false,T,U,false,X,Y,Z⟩ s0 s) : Kept ⟨false,false,false,D,E,F,false,false,I,false,false,L,false,false,false,false,false,false,false,T,U,false,X,Y,Z⟩ s0 (State.parityMismatch s a1) := by
  unfold State.parityMismatch; with_reducible repeat' first | assumption | intros _ | apply Kept.ite | apply State.safeAction_kept | apply State.raise_kept | (refine Kept.upd ?_; first | assumption | apply State.safeAction_kept | apply State.raise_kept) | split
theorem execParityScrub_kept {a1 : List Offset} (h : Kept ⟨false,false,false,D,E,F,false,false,I,false,false,L,false,false,false,false,false,false,false,T,U,false,X,Y,Z⟩ s0 s) : KeptO ⟨false,false,false,D,E,F,false,false,I,false,false,L,false,false,false,false,false,false,false,T,U,false,X,Y,Z⟩ s0 (execParityScrub a1 s) := by
  unfold execParityScrub; with_reducible repeat' first | assumption | intros _ | apply KeptO.next | apply Kept.ite | apply State.forEach_kept | apply State.parityMismatch_kept | (refine Kept.upd ?_; first | assumption | apply State.forEach_kept | apply State.parityMismatch_kept) | split
theorem execParityRestore_kept {a1 : Offset} (h : Kept ⟨false,B,C,D,E,F,G,H,I,J,K,L,M,N,O,P,Q,R,S,T,U,V,X,Y,Z⟩ s0 s) : KeptO ⟨false,B,C,D,E,F,G,H,I,J,K,L,M,N,O,P,Q,R,S,T,U,V,X,Y,Z⟩ s0 (execParityRestore a1 s) := by
  unfold execParityRestore; with_reducible repeat' first | assumption | apply KeptO.next | apply Kept.ite | apply State.fixParity_kept

end Sys2Proof.Machine
end

