-- ==== Sys2Proof/Laws/State.lean ====
section
/-!
SUPPORT. The updates of one register group: what each field and each register reads as afterwards.
-/

set_option Elab.async false

namespace Sys2Proof.Machine

/-! ## State.setRing -/

@[simp] theorem State.setRing_sys (s : State) (q : Nat) (r : Ring) : (s.setRing q r).sys = s.sys := rfl
@[simp] theorem State.setRing_boot (s : State) (q : Nat) (r : Ring) : (s.setRing q r).boot = s.boot := rfl
@[simp] theorem State.setRing_health (s : State) (q : Nat) (r : Ring) : (s.setRing q r).health = s.health := rfl
@[simp] theorem State.setRing_mem (s : State) (q : Nat) (r : Ring) : (s.setRing q r).mem = s.mem := rfl
@[simp] theorem State.setRing_que (s : State) (q : Nat) (r : Ring) : (s.setRing q r).que = { s.que with rings := Tbl.set s.que.rings q r } := rfl
@[simp] theorem State.setRing_siph (s : State) (q : Nat) (r : Ring) : (s.setRing q r).siph = s.siph := rfl
@[simp] theorem State.setRing_blit (s : State) (q : Nat) (r : Ring) : (s.setRing q r).blit = s.blit := rfl
@[simp] theorem State.setRing_evc (s : State) (q : Nat) (r : Ring) : (s.setRing q r).evc = s.evc := rfl
@[simp] theorem State.setRing_src (s : State) (q : Nat) (r : Ring) : (s.setRing q r).src = s.src := rfl
@[simp] theorem State.setRing_scn (s : State) (q : Nat) (r : Ring) : (s.setRing q r).scn = s.scn := rfl
@[simp] theorem State.setRing_gal (s : State) (q : Nat) (r : Ring) : (s.setRing q r).gal = s.gal := rfl
@[simp] theorem State.setRing_heads (s : State) (q : Nat) (r : Ring) : (s.setRing q r).heads = s.heads := rfl
@[simp] theorem State.setRing_lant (s : State) (q : Nat) (r : Ring) : (s.setRing q r).lant = s.lant := rfl
@[simp] theorem State.setRing_wb (s : State) (q : Nat) (r : Ring) : (s.setRing q r).wb = s.wb := rfl
@[simp] theorem State.setRing_fab (s : State) (q : Nat) (r : Ring) : (s.setRing q r).fab = s.fab := rfl
@[simp] theorem State.setRing_lamp (s : State) (q : Nat) (r : Ring) : (s.setRing q r).lamp = s.lamp := rfl
@[simp] theorem State.setRing_dict (s : State) (q : Nat) (r : Ring) : (s.setRing q r).dict = s.dict := rfl
@[simp] theorem State.setRing_lop (s : State) (q : Nat) (r : Ring) : (s.setRing q r).lop = s.lop := rfl
@[simp] theorem State.setRing_fresh (s : State) (q : Nat) (r : Ring) : (s.setRing q r).fresh = s.fresh := rfl
@[simp] theorem State.setRing_bus (s : State) (q : Nat) (r : Ring) : (s.setRing q r).bus = s.bus := rfl
@[simp] theorem State.setRing_busEp (s : State) (q : Nat) (r : Ring) : (s.setRing q r).busEp = s.busEp := rfl
@[simp] theorem State.setRing_pending (s : State) (q : Nat) (r : Ring) : (s.setRing q r).pending = s.pending := rfl
@[simp] theorem State.ring_setRing_self (s : State) (q : Nat) (r : Ring) : (s.setRing q r).ring q = r := Tbl.get_set_self _ _ _ _
theorem State.ring_setRing_ne (s : State) {q j : Nat} (r : Ring) (e : j ≠ q) : (s.setRing q r).ring j = s.ring j := Tbl.get_set_ne _ _ _ e
@[simp] theorem State.chan_setRing (s : State) (q : Nat) (r : Ring) (j : Nat) : (s.setRing q r).chan j = s.chan j := rfl
@[simp] theorem State.unit_setRing (s : State) (q : Nat) (r : Ring) (j : Nat) : (s.setRing q r).unit j = s.unit j := rfl
@[simp] theorem State.ev_setRing (s : State) (q : Nat) (r : Ring) (j : Nat) : (s.setRing q r).ev j = s.ev j := rfl
@[simp] theorem State.group_setRing (s : State) (q : Nat) (r : Ring) (j : Nat) : (s.setRing q r).group j = s.group j := rfl
@[simp] theorem State.head_setRing (s : State) (q : Nat) (r : Ring) (j : Nat) : (s.setRing q r).head j = s.head j := rfl
@[simp] theorem State.link_setRing (s : State) (q : Nat) (r : Ring) (j : Nat) : (s.setRing q r).link j = s.link j := rfl
@[simp] theorem State.gallery_setRing (s : State) (q : Nat) (r : Ring) (j : Nat) : (s.setRing q r).gallery j = s.gallery j := rfl
@[simp] theorem State.stream_setRing (s : State) (q : Nat) (r : Ring) (j : Nat) : (s.setRing q r).stream j = s.stream j := rfl
@[simp] theorem State.port_setRing (s : State) (q : Nat) (r : Ring) (j : Nat) : (s.setRing q r).port j = s.port j := rfl
@[simp] theorem State.win_setRing (s : State) (q : Nat) (r : Ring) (j : Nat) : (s.setRing q r).win j = s.win j := rfl
@[simp] theorem State.source?_setRing (s : State) (q : Nat) (r : Ring) (j : Nat) : (s.setRing q r).source? j = s.source? j := rfl

/-! ## State.setChan -/

@[simp] theorem State.setChan_sys (s : State) (c : Nat) (x : Chan) : (s.setChan c x).sys = s.sys := rfl
@[simp] theorem State.setChan_boot (s : State) (c : Nat) (x : Chan) : (s.setChan c x).boot = s.boot := rfl
@[simp] theorem State.setChan_health (s : State) (c : Nat) (x : Chan) : (s.setChan c x).health = s.health := rfl
@[simp] theorem State.setChan_mem (s : State) (c : Nat) (x : Chan) : (s.setChan c x).mem = s.mem := rfl
@[simp] theorem State.setChan_que (s : State) (c : Nat) (x : Chan) : (s.setChan c x).que = s.que := rfl
@[simp] theorem State.setChan_siph (s : State) (c : Nat) (x : Chan) : (s.setChan c x).siph = { s.siph with chans := Tbl.set s.siph.chans c x } := rfl
@[simp] theorem State.setChan_blit (s : State) (c : Nat) (x : Chan) : (s.setChan c x).blit = s.blit := rfl
@[simp] theorem State.setChan_evc (s : State) (c : Nat) (x : Chan) : (s.setChan c x).evc = s.evc := rfl
@[simp] theorem State.setChan_src (s : State) (c : Nat) (x : Chan) : (s.setChan c x).src = s.src := rfl
@[simp] theorem State.setChan_scn (s : State) (c : Nat) (x : Chan) : (s.setChan c x).scn = s.scn := rfl
@[simp] theorem State.setChan_gal (s : State) (c : Nat) (x : Chan) : (s.setChan c x).gal = s.gal := rfl
@[simp] theorem State.setChan_heads (s : State) (c : Nat) (x : Chan) : (s.setChan c x).heads = s.heads := rfl
@[simp] theorem State.setChan_lant (s : State) (c : Nat) (x : Chan) : (s.setChan c x).lant = s.lant := rfl
@[simp] theorem State.setChan_wb (s : State) (c : Nat) (x : Chan) : (s.setChan c x).wb = s.wb := rfl
@[simp] theorem State.setChan_fab (s : State) (c : Nat) (x : Chan) : (s.setChan c x).fab = s.fab := rfl
@[simp] theorem State.setChan_lamp (s : State) (c : Nat) (x : Chan) : (s.setChan c x).lamp = s.lamp := rfl
@[simp] theorem State.setChan_dict (s : State) (c : Nat) (x : Chan) : (s.setChan c x).dict = s.dict := rfl
@[simp] theorem State.setChan_lop (s : State) (c : Nat) (x : Chan) : (s.setChan c x).lop = s.lop := rfl
@[simp] theorem State.setChan_fresh (s : State) (c : Nat) (x : Chan) : (s.setChan c x).fresh = s.fresh := rfl
@[simp] theorem State.setChan_bus (s : State) (c : Nat) (x : Chan) : (s.setChan c x).bus = s.bus := rfl
@[simp] theorem State.setChan_busEp (s : State) (c : Nat) (x : Chan) : (s.setChan c x).busEp = s.busEp := rfl
@[simp] theorem State.setChan_pending (s : State) (c : Nat) (x : Chan) : (s.setChan c x).pending = s.pending := rfl
@[simp] theorem State.chan_setChan_self (s : State) (c : Nat) (x : Chan) : (s.setChan c x).chan c = x := Tbl.get_set_self _ _ _ _
theorem State.chan_setChan_ne (s : State) {c j : Nat} (x : Chan) (e : j ≠ c) : (s.setChan c x).chan j = s.chan j := Tbl.get_set_ne _ _ _ e
@[simp] theorem State.ring_setChan (s : State) (c : Nat) (x : Chan) (j : Nat) : (s.setChan c x).ring j = s.ring j := rfl
@[simp] theorem State.unit_setChan (s : State) (c : Nat) (x : Chan) (j : Nat) : (s.setChan c x).unit j = s.unit j := rfl
@[simp] theorem State.ev_setChan (s : State) (c : Nat) (x : Chan) (j : Nat) : (s.setChan c x).ev j = s.ev j := rfl
@[simp] theorem State.group_setChan (s : State) (c : Nat) (x : Chan) (j : Nat) : (s.setChan c x).group j = s.group j := rfl
@[simp] theorem State.head_setChan (s : State) (c : Nat) (x : Chan) (j : Nat) : (s.setChan c x).head j = s.head j := rfl
@[simp] theorem State.link_setChan (s : State) (c : Nat) (x : Chan) (j : Nat) : (s.setChan c x).link j = s.link j := rfl
@[simp] theorem State.gallery_setChan (s : State) (c : Nat) (x : Chan) (j : Nat) : (s.setChan c x).gallery j = s.gallery j := rfl
@[simp] theorem State.stream_setChan (s : State) (c : Nat) (x : Chan) (j : Nat) : (s.setChan c x).stream j = s.stream j := rfl
@[simp] theorem State.port_setChan (s : State) (c : Nat) (x : Chan) (j : Nat) : (s.setChan c x).port j = s.port j := rfl
@[simp] theorem State.win_setChan (s : State) (c : Nat) (x : Chan) (j : Nat) : (s.setChan c x).win j = s.win j := rfl
@[simp] theorem State.source?_setChan (s : State) (c : Nat) (x : Chan) (j : Nat) : (s.setChan c x).source? j = s.source? j := rfl

/-! ## State.setUnit -/

@[simp] theorem State.setUnit_sys (s : State) (u : Nat) (x : Unit2D) : (s.setUnit u x).sys = s.sys := rfl
@[simp] theorem State.setUnit_boot (s : State) (u : Nat) (x : Unit2D) : (s.setUnit u x).boot = s.boot := rfl
@[simp] theorem State.setUnit_health (s : State) (u : Nat) (x : Unit2D) : (s.setUnit u x).health = s.health := rfl
@[simp] theorem State.setUnit_mem (s : State) (u : Nat) (x : Unit2D) : (s.setUnit u x).mem = s.mem := rfl
@[simp] theorem State.setUnit_que (s : State) (u : Nat) (x : Unit2D) : (s.setUnit u x).que = s.que := rfl
@[simp] theorem State.setUnit_siph (s : State) (u : Nat) (x : Unit2D) : (s.setUnit u x).siph = s.siph := rfl
@[simp] theorem State.setUnit_blit (s : State) (u : Nat) (x : Unit2D) : (s.setUnit u x).blit = { s.blit with units := Tbl.set s.blit.units u x } := rfl
@[simp] theorem State.setUnit_evc (s : State) (u : Nat) (x : Unit2D) : (s.setUnit u x).evc = s.evc := rfl
@[simp] theorem State.setUnit_src (s : State) (u : Nat) (x : Unit2D) : (s.setUnit u x).src = s.src := rfl
@[simp] theorem State.setUnit_scn (s : State) (u : Nat) (x : Unit2D) : (s.setUnit u x).scn = s.scn := rfl
@[simp] theorem State.setUnit_gal (s : State) (u : Nat) (x : Unit2D) : (s.setUnit u x).gal = s.gal := rfl
@[simp] theorem State.setUnit_heads (s : State) (u : Nat) (x : Unit2D) : (s.setUnit u x).heads = s.heads := rfl
@[simp] theorem State.setUnit_lant (s : State) (u : Nat) (x : Unit2D) : (s.setUnit u x).lant = s.lant := rfl
@[simp] theorem State.setUnit_wb (s : State) (u : Nat) (x : Unit2D) : (s.setUnit u x).wb = s.wb := rfl
@[simp] theorem State.setUnit_fab (s : State) (u : Nat) (x : Unit2D) : (s.setUnit u x).fab = s.fab := rfl
@[simp] theorem State.setUnit_lamp (s : State) (u : Nat) (x : Unit2D) : (s.setUnit u x).lamp = s.lamp := rfl
@[simp] theorem State.setUnit_dict (s : State) (u : Nat) (x : Unit2D) : (s.setUnit u x).dict = s.dict := rfl
@[simp] theorem State.setUnit_lop (s : State) (u : Nat) (x : Unit2D) : (s.setUnit u x).lop = s.lop := rfl
@[simp] theorem State.setUnit_fresh (s : State) (u : Nat) (x : Unit2D) : (s.setUnit u x).fresh = s.fresh := rfl
@[simp] theorem State.setUnit_bus (s : State) (u : Nat) (x : Unit2D) : (s.setUnit u x).bus = s.bus := rfl
@[simp] theorem State.setUnit_busEp (s : State) (u : Nat) (x : Unit2D) : (s.setUnit u x).busEp = s.busEp := rfl
@[simp] theorem State.setUnit_pending (s : State) (u : Nat) (x : Unit2D) : (s.setUnit u x).pending = s.pending := rfl
@[simp] theorem State.unit_setUnit_self (s : State) (u : Nat) (x : Unit2D) : (s.setUnit u x).unit u = x := Tbl.get_set_self _ _ _ _
theorem State.unit_setUnit_ne (s : State) {u j : Nat} (x : Unit2D) (e : j ≠ u) : (s.setUnit u x).unit j = s.unit j := Tbl.get_set_ne _ _ _ e
@[simp] theorem State.ring_setUnit (s : State) (u : Nat) (x : Unit2D) (j : Nat) : (s.setUnit u x).ring j = s.ring j := rfl
@[simp] theorem State.chan_setUnit (s : State) (u : Nat) (x : Unit2D) (j : Nat) : (s.setUnit u x).chan j = s.chan j := rfl
@[simp] theorem State.ev_setUnit (s : State) (u : Nat) (x : Unit2D) (j : Nat) : (s.setUnit u x).ev j = s.ev j := rfl
@[simp] theorem State.group_setUnit (s : State) (u : Nat) (x : Unit2D) (j : Nat) : (s.setUnit u x).group j = s.group j := rfl
@[simp] theorem State.head_setUnit (s : State) (u : Nat) (x : Unit2D) (j : Nat) : (s.setUnit u x).head j = s.head j := rfl
@[simp] theorem State.link_setUnit (s : State) (u : Nat) (x : Unit2D) (j : Nat) : (s.setUnit u x).link j = s.link j := rfl
@[simp] theorem State.gallery_setUnit (s : State) (u : Nat) (x : Unit2D) (j : Nat) : (s.setUnit u x).gallery j = s.gallery j := rfl
@[simp] theorem State.stream_setUnit (s : State) (u : Nat) (x : Unit2D) (j : Nat) : (s.setUnit u x).stream j = s.stream j := rfl
@[simp] theorem State.port_setUnit (s : State) (u : Nat) (x : Unit2D) (j : Nat) : (s.setUnit u x).port j = s.port j := rfl
@[simp] theorem State.win_setUnit (s : State) (u : Nat) (x : Unit2D) (j : Nat) : (s.setUnit u x).win j = s.win j := rfl
@[simp] theorem State.source?_setUnit (s : State) (u : Nat) (x : Unit2D) (j : Nat) : (s.setUnit u x).source? j = s.source? j := rfl

/-! ## State.setEv -/

@[simp] theorem State.setEv_sys (s : State) (i : Nat) (x : EvSrc) : (s.setEv i x).sys = s.sys := rfl
@[simp] theorem State.setEv_boot (s : State) (i : Nat) (x : EvSrc) : (s.setEv i x).boot = s.boot := rfl
@[simp] theorem State.setEv_health (s : State) (i : Nat) (x : EvSrc) : (s.setEv i x).health = s.health := rfl
@[simp] theorem State.setEv_mem (s : State) (i : Nat) (x : EvSrc) : (s.setEv i x).mem = s.mem := rfl
@[simp] theorem State.setEv_que (s : State) (i : Nat) (x : EvSrc) : (s.setEv i x).que = s.que := rfl
@[simp] theorem State.setEv_siph (s : State) (i : Nat) (x : EvSrc) : (s.setEv i x).siph = s.siph := rfl
@[simp] theorem State.setEv_blit (s : State) (i : Nat) (x : EvSrc) : (s.setEv i x).blit = s.blit := rfl
@[simp] theorem State.setEv_evc (s : State) (i : Nat) (x : EvSrc) : (s.setEv i x).evc = { s.evc with srcs := Tbl.set s.evc.srcs i x } := rfl
@[simp] theorem State.setEv_src (s : State) (i : Nat) (x : EvSrc) : (s.setEv i x).src = s.src := rfl
@[simp] theorem State.setEv_scn (s : State) (i : Nat) (x : EvSrc) : (s.setEv i x).scn = s.scn := rfl
@[simp] theorem State.setEv_gal (s : State) (i : Nat) (x : EvSrc) : (s.setEv i x).gal = s.gal := rfl
@[simp] theorem State.setEv_heads (s : State) (i : Nat) (x : EvSrc) : (s.setEv i x).heads = s.heads := rfl
@[simp] theorem State.setEv_lant (s : State) (i : Nat) (x : EvSrc) : (s.setEv i x).lant = s.lant := rfl
@[simp] theorem State.setEv_wb (s : State) (i : Nat) (x : EvSrc) : (s.setEv i x).wb = s.wb := rfl
@[simp] theorem State.setEv_fab (s : State) (i : Nat) (x : EvSrc) : (s.setEv i x).fab = s.fab := rfl
@[simp] theorem State.setEv_lamp (s : State) (i : Nat) (x : EvSrc) : (s.setEv i x).lamp = s.lamp := rfl
@[simp] theorem State.setEv_dict (s : State) (i : Nat) (x : EvSrc) : (s.setEv i x).dict = s.dict := rfl
@[simp] theorem State.setEv_lop (s : State) (i : Nat) (x : EvSrc) : (s.setEv i x).lop = s.lop := rfl
@[simp] theorem State.setEv_fresh (s : State) (i : Nat) (x : EvSrc) : (s.setEv i x).fresh = s.fresh := rfl
@[simp] theorem State.setEv_bus (s : State) (i : Nat) (x : EvSrc) : (s.setEv i x).bus = s.bus := rfl
@[simp] theorem State.setEv_busEp (s : State) (i : Nat) (x : EvSrc) : (s.setEv i x).busEp = s.busEp := rfl
@[simp] theorem State.setEv_pending (s : State) (i : Nat) (x : EvSrc) : (s.setEv i x).pending = s.pending := rfl
@[simp] theorem State.ev_setEv_self (s : State) (i : Nat) (x : EvSrc) : (s.setEv i x).ev i = x := Tbl.get_set_self _ _ _ _
theorem State.ev_setEv_ne (s : State) {i j : Nat} (x : EvSrc) (e : j ≠ i) : (s.setEv i x).ev j = s.ev j := Tbl.get_set_ne _ _ _ e
@[simp] theorem State.ring_setEv (s : State) (i : Nat) (x : EvSrc) (j : Nat) : (s.setEv i x).ring j = s.ring j := rfl
@[simp] theorem State.chan_setEv (s : State) (i : Nat) (x : EvSrc) (j : Nat) : (s.setEv i x).chan j = s.chan j := rfl
@[simp] theorem State.unit_setEv (s : State) (i : Nat) (x : EvSrc) (j : Nat) : (s.setEv i x).unit j = s.unit j := rfl
@[simp] theorem State.group_setEv (s : State) (i : Nat) (x : EvSrc) (j : Nat) : (s.setEv i x).group j = s.group j := rfl
@[simp] theorem State.head_setEv (s : State) (i : Nat) (x : EvSrc) (j : Nat) : (s.setEv i x).head j = s.head j := rfl
@[simp] theorem State.link_setEv (s : State) (i : Nat) (x : EvSrc) (j : Nat) : (s.setEv i x).link j = s.link j := rfl
@[simp] theorem State.gallery_setEv (s : State) (i : Nat) (x : EvSrc) (j : Nat) : (s.setEv i x).gallery j = s.gallery j := rfl
@[simp] theorem State.stream_setEv (s : State) (i : Nat) (x : EvSrc) (j : Nat) : (s.setEv i x).stream j = s.stream j := rfl
@[simp] theorem State.port_setEv (s : State) (i : Nat) (x : EvSrc) (j : Nat) : (s.setEv i x).port j = s.port j := rfl
@[simp] theorem State.win_setEv (s : State) (i : Nat) (x : EvSrc) (j : Nat) : (s.setEv i x).win j = s.win j := rfl
@[simp] theorem State.source?_setEv (s : State) (i : Nat) (x : EvSrc) (j : Nat) : (s.setEv i x).source? j = s.source? j := rfl

/-! ## State.setGroup -/

@[simp] theorem State.setGroup_sys (s : State) (g : Nat) (x : EvGroup) : (s.setGroup g x).sys = s.sys := rfl
@[simp] theorem State.setGroup_boot (s : State) (g : Nat) (x : EvGroup) : (s.setGroup g x).boot = s.boot := rfl
@[simp] theorem State.setGroup_health (s : State) (g : Nat) (x : EvGroup) : (s.setGroup g x).health = s.health := rfl
@[simp] theorem State.setGroup_mem (s : State) (g : Nat) (x : EvGroup) : (s.setGroup g x).mem = s.mem := rfl
@[simp] theorem State.setGroup_que (s : State) (g : Nat) (x : EvGroup) : (s.setGroup g x).que = s.que := rfl
@[simp] theorem State.setGroup_siph (s : State) (g : Nat) (x : EvGroup) : (s.setGroup g x).siph = s.siph := rfl
@[simp] theorem State.setGroup_blit (s : State) (g : Nat) (x : EvGroup) : (s.setGroup g x).blit = s.blit := rfl
@[simp] theorem State.setGroup_evc (s : State) (g : Nat) (x : EvGroup) : (s.setGroup g x).evc = { s.evc with groups := Tbl.set s.evc.groups g x } := rfl
@[simp] theorem State.setGroup_src (s : State) (g : Nat) (x : EvGroup) : (s.setGroup g x).src = s.src := rfl
@[simp] theorem State.setGroup_scn (s : State) (g : Nat) (x : EvGroup) : (s.setGroup g x).scn = s.scn := rfl
@[simp] theorem State.setGroup_gal (s : State) (g : Nat) (x : EvGroup) : (s.setGroup g x).gal = s.gal := rfl
@[simp] theorem State.setGroup_heads (s : State) (g : Nat) (x : EvGroup) : (s.setGroup g x).heads = s.heads := rfl
@[simp] theorem State.setGroup_lant (s : State) (g : Nat) (x : EvGroup) : (s.setGroup g x).lant = s.lant := rfl
@[simp] theorem State.setGroup_wb (s : State) (g : Nat) (x : EvGroup) : (s.setGroup g x).wb = s.wb := rfl
@[simp] theorem State.setGroup_fab (s : State) (g : Nat) (x : EvGroup) : (s.setGroup g x).fab = s.fab := rfl
@[simp] theorem State.setGroup_lamp (s : State) (g : Nat) (x : EvGroup) : (s.setGroup g x).lamp = s.lamp := rfl
@[simp] theorem State.setGroup_dict (s : State) (g : Nat) (x : EvGroup) : (s.setGroup g x).dict = s.dict := rfl
@[simp] theorem State.setGroup_lop (s : State) (g : Nat) (x : EvGroup) : (s.setGroup g x).lop = s.lop := rfl
@[simp] theorem State.setGroup_fresh (s : State) (g : Nat) (x : EvGroup) : (s.setGroup g x).fresh = s.fresh := rfl
@[simp] theorem State.setGroup_bus (s : State) (g : Nat) (x : EvGroup) : (s.setGroup g x).bus = s.bus := rfl
@[simp] theorem State.setGroup_busEp (s : State) (g : Nat) (x : EvGroup) : (s.setGroup g x).busEp = s.busEp := rfl
@[simp] theorem State.setGroup_pending (s : State) (g : Nat) (x : EvGroup) : (s.setGroup g x).pending = s.pending := rfl
@[simp] theorem State.group_setGroup_self (s : State) (g : Nat) (x : EvGroup) : (s.setGroup g x).group g = x := Tbl.get_set_self _ _ _ _
theorem State.group_setGroup_ne (s : State) {g j : Nat} (x : EvGroup) (e : j ≠ g) : (s.setGroup g x).group j = s.group j := Tbl.get_set_ne _ _ _ e
@[simp] theorem State.ring_setGroup (s : State) (g : Nat) (x : EvGroup) (j : Nat) : (s.setGroup g x).ring j = s.ring j := rfl
@[simp] theorem State.chan_setGroup (s : State) (g : Nat) (x : EvGroup) (j : Nat) : (s.setGroup g x).chan j = s.chan j := rfl
@[simp] theorem State.unit_setGroup (s : State) (g : Nat) (x : EvGroup) (j : Nat) : (s.setGroup g x).unit j = s.unit j := rfl
@[simp] theorem State.ev_setGroup (s : State) (g : Nat) (x : EvGroup) (j : Nat) : (s.setGroup g x).ev j = s.ev j := rfl
@[simp] theorem State.head_setGroup (s : State) (g : Nat) (x : EvGroup) (j : Nat) : (s.setGroup g x).head j = s.head j := rfl
@[simp] theorem State.link_setGroup (s : State) (g : Nat) (x : EvGroup) (j : Nat) : (s.setGroup g x).link j = s.link j := rfl
@[simp] theorem State.gallery_setGroup (s : State) (g : Nat) (x : EvGroup) (j : Nat) : (s.setGroup g x).gallery j = s.gallery j := rfl
@[simp] theorem State.stream_setGroup (s : State) (g : Nat) (x : EvGroup) (j : Nat) : (s.setGroup g x).stream j = s.stream j := rfl
@[simp] theorem State.port_setGroup (s : State) (g : Nat) (x : EvGroup) (j : Nat) : (s.setGroup g x).port j = s.port j := rfl
@[simp] theorem State.win_setGroup (s : State) (g : Nat) (x : EvGroup) (j : Nat) : (s.setGroup g x).win j = s.win j := rfl
@[simp] theorem State.source?_setGroup (s : State) (g : Nat) (x : EvGroup) (j : Nat) : (s.setGroup g x).source? j = s.source? j := rfl

/-! ## State.setHead -/

@[simp] theorem State.setHead_sys (s : State) (h : Nat) (x : Head) : (s.setHead h x).sys = s.sys := rfl
@[simp] theorem State.setHead_boot (s : State) (h : Nat) (x : Head) : (s.setHead h x).boot = s.boot := rfl
@[simp] theorem State.setHead_health (s : State) (h : Nat) (x : Head) : (s.setHead h x).health = s.health := rfl
@[simp] theorem State.setHead_mem (s : State) (h : Nat) (x : Head) : (s.setHead h x).mem = s.mem := rfl
@[simp] theorem State.setHead_que (s : State) (h : Nat) (x : Head) : (s.setHead h x).que = s.que := rfl
@[simp] theorem State.setHead_siph (s : State) (h : Nat) (x : Head) : (s.setHead h x).siph = s.siph := rfl
@[simp] theorem State.setHead_blit (s : State) (h : Nat) (x : Head) : (s.setHead h x).blit = s.blit := rfl
@[simp] theorem State.setHead_evc (s : State) (h : Nat) (x : Head) : (s.setHead h x).evc = s.evc := rfl
@[simp] theorem State.setHead_src (s : State) (h : Nat) (x : Head) : (s.setHead h x).src = s.src := rfl
@[simp] theorem State.setHead_scn (s : State) (h : Nat) (x : Head) : (s.setHead h x).scn = s.scn := rfl
@[simp] theorem State.setHead_gal (s : State) (h : Nat) (x : Head) : (s.setHead h x).gal = s.gal := rfl
@[simp] theorem State.setHead_heads (s : State) (h : Nat) (x : Head) : (s.setHead h x).heads = { s.heads with heads := Tbl.set s.heads.heads h x } := rfl
@[simp] theorem State.setHead_lant (s : State) (h : Nat) (x : Head) : (s.setHead h x).lant = s.lant := rfl
@[simp] theorem State.setHead_wb (s : State) (h : Nat) (x : Head) : (s.setHead h x).wb = s.wb := rfl
@[simp] theorem State.setHead_fab (s : State) (h : Nat) (x : Head) : (s.setHead h x).fab = s.fab := rfl
@[simp] theorem State.setHead_lamp (s : State) (h : Nat) (x : Head) : (s.setHead h x).lamp = s.lamp := rfl
@[simp] theorem State.setHead_dict (s : State) (h : Nat) (x : Head) : (s.setHead h x).dict = s.dict := rfl
@[simp] theorem State.setHead_lop (s : State) (h : Nat) (x : Head) : (s.setHead h x).lop = s.lop := rfl
@[simp] theorem State.setHead_fresh (s : State) (h : Nat) (x : Head) : (s.setHead h x).fresh = s.fresh := rfl
@[simp] theorem State.setHead_bus (s : State) (h : Nat) (x : Head) : (s.setHead h x).bus = s.bus := rfl
@[simp] theorem State.setHead_busEp (s : State) (h : Nat) (x : Head) : (s.setHead h x).busEp = s.busEp := rfl
@[simp] theorem State.setHead_pending (s : State) (h : Nat) (x : Head) : (s.setHead h x).pending = s.pending := rfl
@[simp] theorem State.head_setHead_self (s : State) (h : Nat) (x : Head) : (s.setHead h x).head h = x := Tbl.get_set_self _ _ _ _
theorem State.head_setHead_ne (s : State) {h j : Nat} (x : Head) (e : j ≠ h) : (s.setHead h x).head j = s.head j := Tbl.get_set_ne _ _ _ e
@[simp] theorem State.ring_setHead (s : State) (h : Nat) (x : Head) (j : Nat) : (s.setHead h x).ring j = s.ring j := rfl
@[simp] theorem State.chan_setHead (s : State) (h : Nat) (x : Head) (j : Nat) : (s.setHead h x).chan j = s.chan j := rfl
@[simp] theorem State.unit_setHead (s : State) (h : Nat) (x : Head) (j : Nat) : (s.setHead h x).unit j = s.unit j := rfl
@[simp] theorem State.ev_setHead (s : State) (h : Nat) (x : Head) (j : Nat) : (s.setHead h x).ev j = s.ev j := rfl
@[simp] theorem State.group_setHead (s : State) (h : Nat) (x : Head) (j : Nat) : (s.setHead h x).group j = s.group j := rfl
@[simp] theorem State.link_setHead (s : State) (h : Nat) (x : Head) (j : Nat) : (s.setHead h x).link j = s.link j := rfl
@[simp] theorem State.gallery_setHead (s : State) (h : Nat) (x : Head) (j : Nat) : (s.setHead h x).gallery j = s.gallery j := rfl
@[simp] theorem State.stream_setHead (s : State) (h : Nat) (x : Head) (j : Nat) : (s.setHead h x).stream j = s.stream j := rfl
@[simp] theorem State.port_setHead (s : State) (h : Nat) (x : Head) (j : Nat) : (s.setHead h x).port j = s.port j := rfl
@[simp] theorem State.win_setHead (s : State) (h : Nat) (x : Head) (j : Nat) : (s.setHead h x).win j = s.win j := rfl
@[simp] theorem State.source?_setHead (s : State) (h : Nat) (x : Head) (j : Nat) : (s.setHead h x).source? j = s.source? j := rfl

/-! ## State.setLink -/

@[simp] theorem State.setLink_sys (s : State) (h : Nat) (x : DpLink) : (s.setLink h x).sys = s.sys := rfl
@[simp] theorem State.setLink_boot (s : State) (h : Nat) (x : DpLink) : (s.setLink h x).boot = s.boot := rfl
@[simp] theorem State.setLink_health (s : State) (h : Nat) (x : DpLink) : (s.setLink h x).health = s.health := rfl
@[simp] theorem State.setLink_mem (s : State) (h : Nat) (x : DpLink) : (s.setLink h x).mem = s.mem := rfl
@[simp] theorem State.setLink_que (s : State) (h : Nat) (x : DpLink) : (s.setLink h x).que = s.que := rfl
@[simp] theorem State.setLink_siph (s : State) (h : Nat) (x : DpLink) : (s.setLink h x).siph = s.siph := rfl
@[simp] theorem State.setLink_blit (s : State) (h : Nat) (x : DpLink) : (s.setLink h x).blit = s.blit := rfl
@[simp] theorem State.setLink_evc (s : State) (h : Nat) (x : DpLink) : (s.setLink h x).evc = s.evc := rfl
@[simp] theorem State.setLink_src (s : State) (h : Nat) (x : DpLink) : (s.setLink h x).src = s.src := rfl
@[simp] theorem State.setLink_scn (s : State) (h : Nat) (x : DpLink) : (s.setLink h x).scn = s.scn := rfl
@[simp] theorem State.setLink_gal (s : State) (h : Nat) (x : DpLink) : (s.setLink h x).gal = s.gal := rfl
@[simp] theorem State.setLink_heads (s : State) (h : Nat) (x : DpLink) : (s.setLink h x).heads = { s.heads with links := Tbl.set s.heads.links h x } := rfl
@[simp] theorem State.setLink_lant (s : State) (h : Nat) (x : DpLink) : (s.setLink h x).lant = s.lant := rfl
@[simp] theorem State.setLink_wb (s : State) (h : Nat) (x : DpLink) : (s.setLink h x).wb = s.wb := rfl
@[simp] theorem State.setLink_fab (s : State) (h : Nat) (x : DpLink) : (s.setLink h x).fab = s.fab := rfl
@[simp] theorem State.setLink_lamp (s : State) (h : Nat) (x : DpLink) : (s.setLink h x).lamp = s.lamp := rfl
@[simp] theorem State.setLink_dict (s : State) (h : Nat) (x : DpLink) : (s.setLink h x).dict = s.dict := rfl
@[simp] theorem State.setLink_lop (s : State) (h : Nat) (x : DpLink) : (s.setLink h x).lop = s.lop := rfl
@[simp] theorem State.setLink_fresh (s : State) (h : Nat) (x : DpLink) : (s.setLink h x).fresh = s.fresh := rfl
@[simp] theorem State.setLink_bus (s : State) (h : Nat) (x : DpLink) : (s.setLink h x).bus = s.bus := rfl
@[simp] theorem State.setLink_busEp (s : State) (h : Nat) (x : DpLink) : (s.setLink h x).busEp = s.busEp := rfl
@[simp] theorem State.setLink_pending (s : State) (h : Nat) (x : DpLink) : (s.setLink h x).pending = s.pending := rfl
@[simp] theorem State.link_setLink_self (s : State) (h : Nat) (x : DpLink) : (s.setLink h x).link h = x := Tbl.get_set_self _ _ _ _
theorem State.link_setLink_ne (s : State) {h j : Nat} (x : DpLink) (e : j ≠ h) : (s.setLink h x).link j = s.link j := Tbl.get_set_ne _ _ _ e
@[simp] theorem State.ring_setLink (s : State) (h : Nat) (x : DpLink) (j : Nat) : (s.setLink h x).ring j = s.ring j := rfl
@[simp] theorem State.chan_setLink (s : State) (h : Nat) (x : DpLink) (j : Nat) : (s.setLink h x).chan j = s.chan j := rfl
@[simp] theorem State.unit_setLink (s : State) (h : Nat) (x : DpLink) (j : Nat) : (s.setLink h x).unit j = s.unit j := rfl
@[simp] theorem State.ev_setLink (s : State) (h : Nat) (x : DpLink) (j : Nat) : (s.setLink h x).ev j = s.ev j := rfl
@[simp] theorem State.group_setLink (s : State) (h : Nat) (x : DpLink) (j : Nat) : (s.setLink h x).group j = s.group j := rfl
@[simp] theorem State.head_setLink (s : State) (h : Nat) (x : DpLink) (j : Nat) : (s.setLink h x).head j = s.head j := rfl
@[simp] theorem State.gallery_setLink (s : State) (h : Nat) (x : DpLink) (j : Nat) : (s.setLink h x).gallery j = s.gallery j := rfl
@[simp] theorem State.stream_setLink (s : State) (h : Nat) (x : DpLink) (j : Nat) : (s.setLink h x).stream j = s.stream j := rfl
@[simp] theorem State.port_setLink (s : State) (h : Nat) (x : DpLink) (j : Nat) : (s.setLink h x).port j = s.port j := rfl
@[simp] theorem State.win_setLink (s : State) (h : Nat) (x : DpLink) (j : Nat) : (s.setLink h x).win j = s.win j := rfl
@[simp] theorem State.source?_setLink (s : State) (h : Nat) (x : DpLink) (j : Nat) : (s.setLink h x).source? j = s.source? j := rfl

/-! ## State.setGallery -/

@[simp] theorem State.setGallery_sys (s : State) (g : Nat) (x : Gal) : (s.setGallery g x).sys = s.sys := rfl
@[simp] theorem State.setGallery_boot (s : State) (g : Nat) (x : Gal) : (s.setGallery g x).boot = s.boot := rfl
@[simp] theorem State.setGallery_health (s : State) (g : Nat) (x : Gal) : (s.setGallery g x).health = s.health := rfl
@[simp] theorem State.setGallery_mem (s : State) (g : Nat) (x : Gal) : (s.setGallery g x).mem = s.mem := rfl
@[simp] theorem State.setGallery_que (s : State) (g : Nat) (x : Gal) : (s.setGallery g x).que = s.que := rfl
@[simp] theorem State.setGallery_siph (s : State) (g : Nat) (x : Gal) : (s.setGallery g x).siph = s.siph := rfl
@[simp] theorem State.setGallery_blit (s : State) (g : Nat) (x : Gal) : (s.setGallery g x).blit = s.blit := rfl
@[simp] theorem State.setGallery_evc (s : State) (g : Nat) (x : Gal) : (s.setGallery g x).evc = s.evc := rfl
@[simp] theorem State.setGallery_src (s : State) (g : Nat) (x : Gal) : (s.setGallery g x).src = s.src := rfl
@[simp] theorem State.setGallery_scn (s : State) (g : Nat) (x : Gal) : (s.setGallery g x).scn = s.scn := rfl
@[simp] theorem State.setGallery_gal (s : State) (g : Nat) (x : Gal) : (s.setGallery g x).gal = { s.gal with gals := Tbl.set s.gal.gals g x } := rfl
@[simp] theorem State.setGallery_heads (s : State) (g : Nat) (x : Gal) : (s.setGallery g x).heads = s.heads := rfl
@[simp] theorem State.setGallery_lant (s : State) (g : Nat) (x : Gal) : (s.setGallery g x).lant = s.lant := rfl
@[simp] theorem State.setGallery_wb (s : State) (g : Nat) (x : Gal) : (s.setGallery g x).wb = s.wb := rfl
@[simp] theorem State.setGallery_fab (s : State) (g : Nat) (x : Gal) : (s.setGallery g x).fab = s.fab := rfl
@[simp] theorem State.setGallery_lamp (s : State) (g : Nat) (x : Gal) : (s.setGallery g x).lamp = s.lamp := rfl
@[simp] theorem State.setGallery_dict (s : State) (g : Nat) (x : Gal) : (s.setGallery g x).dict = s.dict := rfl
@[simp] theorem State.setGallery_lop (s : State) (g : Nat) (x : Gal) : (s.setGallery g x).lop = s.lop := rfl
@[simp] theorem State.setGallery_fresh (s : State) (g : Nat) (x : Gal) : (s.setGallery g x).fresh = s.fresh := rfl
@[simp] theorem State.setGallery_bus (s : State) (g : Nat) (x : Gal) : (s.setGallery g x).bus = s.bus := rfl
@[simp] theorem State.setGallery_busEp (s : State) (g : Nat) (x : Gal) : (s.setGallery g x).busEp = s.busEp := rfl
@[simp] theorem State.setGallery_pending (s : State) (g : Nat) (x : Gal) : (s.setGallery g x).pending = s.pending := rfl
@[simp] theorem State.gallery_setGallery_self (s : State) (g : Nat) (x : Gal) : (s.setGallery g x).gallery g = x := Tbl.get_set_self _ _ _ _
theorem State.gallery_setGallery_ne (s : State) {g j : Nat} (x : Gal) (e : j ≠ g) : (s.setGallery g x).gallery j = s.gallery j := Tbl.get_set_ne _ _ _ e
@[simp] theorem State.ring_setGallery (s : State) (g : Nat) (x : Gal) (j : Nat) : (s.setGallery g x).ring j = s.ring j := rfl
@[simp] theorem State.chan_setGallery (s : State) (g : Nat) (x : Gal) (j : Nat) : (s.setGallery g x).chan j = s.chan j := rfl
@[simp] theorem State.unit_setGallery (s : State) (g : Nat) (x : Gal) (j : Nat) : (s.setGallery g x).unit j = s.unit j := rfl
@[simp] theorem State.ev_setGallery (s : State) (g : Nat) (x : Gal) (j : Nat) : (s.setGallery g x).ev j = s.ev j := rfl
@[simp] theorem State.group_setGallery (s : State) (g : Nat) (x : Gal) (j : Nat) : (s.setGallery g x).group j = s.group j := rfl
@[simp] theorem State.head_setGallery (s : State) (g : Nat) (x : Gal) (j : Nat) : (s.setGallery g x).head j = s.head j := rfl
@[simp] theorem State.link_setGallery (s : State) (g : Nat) (x : Gal) (j : Nat) : (s.setGallery g x).link j = s.link j := rfl
@[simp] theorem State.stream_setGallery (s : State) (g : Nat) (x : Gal) (j : Nat) : (s.setGallery g x).stream j = s.stream j := rfl
@[simp] theorem State.port_setGallery (s : State) (g : Nat) (x : Gal) (j : Nat) : (s.setGallery g x).port j = s.port j := rfl
@[simp] theorem State.win_setGallery (s : State) (g : Nat) (x : Gal) (j : Nat) : (s.setGallery g x).win j = s.win j := rfl
@[simp] theorem State.source?_setGallery (s : State) (g : Nat) (x : Gal) (j : Nat) : (s.setGallery g x).source? j = s.source? j := rfl

/-! ## State.setRegion -/

@[simp] theorem State.setRegion_sys (s : State) (h r : Nat) (x : RegSt) : (s.setRegion h r x).sys = s.sys := rfl
@[simp] theorem State.setRegion_boot (s : State) (h r : Nat) (x : RegSt) : (s.setRegion h r x).boot = s.boot := rfl
@[simp] theorem State.setRegion_health (s : State) (h r : Nat) (x : RegSt) : (s.setRegion h r x).health = s.health := rfl
@[simp] theorem State.setRegion_mem (s : State) (h r : Nat) (x : RegSt) : (s.setRegion h r x).mem = s.mem := rfl
@[simp] theorem State.setRegion_que (s : State) (h r : Nat) (x : RegSt) : (s.setRegion h r x).que = s.que := rfl
@[simp] theorem State.setRegion_siph (s : State) (h r : Nat) (x : RegSt) : (s.setRegion h r x).siph = s.siph := rfl
@[simp] theorem State.setRegion_blit (s : State) (h r : Nat) (x : RegSt) : (s.setRegion h r x).blit = s.blit := rfl
@[simp] theorem State.setRegion_evc (s : State) (h r : Nat) (x : RegSt) : (s.setRegion h r x).evc = s.evc := rfl
@[simp] theorem State.setRegion_src (s : State) (h r : Nat) (x : RegSt) : (s.setRegion h r x).src = s.src := rfl
@[simp] theorem State.setRegion_scn (s : State) (h r : Nat) (x : RegSt) : (s.setRegion h r x).scn = s.scn := rfl
@[simp] theorem State.setRegion_gal (s : State) (h r : Nat) (x : RegSt) : (s.setRegion h r x).gal = s.gal := rfl
@[simp] theorem State.setRegion_heads (s : State) (h r : Nat) (x : RegSt) : (s.setRegion h r x).heads = s.heads := rfl
@[simp] theorem State.setRegion_lant (s : State) (h r : Nat) (x : RegSt) : (s.setRegion h r x).lant = { s.lant with regs := Tbl.set s.lant.regs (regionKey h r) x } := rfl
@[simp] theorem State.setRegion_wb (s : State) (h r : Nat) (x : RegSt) : (s.setRegion h r x).wb = s.wb := rfl
@[simp] theorem State.setRegion_fab (s : State) (h r : Nat) (x : RegSt) : (s.setRegion h r x).fab = s.fab := rfl
@[simp] theorem State.setRegion_lamp (s : State) (h r : Nat) (x : RegSt) : (s.setRegion h r x).lamp = s.lamp := rfl
@[simp] theorem State.setRegion_dict (s : State) (h r : Nat) (x : RegSt) : (s.setRegion h r x).dict = s.dict := rfl
@[simp] theorem State.setRegion_lop (s : State) (h r : Nat) (x : RegSt) : (s.setRegion h r x).lop = s.lop := rfl
@[simp] theorem State.setRegion_fresh (s : State) (h r : Nat) (x : RegSt) : (s.setRegion h r x).fresh = s.fresh := rfl
@[simp] theorem State.setRegion_bus (s : State) (h r : Nat) (x : RegSt) : (s.setRegion h r x).bus = s.bus := rfl
@[simp] theorem State.setRegion_busEp (s : State) (h r : Nat) (x : RegSt) : (s.setRegion h r x).busEp = s.busEp := rfl
@[simp] theorem State.setRegion_pending (s : State) (h r : Nat) (x : RegSt) : (s.setRegion h r x).pending = s.pending := rfl
@[simp] theorem State.ring_setRegion (s : State) (h r : Nat) (x : RegSt) (j : Nat) : (s.setRegion h r x).ring j = s.ring j := rfl
@[simp] theorem State.chan_setRegion (s : State) (h r : Nat) (x : RegSt) (j : Nat) : (s.setRegion h r x).chan j = s.chan j := rfl
@[simp] theorem State.unit_setRegion (s : State) (h r : Nat) (x : RegSt) (j : Nat) : (s.setRegion h r x).unit j = s.unit j := rfl
@[simp] theorem State.ev_setRegion (s : State) (h r : Nat) (x : RegSt) (j : Nat) : (s.setRegion h r x).ev j = s.ev j := rfl
@[simp] theorem State.group_setRegion (s : State) (h r : Nat) (x : RegSt) (j : Nat) : (s.setRegion h r x).group j = s.group j := rfl
@[simp] theorem State.head_setRegion (s : State) (h r : Nat) (x : RegSt) (j : Nat) : (s.setRegion h r x).head j = s.head j := rfl
@[simp] theorem State.link_setRegion (s : State) (h r : Nat) (x : RegSt) (j : Nat) : (s.setRegion h r x).link j = s.link j := rfl
@[simp] theorem State.gallery_setRegion (s : State) (h r : Nat) (x : RegSt) (j : Nat) : (s.setRegion h r x).gallery j = s.gallery j := rfl
@[simp] theorem State.stream_setRegion (s : State) (h r : Nat) (x : RegSt) (j : Nat) : (s.setRegion h r x).stream j = s.stream j := rfl
@[simp] theorem State.port_setRegion (s : State) (h r : Nat) (x : RegSt) (j : Nat) : (s.setRegion h r x).port j = s.port j := rfl
@[simp] theorem State.win_setRegion (s : State) (h r : Nat) (x : RegSt) (j : Nat) : (s.setRegion h r x).win j = s.win j := rfl
@[simp] theorem State.source?_setRegion (s : State) (h r : Nat) (x : RegSt) (j : Nat) : (s.setRegion h r x).source? j = s.source? j := rfl

/-! ## State.setStream -/

@[simp] theorem State.setStream_sys (s : State) (w : Nat) (x : Wb) : (s.setStream w x).sys = s.sys := rfl
@[simp] theorem State.setStream_boot (s : State) (w : Nat) (x : Wb) : (s.setStream w x).boot = s.boot := rfl
@[simp] theorem State.setStream_health (s : State) (w : Nat) (x : Wb) : (s.setStream w x).health = s.health := rfl
@[simp] theorem State.setStream_mem (s : State) (w : Nat) (x : Wb) : (s.setStream w x).mem = s.mem := rfl
@[simp] theorem State.setStream_que (s : State) (w : Nat) (x : Wb) : (s.setStream w x).que = s.que := rfl
@[simp] theorem State.setStream_siph (s : State) (w : Nat) (x : Wb) : (s.setStream w x).siph = s.siph := rfl
@[simp] theorem State.setStream_blit (s : State) (w : Nat) (x : Wb) : (s.setStream w x).blit = s.blit := rfl
@[simp] theorem State.setStream_evc (s : State) (w : Nat) (x : Wb) : (s.setStream w x).evc = s.evc := rfl
@[simp] theorem State.setStream_src (s : State) (w : Nat) (x : Wb) : (s.setStream w x).src = s.src := rfl
@[simp] theorem State.setStream_scn (s : State) (w : Nat) (x : Wb) : (s.setStream w x).scn = s.scn := rfl
@[simp] theorem State.setStream_gal (s : State) (w : Nat) (x : Wb) : (s.setStream w x).gal = s.gal := rfl
@[simp] theorem State.setStream_heads (s : State) (w : Nat) (x : Wb) : (s.setStream w x).heads = s.heads := rfl
@[simp] theorem State.setStream_lant (s : State) (w : Nat) (x : Wb) : (s.setStream w x).lant = s.lant := rfl
@[simp] theorem State.setStream_wb (s : State) (w : Nat) (x : Wb) : (s.setStream w x).wb = Tbl.set s.wb w x := rfl
@[simp] theorem State.setStream_fab (s : State) (w : Nat) (x : Wb) : (s.setStream w x).fab = s.fab := rfl
@[simp] theorem State.setStream_lamp (s : State) (w : Nat) (x : Wb) : (s.setStream w x).lamp = s.lamp := rfl
@[simp] theorem State.setStream_dict (s : State) (w : Nat) (x : Wb) : (s.setStream w x).dict = s.dict := rfl
@[simp] theorem State.setStream_lop (s : State) (w : Nat) (x : Wb) : (s.setStream w x).lop = s.lop := rfl
@[simp] theorem State.setStream_fresh (s : State) (w : Nat) (x : Wb) : (s.setStream w x).fresh = s.fresh := rfl
@[simp] theorem State.setStream_bus (s : State) (w : Nat) (x : Wb) : (s.setStream w x).bus = s.bus := rfl
@[simp] theorem State.setStream_busEp (s : State) (w : Nat) (x : Wb) : (s.setStream w x).busEp = s.busEp := rfl
@[simp] theorem State.setStream_pending (s : State) (w : Nat) (x : Wb) : (s.setStream w x).pending = s.pending := rfl
@[simp] theorem State.stream_setStream_self (s : State) (w : Nat) (x : Wb) : (s.setStream w x).stream w = x := Tbl.get_set_self _ _ _ _
theorem State.stream_setStream_ne (s : State) {w j : Nat} (x : Wb) (e : j ≠ w) : (s.setStream w x).stream j = s.stream j := Tbl.get_set_ne _ _ _ e
@[simp] theorem State.ring_setStream (s : State) (w : Nat) (x : Wb) (j : Nat) : (s.setStream w x).ring j = s.ring j := rfl
@[simp] theorem State.chan_setStream (s : State) (w : Nat) (x : Wb) (j : Nat) : (s.setStream w x).chan j = s.chan j := rfl
@[simp] theorem State.unit_setStream (s : State) (w : Nat) (x : Wb) (j : Nat) : (s.setStream w x).unit j = s.unit j := rfl
@[simp] theorem State.ev_setStream (s : State) (w : Nat) (x : Wb) (j : Nat) : (s.setStream w x).ev j = s.ev j := rfl
@[simp] theorem State.group_setStream (s : State) (w : Nat) (x : Wb) (j : Nat) : (s.setStream w x).group j = s.group j := rfl
@[simp] theorem State.head_setStream (s : State) (w : Nat) (x : Wb) (j : Nat) : (s.setStream w x).head j = s.head j := rfl
@[simp] theorem State.link_setStream (s : State) (w : Nat) (x : Wb) (j : Nat) : (s.setStream w x).link j = s.link j := rfl
@[simp] theorem State.gallery_setStream (s : State) (w : Nat) (x : Wb) (j : Nat) : (s.setStream w x).gallery j = s.gallery j := rfl
@[simp] theorem State.port_setStream (s : State) (w : Nat) (x : Wb) (j : Nat) : (s.setStream w x).port j = s.port j := rfl
@[simp] theorem State.win_setStream (s : State) (w : Nat) (x : Wb) (j : Nat) : (s.setStream w x).win j = s.win j := rfl
@[simp] theorem State.source?_setStream (s : State) (w : Nat) (x : Wb) (j : Nat) : (s.setStream w x).source? j = s.source? j := rfl

/-! ## State.setPort -/

@[simp] theorem State.setPort_sys (s : State) (p : Nat) (x : Port) : (s.setPort p x).sys = s.sys := rfl
@[simp] theorem State.setPort_boot (s : State) (p : Nat) (x : Port) : (s.setPort p x).boot = s.boot := rfl
@[simp] theorem State.setPort_health (s : State) (p : Nat) (x : Port) : (s.setPort p x).health = s.health := rfl
@[simp] theorem State.setPort_mem (s : State) (p : Nat) (x : Port) : (s.setPort p x).mem = s.mem := rfl
@[simp] theorem State.setPort_que (s : State) (p : Nat) (x : Port) : (s.setPort p x).que = s.que := rfl
@[simp] theorem State.setPort_siph (s : State) (p : Nat) (x : Port) : (s.setPort p x).siph = s.siph := rfl
@[simp] theorem State.setPort_blit (s : State) (p : Nat) (x : Port) : (s.setPort p x).blit = s.blit := rfl
@[simp] theorem State.setPort_evc (s : State) (p : Nat) (x : Port) : (s.setPort p x).evc = s.evc := rfl
@[simp] theorem State.setPort_src (s : State) (p : Nat) (x : Port) : (s.setPort p x).src = s.src := rfl
@[simp] theorem State.setPort_scn (s : State) (p : Nat) (x : Port) : (s.setPort p x).scn = s.scn := rfl
@[simp] theorem State.setPort_gal (s : State) (p : Nat) (x : Port) : (s.setPort p x).gal = s.gal := rfl
@[simp] theorem State.setPort_heads (s : State) (p : Nat) (x : Port) : (s.setPort p x).heads = s.heads := rfl
@[simp] theorem State.setPort_lant (s : State) (p : Nat) (x : Port) : (s.setPort p x).lant = s.lant := rfl
@[simp] theorem State.setPort_wb (s : State) (p : Nat) (x : Port) : (s.setPort p x).wb = s.wb := rfl
@[simp] theorem State.setPort_fab (s : State) (p : Nat) (x : Port) : (s.setPort p x).fab = { s.fab with ports := Tbl.set s.fab.ports p x } := rfl
@[simp] theorem State.setPort_lamp (s : State) (p : Nat) (x : Port) : (s.setPort p x).lamp = s.lamp := rfl
@[simp] theorem State.setPort_dict (s : State) (p : Nat) (x : Port) : (s.setPort p x).dict = s.dict := rfl
@[simp] theorem State.setPort_lop (s : State) (p : Nat) (x : Port) : (s.setPort p x).lop = s.lop := rfl
@[simp] theorem State.setPort_fresh (s : State) (p : Nat) (x : Port) : (s.setPort p x).fresh = s.fresh := rfl
@[simp] theorem State.setPort_bus (s : State) (p : Nat) (x : Port) : (s.setPort p x).bus = s.bus := rfl
@[simp] theorem State.setPort_busEp (s : State) (p : Nat) (x : Port) : (s.setPort p x).busEp = s.busEp := rfl
@[simp] theorem State.setPort_pending (s : State) (p : Nat) (x : Port) : (s.setPort p x).pending = s.pending := rfl
@[simp] theorem State.port_setPort_self (s : State) (p : Nat) (x : Port) : (s.setPort p x).port p = x := Tbl.get_set_self _ _ _ _
theorem State.port_setPort_ne (s : State) {p j : Nat} (x : Port) (e : j ≠ p) : (s.setPort p x).port j = s.port j := Tbl.get_set_ne _ _ _ e
@[simp] theorem State.ring_setPort (s : State) (p : Nat) (x : Port) (j : Nat) : (s.setPort p x).ring j = s.ring j := rfl
@[simp] theorem State.chan_setPort (s : State) (p : Nat) (x : Port) (j : Nat) : (s.setPort p x).chan j = s.chan j := rfl
@[simp] theorem State.unit_setPort (s : State) (p : Nat) (x : Port) (j : Nat) : (s.setPort p x).unit j = s.unit j := rfl
@[simp] theorem State.ev_setPort (s : State) (p : Nat) (x : Port) (j : Nat) : (s.setPort p x).ev j = s.ev j := rfl
@[simp] theorem State.group_setPort (s : State) (p : Nat) (x : Port) (j : Nat) : (s.setPort p x).group j = s.group j := rfl
@[simp] theorem State.head_setPort (s : State) (p : Nat) (x : Port) (j : Nat) : (s.setPort p x).head j = s.head j := rfl
@[simp] theorem State.link_setPort (s : State) (p : Nat) (x : Port) (j : Nat) : (s.setPort p x).link j = s.link j := rfl
@[simp] theorem State.gallery_setPort (s : State) (p : Nat) (x : Port) (j : Nat) : (s.setPort p x).gallery j = s.gallery j := rfl
@[simp] theorem State.stream_setPort (s : State) (p : Nat) (x : Port) (j : Nat) : (s.setPort p x).stream j = s.stream j := rfl
@[simp] theorem State.win_setPort (s : State) (p : Nat) (x : Port) (j : Nat) : (s.setPort p x).win j = s.win j := rfl
@[simp] theorem State.source?_setPort (s : State) (p : Nat) (x : Port) (j : Nat) : (s.setPort p x).source? j = s.source? j := rfl

/-! ## State.setWin -/

@[simp] theorem State.setWin_sys (s : State) (n : Nat) (x : Win) : (s.setWin n x).sys = s.sys := rfl
@[simp] theorem State.setWin_boot (s : State) (n : Nat) (x : Win) : (s.setWin n x).boot = s.boot := rfl
@[simp] theorem State.setWin_health (s : State) (n : Nat) (x : Win) : (s.setWin n x).health = s.health := rfl
@[simp] theorem State.setWin_mem (s : State) (n : Nat) (x : Win) : (s.setWin n x).mem = { s.mem with wins := Tbl.set s.mem.wins n x } := rfl
@[simp] theorem State.setWin_que (s : State) (n : Nat) (x : Win) : (s.setWin n x).que = s.que := rfl
@[simp] theorem State.setWin_siph (s : State) (n : Nat) (x : Win) : (s.setWin n x).siph = s.siph := rfl
@[simp] theorem State.setWin_blit (s : State) (n : Nat) (x : Win) : (s.setWin n x).blit = s.blit := rfl
@[simp] theorem State.setWin_evc (s : State) (n : Nat) (x : Win) : (s.setWin n x).evc = s.evc := rfl
@[simp] theorem State.setWin_src (s : State) (n : Nat) (x : Win) : (s.setWin n x).src = s.src := rfl
@[simp] theorem State.setWin_scn (s : State) (n : Nat) (x : Win) : (s.setWin n x).scn = s.scn := rfl
@[simp] theorem State.setWin_gal (s : State) (n : Nat) (x : Win) : (s.setWin n x).gal = s.gal := rfl
@[simp] theorem State.setWin_heads (s : State) (n : Nat) (x : Win) : (s.setWin n x).heads = s.heads := rfl
@[simp] theorem State.setWin_lant (s : State) (n : Nat) (x : Win) : (s.setWin n x).lant = s.lant := rfl
@[simp] theorem State.setWin_wb (s : State) (n : Nat) (x : Win) : (s.setWin n x).wb = s.wb := rfl
@[simp] theorem State.setWin_fab (s : State) (n : Nat) (x : Win) : (s.setWin n x).fab = s.fab := rfl
@[simp] theorem State.setWin_lamp (s : State) (n : Nat) (x : Win) : (s.setWin n x).lamp = s.lamp := rfl
@[simp] theorem State.setWin_dict (s : State) (n : Nat) (x : Win) : (s.setWin n x).dict = s.dict := rfl
@[simp] theorem State.setWin_lop (s : State) (n : Nat) (x : Win) : (s.setWin n x).lop = s.lop := rfl
@[simp] theorem State.setWin_fresh (s : State) (n : Nat) (x : Win) : (s.setWin n x).fresh = s.fresh := rfl
@[simp] theorem State.setWin_bus (s : State) (n : Nat) (x : Win) : (s.setWin n x).bus = s.bus := rfl
@[simp] theorem State.setWin_busEp (s : State) (n : Nat) (x : Win) : (s.setWin n x).busEp = s.busEp := rfl
@[simp] theorem State.setWin_pending (s : State) (n : Nat) (x : Win) : (s.setWin n x).pending = s.pending := rfl
@[simp] theorem State.win_setWin_self (s : State) (n : Nat) (x : Win) : (s.setWin n x).win n = x := Tbl.get_set_self _ _ _ _
theorem State.win_setWin_ne (s : State) {n j : Nat} (x : Win) (e : j ≠ n) : (s.setWin n x).win j = s.win j := Tbl.get_set_ne _ _ _ e
@[simp] theorem State.ring_setWin (s : State) (n : Nat) (x : Win) (j : Nat) : (s.setWin n x).ring j = s.ring j := rfl
@[simp] theorem State.chan_setWin (s : State) (n : Nat) (x : Win) (j : Nat) : (s.setWin n x).chan j = s.chan j := rfl
@[simp] theorem State.unit_setWin (s : State) (n : Nat) (x : Win) (j : Nat) : (s.setWin n x).unit j = s.unit j := rfl
@[simp] theorem State.ev_setWin (s : State) (n : Nat) (x : Win) (j : Nat) : (s.setWin n x).ev j = s.ev j := rfl
@[simp] theorem State.group_setWin (s : State) (n : Nat) (x : Win) (j : Nat) : (s.setWin n x).group j = s.group j := rfl
@[simp] theorem State.head_setWin (s : State) (n : Nat) (x : Win) (j : Nat) : (s.setWin n x).head j = s.head j := rfl
@[simp] theorem State.link_setWin (s : State) (n : Nat) (x : Win) (j : Nat) : (s.setWin n x).link j = s.link j := rfl
@[simp] theorem State.gallery_setWin (s : State) (n : Nat) (x : Win) (j : Nat) : (s.setWin n x).gallery j = s.gallery j := rfl
@[simp] theorem State.stream_setWin (s : State) (n : Nat) (x : Win) (j : Nat) : (s.setWin n x).stream j = s.stream j := rfl
@[simp] theorem State.port_setWin (s : State) (n : Nat) (x : Win) (j : Nat) : (s.setWin n x).port j = s.port j := rfl
@[simp] theorem State.source?_setWin (s : State) (n : Nat) (x : Win) (j : Nat) : (s.setWin n x).source? j = s.source? j := rfl

/-! ## State.setSource -/

@[simp] theorem State.setSource_sys (s : State) (i : Nat) (x : Source) : (s.setSource i x).sys = s.sys := rfl
@[simp] theorem State.setSource_boot (s : State) (i : Nat) (x : Source) : (s.setSource i x).boot = s.boot := rfl
@[simp] theorem State.setSource_health (s : State) (i : Nat) (x : Source) : (s.setSource i x).health = s.health := rfl
@[simp] theorem State.setSource_mem (s : State) (i : Nat) (x : Source) : (s.setSource i x).mem = s.mem := rfl
@[simp] theorem State.setSource_que (s : State) (i : Nat) (x : Source) : (s.setSource i x).que = s.que := rfl
@[simp] theorem State.setSource_siph (s : State) (i : Nat) (x : Source) : (s.setSource i x).siph = s.siph := rfl
@[simp] theorem State.setSource_blit (s : State) (i : Nat) (x : Source) : (s.setSource i x).blit = s.blit := rfl
@[simp] theorem State.setSource_evc (s : State) (i : Nat) (x : Source) : (s.setSource i x).evc = s.evc := rfl
@[simp] theorem State.setSource_src (s : State) (i : Nat) (x : Source) : (s.setSource i x).src = { s.src with table := Tbl.set s.src.table i x } := rfl
@[simp] theorem State.setSource_scn (s : State) (i : Nat) (x : Source) : (s.setSource i x).scn = s.scn := rfl
@[simp] theorem State.setSource_gal (s : State) (i : Nat) (x : Source) : (s.setSource i x).gal = s.gal := rfl
@[simp] theorem State.setSource_heads (s : State) (i : Nat) (x : Source) : (s.setSource i x).heads = s.heads := rfl
@[simp] theorem State.setSource_lant (s : State) (i : Nat) (x : Source) : (s.setSource i x).lant = s.lant := rfl
@[simp] theorem State.setSource_wb (s : State) (i : Nat) (x : Source) : (s.setSource i x).wb = s.wb := rfl
@[simp] theorem State.setSource_fab (s : State) (i : Nat) (x : Source) : (s.setSource i x).fab = s.fab := rfl
@[simp] theorem State.setSource_lamp (s : State) (i : Nat) (x : Source) : (s.setSource i x).lamp = s.lamp := rfl
@[simp] theorem State.setSource_dict (s : State) (i : Nat) (x : Source) : (s.setSource i x).dict = s.dict := rfl
@[simp] theorem State.setSource_lop (s : State) (i : Nat) (x : Source) : (s.setSource i x).lop = s.lop := rfl
@[simp] theorem State.setSource_fresh (s : State) (i : Nat) (x : Source) : (s.setSource i x).fresh = s.fresh := rfl
@[simp] theorem State.setSource_bus (s : State) (i : Nat) (x : Source) : (s.setSource i x).bus = s.bus := rfl
@[simp] theorem State.setSource_busEp (s : State) (i : Nat) (x : Source) : (s.setSource i x).busEp = s.busEp := rfl
@[simp] theorem State.setSource_pending (s : State) (i : Nat) (x : Source) : (s.setSource i x).pending = s.pending := rfl
@[simp] theorem State.source?_setSource_self (s : State) (i : Nat) (x : Source) : (s.setSource i x).source? i = some x :=
  Tbl.find?_set_self _ _ _
theorem State.source?_setSource_ne (s : State) {i j : Nat} (x : Source) (e : j ≠ i) : (s.setSource i x).source? j = s.source? j :=
  Tbl.find?_set_ne _ _ e
@[simp] theorem State.ring_setSource (s : State) (i : Nat) (x : Source) (j : Nat) : (s.setSource i x).ring j = s.ring j := rfl
@[simp] theorem State.chan_setSource (s : State) (i : Nat) (x : Source) (j : Nat) : (s.setSource i x).chan j = s.chan j := rfl
@[simp] theorem State.unit_setSource (s : State) (i : Nat) (x : Source) (j : Nat) : (s.setSource i x).unit j = s.unit j := rfl
@[simp] theorem State.ev_setSource (s : State) (i : Nat) (x : Source) (j : Nat) : (s.setSource i x).ev j = s.ev j := rfl
@[simp] theorem State.group_setSource (s : State) (i : Nat) (x : Source) (j : Nat) : (s.setSource i x).group j = s.group j := rfl
@[simp] theorem State.head_setSource (s : State) (i : Nat) (x : Source) (j : Nat) : (s.setSource i x).head j = s.head j := rfl
@[simp] theorem State.link_setSource (s : State) (i : Nat) (x : Source) (j : Nat) : (s.setSource i x).link j = s.link j := rfl
@[simp] theorem State.gallery_setSource (s : State) (i : Nat) (x : Source) (j : Nat) : (s.setSource i x).gallery j = s.gallery j := rfl
@[simp] theorem State.stream_setSource (s : State) (i : Nat) (x : Source) (j : Nat) : (s.setSource i x).stream j = s.stream j := rfl
@[simp] theorem State.port_setSource (s : State) (i : Nat) (x : Source) (j : Nat) : (s.setSource i x).port j = s.port j := rfl
@[simp] theorem State.win_setSource (s : State) (i : Nat) (x : Source) (j : Nat) : (s.setSource i x).win j = s.win j := rfl

end Sys2Proof.Machine
end

