-- ==== Sys2Proof/Laws/EventPath.lean ====
section
/-!
SUPPORT. The event path: what an occurrence, a level and a raised event leave of the event block.
-/

set_option linter.all false
set_option Elab.async false

namespace Sys2Proof.Machine

@[simp] theorem State.ev_modEv_self (s : State) (i : Nat) (f : EvSrc → EvSrc) : (s.modEv i f).ev i = f (s.ev i) := by simp [State.modEv]

theorem State.ev_modEv_ne (s : State) {i j : Nat} (f : EvSrc → EvSrc) (h : j ≠ i) : (s.modEv i f).ev j = s.ev j := State.ev_setEv_ne s _ h

theorem State.ev_of_srcs {s t : State} (h : t.evc.srcs = s.evc.srcs) (j : Nat) : t.ev j = s.ev j := by unfold State.ev; rw [h]

/-- What the event path leaves of the event block. -/
def State.evRest (s t : State) : Prop := t.evc.pf0 = s.evc.pf0 ∧ t.evc.pf1 = s.evc.pf1 ∧ t.evc.log = s.evc.log ∧ t.evc.logN = s.evc.logN
  ∧ t.evc.freshLog = s.evc.freshLog ∧ t.evc.freshIdx = s.evc.freshIdx

theorem State.evRest_refl (s : State) : s.evRest s := ⟨rfl, rfl, rfl, rfl, rfl, rfl⟩

theorem State.evRest_trans {s t u : State} (h : s.evRest t) (k : t.evRest u) : s.evRest u :=
  ⟨k.1.trans h.1, k.2.1.trans h.2.1, k.2.2.1.trans h.2.2.1, k.2.2.2.1.trans h.2.2.2.1, k.2.2.2.2.1.trans h.2.2.2.2.1, k.2.2.2.2.2.trans h.2.2.2.2.2⟩

@[simp] theorem State.ev_reorder (s : State) (j : Nat) : s.reorder.ev j = s.ev j := rfl

theorem State.evRest_reorder (s : State) : s.evRest s.reorder := ⟨rfl, rfl, rfl, rfl, rfl, rfl⟩

theorem State.evRest_modEv (s : State) (i : Nat) (f : EvSrc → EvSrc) : s.evRest (s.modEv i f) := ⟨rfl, rfl, rfl, rfl, rfl, rfl⟩

theorem State.countGroup_frame (s : State) (g : Nat) : s.evRest (s.countGroup g) ∧ (s.countGroup g).evc.srcs = s.evc.srcs := by
  unfold State.countGroup; extract_lets x y; split <;> exact ⟨⟨rfl, rfl, rfl, rfl, rfl, rfl⟩, rfl⟩

theorem State.wbWatchNew_evc (s old : State) (i : Nat) : (s.wbWatchNew old [i]).evc = s.evc := by
  unfold State.wbWatchNew State.forEach; simp only [List.foldl]; split <;> rfl

/-- What an occurrence does to the sources: its own becomes pending, the others stay. -/
theorem State.occur_frame (s : State) (i : Nat) : s.evRest (s.occur i) ∧
    (s.occur i).ev i = { s.ev i with pending := if (s.evEff i).level && (s.evEff i).active then (s.ev i).pending else true } ∧
    ∀ j, j ≠ i → (s.occur i).ev j = s.ev j := by
  unfold State.occur
  extract_lets e old s1 s2
  have h2 : s2.evc = s1.evc := State.wbWatchNew_evc s1 old i
  have r2 : s1.evRest s2 := by unfold State.evRest; rw [h2]; exact State.evRest_refl s1
  have r1 : s.evRest s1 := State.evRest_modEv s i _
  have k : ∀ t : State, s2.evRest (if (e.enabled && e.grouped) = true then s2.countGroup e.group else s2) ∧
      (if (e.enabled && e.grouped) = true then s2.countGroup e.group else s2).evc.srcs = s2.evc.srcs := by
    intro _; split
    · exact State.countGroup_frame s2 _
    · exact ⟨State.evRest_refl s2, rfl⟩
  have k := k s
  refine ⟨State.evRest_trans (State.evRest_trans (State.evRest_trans r1 r2) k.1) (State.evRest_reorder _), ?_, ?_⟩
  · rw [State.ev_reorder, State.ev_of_srcs k.2, State.ev_of_srcs (s := s1) (by rw [h2])]
    exact State.ev_modEv_self s i _
  · intro j hj
    rw [State.ev_reorder, State.ev_of_srcs k.2, State.ev_of_srcs (s := s1) (by rw [h2])]
    exact State.ev_modEv_ne s _ hj

theorem State.levelTo_frame (s : State) (i : Nat) (b : Bool) : s.evRest (s.levelTo i b) ∧ ((s.levelTo i b).ev i).raw = b ∧
    ∀ j, j ≠ i → (s.levelTo i b).ev j = s.ev j := by
  unfold State.levelTo
  split
  · exact ⟨State.evRest_refl s, by simp_all, fun _ _ => rfl⟩
  · split
    · rename_i hb
      have k := State.occur_frame (s.modEv i (fun x => { x with raw := true, coreClr := false })) i
      refine ⟨State.evRest_trans (State.evRest_modEv s i _) k.1, ?_, ?_⟩
      · rw [k.2.1]; simp [hb]
      · intro j hj; rw [k.2.2 j hj, State.ev_modEv_ne _ _ hj]
    · rename_i hb
      refine ⟨State.evRest_trans (State.evRest_modEv s i _) (State.evRest_reorder _), ?_, ?_⟩
      · rw [State.ev_reorder, State.ev_modEv_self]; unfold EvSrc.follow; split <;> simp [hb]
      · intro j hj; rw [State.ev_reorder, State.ev_modEv_ne _ _ hj]

theorem State.raiseNum_frame (s : State) (i : Nat) : s.evRest (s.raiseNum i) ∧ ∀ j, j ≠ i → (s.raiseNum i).ev j = s.ev j := by
  unfold State.raiseNum
  split
  · exact ⟨State.evRest_refl s, fun _ _ => rfl⟩
  · split
    · exact ⟨(State.occur_frame s i).1, (State.occur_frame s i).2.2⟩
    · exact ⟨⟨rfl, rfl, rfl, rfl, rfl, rfl⟩, fun _ _ => rfl⟩

theorem State.queueLevels_evRest (s : State) : s.evRest s.queueLevels := by
  unfold State.queueLevels State.level
  exact State.evRest_trans (State.levelTo_frame s _ _).1 (State.levelTo_frame _ _ _).1

/-- A pulse event that is raised after FWREADY sets its source pending, unless the source is LEVEL and claimed. -/
theorem State.raiseNum_pending {s : State} {i : Nat} (h : evReserved i = false) (hf : s.sys.fwReady = true) (hl : ((s.evEff i).level && (s.evEff i).active) = false) :
    ((s.raiseNum i).ev i).pending = true := by
  unfold State.raiseNum
  rw [h, hf]
  simp only [Bool.false_eq_true, ↓reduceIte]
  rw [(State.occur_frame s i).2.1, hl]; rfl

end Sys2Proof.Machine
end

