-- ==== Sys2Proof/Laws/Mod.lean ====
section
/-!
SUPPORT. Changing one item of a table of the state: the item afterwards, and the others.
-/

set_option linter.all false
set_option Elab.async false

namespace Sys2Proof.Machine

@[simp] theorem State.chan_modChan_self (s : State) (c : Nat) (f : Chan → Chan) : (s.modChan c f).chan c = f (s.chan c) :=
  State.chan_setChan_self s c _

theorem State.chan_modChan_ne (s : State) {c j : Nat} (f : Chan → Chan) (e : j ≠ c) : (s.modChan c f).chan j = s.chan j :=
  State.chan_setChan_ne s _ e

theorem State.chan_of_siph {s t : State} (e : t.siph = s.siph) (j : Nat) : t.chan j = s.chan j := by
  unfold State.chan; rw [e]

@[simp] theorem State.unit_modUnit_self (s : State) (u : Nat) (f : Unit2D → Unit2D) : (s.modUnit u f).unit u = f (s.unit u) :=
  State.unit_setUnit_self s u _

theorem State.unit_modUnit_ne (s : State) {u j : Nat} (f : Unit2D → Unit2D) (e : j ≠ u) : (s.modUnit u f).unit j = s.unit j :=
  State.unit_setUnit_ne s _ e

theorem State.unit_of_blit {s t : State} (e : t.blit = s.blit) (j : Nat) : t.unit j = s.unit j := by
  unfold State.unit; rw [e]

@[simp] theorem State.group_modGroup_self (s : State) (g : Nat) (f : EvGroup → EvGroup) : (s.modGroup g f).group g = f (s.group g) :=
  State.group_setGroup_self s g _

theorem State.group_modGroup_ne (s : State) {g j : Nat} (f : EvGroup → EvGroup) (e : j ≠ g) : (s.modGroup g f).group j = s.group j :=
  State.group_setGroup_ne s _ e

theorem State.group_of_evc {s t : State} (e : t.evc = s.evc) (j : Nat) : t.group j = s.group j := by
  unfold State.group; rw [e]

@[simp] theorem State.head_modHead_self (s : State) (h : Nat) (f : Head → Head) : (s.modHead h f).head h = f (s.head h) :=
  State.head_setHead_self s h _

theorem State.head_modHead_ne (s : State) {h j : Nat} (f : Head → Head) (e : j ≠ h) : (s.modHead h f).head j = s.head j :=
  State.head_setHead_ne s _ e

theorem State.head_of_heads {s t : State} (e : t.heads = s.heads) (j : Nat) : t.head j = s.head j := by
  unfold State.head; rw [e]

@[simp] theorem State.link_modLink_self (s : State) (h : Nat) (f : DpLink → DpLink) : (s.modLink h f).link h = f (s.link h) :=
  State.link_setLink_self s h _

theorem State.link_modLink_ne (s : State) {h j : Nat} (f : DpLink → DpLink) (e : j ≠ h) : (s.modLink h f).link j = s.link j :=
  State.link_setLink_ne s _ e

theorem State.link_of_heads {s t : State} (e : t.heads = s.heads) (j : Nat) : t.link j = s.link j := by
  unfold State.link; rw [e]

@[simp] theorem State.gallery_modGallery_self (s : State) (g : Nat) (f : Gal → Gal) : (s.modGallery g f).gallery g = f (s.gallery g) :=
  State.gallery_setGallery_self s g _

theorem State.gallery_modGallery_ne (s : State) {g j : Nat} (f : Gal → Gal) (e : j ≠ g) : (s.modGallery g f).gallery j = s.gallery j :=
  State.gallery_setGallery_ne s _ e

theorem State.gallery_of_gal {s t : State} (e : t.gal = s.gal) (j : Nat) : t.gallery j = s.gallery j := by
  unfold State.gallery; rw [e]

@[simp] theorem State.stream_modStream_self (s : State) (w : Nat) (f : Wb → Wb) : (s.modStream w f).stream w = f (s.stream w) :=
  State.stream_setStream_self s w _

theorem State.stream_modStream_ne (s : State) {w j : Nat} (f : Wb → Wb) (e : j ≠ w) : (s.modStream w f).stream j = s.stream j :=
  State.stream_setStream_ne s _ e

theorem State.stream_of_wb {s t : State} (e : t.wb = s.wb) (j : Nat) : t.stream j = s.stream j := by
  unfold State.stream; rw [e]

@[simp] theorem State.port_modPort_self (s : State) (p : Nat) (f : Port → Port) : (s.modPort p f).port p = f (s.port p) :=
  State.port_setPort_self s p _

theorem State.port_modPort_ne (s : State) {p j : Nat} (f : Port → Port) (e : j ≠ p) : (s.modPort p f).port j = s.port j :=
  State.port_setPort_ne s _ e

theorem State.port_of_fab {s t : State} (e : t.fab = s.fab) (j : Nat) : t.port j = s.port j := by
  unfold State.port; rw [e]

theorem State.source?_of_src {s t : State} (e : t.src = s.src) (j : Nat) : t.source? j = s.source? j := by
  unfold State.source?; rw [e]

theorem State.cfg_of_dict {s t : State} (e : t.dict = s.dict) (i j : Nat) : t.cfg i j = s.cfg i j := by
  unfold State.cfg State.cfgBytes; rw [e]

theorem State.hcfg_of_dict {s t : State} (e : t.dict = s.dict) (h g i : Nat) : t.hcfg h g i = s.hcfg h g i := by
  unfold State.hcfg; exact State.cfg_of_dict e _ _

theorem State.hcfgBool_of_dict {s t : State} (e : t.dict = s.dict) (h g i : Nat) : t.hcfgBool h g i = s.hcfgBool h g i := by
  unfold State.hcfgBool; rw [State.hcfg_of_dict e]

end Sys2Proof.Machine
end

