-- ==== Sys2Proof/Laws/Rings.lean ====
section
/-!
SUPPORT. Rings, entries and windows: what the shared operations of the queue engine leave of the other rings, of memory and of the windows,
and what a retiring record does.
-/

set_option linter.all false
set_option Elab.async false

namespace Sys2Proof.Machine

@[simp] theorem State.ring_modRing_self (s : State) (q : Nat) (f : Ring → Ring) : (s.modRing q f).ring q = f (s.ring q) := by
  simp [State.modRing]

theorem State.ring_modRing_ne (s : State) {q j : Nat} (f : Ring → Ring) (h : j ≠ q) : (s.modRing q f).ring j = s.ring j :=
  State.ring_setRing_ne s _ h

theorem State.modRing_frame (s : State) (q : Nat) (f : Ring → Ring) : s.modRing q f = { s with que := (s.modRing q f).que } := rfl

theorem State.otherRings_modRing (s : State) (q : Nat) (f : Ring → Ring) : s.otherRings (s.modRing q f) q :=
  fun _ h => State.ring_modRing_ne s f h

theorem State.otherRings_trans {s t u : State} {q : Nat} (h : s.otherRings t q) (k : t.otherRings u q) : s.otherRings u q :=
  fun j e => (k j e).trans (h j e)

theorem State.otherRings_of_que {s t : State} {q : Nat} (h : t.que = s.que) : s.otherRings t q := fun j _ => by
  unfold State.ring; rw [h]

theorem State.ring_of_que {s t : State} (h : t.que = s.que) (j : Nat) : t.ring j = s.ring j := by
  unfold State.ring; rw [h]

theorem State.hasFinished_finishAt {s : State} {q : Nat} {e : Exec} {st : Status} {r : Nat} (h : e ∈ (s.ring q).inflight) :
    (s.finishAt q e.pos st r).hasFinished q e.pos st r = true := by
  unfold State.hasFinished State.finishAt Ring.setExec
  simp only [State.ring_modRing_self, List.any_eq_true, List.mem_map]
  exact ⟨_, ⟨e, h, if_pos rfl⟩, by simp⟩

theorem State.isRunning_keepRunning {s : State} {q : Nat} {e : Exec} {aux : List Nat} (h : e ∈ (s.ring q).inflight) :
    (s.keepRunning q e.pos aux).isRunning q e.pos aux = true := by
  unfold State.isRunning State.keepRunning Ring.setExec
  simp only [State.ring_modRing_self, List.any_eq_true, List.mem_map]
  exact ⟨_, ⟨e, h, if_pos rfl⟩, by simp⟩

theorem State.hasFinished_of_que {s t : State} (h : t.que = s.que) (q pos : Nat) (st : Status) (r : Nat) :
    t.hasFinished q pos st r = s.hasFinished q pos st r := by
  unfold State.hasFinished; rw [State.ring_of_que h]

theorem State.isRunning_of_que {s t : State} (h : t.que = s.que) (q pos : Nat) (aux : List Nat) :
    t.isRunning q pos aux = s.isRunning q pos aux := by
  unfold State.isRunning; rw [State.ring_of_que h]

theorem State.running_mem {s : State} {q op : Nat} {e : Exec} (h : s.running? q op = some e) : e ∈ (s.ring q).inflight := by
  unfold State.running? at h
  split at h
  · split at h
    · cases h; exact List.mem_of_find?_eq_some (by assumption)
    · cases h
  · cases h

@[simp] theorem State.ring_queueLevels (s : State) (j : Nat) : s.queueLevels.ring j = s.ring j :=
  State.ring_of_que (State.queueLevels_kept (Kept.refl s)).que_eq j

@[simp] theorem State.ring_settleRing_self (s : State) (q : Nat) : (s.settleRing q).ring q = (s.ring q).settle := by
  simp [State.settleRing]

theorem State.otherRings_settleRing (s : State) (q : Nat) : s.otherRings (s.settleRing q) q := fun j h => by
  simp [State.settleRing, State.ring_modRing_ne s _ h]

@[simp] theorem State.mem_settleRing (s : State) (q : Nat) : (s.settleRing q).mem = s.mem := (State.settleRing_kept (Kept.refl s)).mem_eq

@[simp] theorem State.mem_queueLevels (s : State) : s.queueLevels.mem = s.mem := (State.queueLevels_kept (Kept.refl s)).mem_eq

@[simp] theorem State.mem_modRing (s : State) (q : Nat) (f : Ring → Ring) : (s.modRing q f).mem = s.mem := rfl

@[simp] theorem State.ring_fixParity (s : State) (o j : Nat) : (s.fixParity o).ring j = s.ring j := rfl

@[simp] theorem State.mem_fixParity (s : State) (o : Nat) : (s.fixParity o).mem = s.mem := rfl

@[simp] theorem State.ring_countBounds (s : State) (j : Nat) : s.countBounds.ring j = s.ring j := rfl

theorem next_eq {a b : State} (h : a = b) : (Host.Outcome.next a : Host.Outcome State Fault Refusal) = .next b := by rw [h]

theorem Ring.settle_fields (r : Ring) : r.settle.enable = r.enable ∧ r.settle.force = r.force ∧ r.settle.cfg = r.cfg ∧ r.settle.head = r.head
    ∧ r.settle.prodIdx = r.prodIdx ∧ r.settle.prodWrap = r.prodWrap ∧ r.settle.consIdx = r.consIdx ∧ r.settle.consWrap = r.consWrap
    ∧ r.settle.stop = r.stop ∧ r.settle.inflight = r.inflight ∧ r.settle.sump = r.sump ∧ r.settle.retiredN = r.retiredN ∧ r.settle.haltCode = r.haltCode ∧ r.settle.haltPos = r.haltPos := by
  unfold Ring.settle; repeat' split
  all_goals exact ⟨rfl, rfl, rfl, rfl, rfl, rfl, rfl, rfl, rfl, rfl, rfl, rfl, rfl, rfl⟩

/-- A ring with nothing in hand that runs. -/
theorem Ring.settle_quiet {r : Ring} (h1 : r.state ≠ .halted) (h2 : r.enable = true) (h3 : r.sump = []) (h4 : r.cqFull = false) (h5 : r.inflight = []) :
    r.settle.state = if r.stop then .stopped else if r.state = .idle ∧ r.dbPending = false then .idle else .running := by
  unfold Ring.settle
  rw [if_neg (by simp [h1]), if_neg (by simp [h2]), if_neg (by simp [h5]), if_neg (by simp [h3, h4])]
  cases hs : r.stop
  · rw [if_neg (by simp)]
    by_cases k : r.state = .idle
    · cases hd : r.dbPending <;> simp [k]
    · rw [if_neg (by simp [k])]; simp [k]
  · rw [if_pos (by simp [h5])]; simp

theorem State.fixParity_of_nil {s : State} (h : s.sys.parityBad = []) (o : Nat) : s.fixParity o = s := by
  unfold State.fixParity
  rw [h]
  show { s with sys := { s.sys with parityBad := [] } } = s
  rw [← h]

theorem State.ring_settleRing_ne (s : State) {q j : Nat} (h : j ≠ q) : (s.settleRing q).ring j = s.ring j :=
  State.otherRings_settleRing s q j h

theorem State.refusedChannel_modRing (s : State) (q : Nat) (f : Ring → Ring) (j : Nat) : (s.modRing q f).refusedChannel j = s.refusedChannel j := rfl

theorem Ring.settle_go {r : Ring} (h1 : r.state ≠ .halted) (h2 : r.enable = true) (h3 : r.sump = []) (h4 : r.cqFull = false) (h5 : r.stop = false)
    (h6 : r.dbPending = true) : r.settle.state = .running ∧ r.settle.dbPending = true ∧ r.settle.inline = r.inline := by
  unfold Ring.settle
  rw [if_neg (by simp [h1]), if_neg (by simp [h2]), if_neg (by simp [h3, Ring.sumpCount]), if_neg (by simp [h3, h4]), if_neg (by simp [h5]), if_neg (by simp [h6])]
  exact ⟨rfl, h6, rfl⟩

theorem State.drainSump_nil {s : State} {q : Nat} (h : (s.ring q).sump = []) (n : Nat) : s.drainSump q n = s := by
  cases n with
  | zero => rfl
  | succ n => unfold State.drainSump; simp [h]

theorem State.coverEnd_congr {s t : State} (hw : t.mem.wins = s.mem.wins) (hp : t.sys.parityBad = s.sys.parityBad) (c : Cls) (wr host : Bool) (a : Nat) :
    t.coverEnd c wr host a = s.coverEnd c wr host a := by
  unfold State.coverEnd State.winGrants; rw [hw, hp]

theorem State.covered_congr {s t : State} (hw : t.mem.wins = s.mem.wins) (hp : t.sys.parityBad = s.sys.parityBad) (c : Cls) (wr host : Bool) (a hi n : Nat) :
    t.covered c wr host a hi n = s.covered c wr host a hi n := by
  induction n generalizing a with
  | zero => rfl
  | succ n ih => unfold State.covered; rw [State.coverEnd_congr hw hp]; simp only [ih]

theorem State.granted_congr {s t : State} (hw : t.mem.wins = s.mem.wins) (hp : t.sys.parityBad = s.sys.parityBad) (c : Cls) (wr : Bool) (a n : Nat) :
    t.granted c wr a n = s.granted c wr a n := by
  unfold State.granted; simp only [State.covered_congr hw hp, hw]

theorem State.enableCheck_congr {s t : State} (hw : t.mem.wins = s.mem.wins) (hp : t.sys.parityBad = s.sys.parityBad) (c : RingCfg) :
    t.enableCheck c = s.enableCheck c := by
  unfold State.enableCheck; simp only [State.granted_congr hw hp]

theorem State.startChannel_frame (s : State) (q : Nat) : (s.startChannel q).que = s.que ∧ (s.startChannel q).mem = s.mem := by
  unfold State.startChannel; split <;> exact ⟨rfl, rfl⟩

@[simp] theorem State.enableCheck_modRing (s : State) (q : Nat) (f : Ring → Ring) (c : RingCfg) : (s.modRing q f).enableCheck c = s.enableCheck c :=
  State.enableCheck_congr (s := s) (t := s.modRing q f) rfl rfl c

@[simp] theorem State.granted_modRing (s : State) (q : Nat) (f : Ring → Ring) (c : Cls) (w : Bool) (a n : Nat) : (s.modRing q f).granted c w a n = s.granted c w a n :=
  State.granted_congr (s := s) (t := s.modRing q f) rfl rfl c w a n

@[simp] theorem State.ring_busWrite (s : State) (a : Nat) (l : List Byte) (j : Nat) : (s.busWrite a l).ring j = s.ring j :=
  State.ring_of_que (State.busWrite_kept (Kept.refl s)).que_eq j

@[simp] theorem State.granted_busWrite (s : State) (a : Nat) (l : List Byte) (c : Cls) (w : Bool) (b n : Nat) :
    (s.busWrite a l).granted c w b n = s.granted c w b n :=
  State.granted_congr (State.busWrite_kept (Kept.refl s)).wins_eq (by rw [(State.busWrite_kept (Kept.refl s)).sys_eq]) c w b n

@[simp] theorem State.ring_raiseNum (s : State) (i j : Nat) : (s.raiseNum i).ring j = s.ring j :=
  State.ring_of_que (State.raiseNum_kept (Kept.refl s)).que_eq j

@[simp] theorem State.mem_raiseNum (s : State) (i : Nat) : (s.raiseNum i).mem = s.mem := (State.raiseNum_kept (Kept.refl s)).mem_eq

theorem State.busWrite_mem_congr {s t : State} (hm : t.mem = s.mem) (hh : t.health = s.health) (a : Nat) (l : List Byte) :
    (t.busWrite a l).mem = (s.busWrite a l).mem := by
  unfold State.busWrite State.hostWrite State.devWrite
  rw [hm, hh]
  split
  · rfl
  · split <;> (try rfl)
    exact hm

/-- A record retires: header and record are written, the producer index advances and RETIRED counts. -/
theorem State.retireRecord_ok {s : State} {q : Nat} {x : Record} {sumped : Bool} (hx : x.noRec = false)
    (h1 : x.hdrDone = true ∨ s.granted (fnCls (s.ring q).force.owner) true ((s.ring q).force.sqBase + 16 * x.pos) 4 = true)
    (h2 : s.granted (fnCls (s.ring q).force.owner) true ((s.ring q).force.cqBase + 16 * (s.ring q).prodIdx) 16 = true) :
    ∃ t, s.retireRecord q x sumped .ok = (t, true) ∧
      t.ring q = { s.ring q with
        prodIdx := if (s.ring q).prodIdx + 1 = (s.ring q).cqSize then 0 else (s.ring q).prodIdx + 1,
        prodWrap := if (s.ring q).prodIdx + 1 = (s.ring q).cqSize then !(s.ring q).prodWrap else (s.ring q).prodWrap,
        retiredN := wrapInc 32 (s.ring q).retiredN } ∧
      t.mem = ((if x.hdrDone then s else s.busWrite ((s.ring q).force.sqBase + 16 * x.pos) (leBytes 4 (withBit x.hdr 31 false))).busWrite
        ((s.ring q).force.cqBase + 16 * (s.ring q).prodIdx) (x.bytes (!(s.ring q).prodWrap) sumped)).mem ∧ s.otherRings t q := by
  have kh : (if x.hdrDone then (s, none) else s.writeHeader q x (RetireWrites.ok == .headerFails))
      = ((if x.hdrDone then s else s.busWrite ((s.ring q).force.sqBase + 16 * x.pos) (leBytes 4 (withBit x.hdr 31 false))), none) := by
    by_cases k : x.hdrDone = true
    · simp [k]
    · have g := h1.resolve_left k
      simp only [k, Bool.false_eq_true, ↓reduceIte]
      unfold State.writeHeader
      simp [g]
  generalize hs : (if x.hdrDone then s else s.busWrite ((s.ring q).force.sqBase + 16 * x.pos) (leBytes 4 (withBit x.hdr 31 false))) = s1 at kh
  have r1 : ∀ j, s1.ring j = s.ring j := by intro j; rw [← hs]; split <;> simp
  have g1 : s1.granted (fnCls (s1.ring q).force.owner) true ((s1.ring q).force.cqBase + 16 * (s1.ring q).prodIdx) 16 = true := by
    rw [r1]; rw [← hs]; split <;> simpa using h2
  unfold State.retireRecord
  simp only [kh]
  have kw : s1.writeRecord q { x with hdrDone := true } sumped (RetireWrites.ok == .recordFails)
      = ((s1.busWrite ((s.ring q).force.cqBase + 16 * (s.ring q).prodIdx) (x.bytes (!(s.ring q).prodWrap) sumped)).modRing q
          (fun r => { r with prodIdx := if ((s.ring q).prodIdx + 1 == (s.ring q).cqSize) = true then 0 else r.prodIdx + 1,
                             prodWrap := if ((s.ring q).prodIdx + 1 == (s.ring q).cqSize) = true then !r.prodWrap else r.prodWrap }), none) := by
    unfold State.writeRecord
    rw [r1] at g1
    simp only [hx, Bool.false_eq_true, ↓reduceIte, g1, Bool.not_true, r1]
    rfl
  simp only [kw]
  have kb : ∀ t : State, (if (t.ring q).force.cls = ringBlit ∧ 0x50 ≤ field x.hdr 7 0 then
      { t with blit := { t.blit with commands := wrapInc 64 t.blit.commands } } else t).que = t.que ∧
      (if (t.ring q).force.cls = ringBlit ∧ 0x50 ≤ field x.hdr 7 0 then
      { t with blit := { t.blit with commands := wrapInc 64 t.blit.commands } } else t).mem = t.mem := by
    intro t; split <;> exact ⟨rfl, rfl⟩
  have kn : ∀ (t : State) (c : Bool), (if c = true then t.raiseNum q else t).que = t.que ∧ (if c = true then t.raiseNum q else t).mem = t.mem := by
    intro t c; split
    · exact ⟨(State.raiseNum_kept (Kept.refl t)).que_eq, State.mem_raiseNum t q⟩
    · exact ⟨rfl, rfl⟩
  refine ⟨_, rfl, ?_, ?_, ?_⟩
  · rw [State.ring_of_que (kn _ _).1, State.ring_of_que (kb _).1]
    simp [r1]
  · rw [(kn _ _).2, (kb _).2]
    rfl
  · intro j hj
    rw [State.ring_of_que (kn _ _).1, State.ring_of_que (kb _).1]
    simp [State.ring_modRing_ne _ _ hj, r1]

end Sys2Proof.Machine
end

