-- ==== Sys2Proof/Laws/HeadClock.lean ====
section
/-!
SUPPORT. The scan of a head: what composing bands, the link, steering and the outputs of a line 0 leave of a head's frame, state
and scenes.
-/

set_option linter.all false
set_option Elab.async false

namespace Sys2Proof.Machine

theorem State.timeHead_of_dict {s t : State} (e : t.dict = s.dict) (h : Nat) : t.timeHead h = s.timeHead h := by
  unfold State.timeHead; simp only [State.hcfgBool_of_dict e]

theorem State.tcfg_of_dict {s t : State} (e : t.dict = s.dict) (h i : Nat) : t.tcfg h i = s.tcfg h i := by
  unfold State.tcfg; simp only [State.timeHead_of_dict e, State.hcfg_of_dict e]

theorem State.timingOf_of_dict {s t : State} (e : t.dict = s.dict) (h : Nat) : t.timingOf h = s.timingOf h := by
  unfold State.timingOf; simp only [State.timeHead_of_dict e, State.tcfg_of_dict e, State.hcfg_of_dict e, State.hcfgBool_of_dict e]

theorem State.streamFits_of_dict {s t : State} (e : t.dict = s.dict) (h a b : Nat) : t.streamFits h a b = s.streamFits h a b := by
  unfold State.streamFits; simp only [State.timeHead_of_dict e, State.timingOf_of_dict e, State.hcfg_of_dict e]

theorem State.linkConfigs_of_dict {s t : State} (e : t.dict = s.dict) (h : Nat) (c : SinkCaps) : t.linkConfigs h c = s.linkConfigs h c := by
  unfold State.linkConfigs; simp only [State.streamFits_of_dict e, State.hcfg_of_dict e, State.hcfgBool_of_dict e]

theorem State.bondedOdd_of_dict {s t : State} (e : t.dict = s.dict) (h : Nat) : t.bondedOdd h = s.bondedOdd h := by
  unfold State.bondedOdd; rw [State.timeHead_of_dict e]

/-- What a head's bands, its link and its lock leave alone. -/
structure Clock where
  state : HState
  next : Option HState
  calls : Bool × Bool × Bool × Bool
  starting : Bool
  frame : Nat
  counted : Bool
  f : Nat
  latched : Bool
  nextBand : Nat
  nextDrain : Nat
  cur : Option Scene
  curEpoch : Nat
  pend : Option Scene
  pendEpoch : Nat
  timing : Timing

def Head.clock (x : Head) : Clock :=
  { state := x.state, next := x.next, calls := (x.wantSafe, x.wantHalt, x.resume, x.restart), starting := x.starting,
    frame := x.frame, counted := x.counted, f := x.f, latched := x.latched, nextBand := x.nextBand, nextDrain := x.nextDrain,
    cur := x.cur, curEpoch := x.curEpoch, pend := x.pend, pendEpoch := x.pendEpoch, timing := x.timing }

/-- Every head keeps its clock. -/
def State.clocks (s t : State) : Prop := ∀ j, (t.head j).clock = (s.head j).clock

theorem State.clocks_refl (s : State) : s.clocks s := fun _ => rfl

theorem State.clocks_trans {s t u : State} (h : s.clocks t) (k : t.clocks u) : s.clocks u := fun j => (k j).trans (h j)

theorem State.clocks_of_heads {s t : State} (h : t.heads = s.heads) : s.clocks t := fun j => by rw [State.head_of_heads h]

theorem State.clocks_of_list {s t : State} (h : t.heads.heads = s.heads.heads) : s.clocks t := fun j => by
  unfold State.head; rw [h]

theorem State.clocks_modHead {s : State} {h : Nat} {f : Head → Head} (k : (f (s.head h)).clock = (s.head h).clock) : s.clocks (s.modHead h f) := by
  intro j
  by_cases e : j = h
  · subst e; rw [State.head_modHead_self]; exact k
  · rw [State.head_modHead_ne _ _ e]

theorem State.clocks_setHead {s : State} {h : Nat} {x : Head} (k : x.clock = (s.head h).clock) : s.clocks (s.setHead h x) := by
  intro j
  by_cases e : j = h
  · subst e; rw [State.head_setHead_self]; exact k
  · rw [State.head_setHead_ne _ _ e]

theorem State.clocks_ite {s a b : State} {c : Prop} [Decidable c] (ha : s.clocks a) (hb : s.clocks b) : s.clocks (if c then a else b) := by
  split <;> assumption

theorem State.clocks_forEach {α : Type} (f : State → α → State) (h : ∀ (s : State) (a : α), s.clocks (f s a)) (l : List α) (s : State) : s.clocks (s.forEach l f) := by
  unfold State.forEach
  induction l generalizing s with
  | nil => exact State.clocks_refl s
  | cons a l ih => exact State.clocks_trans (h s a) (ih _)

theorem State.clocks_raiseHead (s : State) (h : Nat) (e : Slot32) : s.clocks (s.raiseHead h e) :=
  State.clocks_of_heads (State.raiseHead_kept (Kept.refl s)).heads_eq

theorem State.clocks_levelHead (s : State) (h : Nat) (e : Slot32) (b : Bool) : s.clocks (s.levelHead h e b) :=
  State.clocks_of_heads (State.levelHead_kept (Kept.refl s)).heads_eq

theorem State.clocks_checkFetches (h : Nat) (a : Area) (b : Nat) (two : Bool) (l : List (Use × LayerDec)) (s : State) :
    s.clocks (s.checkFetches h a b two l).1 := by
  unfold State.checkFetches
  generalize l.map (fun p => p.1) = uses
  dsimp only
  suffices H : ∀ (l : List (Use × LayerDec)) (acc : State × List LayerDec), s.clocks acc.1 → s.clocks (l.foldl (fun (acc : State × List LayerDec) p =>
    let (u, d) := p
    if !d.treat.reads then (acc.1, acc.2 ++ [d])
    else
      let runs := layerRuns a b (twoFor two u) u d (tilesOf a b uses u.idx)
      if runs.all (fun r => acc.1.granted .heads false r.1 r.2) then (acc.1, acc.2 ++ [d])
      else
        let s := acc.1.countBounds.modHead h (fun x => { x with fetchCount := satInc 32 x.fetchCount })
        (s.raiseHead h .fetchBounds, acc.2 ++ [{ d with bounds := true }])) acc).1 from H l (s, []) (State.clocks_refl s)
  intro l
  induction l with
  | nil => exact fun _ k => k
  | cons p l ih =>
    intro acc k
    refine ih _ ?_
    obtain ⟨u, d⟩ := p
    dsimp only
    split
    · exact k
    · split
      · exact k
      · refine State.clocks_trans k (State.clocks_trans ?_ (State.clocks_raiseHead _ _ _))
        exact State.clocks_modHead (s := acc.1.countBounds) rfl

theorem State.clocks_prepareBand (s : State) (h frame b start : Nat) (st : HState) : s.clocks (s.prepareBand h frame b start st).1 := by
  unfold State.prepareBand
  dsimp only
  split
  · exact State.clocks_refl s
  · exact State.clocks_checkFetches _ _ _ _ _ _

theorem State.clocks_assignBand (s : State) (h : Nat) (b : Band) : s.clocks (s.assignBand h b) := by
  unfold State.assignBand
  dsimp only
  have k : ∀ t : State, t.heads = s.heads → s.clocks (t.setHead h { t.head h with bands := (t.head h).bands.filter (fun y => !(y.frame == b.frame && y.band == b.band)) ++
      [{ b with gallery := s.chooseGallery, seq := s.gal.dispatched, untaken := List.range (ceilDiv (s.head h).timing.hActive 128), done := [], finished := false, noReserve := false }] }) :=
    fun t ht => State.clocks_trans (State.clocks_of_heads ht) (State.clocks_setHead rfl)
  exact k _ (by split <;> rfl)

theorem State.clocks_composeBand (s : State) (h frame b start : Nat) (st : HState) (again : Bool) : s.clocks (s.composeBand h frame b start st again) := by
  unfold State.composeBand
  have k := State.clocks_prepareBand s h frame b start st
  generalize s.prepareBand h frame b start st = p at k
  obtain ⟨t, y⟩ := p
  dsimp only at k ⊢
  refine State.clocks_trans k (State.clocks_trans (State.clocks_of_heads ?_) (State.clocks_assignBand _ _ _))
  unfold State.dropJobs
  dsimp only
  split <;> rfl

theorem State.clocks_recompose (s : State) (h frame start : Nat) (new : HState) : s.clocks (s.recompose h frame start new) := by
  unfold State.recompose
  dsimp only
  refine State.clocks_ite ?_ (State.clocks_trans ?_ (State.clocks_forEach _ (fun s b => State.clocks_composeBand _ _ _ _ _ _ _) _ _))
  · refine State.clocks_trans ?_ (State.clocks_of_heads (State.mapRegions_kept (Kept.refl _)).heads_eq)
    refine State.clocks_trans (State.clocks_of_heads ?_) (State.clocks_modHead ?_)
    · rfl
    · rfl
  · refine State.clocks_trans ?_ (State.clocks_of_heads (State.mapRegions_kept (Kept.refl _)).heads_eq)
    refine State.clocks_trans (State.clocks_of_heads ?_) (State.clocks_modHead ?_)
    · rfl
    · rfl

theorem State.clocks_followCall (s : State) (h : Nat) : s.clocks (s.followCall h) := by
  unfold State.followCall
  dsimp only
  split
  · exact State.clocks_refl s
  · exact State.clocks_recompose _ _ _ _ _

/-- Calling a head changes what the call says and no other head's clock. -/
theorem State.callHead_clock (s : State) (h : Nat) (f : Head → Head) : ((s.callHead h f).head h).clock = (f (s.head h)).clock ∧
    ∀ j, j ≠ h → ((s.callHead h f).head j).clock = (s.head j).clock := by
  unfold State.callHead
  dsimp only
  have k : (s.modHead h f).clocks (if ((s.modHead h f).head h).timing.bond = true then ((s.modHead h f).followCall (h / 2 * 2)).followCall (h / 2 * 2 + 1) else (s.modHead h f).followCall h) :=
    State.clocks_ite (State.clocks_trans (State.clocks_followCall _ _) (State.clocks_followCall _ _)) (State.clocks_followCall _ _)
  refine ⟨(k h).trans (by rw [State.head_modHead_self]), fun j hj => (k j).trans (by rw [State.head_modHead_ne _ _ hj])⟩

theorem State.clocks_judgeMisfit (s : State) (h : Nat) (b : Bool) : s.clocks (s.judgeMisfit h b) := by
  unfold State.judgeMisfit
  dsimp only
  refine State.clocks_trans ?_ (State.clocks_levelHead _ _ _ _)
  refine State.clocks_modHead ?_
  rfl

theorem State.clocks_showFrame (s : State) (h : Nat) : s.clocks (s.showFrame h) := by
  unfold State.showFrame
  dsimp only
  have k := State.clocks_setHead (s := s) (h := h) (x := { s.head h with shown := (s.head h).curEpoch, shownScene := (s.head h).cur, shownCfg := (s.head h).cfg }) rfl
  split
  · exact k
  · exact State.clocks_trans k (State.clocks_raiseHead _ _ _)

theorem State.clocks_steer (s : State) (h f : Nat) : s.clocks (s.steer h f) := by
  unfold State.steer State.draw
  dsimp only
  have k0 : ∀ (x : Head), x.clock = (s.head h).clock → s.clocks (({ s with fresh := s.fresh + 1 } : State).setHead h x) := fun x hx => by
    refine State.clocks_trans (t := { s with fresh := s.fresh + 1 }) (State.clocks_of_heads rfl) (State.clocks_setHead ?_)
    exact hx
  split
  · refine k0 _ ?_
    rfl
  · refine State.clocks_ite (State.clocks_trans (State.clocks_ite ?_ (State.clocks_trans ?_ (State.clocks_raiseHead _ _ _))) (State.clocks_raiseHead _ _ _))
      (State.clocks_ite ?_ (State.clocks_trans ?_ (State.clocks_raiseHead _ _ _))) <;> (refine k0 _ ?_; rfl)

theorem State.linkLevel_heads (s : State) (h : Nat) : (s.linkLevel h).heads = s.heads := (State.linkLevel_kept (Kept.refl s)).heads_eq

theorem State.clocks_beginTraining (s : State) (h : Nat) : s.clocks (s.beginTraining h) := by
  unfold State.beginTraining
  dsimp only
  split
  · exact State.clocks_refl s
  · exact State.clocks_of_list (by rw [State.linkLevel_heads]; rfl)

theorem State.clocks_linkOff (s : State) (h : Nat) (idle : Bool) : s.clocks (s.linkOff h idle) := by
  unfold State.linkOff
  exact State.clocks_of_list (by rw [State.linkLevel_heads]; rfl)

theorem State.clocks_linkLineZero (s : State) (h : Nat) (old : HState) : s.clocks (s.linkLineZero h old) := by
  unfold State.linkLineZero
  dsimp only
  refine State.clocks_ite (State.clocks_refl s) (State.clocks_ite (State.clocks_ite (State.clocks_linkOff _ _ _) (State.clocks_refl s)) ?_)
  refine State.clocks_ite (State.clocks_ite (State.clocks_refl s) (State.clocks_of_list rfl)) ?_
  exact State.clocks_ite (State.clocks_beginTraining _ _) (State.clocks_refl s)

theorem State.clocks_compareSink (s : State) (h : Nat) (sent : Bool) (c : SinkCrc) : s.clocks (s.compareSink h sent c) := by
  have k : ∀ a b : DpLink, s.clocks ((s.setLink h a).setLink h b) := fun a b => State.clocks_of_list rfl
  have k1 : ∀ a : DpLink, s.clocks (s.setLink h a) := fun a => State.clocks_of_list rfl
  have k2 : ∀ a b : DpLink, s.clocks (((s.setLink h a).setLink h b).raiseHead h .sinkCrcMismatch) := fun a b =>
    State.clocks_trans (k a b) (State.clocks_raiseHead _ _ _)
  unfold State.compareSink
  extract_lets l on st m u
  have ku : s.clocks u := k1 _
  clear_value u m
  split
  · exact ku
  · split
    · exact State.clocks_trans ku (State.clocks_of_list rfl)
    · split
      · exact ku
      · split
        · split
          · exact State.clocks_trans ku (State.clocks_of_list rfl)
          · exact State.clocks_trans (State.clocks_trans ku (State.clocks_of_list rfl)) (State.clocks_raiseHead _ _ _)
        · exact State.clocks_trans ku (State.clocks_of_list rfl)

theorem State.clocks_wbAtLineZero (s : State) (h : Nat) : s.clocks (s.wbAtLineZero h) := by
  unfold State.wbAtLineZero
  refine State.clocks_trans (State.clocks_forEach _ (fun s w => ?_) _ s) (State.clocks_of_heads rfl)
  exact State.clocks_ite (State.clocks_of_heads (State.wbFinish_kept (Kept.refl s)).heads_eq) (State.clocks_refl s)

theorem State.clocks_wbLineZero (s : State) (w h : Nat) : s.clocks (s.wbLineZero w h) :=
  State.clocks_of_heads (State.wbLineZero_kept (Kept.refl s)).heads_eq

end Sys2Proof.Machine
end

