-- ==== Sys2Proof/Laws/Raise.lean ====
section
/-!
SUPPORT. What an occurrence of an event, a condition's bookkeeping and a memory error leave alone, part by part: @[simp], so that a
statement about a command that raises an event never unfolds the event path.
-/

set_option Elab.async false

namespace Sys2Proof.Machine

@[simp] theorem State.raiseNum_sys (s : State) (i : Nat) : (s.raiseNum i).sys = s.sys := (State.raiseNum_kept (Kept.refl s)).sys_eq
@[simp] theorem State.raiseNum_health (s : State) (i : Nat) : (s.raiseNum i).health = s.health := (State.raiseNum_kept (Kept.refl s)).health_eq
@[simp] theorem State.raiseNum_mem (s : State) (i : Nat) : (s.raiseNum i).mem = s.mem := (State.raiseNum_kept (Kept.refl s)).mem_eq
@[simp] theorem State.raiseNum_que (s : State) (i : Nat) : (s.raiseNum i).que = s.que := (State.raiseNum_kept (Kept.refl s)).que_eq
@[simp] theorem State.raiseNum_siph (s : State) (i : Nat) : (s.raiseNum i).siph = s.siph := (State.raiseNum_kept (Kept.refl s)).siph_eq
@[simp] theorem State.raiseNum_blit (s : State) (i : Nat) : (s.raiseNum i).blit = s.blit := (State.raiseNum_kept (Kept.refl s)).blit_eq
@[simp] theorem State.raiseNum_src (s : State) (i : Nat) : (s.raiseNum i).src = s.src := (State.raiseNum_kept (Kept.refl s)).src_eq
@[simp] theorem State.raiseNum_scn (s : State) (i : Nat) : (s.raiseNum i).scn = s.scn := (State.raiseNum_kept (Kept.refl s)).scn_eq
@[simp] theorem State.raiseNum_gal (s : State) (i : Nat) : (s.raiseNum i).gal = s.gal := (State.raiseNum_kept (Kept.refl s)).gal_eq
@[simp] theorem State.raiseNum_heads (s : State) (i : Nat) : (s.raiseNum i).heads = s.heads := (State.raiseNum_kept (Kept.refl s)).heads_eq
@[simp] theorem State.raiseNum_lant (s : State) (i : Nat) : (s.raiseNum i).lant = s.lant := (State.raiseNum_kept (Kept.refl s)).lant_eq
@[simp] theorem State.raiseNum_fab (s : State) (i : Nat) : (s.raiseNum i).fab = s.fab := (State.raiseNum_kept (Kept.refl s)).fab_eq
@[simp] theorem State.raiseNum_lamp (s : State) (i : Nat) : (s.raiseNum i).lamp = s.lamp := (State.raiseNum_kept (Kept.refl s)).lamp_eq
@[simp] theorem State.raiseNum_dict (s : State) (i : Nat) : (s.raiseNum i).dict = s.dict := (State.raiseNum_kept (Kept.refl s)).dict_eq
@[simp] theorem State.raiseNum_lop (s : State) (i : Nat) : (s.raiseNum i).lop = s.lop := (State.raiseNum_kept (Kept.refl s)).lop_eq
@[simp] theorem State.raiseNum_fresh (s : State) (i : Nat) : (s.raiseNum i).fresh = s.fresh := (State.raiseNum_kept (Kept.refl s)).fresh_eq

@[simp] theorem State.raise_sys (s : State) (e : DevEvent) : (s.raise e).sys = s.sys := (State.raise_kept (Kept.refl s)).sys_eq
@[simp] theorem State.raise_health (s : State) (e : DevEvent) : (s.raise e).health = s.health := (State.raise_kept (Kept.refl s)).health_eq
@[simp] theorem State.raise_mem (s : State) (e : DevEvent) : (s.raise e).mem = s.mem := (State.raise_kept (Kept.refl s)).mem_eq
@[simp] theorem State.raise_que (s : State) (e : DevEvent) : (s.raise e).que = s.que := (State.raise_kept (Kept.refl s)).que_eq
@[simp] theorem State.raise_siph (s : State) (e : DevEvent) : (s.raise e).siph = s.siph := (State.raise_kept (Kept.refl s)).siph_eq
@[simp] theorem State.raise_blit (s : State) (e : DevEvent) : (s.raise e).blit = s.blit := (State.raise_kept (Kept.refl s)).blit_eq
@[simp] theorem State.raise_src (s : State) (e : DevEvent) : (s.raise e).src = s.src := (State.raise_kept (Kept.refl s)).src_eq
@[simp] theorem State.raise_scn (s : State) (e : DevEvent) : (s.raise e).scn = s.scn := (State.raise_kept (Kept.refl s)).scn_eq
@[simp] theorem State.raise_gal (s : State) (e : DevEvent) : (s.raise e).gal = s.gal := (State.raise_kept (Kept.refl s)).gal_eq
@[simp] theorem State.raise_heads (s : State) (e : DevEvent) : (s.raise e).heads = s.heads := (State.raise_kept (Kept.refl s)).heads_eq
@[simp] theorem State.raise_lant (s : State) (e : DevEvent) : (s.raise e).lant = s.lant := (State.raise_kept (Kept.refl s)).lant_eq
@[simp] theorem State.raise_fab (s : State) (e : DevEvent) : (s.raise e).fab = s.fab := (State.raise_kept (Kept.refl s)).fab_eq
@[simp] theorem State.raise_lamp (s : State) (e : DevEvent) : (s.raise e).lamp = s.lamp := (State.raise_kept (Kept.refl s)).lamp_eq
@[simp] theorem State.raise_dict (s : State) (e : DevEvent) : (s.raise e).dict = s.dict := (State.raise_kept (Kept.refl s)).dict_eq
@[simp] theorem State.raise_lop (s : State) (e : DevEvent) : (s.raise e).lop = s.lop := (State.raise_kept (Kept.refl s)).lop_eq
@[simp] theorem State.raise_fresh (s : State) (e : DevEvent) : (s.raise e).fresh = s.fresh := (State.raise_kept (Kept.refl s)).fresh_eq

@[simp] theorem State.raiseHead_sys (s : State) (h : Nat) (k : Slot32) : (s.raiseHead h k).sys = s.sys := (State.raiseHead_kept (Kept.refl s)).sys_eq
@[simp] theorem State.raiseHead_health (s : State) (h : Nat) (k : Slot32) : (s.raiseHead h k).health = s.health := (State.raiseHead_kept (Kept.refl s)).health_eq
@[simp] theorem State.raiseHead_mem (s : State) (h : Nat) (k : Slot32) : (s.raiseHead h k).mem = s.mem := (State.raiseHead_kept (Kept.refl s)).mem_eq
@[simp] theorem State.raiseHead_que (s : State) (h : Nat) (k : Slot32) : (s.raiseHead h k).que = s.que := (State.raiseHead_kept (Kept.refl s)).que_eq
@[simp] theorem State.raiseHead_siph (s : State) (h : Nat) (k : Slot32) : (s.raiseHead h k).siph = s.siph := (State.raiseHead_kept (Kept.refl s)).siph_eq
@[simp] theorem State.raiseHead_blit (s : State) (h : Nat) (k : Slot32) : (s.raiseHead h k).blit = s.blit := (State.raiseHead_kept (Kept.refl s)).blit_eq
@[simp] theorem State.raiseHead_src (s : State) (h : Nat) (k : Slot32) : (s.raiseHead h k).src = s.src := (State.raiseHead_kept (Kept.refl s)).src_eq
@[simp] theorem State.raiseHead_scn (s : State) (h : Nat) (k : Slot32) : (s.raiseHead h k).scn = s.scn := (State.raiseHead_kept (Kept.refl s)).scn_eq
@[simp] theorem State.raiseHead_gal (s : State) (h : Nat) (k : Slot32) : (s.raiseHead h k).gal = s.gal := (State.raiseHead_kept (Kept.refl s)).gal_eq
@[simp] theorem State.raiseHead_heads (s : State) (h : Nat) (k : Slot32) : (s.raiseHead h k).heads = s.heads := (State.raiseHead_kept (Kept.refl s)).heads_eq
@[simp] theorem State.raiseHead_lant (s : State) (h : Nat) (k : Slot32) : (s.raiseHead h k).lant = s.lant := (State.raiseHead_kept (Kept.refl s)).lant_eq
@[simp] theorem State.raiseHead_fab (s : State) (h : Nat) (k : Slot32) : (s.raiseHead h k).fab = s.fab := (State.raiseHead_kept (Kept.refl s)).fab_eq
@[simp] theorem State.raiseHead_lamp (s : State) (h : Nat) (k : Slot32) : (s.raiseHead h k).lamp = s.lamp := (State.raiseHead_kept (Kept.refl s)).lamp_eq
@[simp] theorem State.raiseHead_dict (s : State) (h : Nat) (k : Slot32) : (s.raiseHead h k).dict = s.dict := (State.raiseHead_kept (Kept.refl s)).dict_eq
@[simp] theorem State.raiseHead_lop (s : State) (h : Nat) (k : Slot32) : (s.raiseHead h k).lop = s.lop := (State.raiseHead_kept (Kept.refl s)).lop_eq
@[simp] theorem State.raiseHead_fresh (s : State) (h : Nat) (k : Slot32) : (s.raiseHead h k).fresh = s.fresh := (State.raiseHead_kept (Kept.refl s)).fresh_eq

@[simp] theorem State.levelTo_sys (s : State) (i : Nat) (b : Bool) : (s.levelTo i b).sys = s.sys := (State.levelTo_kept (Kept.refl s)).sys_eq
@[simp] theorem State.levelTo_boot (s : State) (i : Nat) (b : Bool) : (s.levelTo i b).boot = s.boot := (State.levelTo_kept (Kept.refl s)).boot_eq
@[simp] theorem State.levelTo_health (s : State) (i : Nat) (b : Bool) : (s.levelTo i b).health = s.health := (State.levelTo_kept (Kept.refl s)).health_eq
@[simp] theorem State.levelTo_mem (s : State) (i : Nat) (b : Bool) : (s.levelTo i b).mem = s.mem := (State.levelTo_kept (Kept.refl s)).mem_eq
@[simp] theorem State.levelTo_que (s : State) (i : Nat) (b : Bool) : (s.levelTo i b).que = s.que := (State.levelTo_kept (Kept.refl s)).que_eq
@[simp] theorem State.levelTo_siph (s : State) (i : Nat) (b : Bool) : (s.levelTo i b).siph = s.siph := (State.levelTo_kept (Kept.refl s)).siph_eq
@[simp] theorem State.levelTo_blit (s : State) (i : Nat) (b : Bool) : (s.levelTo i b).blit = s.blit := (State.levelTo_kept (Kept.refl s)).blit_eq
@[simp] theorem State.levelTo_src (s : State) (i : Nat) (b : Bool) : (s.levelTo i b).src = s.src := (State.levelTo_kept (Kept.refl s)).src_eq
@[simp] theorem State.levelTo_scn (s : State) (i : Nat) (b : Bool) : (s.levelTo i b).scn = s.scn := (State.levelTo_kept (Kept.refl s)).scn_eq
@[simp] theorem State.levelTo_gal (s : State) (i : Nat) (b : Bool) : (s.levelTo i b).gal = s.gal := (State.levelTo_kept (Kept.refl s)).gal_eq
@[simp] theorem State.levelTo_heads (s : State) (i : Nat) (b : Bool) : (s.levelTo i b).heads = s.heads := (State.levelTo_kept (Kept.refl s)).heads_eq
@[simp] theorem State.levelTo_lant (s : State) (i : Nat) (b : Bool) : (s.levelTo i b).lant = s.lant := (State.levelTo_kept (Kept.refl s)).lant_eq
@[simp] theorem State.levelTo_fab (s : State) (i : Nat) (b : Bool) : (s.levelTo i b).fab = s.fab := (State.levelTo_kept (Kept.refl s)).fab_eq
@[simp] theorem State.levelTo_lamp (s : State) (i : Nat) (b : Bool) : (s.levelTo i b).lamp = s.lamp := (State.levelTo_kept (Kept.refl s)).lamp_eq
@[simp] theorem State.levelTo_dict (s : State) (i : Nat) (b : Bool) : (s.levelTo i b).dict = s.dict := (State.levelTo_kept (Kept.refl s)).dict_eq
@[simp] theorem State.levelTo_lop (s : State) (i : Nat) (b : Bool) : (s.levelTo i b).lop = s.lop := (State.levelTo_kept (Kept.refl s)).lop_eq
@[simp] theorem State.levelTo_fresh (s : State) (i : Nat) (b : Bool) : (s.levelTo i b).fresh = s.fresh := (State.levelTo_kept (Kept.refl s)).fresh_eq

@[simp] theorem State.level_sys (s : State) (e : DevEvent) (b : Bool) : (s.level e b).sys = s.sys := (State.level_kept (Kept.refl s)).sys_eq
@[simp] theorem State.level_boot (s : State) (e : DevEvent) (b : Bool) : (s.level e b).boot = s.boot := (State.level_kept (Kept.refl s)).boot_eq
@[simp] theorem State.level_health (s : State) (e : DevEvent) (b : Bool) : (s.level e b).health = s.health := (State.level_kept (Kept.refl s)).health_eq
@[simp] theorem State.level_mem (s : State) (e : DevEvent) (b : Bool) : (s.level e b).mem = s.mem := (State.level_kept (Kept.refl s)).mem_eq
@[simp] theorem State.level_que (s : State) (e : DevEvent) (b : Bool) : (s.level e b).que = s.que := (State.level_kept (Kept.refl s)).que_eq
@[simp] theorem State.level_siph (s : State) (e : DevEvent) (b : Bool) : (s.level e b).siph = s.siph := (State.level_kept (Kept.refl s)).siph_eq
@[simp] theorem State.level_blit (s : State) (e : DevEvent) (b : Bool) : (s.level e b).blit = s.blit := (State.level_kept (Kept.refl s)).blit_eq
@[simp] theorem State.level_src (s : State) (e : DevEvent) (b : Bool) : (s.level e b).src = s.src := (State.level_kept (Kept.refl s)).src_eq
@[simp] theorem State.level_scn (s : State) (e : DevEvent) (b : Bool) : (s.level e b).scn = s.scn := (State.level_kept (Kept.refl s)).scn_eq
@[simp] theorem State.level_gal (s : State) (e : DevEvent) (b : Bool) : (s.level e b).gal = s.gal := (State.level_kept (Kept.refl s)).gal_eq
@[simp] theorem State.level_heads (s : State) (e : DevEvent) (b : Bool) : (s.level e b).heads = s.heads := (State.level_kept (Kept.refl s)).heads_eq
@[simp] theorem State.level_lant (s : State) (e : DevEvent) (b : Bool) : (s.level e b).lant = s.lant := (State.level_kept (Kept.refl s)).lant_eq
@[simp] theorem State.level_fab (s : State) (e : DevEvent) (b : Bool) : (s.level e b).fab = s.fab := (State.level_kept (Kept.refl s)).fab_eq
@[simp] theorem State.level_lamp (s : State) (e : DevEvent) (b : Bool) : (s.level e b).lamp = s.lamp := (State.level_kept (Kept.refl s)).lamp_eq
@[simp] theorem State.level_dict (s : State) (e : DevEvent) (b : Bool) : (s.level e b).dict = s.dict := (State.level_kept (Kept.refl s)).dict_eq
@[simp] theorem State.level_lop (s : State) (e : DevEvent) (b : Bool) : (s.level e b).lop = s.lop := (State.level_kept (Kept.refl s)).lop_eq
@[simp] theorem State.level_fresh (s : State) (e : DevEvent) (b : Bool) : (s.level e b).fresh = s.fresh := (State.level_kept (Kept.refl s)).fresh_eq

@[simp] theorem State.levelHead_sys (s : State) (h : Nat) (k : Slot32) (b : Bool) : (s.levelHead h k b).sys = s.sys := (State.levelHead_kept (Kept.refl s)).sys_eq
@[simp] theorem State.levelHead_boot (s : State) (h : Nat) (k : Slot32) (b : Bool) : (s.levelHead h k b).boot = s.boot := (State.levelHead_kept (Kept.refl s)).boot_eq
@[simp] theorem State.levelHead_health (s : State) (h : Nat) (k : Slot32) (b : Bool) : (s.levelHead h k b).health = s.health := (State.levelHead_kept (Kept.refl s)).health_eq
@[simp] theorem State.levelHead_mem (s : State) (h : Nat) (k : Slot32) (b : Bool) : (s.levelHead h k b).mem = s.mem := (State.levelHead_kept (Kept.refl s)).mem_eq
@[simp] theorem State.levelHead_que (s : State) (h : Nat) (k : Slot32) (b : Bool) : (s.levelHead h k b).que = s.que := (State.levelHead_kept (Kept.refl s)).que_eq
@[simp] theorem State.levelHead_siph (s : State) (h : Nat) (k : Slot32) (b : Bool) : (s.levelHead h k b).siph = s.siph := (State.levelHead_kept (Kept.refl s)).siph_eq
@[simp] theorem State.levelHead_blit (s : State) (h : Nat) (k : Slot32) (b : Bool) : (s.levelHead h k b).blit = s.blit := (State.levelHead_kept (Kept.refl s)).blit_eq
@[simp] theorem State.levelHead_src (s : State) (h : Nat) (k : Slot32) (b : Bool) : (s.levelHead h k b).src = s.src := (State.levelHead_kept (Kept.refl s)).src_eq
@[simp] theorem State.levelHead_scn (s : State) (h : Nat) (k : Slot32) (b : Bool) : (s.levelHead h k b).scn = s.scn := (State.levelHead_kept (Kept.refl s)).scn_eq
@[simp] theorem State.levelHead_gal (s : State) (h : Nat) (k : Slot32) (b : Bool) : (s.levelHead h k b).gal = s.gal := (State.levelHead_kept (Kept.refl s)).gal_eq
@[simp] theorem State.levelHead_heads (s : State) (h : Nat) (k : Slot32) (b : Bool) : (s.levelHead h k b).heads = s.heads := (State.levelHead_kept (Kept.refl s)).heads_eq
@[simp] theorem State.levelHead_lant (s : State) (h : Nat) (k : Slot32) (b : Bool) : (s.levelHead h k b).lant = s.lant := (State.levelHead_kept (Kept.refl s)).lant_eq
@[simp] theorem State.levelHead_fab (s : State) (h : Nat) (k : Slot32) (b : Bool) : (s.levelHead h k b).fab = s.fab := (State.levelHead_kept (Kept.refl s)).fab_eq
@[simp] theorem State.levelHead_lamp (s : State) (h : Nat) (k : Slot32) (b : Bool) : (s.levelHead h k b).lamp = s.lamp := (State.levelHead_kept (Kept.refl s)).lamp_eq
@[simp] theorem State.levelHead_dict (s : State) (h : Nat) (k : Slot32) (b : Bool) : (s.levelHead h k b).dict = s.dict := (State.levelHead_kept (Kept.refl s)).dict_eq
@[simp] theorem State.levelHead_lop (s : State) (h : Nat) (k : Slot32) (b : Bool) : (s.levelHead h k b).lop = s.lop := (State.levelHead_kept (Kept.refl s)).lop_eq
@[simp] theorem State.levelHead_fresh (s : State) (h : Nat) (k : Slot32) (b : Bool) : (s.levelHead h k b).fresh = s.fresh := (State.levelHead_kept (Kept.refl s)).fresh_eq

@[simp] theorem State.noteMask_sys (s : State) : (s.noteMask).sys = s.sys := (State.noteMask_kept (Kept.refl s)).sys_eq
@[simp] theorem State.noteMask_health (s : State) : (s.noteMask).health = s.health := (State.noteMask_kept (Kept.refl s)).health_eq
@[simp] theorem State.noteMask_mem (s : State) : (s.noteMask).mem = s.mem := (State.noteMask_kept (Kept.refl s)).mem_eq
@[simp] theorem State.noteMask_que (s : State) : (s.noteMask).que = s.que := (State.noteMask_kept (Kept.refl s)).que_eq
@[simp] theorem State.noteMask_siph (s : State) : (s.noteMask).siph = s.siph := (State.noteMask_kept (Kept.refl s)).siph_eq
@[simp] theorem State.noteMask_blit (s : State) : (s.noteMask).blit = s.blit := (State.noteMask_kept (Kept.refl s)).blit_eq
@[simp] theorem State.noteMask_src (s : State) : (s.noteMask).src = s.src := (State.noteMask_kept (Kept.refl s)).src_eq
@[simp] theorem State.noteMask_scn (s : State) : (s.noteMask).scn = s.scn := (State.noteMask_kept (Kept.refl s)).scn_eq
@[simp] theorem State.noteMask_gal (s : State) : (s.noteMask).gal = s.gal := (State.noteMask_kept (Kept.refl s)).gal_eq
@[simp] theorem State.noteMask_heads (s : State) : (s.noteMask).heads = s.heads := (State.noteMask_kept (Kept.refl s)).heads_eq
@[simp] theorem State.noteMask_lant (s : State) : (s.noteMask).lant = s.lant := (State.noteMask_kept (Kept.refl s)).lant_eq
@[simp] theorem State.noteMask_fab (s : State) : (s.noteMask).fab = s.fab := (State.noteMask_kept (Kept.refl s)).fab_eq
@[simp] theorem State.noteMask_dict (s : State) : (s.noteMask).dict = s.dict := (State.noteMask_kept (Kept.refl s)).dict_eq
@[simp] theorem State.noteMask_lop (s : State) : (s.noteMask).lop = s.lop := (State.noteMask_kept (Kept.refl s)).lop_eq
@[simp] theorem State.noteMask_fresh (s : State) : (s.noteMask).fresh = s.fresh := (State.noteMask_kept (Kept.refl s)).fresh_eq

@[simp] theorem State.noteReplacement_sys (s : State) : (s.noteReplacement).sys = s.sys := (State.noteReplacement_kept (Kept.refl s)).sys_eq
@[simp] theorem State.noteReplacement_health (s : State) : (s.noteReplacement).health = s.health := (State.noteReplacement_kept (Kept.refl s)).health_eq
@[simp] theorem State.noteReplacement_mem (s : State) : (s.noteReplacement).mem = s.mem := (State.noteReplacement_kept (Kept.refl s)).mem_eq
@[simp] theorem State.noteReplacement_que (s : State) : (s.noteReplacement).que = s.que := (State.noteReplacement_kept (Kept.refl s)).que_eq
@[simp] theorem State.noteReplacement_siph (s : State) : (s.noteReplacement).siph = s.siph := (State.noteReplacement_kept (Kept.refl s)).siph_eq
@[simp] theorem State.noteReplacement_blit (s : State) : (s.noteReplacement).blit = s.blit := (State.noteReplacement_kept (Kept.refl s)).blit_eq
@[simp] theorem State.noteReplacement_src (s : State) : (s.noteReplacement).src = s.src := (State.noteReplacement_kept (Kept.refl s)).src_eq
@[simp] theorem State.noteReplacement_scn (s : State) : (s.noteReplacement).scn = s.scn := (State.noteReplacement_kept (Kept.refl s)).scn_eq
@[simp] theorem State.noteReplacement_gal (s : State) : (s.noteReplacement).gal = s.gal := (State.noteReplacement_kept (Kept.refl s)).gal_eq
@[simp] theorem State.noteReplacement_heads (s : State) : (s.noteReplacement).heads = s.heads := (State.noteReplacement_kept (Kept.refl s)).heads_eq
@[simp] theorem State.noteReplacement_lant (s : State) : (s.noteReplacement).lant = s.lant := (State.noteReplacement_kept (Kept.refl s)).lant_eq
@[simp] theorem State.noteReplacement_fab (s : State) : (s.noteReplacement).fab = s.fab := (State.noteReplacement_kept (Kept.refl s)).fab_eq
@[simp] theorem State.noteReplacement_dict (s : State) : (s.noteReplacement).dict = s.dict := (State.noteReplacement_kept (Kept.refl s)).dict_eq
@[simp] theorem State.noteReplacement_lop (s : State) : (s.noteReplacement).lop = s.lop := (State.noteReplacement_kept (Kept.refl s)).lop_eq
@[simp] theorem State.noteReplacement_fresh (s : State) : (s.noteReplacement).fresh = s.fresh := (State.noteReplacement_kept (Kept.refl s)).fresh_eq

@[simp] theorem State.noteConditions_health (s : State) : (s.noteConditions).health = s.health := (State.noteConditions_kept (Kept.refl s)).health_eq
@[simp] theorem State.noteConditions_mem (s : State) : (s.noteConditions).mem = s.mem := (State.noteConditions_kept (Kept.refl s)).mem_eq
@[simp] theorem State.noteConditions_que (s : State) : (s.noteConditions).que = s.que := (State.noteConditions_kept (Kept.refl s)).que_eq
@[simp] theorem State.noteConditions_siph (s : State) : (s.noteConditions).siph = s.siph := (State.noteConditions_kept (Kept.refl s)).siph_eq
@[simp] theorem State.noteConditions_blit (s : State) : (s.noteConditions).blit = s.blit := (State.noteConditions_kept (Kept.refl s)).blit_eq
@[simp] theorem State.noteConditions_src (s : State) : (s.noteConditions).src = s.src := (State.noteConditions_kept (Kept.refl s)).src_eq
@[simp] theorem State.noteConditions_scn (s : State) : (s.noteConditions).scn = s.scn := (State.noteConditions_kept (Kept.refl s)).scn_eq
@[simp] theorem State.noteConditions_gal (s : State) : (s.noteConditions).gal = s.gal := (State.noteConditions_kept (Kept.refl s)).gal_eq
@[simp] theorem State.noteConditions_heads (s : State) : (s.noteConditions).heads = s.heads := (State.noteConditions_kept (Kept.refl s)).heads_eq
@[simp] theorem State.noteConditions_lant (s : State) : (s.noteConditions).lant = s.lant := (State.noteConditions_kept (Kept.refl s)).lant_eq
@[simp] theorem State.noteConditions_fab (s : State) : (s.noteConditions).fab = s.fab := (State.noteConditions_kept (Kept.refl s)).fab_eq
@[simp] theorem State.noteConditions_dict (s : State) : (s.noteConditions).dict = s.dict := (State.noteConditions_kept (Kept.refl s)).dict_eq
@[simp] theorem State.noteConditions_lop (s : State) : (s.noteConditions).lop = s.lop := (State.noteConditions_kept (Kept.refl s)).lop_eq
@[simp] theorem State.noteConditions_fresh (s : State) : (s.noteConditions).fresh = s.fresh := (State.noteConditions_kept (Kept.refl s)).fresh_eq

@[simp] theorem State.sparesLevel_sys (s : State) : (s.sparesLevel).sys = s.sys := (State.sparesLevel_kept (Kept.refl s)).sys_eq
@[simp] theorem State.sparesLevel_boot (s : State) : (s.sparesLevel).boot = s.boot := (State.sparesLevel_kept (Kept.refl s)).boot_eq
@[simp] theorem State.sparesLevel_health (s : State) : (s.sparesLevel).health = s.health := (State.sparesLevel_kept (Kept.refl s)).health_eq
@[simp] theorem State.sparesLevel_mem (s : State) : (s.sparesLevel).mem = s.mem := (State.sparesLevel_kept (Kept.refl s)).mem_eq
@[simp] theorem State.sparesLevel_que (s : State) : (s.sparesLevel).que = s.que := (State.sparesLevel_kept (Kept.refl s)).que_eq
@[simp] theorem State.sparesLevel_siph (s : State) : (s.sparesLevel).siph = s.siph := (State.sparesLevel_kept (Kept.refl s)).siph_eq
@[simp] theorem State.sparesLevel_blit (s : State) : (s.sparesLevel).blit = s.blit := (State.sparesLevel_kept (Kept.refl s)).blit_eq
@[simp] theorem State.sparesLevel_src (s : State) : (s.sparesLevel).src = s.src := (State.sparesLevel_kept (Kept.refl s)).src_eq
@[simp] theorem State.sparesLevel_scn (s : State) : (s.sparesLevel).scn = s.scn := (State.sparesLevel_kept (Kept.refl s)).scn_eq
@[simp] theorem State.sparesLevel_gal (s : State) : (s.sparesLevel).gal = s.gal := (State.sparesLevel_kept (Kept.refl s)).gal_eq
@[simp] theorem State.sparesLevel_heads (s : State) : (s.sparesLevel).heads = s.heads := (State.sparesLevel_kept (Kept.refl s)).heads_eq
@[simp] theorem State.sparesLevel_lant (s : State) : (s.sparesLevel).lant = s.lant := (State.sparesLevel_kept (Kept.refl s)).lant_eq
@[simp] theorem State.sparesLevel_fab (s : State) : (s.sparesLevel).fab = s.fab := (State.sparesLevel_kept (Kept.refl s)).fab_eq
@[simp] theorem State.sparesLevel_lamp (s : State) : (s.sparesLevel).lamp = s.lamp := (State.sparesLevel_kept (Kept.refl s)).lamp_eq
@[simp] theorem State.sparesLevel_dict (s : State) : (s.sparesLevel).dict = s.dict := (State.sparesLevel_kept (Kept.refl s)).dict_eq
@[simp] theorem State.sparesLevel_lop (s : State) : (s.sparesLevel).lop = s.lop := (State.sparesLevel_kept (Kept.refl s)).lop_eq
@[simp] theorem State.sparesLevel_fresh (s : State) : (s.sparesLevel).fresh = s.fresh := (State.sparesLevel_kept (Kept.refl s)).fresh_eq

@[simp] theorem State.queueLevels_sys (s : State) : (s.queueLevels).sys = s.sys := (State.queueLevels_kept (Kept.refl s)).sys_eq
@[simp] theorem State.queueLevels_boot (s : State) : (s.queueLevels).boot = s.boot := (State.queueLevels_kept (Kept.refl s)).boot_eq
@[simp] theorem State.queueLevels_health (s : State) : (s.queueLevels).health = s.health := (State.queueLevels_kept (Kept.refl s)).health_eq
@[simp] theorem State.queueLevels_mem (s : State) : (s.queueLevels).mem = s.mem := (State.queueLevels_kept (Kept.refl s)).mem_eq
@[simp] theorem State.queueLevels_que (s : State) : (s.queueLevels).que = s.que := (State.queueLevels_kept (Kept.refl s)).que_eq
@[simp] theorem State.queueLevels_siph (s : State) : (s.queueLevels).siph = s.siph := (State.queueLevels_kept (Kept.refl s)).siph_eq
@[simp] theorem State.queueLevels_blit (s : State) : (s.queueLevels).blit = s.blit := (State.queueLevels_kept (Kept.refl s)).blit_eq
@[simp] theorem State.queueLevels_src (s : State) : (s.queueLevels).src = s.src := (State.queueLevels_kept (Kept.refl s)).src_eq
@[simp] theorem State.queueLevels_scn (s : State) : (s.queueLevels).scn = s.scn := (State.queueLevels_kept (Kept.refl s)).scn_eq
@[simp] theorem State.queueLevels_gal (s : State) : (s.queueLevels).gal = s.gal := (State.queueLevels_kept (Kept.refl s)).gal_eq
@[simp] theorem State.queueLevels_heads (s : State) : (s.queueLevels).heads = s.heads := (State.queueLevels_kept (Kept.refl s)).heads_eq
@[simp] theorem State.queueLevels_lant (s : State) : (s.queueLevels).lant = s.lant := (State.queueLevels_kept (Kept.refl s)).lant_eq
@[simp] theorem State.queueLevels_fab (s : State) : (s.queueLevels).fab = s.fab := (State.queueLevels_kept (Kept.refl s)).fab_eq
@[simp] theorem State.queueLevels_lamp (s : State) : (s.queueLevels).lamp = s.lamp := (State.queueLevels_kept (Kept.refl s)).lamp_eq
@[simp] theorem State.queueLevels_dict (s : State) : (s.queueLevels).dict = s.dict := (State.queueLevels_kept (Kept.refl s)).dict_eq
@[simp] theorem State.queueLevels_lop (s : State) : (s.queueLevels).lop = s.lop := (State.queueLevels_kept (Kept.refl s)).lop_eq
@[simp] theorem State.queueLevels_fresh (s : State) : (s.queueLevels).fresh = s.fresh := (State.queueLevels_kept (Kept.refl s)).fresh_eq

@[simp] theorem State.countUncorrectable_sys (s : State) (a : Nat) : (s.countUncorrectable a).sys = s.sys := (State.countUncorrectable_kept (Kept.refl s)).sys_eq
@[simp] theorem State.countUncorrectable_health (s : State) (a : Nat) : (s.countUncorrectable a).health = s.health := (State.countUncorrectable_kept (Kept.refl s)).health_eq
@[simp] theorem State.countUncorrectable_que (s : State) (a : Nat) : (s.countUncorrectable a).que = s.que := (State.countUncorrectable_kept (Kept.refl s)).que_eq
@[simp] theorem State.countUncorrectable_siph (s : State) (a : Nat) : (s.countUncorrectable a).siph = s.siph := (State.countUncorrectable_kept (Kept.refl s)).siph_eq
@[simp] theorem State.countUncorrectable_blit (s : State) (a : Nat) : (s.countUncorrectable a).blit = s.blit := (State.countUncorrectable_kept (Kept.refl s)).blit_eq
@[simp] theorem State.countUncorrectable_src (s : State) (a : Nat) : (s.countUncorrectable a).src = s.src := (State.countUncorrectable_kept (Kept.refl s)).src_eq
@[simp] theorem State.countUncorrectable_scn (s : State) (a : Nat) : (s.countUncorrectable a).scn = s.scn := (State.countUncorrectable_kept (Kept.refl s)).scn_eq
@[simp] theorem State.countUncorrectable_gal (s : State) (a : Nat) : (s.countUncorrectable a).gal = s.gal := (State.countUncorrectable_kept (Kept.refl s)).gal_eq
@[simp] theorem State.countUncorrectable_heads (s : State) (a : Nat) : (s.countUncorrectable a).heads = s.heads := (State.countUncorrectable_kept (Kept.refl s)).heads_eq
@[simp] theorem State.countUncorrectable_lant (s : State) (a : Nat) : (s.countUncorrectable a).lant = s.lant := (State.countUncorrectable_kept (Kept.refl s)).lant_eq
@[simp] theorem State.countUncorrectable_fab (s : State) (a : Nat) : (s.countUncorrectable a).fab = s.fab := (State.countUncorrectable_kept (Kept.refl s)).fab_eq
@[simp] theorem State.countUncorrectable_lamp (s : State) (a : Nat) : (s.countUncorrectable a).lamp = s.lamp := (State.countUncorrectable_kept (Kept.refl s)).lamp_eq
@[simp] theorem State.countUncorrectable_dict (s : State) (a : Nat) : (s.countUncorrectable a).dict = s.dict := (State.countUncorrectable_kept (Kept.refl s)).dict_eq
@[simp] theorem State.countUncorrectable_lop (s : State) (a : Nat) : (s.countUncorrectable a).lop = s.lop := (State.countUncorrectable_kept (Kept.refl s)).lop_eq
@[simp] theorem State.countUncorrectable_fresh (s : State) (a : Nat) : (s.countUncorrectable a).fresh = s.fresh := (State.countUncorrectable_kept (Kept.refl s)).fresh_eq
@[simp] theorem State.countUncorrectable_dev (s : State) (a : Nat) : (s.countUncorrectable a).mem.dev = s.mem.dev := (State.countUncorrectable_kept (Kept.refl s)).dev_eq
@[simp] theorem State.countUncorrectable_host (s : State) (a : Nat) : (s.countUncorrectable a).mem.host = s.mem.host := (State.countUncorrectable_kept (Kept.refl s)).host_eq
@[simp] theorem State.countUncorrectable_wins (s : State) (a : Nat) : (s.countUncorrectable a).mem.wins = s.mem.wins := (State.countUncorrectable_kept (Kept.refl s)).wins_eq

@[simp] theorem State.cancelUnusable_sys (s : State) : (s.cancelUnusable).sys = s.sys := (State.cancelUnusable_kept (Kept.refl s)).sys_eq
@[simp] theorem State.cancelUnusable_health (s : State) : (s.cancelUnusable).health = s.health := (State.cancelUnusable_kept (Kept.refl s)).health_eq
@[simp] theorem State.cancelUnusable_mem (s : State) : (s.cancelUnusable).mem = s.mem := (State.cancelUnusable_kept (Kept.refl s)).mem_eq
@[simp] theorem State.cancelUnusable_que (s : State) : (s.cancelUnusable).que = s.que := (State.cancelUnusable_kept (Kept.refl s)).que_eq
@[simp] theorem State.cancelUnusable_siph (s : State) : (s.cancelUnusable).siph = s.siph := (State.cancelUnusable_kept (Kept.refl s)).siph_eq
@[simp] theorem State.cancelUnusable_blit (s : State) : (s.cancelUnusable).blit = s.blit := (State.cancelUnusable_kept (Kept.refl s)).blit_eq
@[simp] theorem State.cancelUnusable_scn (s : State) : (s.cancelUnusable).scn = s.scn := (State.cancelUnusable_kept (Kept.refl s)).scn_eq
@[simp] theorem State.cancelUnusable_gal (s : State) : (s.cancelUnusable).gal = s.gal := (State.cancelUnusable_kept (Kept.refl s)).gal_eq
@[simp] theorem State.cancelUnusable_heads (s : State) : (s.cancelUnusable).heads = s.heads := (State.cancelUnusable_kept (Kept.refl s)).heads_eq
@[simp] theorem State.cancelUnusable_lant (s : State) : (s.cancelUnusable).lant = s.lant := (State.cancelUnusable_kept (Kept.refl s)).lant_eq
@[simp] theorem State.cancelUnusable_fab (s : State) : (s.cancelUnusable).fab = s.fab := (State.cancelUnusable_kept (Kept.refl s)).fab_eq
@[simp] theorem State.cancelUnusable_lamp (s : State) : (s.cancelUnusable).lamp = s.lamp := (State.cancelUnusable_kept (Kept.refl s)).lamp_eq
@[simp] theorem State.cancelUnusable_dict (s : State) : (s.cancelUnusable).dict = s.dict := (State.cancelUnusable_kept (Kept.refl s)).dict_eq
@[simp] theorem State.cancelUnusable_lop (s : State) : (s.cancelUnusable).lop = s.lop := (State.cancelUnusable_kept (Kept.refl s)).lop_eq
@[simp] theorem State.cancelUnusable_fresh (s : State) : (s.cancelUnusable).fresh = s.fresh := (State.cancelUnusable_kept (Kept.refl s)).fresh_eq

@[simp] theorem State.loseGranule_mem (s : State) (g : Nat) : (s.loseGranule g).mem = s.mem := (State.loseGranule_kept (Kept.refl s)).mem_eq
@[simp] theorem State.loseGranule_que (s : State) (g : Nat) : (s.loseGranule g).que = s.que := (State.loseGranule_kept (Kept.refl s)).que_eq
@[simp] theorem State.loseGranule_siph (s : State) (g : Nat) : (s.loseGranule g).siph = s.siph := (State.loseGranule_kept (Kept.refl s)).siph_eq
@[simp] theorem State.loseGranule_blit (s : State) (g : Nat) : (s.loseGranule g).blit = s.blit := (State.loseGranule_kept (Kept.refl s)).blit_eq
@[simp] theorem State.loseGranule_scn (s : State) (g : Nat) : (s.loseGranule g).scn = s.scn := (State.loseGranule_kept (Kept.refl s)).scn_eq
@[simp] theorem State.loseGranule_gal (s : State) (g : Nat) : (s.loseGranule g).gal = s.gal := (State.loseGranule_kept (Kept.refl s)).gal_eq
@[simp] theorem State.loseGranule_heads (s : State) (g : Nat) : (s.loseGranule g).heads = s.heads := (State.loseGranule_kept (Kept.refl s)).heads_eq
@[simp] theorem State.loseGranule_lant (s : State) (g : Nat) : (s.loseGranule g).lant = s.lant := (State.loseGranule_kept (Kept.refl s)).lant_eq
@[simp] theorem State.loseGranule_fab (s : State) (g : Nat) : (s.loseGranule g).fab = s.fab := (State.loseGranule_kept (Kept.refl s)).fab_eq
@[simp] theorem State.loseGranule_dict (s : State) (g : Nat) : (s.loseGranule g).dict = s.dict := (State.loseGranule_kept (Kept.refl s)).dict_eq
@[simp] theorem State.loseGranule_lop (s : State) (g : Nat) : (s.loseGranule g).lop = s.lop := (State.loseGranule_kept (Kept.refl s)).lop_eq
@[simp] theorem State.loseGranule_fresh (s : State) (g : Nat) : (s.loseGranule g).fresh = s.fresh := (State.loseGranule_kept (Kept.refl s)).fresh_eq

@[simp] theorem State.retireGranule_que (s : State) (g : Nat) : (s.retireGranule g).que = s.que := (State.retireGranule_kept (Kept.refl s)).que_eq
@[simp] theorem State.retireGranule_siph (s : State) (g : Nat) : (s.retireGranule g).siph = s.siph := (State.retireGranule_kept (Kept.refl s)).siph_eq
@[simp] theorem State.retireGranule_blit (s : State) (g : Nat) : (s.retireGranule g).blit = s.blit := (State.retireGranule_kept (Kept.refl s)).blit_eq
@[simp] theorem State.retireGranule_scn (s : State) (g : Nat) : (s.retireGranule g).scn = s.scn := (State.retireGranule_kept (Kept.refl s)).scn_eq
@[simp] theorem State.retireGranule_gal (s : State) (g : Nat) : (s.retireGranule g).gal = s.gal := (State.retireGranule_kept (Kept.refl s)).gal_eq
@[simp] theorem State.retireGranule_heads (s : State) (g : Nat) : (s.retireGranule g).heads = s.heads := (State.retireGranule_kept (Kept.refl s)).heads_eq
@[simp] theorem State.retireGranule_lant (s : State) (g : Nat) : (s.retireGranule g).lant = s.lant := (State.retireGranule_kept (Kept.refl s)).lant_eq
@[simp] theorem State.retireGranule_fab (s : State) (g : Nat) : (s.retireGranule g).fab = s.fab := (State.retireGranule_kept (Kept.refl s)).fab_eq
@[simp] theorem State.retireGranule_dict (s : State) (g : Nat) : (s.retireGranule g).dict = s.dict := (State.retireGranule_kept (Kept.refl s)).dict_eq
@[simp] theorem State.retireGranule_lop (s : State) (g : Nat) : (s.retireGranule g).lop = s.lop := (State.retireGranule_kept (Kept.refl s)).lop_eq
@[simp] theorem State.retireGranule_fresh (s : State) (g : Nat) : (s.retireGranule g).fresh = s.fresh := (State.retireGranule_kept (Kept.refl s)).fresh_eq
@[simp] theorem State.retireGranule_dev (s : State) (g : Nat) : (s.retireGranule g).mem.dev = s.mem.dev := (State.retireGranule_kept (Kept.refl s)).dev_eq
@[simp] theorem State.retireGranule_host (s : State) (g : Nat) : (s.retireGranule g).mem.host = s.mem.host := (State.retireGranule_kept (Kept.refl s)).host_eq
@[simp] theorem State.retireGranule_wins (s : State) (g : Nat) : (s.retireGranule g).mem.wins = s.mem.wins := (State.retireGranule_kept (Kept.refl s)).wins_eq

@[simp] theorem State.meetError_que (s : State) (a : Nat) (b : Bool) : (s.meetError a b).que = s.que := (State.meetError_kept (Kept.refl s)).que_eq
@[simp] theorem State.meetError_siph (s : State) (a : Nat) (b : Bool) : (s.meetError a b).siph = s.siph := (State.meetError_kept (Kept.refl s)).siph_eq
@[simp] theorem State.meetError_blit (s : State) (a : Nat) (b : Bool) : (s.meetError a b).blit = s.blit := (State.meetError_kept (Kept.refl s)).blit_eq
@[simp] theorem State.meetError_scn (s : State) (a : Nat) (b : Bool) : (s.meetError a b).scn = s.scn := (State.meetError_kept (Kept.refl s)).scn_eq
@[simp] theorem State.meetError_gal (s : State) (a : Nat) (b : Bool) : (s.meetError a b).gal = s.gal := (State.meetError_kept (Kept.refl s)).gal_eq
@[simp] theorem State.meetError_heads (s : State) (a : Nat) (b : Bool) : (s.meetError a b).heads = s.heads := (State.meetError_kept (Kept.refl s)).heads_eq
@[simp] theorem State.meetError_lant (s : State) (a : Nat) (b : Bool) : (s.meetError a b).lant = s.lant := (State.meetError_kept (Kept.refl s)).lant_eq
@[simp] theorem State.meetError_fab (s : State) (a : Nat) (b : Bool) : (s.meetError a b).fab = s.fab := (State.meetError_kept (Kept.refl s)).fab_eq
@[simp] theorem State.meetError_dict (s : State) (a : Nat) (b : Bool) : (s.meetError a b).dict = s.dict := (State.meetError_kept (Kept.refl s)).dict_eq
@[simp] theorem State.meetError_lop (s : State) (a : Nat) (b : Bool) : (s.meetError a b).lop = s.lop := (State.meetError_kept (Kept.refl s)).lop_eq
@[simp] theorem State.meetError_fresh (s : State) (a : Nat) (b : Bool) : (s.meetError a b).fresh = s.fresh := (State.meetError_kept (Kept.refl s)).fresh_eq
@[simp] theorem State.meetError_dev (s : State) (a : Nat) (b : Bool) : (s.meetError a b).mem.dev = s.mem.dev := (State.meetError_kept (Kept.refl s)).dev_eq
@[simp] theorem State.meetError_host (s : State) (a : Nat) (b : Bool) : (s.meetError a b).mem.host = s.mem.host := (State.meetError_kept (Kept.refl s)).host_eq
@[simp] theorem State.meetError_wins (s : State) (a : Nat) (b : Bool) : (s.meetError a b).mem.wins = s.mem.wins := (State.meetError_kept (Kept.refl s)).wins_eq

end Sys2Proof.Machine
end

