-- ==== Sys2Proof/Laws/SceneService.lean ====
section
/-!
SUPPORT. The firmware's service of SCENE rings and the source table: what serving an entry does, and what the shared operations
leave of a source.
-/

set_option linter.all false
set_option Elab.async false

namespace Sys2Proof.Machine

/-- The state in which ring `q` is the one served last. -/
def State.servedNow (s : State) (q : Nat) : State := { s with que := { s.que with served := q } }

@[simp] theorem State.ring_servedNow (s : State) (q j : Nat) : (s.servedNow q).ring j = s.ring j := rfl

@[simp] theorem State.mem_servedNow (s : State) (q : Nat) : (s.servedNow q).mem = s.mem := rfl

@[simp] theorem State.granted_servedNow (s : State) (q : Nat) (c : Cls) (w : Bool) (a n : Nat) :
    (s.servedNow q).granted c w a n = s.granted c w a n := State.granted_congr (s := s) (t := s.servedNow q) rfl rfl c w a n

/-- An entry that firmware serves and whose body passes runs its command. -/
theorem State.serveScene_run {s : State} {q op : Nat} {e : Exec} {body : Exec → Option Status} (run : State → Exec → State)
    (h : s.serves q op e) (hb : body e = none) : s.serveScene q op body run = run (s.servedNow q) e := by
  obtain ⟨h1, h2, h3, h4, h5, h6⟩ := h
  unfold State.serveScene
  simp only [h1, h2, h3, h4, h5, hb, h6, bne_self_eq_false, Bool.false_eq_true, ↓reduceIte, Bool.not_true, Bool.or_self]
  rfl

@[simp] theorem State.regCheck_servedNow (s : State) (q : Nat) (b : List Byte) : (s.servedNow q).regCheck b = s.regCheck b := by
  unfold State.regCheck State.regBoundsOk
  simp only [State.granted_servedNow]
  rfl

theorem State.serves_mem {s : State} {q op : Nat} {e : Exec} (h : s.serves q op e) : e ∈ ((s.servedNow q).ring q).inflight :=
  State.running_mem h.1

theorem State.running_opcode {s : State} {q op : Nat} {e : Exec} (h : s.running? q op = some e) : e.opcode = op := by
  unfold State.running? at h
  split at h
  · split at h
    · cases h; assumption
    · cases h
  · cases h

/-- A source but for the state last reported, with what its buffers hold but for CANCEL. -/
def Source.core (x : Source) : Source × (Nat → Nat × Option Nat × Bool) :=
  ({ x with reported := .never, bufs := [] },
    fun b => ((Tbl.get Buf.reset x.bufs b).stamp, (Tbl.get Buf.reset x.bufs b).crc, (Tbl.get Buf.reset x.bufs b).frozen))

/-- What the source table keeps of each source while its state is judged and its frames leave. -/
def State.srcKept (s t : State) : Prop :=
  t.src.arrivals = s.src.arrivals ∧ ∀ id, (t.source? id).map Source.core = (s.source? id).map Source.core

theorem State.srcKept_refl (s : State) : s.srcKept s := ⟨rfl, fun _ => rfl⟩

theorem State.srcKept_trans {s t u : State} (h : s.srcKept t) (k : t.srcKept u) : s.srcKept u :=
  ⟨k.1.trans h.1, fun id => (k.2 id).trans (h.2 id)⟩

theorem State.srcKept_of_src {s t : State} (h : t.src = s.src) : s.srcKept t :=
  ⟨by rw [h], fun id => by unfold State.source?; rw [h]⟩

/-- The source after, from the source before. -/
theorem State.srcKept_find {s t : State} (h : s.srcKept t) {id : Nat} {x : Source} (hx : s.source? id = some x) :
    ∃ y, t.source? id = some y ∧ y.core = x.core := by
  have k := h.2 id
  rw [hx] at k
  rcases ht : t.source? id with _ | y
  · rw [ht] at k; cases k
  · rw [ht] at k; exact ⟨y, rfl, Option.some.inj k⟩

/-- A source replaced by one that differs in what is judged only. -/
theorem State.srcKept_setSource {s : State} {id : Nat} {x y : Source} (hx : s.source? id = some x)
    (h : y.core = x.core) : s.srcKept (s.setSource id y) := by
  refine ⟨rfl, fun j => ?_⟩
  by_cases e : j = id
  · subst e; rw [State.source?_setSource_self, hx]; exact congrArg some h
  · rw [State.source?_setSource_ne s _ e]

theorem State.srcKept_freshEvent (s : State) (e : DevEvent) (a b c : Nat) : s.srcKept (s.freshEvent e a b c) :=
  State.srcKept_of_src (State.freshEvent_kept (Kept.refl s)).src_eq

theorem State.srcKept_updateReported (s : State) (id : Nat) : s.srcKept (s.updateReported id) := by
  unfold State.updateReported
  rcases h : s.source? id with _ | x
  · exact State.srcKept_refl s
  · have k := State.srcKept_setSource (s := s) (y := { x with reported := x.report s.now }) h rfl
    dsimp only
    split
    · exact State.srcKept_trans k (State.srcKept_freshEvent _ _ _ _ _)
    · exact k

theorem State.srcKept_cancelBuffer (s : State) (id b : Nat) : s.srcKept (s.cancelBuffer id b) := by
  unfold State.cancelBuffer
  refine State.srcKept_trans ?_ (State.srcKept_updateReported _ _)
  unfold State.modSource
  rcases h : s.source? id with _ | x
  · exact State.srcKept_refl s
  · refine State.srcKept_setSource h ?_
    unfold Source.core
    refine congrArg _ (funext fun j => ?_)
    by_cases e : j = b
    · subst e; simp [Tbl.modify]
    · simp [Tbl.modify, Tbl.get_set_ne _ _ _ e]

theorem State.srcKept_startFrame (s : State) (id b : Nat) (pub : List Byte) : s.srcKept (s.startFrame id b pub) := by
  unfold State.startFrame
  split
  · exact State.srcKept_refl s
  · extract_lets runs
    split
    · exact State.srcKept_refl s
    · split
      · exact State.srcKept_of_src rfl
      · split
        · refine State.srcKept_trans (State.srcKept_of_src ?_) (State.srcKept_cancelBuffer _ _ _)
          exact (State.countRepeated_kept (Kept.refl s)).src_eq
        · refine State.srcKept_of_src ?_
          rw [(State.sendData_kept (Kept.refl _)).src_eq, (State.sendTree_kept (Kept.refl _)).src_eq]

theorem State.srcKept_egress (s : State) (id b : Nat) (pub : List Byte) : s.srcKept (s.egress id b pub) := by
  unfold State.egress
  split
  · exact State.srcKept_refl s
  · split
    · exact State.srcKept_of_src rfl
    · exact State.srcKept_startFrame s id b pub

end Sys2Proof.Machine
end

