-- ==== Sys2Proof/Machine/Pins.lean ====
section
/-!
DEFINITION. The levels that the block drives on its output balls, computed from its state (R160, R264, R445, R465, R470, R471), and the
code of the JTAG port (R472). The balls that carry other protocols (the flash, PMBus, MDIO and the serial lanes) are driven by
firmware and PHYs, and no rule gives their waveforms.
-/

namespace Sys2Proof.Machine

/-- The interfaces have not started: RESET or BOOT (R445). -/
def State.pinsIdle (s : State) : Bool := s.sys.mode == .reset || s.sys.mode == .boot

/-- SYNC_OUT (R160, R445): low in RESET and BOOT; otherwise at its active level from line 0 of the head named in SyncOutHead for
SyncOutWidth, and at its inactive level while that head is OFF. -/
def State.syncOutPin (s : State) : Bool :=
  let pulse := (s.head (s.cfg 0x1440 2)).state != .off && s.heads.syncOut.any (fun t => decide (s.now < t))
  if s.pinsIdle then false else pulse == s.cfgBool 0x1440 4

/-- GPIO_EV ball `n` (R264, R445, R471): an input, or the level driven while GpioSiphonOutputs makes it a Siphon output. -/
def State.gpioPin (s : State) (n : Nat) : Option Bool :=
  if s.pinsIdle || !bit (s.cfg 0x5801 1) n then none
  else some ((Tbl.find? s.siph.gpioPulses n).any (fun t => decide (s.now < t)))

/-- The DisplayPort main link of a head is in electrical idle (R445, R465): in RESET and BOOT, while its link is not UP and not in
training, and on the odd head of a bonded pair. -/
def State.mainLinkIdle (s : State) (h : Nat) : Bool :=
  s.pinsIdle || s.bondedOdd h || !((s.link h).state == .up || (s.link h).state == .training)

/-- FL_RESET_N (R470): low in RESET, released at reset release. -/
def State.flashResetPin (s : State) : Bool := s.sys.mode != .reset

/-- IDCODE of the JTAG port on revision B (R472): revision, part, manufacturer and the constant 1. -/
def jtagIdcode : Nat := 2 * 2 ^ 28 + 0x7192 * 2 ^ 12 + 0x4D5 * 2 + 1

end Sys2Proof.Machine
end

