-- ==== Sys2Proof/WellFormed.lean ====
section
/-!
DEFINITION. Well-formed commands: the sizes and ranges of a command's operands that its types do not carry. The machine is
total on ill-formed commands too; a well-formed one is what the hardware's own lines can carry.
-/

namespace Sys2Proof

/-- A value of at most `n` bits. -/
def bits (n v : Nat) : Bool := decide (v < 2 ^ n)

/-- An entry's index and subindex (R356). -/
def keyWf (index sub : Nat) : Bool := bits 16 index && bits 8 sub

/-- A payload of one bus request: 1 to 4,096 bytes. -/
def payloadWf (l : List Byte) : Bool := decide (1 ≤ l.length ∧ l.length ≤ 4096)

/-- Three CRCs of 16 bits and the advance of a 4-bit count (R183). -/
def sinkWf (k : SinkCrc) : Bool := bits 4 k.advance && bits 16 k.red && bits 16 k.green && bits 16 k.blue

/-- Lanes of a link: one, two or four (R165). -/
def laneCountWf (n : Nat) : Bool := n == 1 || n == 2 || n == 4

/-- What a sink reports: 16 bytes of DPCD, a rate code and a number of lanes (R178). -/
def capsWf (k : SinkCaps) : Bool :=
  decide (k.dpcd.length = 16) && decide (k.edid.length ≤ 512) && bits 8 k.rateMax && laneCountWf k.lanesMax

/-- The result of an attempt that trained. -/
def trainedWf (r : Option Trained) : Bool := r.elim true (fun t => bits 8 t.rate && laneCountWf t.lanes)

/-- What the scrubber finds lies in the address space, spares included (R208). -/
def findWf (f : ScrubFind) : Bool :=
  match f with
  | .corrected a => bits 35 a
  | .uncorrectable a => bits 35 a

/-- A line of a destination rectangle. -/
def blitWf (e : BlitEvent) : Bool :=
  match e with
  | .none => true
  | .parity n => bits 16 n
  | .readFails n => bits 16 n
  | .stagingFails => true

/-- Lanes named once each. -/
def lanesWf (l : List (Fin 4)) : Bool := decide l.Nodup

/-- The header fields of a LOP request (R362). -/
def ctxWf (c : LopCtx) : Bool := bits 8 c.generation && bits 32 c.session && bits 16 c.requestId && bits 16 c.target

/-- The payload of a fabric message: whole flits of at most 19 (R300, R375). -/
def msgWf (m : Msg) : Bool := decide (1 ≤ m.payload.length ∧ m.payload.length ≤ 4864)

/-- Engines, galleries, units and granules that exist (R444). -/
def testWf (k : SelfTest) : Bool :=
  k.engines.all (fun p => decide (p.1 < 12 ∧ p.2 < 17)) && k.galleries.all (fun g => decide (g < 12))
    && k.blitUnits.all (fun u => decide (u < 4)) && k.granules.all (fun g => bits 19 g)

/-- A BAR2 size that the Resizable BAR capability offers (R211). -/
def cfgWf (w : CfgWrite) : Bool :=
  match w with
  | .msixEnable _ => true
  | .functionMask _ => true
  | .busMaster _ => true
  | .relaxedOrdering _ => true
  | .power _ => true
  | .bar2Size n => decide (28 ≤ n ∧ n ≤ 35)

/-- An offset of the servo, 64 bits signed (R311). -/
def ptpWf (e : PtpEvent) : Bool :=
  match e with
  | .announce => true
  | .sync o => decide (-(2 ^ 63) ≤ o ∧ o < 2 ^ 63)
  | .lost => true

/-- One of the eight associations, and an IPv4 peer (R373). -/
def dtlsWf (e : DtlsEvent) : Bool :=
  match e with
  | .established a ip port _ => decide (a < 8) && bits 32 ip && bits 16 port
  | .ended a => decide (a < 8)

/-- A well-formed command. -/
def Instr.wellFormed (i : Instr) : Bool :=
  match i with
  | .registerSource _ => true
  | .withdrawSource _ => true
  | .withdrawalComplete _ => true
  | .publish _ => true
  | .querySource _ => true
  | .checkScene _ ns => bits 32 ns
  | .commitScene _ ns => bits 32 ns
  | .queryScene _ => true
  | .pad _ => true
  | .nop _ => true
  | .lopExchange _ => true
  | .admission => true
  | .sourceStateCheck => true
  | .frameStart _ k => sinkWf k
  | .latch _ => true
  | .commitAhead _ => true
  | .bandCompositionStart _ => true
  | .tileTake _ _ => true
  | .tileWrite _ _ _ => true
  | .bandDrain _ _ => true
  | .uncorrectableRead _ a _ => bits 64 a
  | .galleryFault _ => true
  | .galleryReturn _ => true
  | .sceneRecheck => true
  | .echoPartDone _ _ _ => true
  | .regionVerdict _ _ => true
  | .logWriteDone => true
  | .wbFrameDone _ => true
  | .wbCapture _ => true
  | .headResume _ => true
  | .syncInEdge => true
  | .syncInLost => true
  | .hpdUnplug _ => true
  | .hpdPlug _ k => capsWf k
  | .irqHpd _ _ => true
  | .trainingAttemptEnd _ r => trainedWf r
  | .trainingTimeout _ => true
  | .trainingRetry _ => true
  | .linkReenable _ => true
  | .memWinControlWrite _ _ v => bits 32 v
  | .memWinsync _ => true
  | .bar2Write o d => bits 35 o && payloadWf d
  | .bar2Read o n => bits 35 o && decide (1 ≤ n ∧ n ≤ 4096)
  | .scrubPass l => l.all findWf
  | .correctedRewrite a => bits 35 a
  | .granuleRemap => true
  | .doorbell _ _ i p w => bits 3 i && bits 16 p && decide (w.length ≤ 64)
  | .cqconsWrite _ _ i _ => bits 16 i
  | .entryRead _ _ => true
  | .entryRetire _ _ => true
  | .sumpDrain _ => true
  | .ringEnable _ _ => true
  | .ringDisable _ _ => true
  | .ringStop _ _ => true
  | .ringResume _ _ => true
  | .restart _ _ => true
  | .haltingFieldWrite _ _ v => bits 64 v
  | .functionLevelReset _ => true
  | .sgCopy _ => true
  | .siphonFill _ => true
  | .crc _ => true
  | .siphonPublish _ => true
  | .wait _ => true
  | .waitTimeout _ => true
  | .signal _ => true
  | .fence _ => true
  | .descriptorRetire _ => true
  | .siphonBusError _ a l => bits 64 a && !l.isEmpty
  | .siphonRestart => true
  | .reenable _ _ => true
  | .waitSourcePulse _ => true
  | .copy _ e => blitWf e
  | .fill _ e => blitWf e
  | .convert _ e => blitWf e
  | .transform _ e => blitWf e
  | .blitUnitTake _ => true
  | .flitReceive _ l => decide (l.length = 256)
  | .bringUpStart _ l => lanesWf l
  | .bringUpTimeout _ => true
  | .bringUpRetry _ l => lanesWf l
  | .portReenable _ _ => true
  | .ident m => msgWf m
  | .linkStatus m => msgWf m
  | .linkStatusTick => true
  | .timeSync _ a b c d => bits 64 a && bits 64 b && bits 64 c && bits 64 d
  | .timeSyncTick => true
  | .timeSyncTimeout => true
  | .ppsEdge => true
  | .routeUpdate m => msgWf m
  | .linkDown _ => true
  | .wallFrameTick => true
  | .heartbeat m => msgWf m
  | .summary m => msgWf m
  | .summarySend => true
  | .coordinatorTimeout => true
  | .takeOffice => true
  | .offer m => msgWf m
  | .gatherTimeout => true
  | .prepare m => msgWf m
  | .answer m => msgWf m
  | .decisionDeadline => true
  | .decision m => msgWf m
  | .registry m => msgWf m
  | .subscribe m => msgWf m
  | .unsubscribe m => msgWf m
  | .streamStart _ m => msgWf m
  | .streamData _ m => msgWf m
  | .streamFrameSent _ => true
  | .isolation => true
  | .domainEntryApply => true
  | .modeRequest c v => ctxWf c && bits 8 v
  | .modeBoundary => true
  | .gallerySelfTest g _ => bits 8 g
  | .read c i j f => ctxWf c && keyWf i j && bits 8 f
  | .write c i j v => ctxWf c && keyWf i j && decide (v.length + 4 ≤ 65520)
  | .describe c i j => ctxWf c && keyWf i j
  | .segReadStart c i j f => ctxWf c && keyWf i j && bits 8 f
  | .segRead c t o n => ctxWf c && bits 32 t && bits 32 o && bits 32 n
  | .segWriteStart c i j n => ctxWf c && keyWf i j && bits 32 n
  | .segWrite c t o _ l => ctxWf c && bits 32 t && bits 32 o && decide (l.length + 12 ≤ 65520)
  | .segCancel c t => ctxWf c && bits 32 t
  | .transferTimeout t => bits 32 t
  | .coefficientSetLoaded => true
  | .sessionOpen c l => ctxWf c && bits 8 l
  | .sessionProve c m => ctxWf c && decide (m.length = 48)
  | .sessionClose c => ctxWf c
  | .keepalive c => ctxWf c
  | .sessionTimeout i => bits 32 i
  | .lopWindowGo _ => true
  | .lopWindowDone => true
  | .lopForwardResponse r => decide (16 ≤ r.length ∧ r.length ≤ 65536)
  | .forwardTimeout i => bits 16 i
  | .storeNow => true
  | .autoStore => true
  | .storeDone _ => true
  | .readClear _ o n => bits 26 o && decide (1 ≤ n ∧ n ≤ 4096)
  | .registerWrite _ o n v => bits 26 o && decide (1 ≤ n ∧ n ≤ 4096) && bits (8 * n) v
  | .parityScrub l => l.all (fun o => bits 26 o)
  | .parityRestore o => bits 26 o
  | .devReset _ v => bits 32 v
  | .eventOccurrence _ => true
  | .levelFall _ => true
  | .pendingSet _ _ v => bits 32 v
  | .pendingClear _ _ v => bits 32 v
  | .eventEnableWrite _ _ _ v => bits 32 v
  | .eoi _ _ v => bits 32 v
  | .evcSourceWrite _ _ v => bits 32 v
  | .groupRelease _ => true
  | .messageIssue => true
  | .coreAccept _ => true
  | .sensorRead l => decide (l.length = 24) && l.all (fun x => decide (-32768 ≤ x ∧ x < 32768))
  | .lampEvaluation p => p.elim true (fun v => bits 16 v)
  | .lifeEvaluation => true
  | .vcoreStep m _ => bits 16 m
  | .thermalTrip => true
  | .healthRecordAppend _ => true
  | .lockstepFault _ => true
  | .coreRestartDone _ => true
  | .powerOnReset => true
  | .supplyMonitorTrip => true
  | .perst => true
  | .pcieReset => true
  | .resetRelease _ => true
  | .fwReady _ k => testWf k
  | .bootEnd => true
  | .bootWatchdog => true
  | .refClockLost => true
  | .refClockRestored => true
  | .imageActivate c => ctxWf c
  | .imageConfirm c => ctxWf c
  | .confirmDelay => true
  | .rollbackAdvance c v => ctxWf c && bits 16 v
  | .recoveryStart _ => true
  | .recoveryChunk _ => true
  | .recoveryFinish _ => true
  | .deviceReset => true
  | .pcieResetEnd => true
  | .configurationWrite _ w => cfgWf w
  | .ptpMessage e => ptpWf e
  | .blockAlignment _ l => lanesWf l
  | .dtlsHandshake e => dtlsWf e
  | .testEn _ => true
  | .extest _ => true

end Sys2Proof
end

