-- ==== Sys2Proof/Tests/Slice0.lean ====
section
/-!
SUPPORT. The tests of the model: for every obligation a state and operands that meet its hypotheses (witness_…), the checks of
well-formedness, and worked examples of the specification (test_…).
-/

set_option maxRecDepth 4000
set_option Elab.async false

namespace Sys2Proof.Tests
open Sys2Proof Sys2Proof.Machine

/-- A running device: OPERATE, firmware ready, wall time 1000 s, one device window and one host window that grant everything. -/
def up : State :=
  { State.reset with
    sys := { State.reset.sys with mode := .operate, working := .operate, fwReady := true, wall := 1000000000000 },
    mem := { State.reset.mem with wins := [(0, { Win.reset with rights := 4095, enable := true, sizeF := 2 ^ 20 }),
                                           (1, { Win.reset with rights := 255, enable := true, hostF := true, sizeF := 2 ^ 20 })] } }

/-- An entry in execution. -/
def entry (op : Nat) (body : List Byte) (p : Phase) : Exec :=
  { pos := 0, len := 1, tag := 7, opcode := op, flags := 0, fence := false, notify := false, body := body, phase := p, began := 0, aux := [] }

/-- `up` with ring `q` of class `cls` enabled and running with some entries in execution. -/
def ringUp (q cls : Nat) (l : List Exec) (s : State) : State :=
  s.modRing q (fun r => { r with enable := true, state := .running, cfg := { r.cfg with cls := cls }, force := { r.force with cls := cls },
                                 inflight := l })

/-- A header word in memory: OWN, LENGTH 1 and an opcode. -/
def putWord (a w : Nat) (s : State) : State := s.devWrite a (leBytes 4 w)

/-- EntriesFinishAndRetire: an entry of a PAD and of a NOP; a finished entry; a record in the Sump. -/
theorem witness_entriesFinishAndRetire :
    ((ringUp 70 0 [entry 0 [] .waiting] up).running? 70 0x00).isSome = true ∧ ((ringUp 70 0 [entry 1 [] .waiting] up).running? 70 0x01).isSome = true
    ∧ (let s := ringUp 70 0 [entry 1 (leBytes 16 1) (.finished .ok 0)] up
       let r := s.ring 70
       r.force.cls ≠ ringSiphon ∧ r.cqFull = false ∧ r.inflight = [entry 1 (leBytes 16 1) (.finished .ok 0)] ∧ r.sump = []
         ∧ s.granted .priv true (r.force.sqBase + 16 * 0) 4 = true ∧ s.granted .priv true (r.force.cqBase + 16 * r.prodIdx) 16 = true) := by
  decide +kernel

/-- DoorbellPage: the owner's doorbell of an idle ring, its CQCONS, and the doorbell of another function. -/
theorem witness_doorbellPage :
    (let s := ringUp 70 0 [] up
     s.hostUp .pf0 = true ∧ (s.ring 70).cfg.owner = .pf0 ∧ (s.ring 70).state ≠ .disabled
       ∧ (0 : Nat) < (s.ring 70).cqSize ∧ ((s.ring 70).prodWrap = false → 0 ≤ (s.ring 70).prodIdx)
       ∧ cqUsed (s.ring 70).cqSize (s.ring 70).prodIdx 0 (s.ring 70).prodWrap false ≤ (s.ring 70).used)
    ∧ up.hostUp .pf1 = true ∧ (up.ring 70).cfg.owner ≠ .pf1 ∧ (up.ring 70).state = .disabled := by
  decide +kernel

/-- A ring that is enabled and HALTED by a fault of its own. -/
def haltedRing : State := (ringUp 70 0 [] up).modRing 70 (fun r => { r with state := .halted, haltCode := 3 })

/-- RingsAreControlled: enabling, refusing, disabling, stopping, resuming and restarting a ring, and a function reset. -/
theorem witness_ringsAreControlled :
    (up.hostUp .pf0 = true ∧ up.ringReach .pf0 70 = true ∧ up.sys.parityBad = [] ∧ up.refusedChannel 70 = false
      ∧ (up.ring 70).enable = false ∧ (up.ring 70).state = .disabled ∧ up.enableCheck (up.ring 70).cfg = none)
    ∧ (let s := up.modRing 70 (fun r => { r with cfg := { r.cfg with sqBase := 8 } })
       s.enableCheck (s.ring 70).cfg = some .format ∧ (s.ring 70).enable = false ∧ (s.ring 70).state = .disabled)
    ∧ (let r := (ringUp 70 0 [] up).ring 70
       r.inflight = [] ∧ r.sump = [] ∧ r.enable = true ∧ r.cqFull = false ∧ r.state ≠ .disabled ∧ r.state ≠ .halted)
    ∧ (let r := ((ringUp 70 0 [] up).modRing 70 (fun r => { r with stop := true, state := .stopped })).ring 70
       r.sump = [] ∧ r.enable = true ∧ r.cqFull = false ∧ r.stop = true ∧ r.state ≠ .disabled ∧ r.state ≠ .halted)
    ∧ (let r := haltedRing.ring 70
       haltedRing.refusedChannel 70 = false ∧ r.state = .halted ∧ r.byField = false ∧ r.force.cls ≠ ringSiphon ∧ r.sump = []
         ∧ r.inflight = [] ∧ r.enable = true ∧ r.stop = false ∧ r.cqFull = false)
    ∧ up.sys.mode ≠ .reset ∧ up.sys.pcieReset = false ∧ up.sys.fwReady = true := by
  decide +kernel

/-- EntryReadTakes: empty memory at HEAD; a header with an opcode that the ring does not accept; a NOP of one unit. -/
theorem witness_entryReadTakes :
    (let s := ringUp 70 0 [] up
     s.mayRead 70 = true ∧ (s.ring 70).inline = [] ∧ s.granted .priv false 0 16 = true ∧ s.busBad 0 16 = none
       ∧ hdrOwn (getLE (s.busRead 0 16) 0 4) = false)
    ∧ (let s := putWord 0 0x800100EE (ringUp 70 0 [] up)
       let w := getLE (s.busRead 0 16) 0 4
       s.mayRead 70 = true ∧ s.busBad 0 16 = none ∧ hdrOwn w = true ∧ headerOk 0 0 64 w (s.busRead 0 16) = false)
    ∧ (let s := putWord 0 0x80010001 (ringUp 70 0 [] up)
       let w := getLE (s.busRead 0 16) 0 4
       s.mayRead 70 = true ∧ s.busBad 0 16 = none ∧ hdrOwn w = true ∧ headerOk 0 0 64 w (s.busRead 0 16) = true
         ∧ bit (getLE (s.busRead 0 (16 * hdrLen w)) 0 4) 30 = false ∧ (s.ring 70).force.cls ≠ ringBlit
         ∧ s.granted .priv false 0 (16 * hdrLen w) = true ∧ s.busBad 0 (16 * hdrLen w) = none) := by
  decide +kernel

/-- A registration record (R36) of source 5: ARGB8888, 64 pixels by 2 lines, one buffer at 0x10000, deadline 1 s. -/
def regRecord (flags : Nat) : List Byte :=
  leBytes 2 5 ++ [0#8, byte flags, 1#8, 1#8, 0#8, 0#8] ++ leBytes 2 64 ++ leBytes 2 2 ++ leBytes 4 256 ++ leBytes 8 0x10000 ++ leBytes 40 0
    ++ leBytes 4 1000000 ++ leBytes 4 0 ++ leBytes 2 0 ++ leBytes 6 0

/-- A SCENE ring with a REGISTER_SOURCE in execution. -/
def registering (flags : Nat) (s : State) : State := ringUp 70 0 [entry 0x20 (leBytes 16 0 ++ regRecord flags) .waiting] s

/-- The source that the record gives, as registered. -/
def source5 : Source :=
  { reg := Reg.ofBytes (regRecord 0), withdrawn := false, cur := none, bufs := [], lastCrc := none, repeats := 0, rejects := 0, conflicts := 0,
    pubs := 0, reported := .never, replicas := [] }

/-- An entry waits on ring 70 for firmware, which serves it now. -/
def servesNow (s : State) (op : Nat) (e : Exec) : Bool :=
  s.running? 70 op == some e && e.phase == .waiting && !s.bothCoresRetired && s.sceneTurn == some 70 && s.coreUp 0 && sceneAllowed s.sys.mode op

/-- RegistrationsComeAndGo: a new source, a replacement, a refused record, a withdrawal and its end. -/
theorem witness_registrationsComeAndGo :
    (let s := registering 0 up
     servesNow s 0x20 (entry 0x20 (leBytes 16 0 ++ regRecord 0) .waiting) = true ∧ regReservedOk (regRecord 0) = true
       ∧ s.regCheck (regRecord 0) = none ∧ (Reg.ofBytes (regRecord 0)).home = s.ownAddress ∧ s.source? 5 = none)
    ∧ (let s := registering 16 (up.setSource 5 source5)
       servesNow s 0x20 (entry 0x20 (leBytes 16 0 ++ regRecord 16) .waiting) = true
       ∧ s.regCheck (regRecord 16) = none ∧ recordReplace (regRecord 16) = true ∧ s.source? 5 = some source5)
    ∧ (registering 16 up).regCheck (regRecord 16) = some .state
    ∧ (let s := ringUp 70 0 [entry 0x21 (leBytes 8 0 ++ leBytes 8 5) .waiting] (up.setSource 5 source5)
       servesNow s 0x21 (entry 0x21 (leBytes 8 0 ++ leBytes 8 5) .waiting) = true ∧ s.source? 5 = some source5
         ∧ source5.withdrawn = false ∧ source5.reg.home = s.ownAddress)
    ∧ (let e := { entry 0x21 (leBytes 8 0 ++ leBytes 8 5) .running with aux := [1] }
       let s := ringUp 70 0 [e] (up.setSource 5 { source5 with withdrawn := true })
       s.running? 70 0x21 = some e ∧ s.bandHolds 5 = [] ∧ Tbl.find? s.fab.tx 5 = none) := by
  decide +kernel

/-- A publication of source 5's buffer 0. -/
def pub5 (flags : Nat) : List Byte := leBytes 2 5 ++ [0#8, byte flags] ++ leBytes 12 0

/-- PublicationsAreAdmitted: a PUBLISH that is handed over and one of a record that is not well formed; one to admit, one to refuse at
step 1, and one whose stamp is not later. -/
theorem witness_publicationsAreAdmitted :
    (let e := entry 0x22 (leBytes 16 0 ++ pub5 0) .waiting
     let s := ringUp 70 0 [e] (up.setSource 5 source5)
     s.running? 70 0x22 = some e ∧ s.publishRefusal e = none)
    ∧ (let e := entry 0x22 (leBytes 16 0 ++ pub5 4) .waiting
       let s := ringUp 70 0 [e] (up.setSource 5 source5)
       s.running? 70 0x22 = some e ∧ s.publishRefusal e = some .format)
    ∧ (let p : Pub := { raw := pub5 0, path := .host 70, at_ := 0 }
       let s := up.setSource 5 source5
       s.pubStep1 p = none ∧ s.source? (pubId p.raw) = some source5 ∧ source5.cur = none
         ∧ s.pubStep1 { p with raw := pub5 4 } = some .format)
    ∧ (let p : Pub := { raw := pub5 0, path := .host 70, at_ := 0 }
       let x := { source5 with cur := some 0, bufs := [(0, { Buf.reset with stamp := 2 ^ 60 })] }
       let s := up.setSource 5 x
       s.pubStep1 p = none ∧ s.source? 5 = some x
         ∧ (pubStampAt p x.reg.stampDevice s.now).1 ≤ (Tbl.get Buf.reset x.bufs 0).stamp) := by
  decide +kernel

/-- QueriesAndStates: a query of a registered source, of one that is not, and to an address that no window grants; a query of heads. -/
theorem witness_queriesAndStates :
    (let e := entry 0x23 (leBytes 8 0 ++ leBytes 8 5 ++ leBytes 8 0x4000 ++ leBytes 8 0) .waiting
     let s := ringUp 70 0 [e] (up.setSource 5 source5)
     servesNow s 0x23 e = true ∧ queryBodyOk e = true ∧ s.granted (s.ringCls 70) true 0x4000 24 = true ∧ s.source? 5 = some source5
       ∧ (ringUp 70 0 [e] up).source? 5 = none ∧ servesNow (ringUp 70 0 [e] up) 0x23 e = true)
    ∧ (let e := entry 0x23 (leBytes 8 0 ++ leBytes 8 5 ++ leBytes 8 0x7_0000_0000 ++ leBytes 8 0) .waiting
       let s := ringUp 70 0 [e] up
       servesNow s 0x23 e = true ∧ queryBodyOk e = true ∧ s.granted (s.ringCls 70) true 0x7_0000_0000 24 = false)
    ∧ (let e := entry 0x32 (leBytes 8 0 ++ leBytes 8 3 ++ leBytes 8 0x4000 ++ leBytes 8 0) .waiting
       let s := ringUp 70 0 [e] up
       servesNow s 0x32 e = true ∧ queryBodyOk e = true ∧ s.granted (s.ringCls 70) true 0x4000 64 = true)
    ∧ (let e := entry 0x32 (leBytes 8 0 ++ leBytes 8 3 ++ leBytes 8 0x7_0000_0000 ++ leBytes 8 0) .waiting
       let s := ringUp 70 0 [e] up
       servesNow s 0x32 e = true ∧ queryBodyOk e = true ∧ s.granted (s.ringCls 70) true 0x7_0000_0000 64 = false) := by
  decide +kernel

/-- A scene descriptor of a header alone: generation 2, a head mask and an epoch. -/
def sceneBytes (mask epoch : Nat) : List Byte :=
  let h (crc : Nat) : List Byte := [2#8, 0#8] ++ leBytes 2 mask ++ leBytes 4 epoch ++ leBytes 4 32 ++ leBytes 4 0 ++ leBytes 4 0 ++ leBytes 4 crc ++ leBytes 8 0
  h (crc32c (h 0))

/-- A scene command of descriptor address `a` and length `n` in execution on ring 70. -/
def sceneEntry (op a n : Nat) : Exec :=
  { entry op (leBytes 16 0 ++ leBytes 8 a ++ leBytes 4 n ++ leBytes 4 0 ++ leBytes 16 0) .waiting with len := 3 }
def sceneCmd (op a n : Nat) (s : State) : State := ringUp 70 0 [sceneEntry op a n] s

/-- `up` with head 0 running and enabled. -/
def headUp : State :=
  State.modHead { up with dict := { up.dict with base := [(dkey 0x4000 14, [1#8])], force := [(dkey 0x4000 14, [1#8])] } } 0
    (fun x => { x with state := .active, counted := true })

/-- The served ring is noted, as the statements on scenes have it. -/
def served70 (s : State) : State := { s with que := { s.que with served := 70 } }

/-- How the scene that `e` names is judged: whether it reads, and which of rows 5 to 8 fail. -/
def judged (s : State) (e : Exec) : Option (List Bool) :=
  match (served70 s).readScene 70 e with
  | (u, .ok sc) => some [(u.row5 sc).isSome, (u.row6 sc).isSome, (u.row7 sc).isSome, (u.row8 e sc).isSome]
  | (_, .error _) => none

/-- Memory at 0x8000 holds the descriptor of a scene of head 0. -/
def sceneAt (s : State) : State := s.devWrite 0x8000 (sceneBytes 1 5)

/-- `headUp` with every gallery retired. -/
def noGalleries : State := headUp.forEach (List.range 12) (fun s g => s.modGallery g (fun x => { x with retired := true }))

/-- CheckSceneJudges and CommitSceneAccepts: a body with a reserved field that is not zero; a descriptor that fails; row 6 fails; row 7
fails; every row passes. -/
theorem witness_scenes (op : Nat) (h : op = 0x30 ∨ op = 0x31) :
    (let e := { sceneEntry op 0x8000 32 with body := leBytes 16 0 ++ leBytes 8 0x8000 ++ leBytes 4 32 ++ leBytes 4 2 ++ leBytes 16 0 }
     let s := ringUp 70 0 [e] headUp
     servesNow s op e = true ∧ (sceneBody e).isSome = true ∧ s.gal.coefPending = [] ∧ s.coherent = false)
    ∧ (let e := sceneEntry op 0x8000 32
       let s := sceneCmd op 0x8000 32 headUp
       servesNow s op e = true ∧ sceneBody e = none ∧ judged s e = none)
    ∧ (let e := sceneEntry op 0x8000 32
       let s := sceneCmd op 0x8000 32 (sceneAt up)
       servesNow s op e = true ∧ sceneBody e = none ∧ (judged s e).map (fun l => l.take 2) = some [false, true])
    ∧ (let e := sceneEntry op 0x8000 32
       let s := sceneCmd op 0x8000 32 (sceneAt noGalleries)
       servesNow s op e = true ∧ sceneBody e = none ∧ (judged s e).map (fun l => l.take 3) = some [false, false, true])
    ∧ (let e := sceneEntry op 0x8000 32
       let s := sceneCmd op 0x8000 32 (sceneAt headUp)
       servesNow s op e = true ∧ sceneBody e = none ∧ judged s e = some [false, false, false, false] ∧ s.gal.coefPending = [] ∧ s.coherent = false) := by
  rcases h with rfl | rfl <;> decide +kernel

/-- The scene of head 0 alone, without layers, of epoch `n`. -/
def scene0 (n : Nat) : Scene := { generation := 2, mask := 1, epoch := n, layers := [], regions := [], heads := [], colours := [], tones := [] }

/-- Head 0 running with a scene pending for frame `target`. -/
def pending0 (target : Nat) : State :=
  headUp.modHead 0 (fun x => { x with pend := some (scene0 5), pendEpoch := 5, target := target, frame := 7 })

/-- LatchTakesPending: a scene that is due at the latch, one that is not, and the event of a head that is not OFF. -/
theorem witness_latchTakesPending :
    (let x := (pending0 8).head 0
     x.runs = true ∧ x.latched = false ∧ x.pend.isSome = true ∧ x.dueAt = true)
    ∧ (let x := (pending0 99).head 0
       x.runs = true ∧ x.latched = false ∧ (x.pend.isSome && x.dueAt) = false ∧ x.state ≠ .off)
    ∧ headUp.sys.autoCause = none ∧ headUp.sys.working ≠ .standby := by
  decide +kernel

/-- A sink of four lanes at the lowest rate. -/
def sink0 : SinkCaps := { dpcd := [], edid := [], rateMax := 5, lanesMax := 4, dsc := false, fec := true, testCrc := false }

/-- Head 0's link in a state, with a sink. -/
def linked (st : Link) (s : State) : State := s.modLink 0 (fun l => { l with state := st, sink := some sink0, auxOn := true })

/-- SinkPlugging: a link that has a sink, one that has none, and an IRQ_HPD during an attempt, on a link that is not UP, and on one
that the sink lost. -/
theorem witness_sinkPlugging :
    headUp.hpdRead 0 = true ∧ ((linked .up headUp).link 0).state ≠ .noSink ∧ (headUp.link 0).sink = none
    ∧ ((linked .training headUp).link 0).state = .training ∧ ((linked .down headUp).link 0).state ≠ .training
    ∧ ((linked .up headUp).link 0).state = .up ∧ ((linked .up headUp).link 0).auxOn = true
    ∧ ((linked .up headUp).link 0).sink.isSome = true := by
  decide +kernel

/-- LinkTraining: an attempt of a configuration of the sink; one that fails for the first and for the fifth time; one 300 ms old; a
retry that is due; a retired link. -/
theorem witness_linkTraining :
    (let s := linked .training headUp
     (s.link 0).state = .training ∧ (s.link 0).sink = some sink0 ∧ (s.linkConfigs 0 sink0).contains { rate := 5, lanes := 4 } = true
       ∧ (s.link 0).irqWaits = none ∧ (s.link 0).attemptAt + 300000000 ≤ s.now
       ∧ ((s.link 0).failTimes.filter (fun t => decide (s.now ≤ t + 2000000000)) ++ [s.now]).length = 1)
    ∧ (let s := (linked .training headUp).modLink 0 (fun l => { l with failTimes := List.replicate 4 1000000000000 })
       ((s.link 0).failTimes.filter (fun t => decide (s.now ≤ t + 2000000000)) ++ [s.now]).length = 5)
    ∧ (let s := (linked .down headUp).modLink 0 (fun l => { l with retryAt := some 0 })
       (s.link 0).retryAt = some 0 ∧ 0 ≤ s.now ∧ s.wantsLink 0 = true ∧ (s.link 0).sink = some sink0)
    ∧ ((linked .retired up).link 0).state = .retired ∧ (linked .retired up).wantsLink 0 = false := by
  decide +kernel

/-- Head 0 locked to SYNC_IN at 60 frames a second. -/
def genlocked : State := headUp.modHead 0 (fun x => { x with timing := { x.timing with genlock := 1, num := 60, den := 1 } })

/-- HeadsFollowTheirClocks: a head that locks to SYNC_IN, before its first edge and long after its start; a running head at its line 0;
a head that is OFF. -/
theorem witness_headsFollowTheirClocks :
    (let x := genlocked.head 0
     x.onSyncIn = true ∧ genlocked.heads.syncLast = none
       ∧ 2 * x.timing.den * 1000000000 ≤ (genlocked.now - genlocked.heads.syncLast.getD x.startAt) * x.timing.num)
    ∧ (let x := headUp.head 0
       x.onSyncIn = false ∧ x.runs = true ∧ x.timing.bond = false ∧ x.next ≠ some .off ∧ x.restart = false)
    ∧ (up.head 0).runs = false ∧ (up.head 0).timing.bond = false := by
  decide +kernel

/-- The state that a command answers. -/
def after (c : Instr) (s : State) : State :=
  match exec c s with
  | .next t => t
  | _ => s

/-- A layer of source 5 at the origin of head 0, 64 by 2 pixels, unscaled. -/
def layer5 : Layer :=
  { id := 1, head := 0, cls := 1, z := 1, src := 5, blend := 0, band := true, opaq := true, zero := false, alpha := 0xFFFF,
    dst := { x0 := 0, y0 := 0, x1 := 64, y1 := 2 }, mark := { x0 := 0, y0 := 0, x1 := 0, y1 := 0 }, cropX := 0, cropY := 0, cropW := 64, cropH := 2,
    stepH := 65536, stepV := 65536, initH := 0, initV := 0, coefH := 0, coefV := 0, colour := 0, tone := 0, key := { r := 0, g := 0, b := 0 },
    offset := 32 }

/-- Head 0 at 128 by 16 pixels, showing a layer of source 5, whose buffer 0 is published. -/
def showing : State :=
  (headUp.setSource 5 { source5 with cur := some 0, bufs := [(0, { Buf.reset with stamp := 1000000000000 })] }).modHead 0
    (fun x => { x with timing := { x.timing with hActive := 128, vActive := 16, num := 60, den := 1 }, frame := 7,
                       cur := some { scene0 5 with layers := [layer5] } })

/-- Its band 0 has begun. -/
def composing : State := after (.bandCompositionStart 0) showing

/-- The gallery that has it. -/
def galleryOf (s : State) : Fin 12 := Fin.ofNat 12 (((s.band? 0 7 0).map (fun b => b.gallery)).getD 0)

/-- One of its tiles is in hand. -/
def composed : State := after (.tileTake (galleryOf composing) 0) composing

/-- BandsAreComposedAndDrained: a band to begin; a tile to take, and one whose layer lies in a bad block; bands to drain: of a head that
is IDLE, one not composed in time, and one that was. -/
theorem witness_bandsAreComposedAndDrained :
    (let x := showing.head 0
     x.runs = true ∧ x.nextBand < x.bandCount ∧ (showing.composingState 0).composes = true)
    ∧ (let y := composing.gallery (galleryOf composing)
       y.inService = true ∧ y.gated = false ∧ y.engineActive 0 = true ∧ y.jobs.any (fun j => j.engine == 0) = false
         ∧ (composing.nextTile (galleryOf composing) 0).any (fun p => (composing.tileBad p.1 p.2.1 p.2.2).isNone) = true)
    ∧ (let s := { composing with mem := { composing.mem with poisoned := [blockOf 0x10000] } }
       (s.nextTile (galleryOf composing) 0).any (fun p => (s.tileBad p.1 p.2.1 p.2.2).isSome) = true)
    ∧ (let x := showing.head 0
       x.state ≠ .off ∧ x.state ≠ .idle ∧ x.state ≠ .halted ∧ x.counted = true ∧ x.nextDrain < x.bandCount
         ∧ showing.band? 0 x.frame x.nextDrain = none)
    ∧ ((showing.modHead 0 (fun x => { x with state := .idle })).head 0).state = .idle
    ∧ (((composing.modBand 0 7 0 (fun b => { b with finished := true })).band? 0 7 0).any (fun b => b.finished && !b.abandon)) = true := by
  decide +kernel

/-- GalleriesWriteAndFail: a tile whose checks pass and one whose checks fail, and an engine's first fault; a gallery's first fault, one
within a second, and a return. -/
theorem witness_galleriesWriteAndFail :
    (let g := galleryOf composing
     ((composed.gallery g).jobs.find? (fun j => j.engine == 0)).any (fun j => (composed.band? j.head j.frame j.band).any (fun b => !b.abandon)) = true
       ∧ Tbl.find? (composed.gallery g).engFaults 0 = none ∧ (composed.gallery g).retired = false ∧ (composed.gallery g).excluded = false
       ∧ (composed.gallery g).lastShared = none)
    ∧ (let y := ((up.modGallery 0 (fun x => { x with lastShared := some 1000000000000, faultOut := true })).gallery 0)
       y.retired = false ∧ y.excluded = false ∧ y.lastShared = some 1000000000000 ∧ up.now ≤ 1000000000000 + 1000000000 ∧ y.faultOut = true) := by
  decide +kernel

/-- A region of head 0 that EXPECTs a constant (1) or is not checked (0). -/
def region0 (expect expected : Nat) : Machine.Region :=
  { id := 0, head := 0, expect := expect, policy := 0, x0 := 0, y0 := 0, x1 := 64, y1 := 8, expected := expected, onSame := false, offset := 32 }

/-- Head 0 shows a region whose CRC is final. -/
def judging (r : Machine.Region) : State :=
  (showing.modHead 0 (fun x => { x with shownScene := some { scene0 5 with regions := [r] } })).modRegion 0 0 (fun x => { x with final := true })

/-- Echo has one part of head 0 outstanding, of a scene that holds the region or does not. -/
def echoing (l : List Machine.Region) : State :=
  { showing with lant := { showing.lant with
      parts := ((composing.band? 0 7 0).map (fun b => (0, { frame := 7, region := 0, band := 0 },
                 { b with scene := some { scene0 5 with regions := l } }))).toList } }

/-- LanternJudges: a region whose CRC is final that matches and one that does not; a part of Echo whose scene no longer holds its region,
and one whose layers read. -/
theorem witness_lanternJudges :
    (let s := judging (region0 0 0)
     (s.region 0 0).final = true ∧ (s.regionsOf 0).find? (fun r => r.id == 0) = some (region0 0 0)
       ∧ (s.verdict 0 (region0 0 0) (s.region 0 0)).1 ≠ 2 ∧ s.lant.analysis = none)
    ∧ (let s := judging (region0 1 5)
       (s.region 0 0).final = true ∧ (s.regionsOf 0).find? (fun r => r.id == 0) = some (region0 1 5)
         ∧ (s.verdict 0 (region0 1 5) (s.region 0 0)).1 = 2)
    ∧ ((echoing []).echoPart 0 0).any (fun p => (p.2.2.scene.bind (fun sc => sc.regions.find? (fun r => r.head == 0 && r.id == 0))).isNone) = true
    ∧ ((echoing [region0 2 0]).echoPart 0 0).any (fun p =>
        decide (p.2.2.scene.bind (fun sc => sc.regions.find? (fun r => r.head == 0 && r.id == 0)) = some (region0 2 0))
          && decide ((echoing [region0 2 0]).echoReads 0 (region0 2 0) p.2.2 = .ok)) = true := by
  decide +kernel

/-- A record on its way to a log of 4 records at `base`. -/
def logging (base : Nat) : State :=
  let d : Tbl (List Byte) := [(dkey 0x5000 1, leBytes 8 base), (dkey 0x5000 2, leBytes 4 4)]
  { up with
    dict := { up.dict with base := d, force := d },
    lant := { up.lant with fifo := [{ frame := 1, head := 0, region := 0, glass := 0, crc := 0, expected := 0, epoch := 1, verdict := 1,
                                      mode := 0, gap := 0, event := false }] } }

/-- A capture of head 0 of 8 lines of 64 bytes whose trailer is due. -/
def capture0 : State :=
  showing.modStream 0 (fun x => { x with capturing := true, finishing := true, frame := 7,
                                         cfg := { x.cfg with head := 0, y1 := 8, stride := 64, bases := List.replicate 8 0x20000 } })

/-- LogAndWriteback: a record that a window grants, one that none grants, and a frame that is captured and judged. -/
theorem witness_logAndWriteback :
    (let s := logging 0x20000
     s.lant.fifo.length = 1 ∧ s.logRecords ≠ 0
       ∧ (s.granted .heads true (s.logBase + 32 * (s.lant.writeIdx % Nat.max 1 s.logRecords)) 32 && isDevAddr s.logBase) = true)
    ∧ (let s := logging 0x7_0000_0000
       s.lant.fifo.length = 1 ∧ s.logRecords ≠ 0
         ∧ (s.granted .heads true (s.logBase + 32 * (s.lant.writeIdx % Nat.max 1 s.logRecords)) 32 && isDevAddr s.logBase) = false)
    ∧ (let y := capture0.stream 0
       y.capturing = true ∧ y.finishing = true
         ∧ (capture0.regionsOf y.cfg.head).length ≤ (capture0.recordsOf y.cfg.head y.frame).length) := by
  decide +kernel

/-- WindowWritesApply: a write that is accepted, one that is rejected, and one that clears ENABLE, of PF0; PF1's write. -/
theorem witness_windowWritesApply :
    up.hostUp .pf0 = true ∧ up.hostUp .pf1 = true
    ∧ (let s := up.setWin 5 { Win.reset with size := 16 }
       Nat.testBit 0x8000_0FFF 31 = true
         ∧ s.rejectCode { s.win 5 with rights := 0xFFF, hostF := (s.win 5).hostspace, baseF := (s.win 5).base, sizeF := (s.win 5).size } = 0)
    ∧ up.rejectCode { up.win 5 with rights := 0xFFF, hostF := (up.win 5).hostspace, baseF := (up.win 5).base, sizeF := (up.win 5).size } ≠ 0
    ∧ Nat.testBit 0xFFF 31 = false := by
  decide +kernel

/-- ApertureIsChecked: requests at offset 0x1000 that pass, one that no window grants, and a read of a bad block. -/
theorem witness_apertureIsChecked :
    up.hostUp .pf0 = true
    ∧ (let a := up.apertureBase + 0x1000
       0x1000 + 4 ≤ 2 ^ up.evc.bar2Log2 ∧ (decide (a + 4 ≤ up.fwBase) && up.granted .priv true a 4) = true
         ∧ (decide (a + 4 ≤ up.fwBase) && up.granted .priv false a 4) = true ∧ up.badRead a 4 = none
         ∧ State.badRead { up with mem := { up.mem with poisoned := [blockOf a] } } a 4 = some a)
    ∧ (let a := up.apertureBase + 0x1_8000_0000
       0x1_8000_0000 + 4 ≤ 2 ^ up.evc.bar2Log2 ∧ (decide (a + 4 ≤ up.fwBase) && up.granted .priv true a 4) = false
         ∧ (decide (a + 4 ≤ up.fwBase) && up.granted .priv false a 4) = false) := by
  decide +kernel

/-- MemoryErrorsAreKept: an address, a block that waits for its rewrite, and a granule whose copy runs. -/
theorem witness_memoryErrorsAreKept :
    0x1000 < devSize ∧ up.health.unusable.contains (granuleOf 0x1000) = false
    ∧ ({ up with mem := { up.mem with rewrite := [blockOf 0x1000], copying := [{ granule := 3, spare := 0 }] } } : State).mem.rewrite.contains
        (blockOf 0x1000) = true
    ∧ up.coreUp 1 = true := by
  decide +kernel

/-- WindowsGrantByteByByte: what the two windows of `up` grant, in device memory and in host memory, and a write of four bytes. -/
theorem witness_windowsGrantByteByByte :
    up.granted .priv true 0x1000 16 = true ∧ isHostAddr 0x1000 = false
    ∧ up.granted .priv true (2 ^ 63 + 0x1000) 16 = true ∧ isHostAddr (2 ^ 63 + 0x1000) = true
    ∧ Memory.wf up.mem.dev = true ∧ Memory.wf up.mem.host = true ∧ Memory.wf up.boot.recovBuf = true ∧ Memory.wf up.lop.reqBuf = true
    ∧ (∀ p ∈ up.mem.wins, p.2.enable = true ∧ p.2.sizeF ≠ 0
        ∧ (if p.2.hostF = true then (p.2.baseF + p.2.sizeF) * 4096 ≤ 2 ^ 63 ∧ p.2.rights < 256 else (p.2.baseF + p.2.sizeF) * 4096 ≤ spareBase))
    ∧ up.health.unusable = [] := by
  decide +kernel

/-- RegisterAccess, ParityAndDevReset: a running device, and a boundary value of each offset. -/
theorem witness_registerAccess :
    up.hostUp .pf0 = true ∧ up.inRecovery .pf0 = false ∧ up.hostUp .pf1 = true ∧ 2 ^ 64 - 1 < 2 ^ 64 ∧ 0xFF_FFFF < 0x100_0000 ∧ 3 < 4 := by
  decide +kernel
theorem witness_parityAndDevReset :
    up.hostUp .pf0 = true ∧ up.sys.resetDue = none ∧ 0xFFFF_0001 / 2 ^ 16 % 2 ^ 16 ≠ 0xA5C3 ∧ up.sys.mode ≠ .reset ∧ up.coreUp 1 = true
    ∧ firmwareConfig 0x50 = true := by
  decide +kernel

/-- ResetsAndTestInputs: a DEVRESET that is due, a boot past its limit, a trip of 1 ms, and both straps. -/
theorem witness_resetsAndTestInputs :
    up.sys.mode ≠ .reset ∧ up.boot.straps.testBit 0 = false
    ∧ ({ up with sys := { up.sys with resetDue := some (5, 3) } } : State).sys.resetDue = some (5, 3) ∧ 5 ≤ up.now
    ∧ (let s : State := { up with sys := { up.sys with mode := .boot }, boot := { up.boot with watchdog := true } }
       s.sys.mode = .boot ∧ s.boot.watchdog = true ∧ s.boot.releaseAt + s.boot.limit ≤ s.now)
    ∧ ({ up with lamp := { up.lamp with tripSince := some 0 } } : State).lamp.tripSince = some 0 ∧ 0 + 1000000 ≤ up.now := by
  decide +kernel
theorem witness_pcieResets :
    up.sys.mode ≠ .reset ∧ ({ up with boot := { up.boot with straps := 1 } } : State).boot.straps.testBit 0 = true
    ∧ ({ up with sys := { up.sys with pcieReset := true } } : State).sys.pcieReset = true := by
  decide +kernel

/-- A device in BOOT, before FWREADY. -/
def booting : State := { up with sys := { up.sys with mode := .boot, working := .boot, fwReady := false } }

/-- BootBeginsAndEnds: reset with a valid ACTIVE image, with a valid image on trial, and a boot before and after FWREADY. -/
theorem witness_bootBeginsAndEnds :
    State.reset.sys.mode = .reset ∧ State.reset.sys.testEn = false ∧ State.reset.sys.extest = false ∧ State.reset.sys.tripped = false
    ∧ (let b := { State.reset.boot with slotA := { state := 1, version := 1, security := 255, bytes := [] }, trial := none, attempts := 2 }
       b.slotValid b.active = true ∧ b.attempts < 3 ∧ ({ b with trial := some 0 } : Boot).slotValid 0 = true)
    ∧ booting.sys.mode = .boot ∧ booting.boot.bootFault = 0 ∧ booting.sys.fwReady = false
    ∧ (let s : State := { booting with sys := { booting.sys with fwReady := true } }
       s.sys.fwReady = true ∧ s.coreUp 1 = true ∧ s.bothCoresRetired = false ∧ s.noGallery = false) := by
  decide +kernel

/-- ClocksCoresAndConfiguration: the clock present and lost; a core without a fault, with two within 10 s, and one held in reset. -/
theorem witness_clocksCoresAndConfiguration :
    up.sys.refLost = false ∧ ({ up with sys := { up.sys with refLost := true } } : State).sys.refLost = true
    ∧ up.sys.mode ≠ .reset ∧ up.sys.pcieReset = false ∧ up.sys.fwReady = true
    ∧ (up.core 0).retired = false ∧ (up.core 0).inReset = false ∧ (up.core 0).faults = []
    ∧ (let s := up.setCore 1 { inReset := false, retired := false, faults := [1000000000000, 1000000000000] }
       s.sys.mode ≠ .reset ∧ (s.core 1).faults = [1000000000000, 1000000000000] ∧ s.now ≤ 1000000000000 + 10000000000
         ∧ (s.core 0).retired = false)
    ∧ ((up.setCore 1 { inReset := true, retired := false, faults := [] }).core 1).inReset = true := by
  decide +kernel

/-- A coherent domain of two members in a row, of which this device is member 0 and the other is member 1. -/
def domain : State :=
  let d : Tbl (List Byte) := [(dkey 0x4000 14, [1#8]), (dkey 0x6000 4, [2#8]), (dkey 0x6000 6, [2#8, 0#8]), (dkey 0x6001 1, [1#8])]
  { headUp with dict := { headUp.dict with base := d, force := d }, fab := { headUp.fab with timeState := 2, timeRoot := 1 } }

/-- A message from member 1 on port 0. -/
def from1 (payload : List Byte) : Msg := { port := 0, sender := 1, payload := payload }

/-- PortsBringUp: a port that may begin, at once and after a failure; lanes found and too few; IDENT; a step and a retrain that are late. -/
theorem witness_portsBringUp :
    domain.mayBringUp 0 = true ∧ ([0, 1] : List (Fin 4)).any (fun y => !(domain.port 0).laneRet.contains y.val) = true
    ∧ (domain.port 0).retryAt = none ∧ ((domain.modPort 0 (fun x => { x with retryAt := some 5 })).port 0).retryAt = some 5 ∧ 5 ≤ domain.now
    ∧ (let x := (domain.modPort 0 (fun x => { x with step := 2, inService := [0, 1, 2] })).port 0
       x.step = 2 ∧ 2 ≤ (x.inService.filter (fun n => (([0, 2] : List (Fin 4)).map (fun y => y.val)).contains n)).length
         ∧ (x.inService.filter (fun n => (([2] : List (Fin 4)).map (fun y => y.val)).contains n)).length < 2
         ∧ x.step ≠ 7 ∧ x.stepAt + stepLimit x.step ≤ domain.now)
    ∧ domain.fabricUp = true ∧ ((domain.modPort 0 (fun x => { x with step := 4 })).port 0).step = 4
    ∧ (let x := (domain.modPort 0 (fun x => { x with step := 7 })).port 0
       x.step = 7 ∧ x.stepAt + 2000000 ≤ domain.now) := by
  decide +kernel

/-- A port that is UP on four lanes, with a neighbour. -/
def portUp : State := domain.modPort 0 (fun x => { x with state := .up, inService := [0, 1, 2, 3], gen := 2, neighbour := 1 })

/-- A LINK_STATUS flit of sequence number `seq`, intact on four lanes. -/
def statusFlit (seq : Nat) : List Byte :=
  let b := leBytes 2 0x8000 ++ leBytes 2 0 ++ [byte msgLinkStatus, 0#8] ++ leBytes 2 16 ++ leBytes 2 seq ++ leBytes 6 0 ++ leBytes 16 77 ++ leBytes 216 0
  let b := b ++ laneChecks 4 b
  b ++ leBytes 4 (crc32c b)

/-- LinksCarryAndFail: a port that talks, one that does not; a flit in sequence, one out of sequence, and one that is not intact. -/
theorem witness_linksCarryAndFail :
    (portUp.port 0).talks = true ∧ (portUp.port 0).linked = true ∧ (portUp.port 0).state = .up ∧ portUp.fabricUp = true
    ∧ (portUp.port 0).statusAt + 100000000 ≤ portUp.now ∧ portUp.hostUp .pf0 = true ∧ portUp.hostUp .pf1 = true
    ∧ (domain.port 0).talks = false
    ∧ (portUp.port 0).intact [] = false
    ∧ (portUp.port 0).intact (statusFlit 5) = true ∧ getLE (statusFlit 5) 8 2 ≠ wrapInc 16 (portUp.port 0).rxSeq
    ∧ (portUp.port 0).intact (statusFlit 0) = true ∧ getLE (statusFlit 0) 8 2 = wrapInc 16 (portUp.port 0).rxSeq
    ∧ getLE (statusFlit 0) 0 2 / 0x4000 = 2 ∧ getLE (statusFlit 0) 4 1 = msgLinkStatus := by
  decide +kernel

/-- WallTimeIsDisciplined: an exchange on a link that is UP and on one at its last step; the time root lost; edges of PPS_IN; PTP off
and on. -/
theorem witness_wallTimeIsDisciplined :
    portUp.fabricUp = true ∧ (portUp.port 0).state = .up ∧ (portUp.port 0).step < 6 ∧ (portUp.port 0).syncAt + 1000000 ≤ portUp.now
    ∧ (portUp.port 0).replayBuf.length < 256
    ∧ ((domain.modPort 1 (fun x => { x with step := 6 })).port 1).step = 6 ∧ domain.routePort domain.fab.timeRoot ≠ some 1
    ∧ (portUp.port 2).state ≠ .up ∧ (portUp.port 2).step ≠ 6
    ∧ portUp.fab.timeState = 2 ∧ portUp.routePort portUp.fab.timeRoot = some 0 ∧ (portUp.port 0).syncAt + 10000000 ≤ portUp.now
    ∧ portUp.fab.ppsLast = none
    ∧ (let u := portUp.now - 1000000000
       u + 999900000 ≤ portUp.now ∧ portUp.now ≤ u + 1000100000)
    ∧ portUp.cfgBool 0x1430 1 = true
    ∧ State.cfgBool { up with dict := { up.dict with force := [(dkey 0x1430 1, [0#8])], base := [(dkey 0x1430 1, [0#8])] } } 0x1430 1 = false := by
  decide +kernel

/-- The heartbeats of both members for the wall frame under way. -/
def beating (l : List Nat) : State :=
  let beat (a : Nat) : Nat × Beat :=
    (a, { frame := 60000, epoch := 0, pending := 0, flags := 3, mode := 4, genMax := 2, sdfMax := 2, lopMax := 2, coord := 0 })
  { domain with fab := { domain.fab with wallFrame := 60000, present := [0, 1], beats := l.map beat } }

/-- DomainIsReported: a heartbeat; the first and the fourth flit of a summary; a coordinator with and without a quorum. -/
theorem witness_domainIsReported :
    domain.fabricUp = true ∧ domain.fab.answer = none ∧ (from1 (leBytes 53 0)).payload.length = 53
    ∧ (let one := leBytes 53 7
       let s : State := { domain with fab := { domain.fab with sumParts := [(0, one), (1, leBytes 232 1), (2, leBytes 232 2)] } }
       (from1 (leBytes 48 3)).payload.length ≠ 53 ∧ Tbl.find? s.fab.sumParts 0 = some one ∧ Tbl.find? s.fab.sumParts 1 = some (leBytes 232 1)
         ∧ Tbl.find? s.fab.sumParts 2 = some (leBytes 232 2) ∧ s.fab.sumSeen = false)
    ∧ (let s : State := { beating [0, 1] with fab := { (beating [0, 1]).fab with office := true } }
       s.fab.office = true ∧ s.fab.sumSeen = false ∧ s.quorum ((s.beatsOf s.fab.wallFrame).map (fun b => b.1)) = true)
    ∧ (let s : State := { beating [] with fab := { (beating []).fab with office := true } }
       s.fab.office = true ∧ s.fab.sumSeen = false ∧ s.quorum ((s.beatsOf s.fab.wallFrame).map (fun b => b.1)) = false) := by
  decide +kernel

/-- OfficeAndIsolation: a coordinator that is late; a candidate with a quorum; a member whose ports are all down; an entry that is due
and one that is not. -/
theorem witness_officeAndIsolation :
    (let s : State := { beating [0, 1] with fab := { (beating [0, 1]).fab with wallFrame := 59000, coord := some 1 } }
     s.fabricUp = true ∧ s.fab.office = false ∧ s.domainTime 59000 + 200000 ≤ s.now ∧ s.fab.sumSeen = false ∧ s.fab.coord = some 1
       ∧ 1 ≠ s.ownAddress)
    ∧ (let s : State := { beating [0, 1] with sys := { domain.sys with wall := 1000000200000 }, fab := { (beating [0, 1]).fab with candidate := some 0 } }
       s.fabricUp = true ∧ s.fab.office = false ∧ s.eligible = true ∧ s.fab.coord = none ∧ s.fab.candidate = some s.ownAddress
         ∧ s.quorum ((s.beatsOf s.fab.wallFrame).map (fun b => b.1)) = true ∧ s.domainTime s.fab.wallFrame + 150000 ≤ s.now)
    ∧ 1 < domain.domainMembers ∧ domain.sys.isolated = false ∧ domain.sys.mode ≠ .reset ∧ domain.sys.mode ≠ .boot
    ∧ (∀ p : Fin 4, (domain.port p).state ≠ .up ∧ (domain.port p).downAt + 100000000 ≤ domain.now)
    ∧ 60000 ≤ domain.domainFrame ∧ domain.domainFrame < 70000 := by
  decide +kernel

/-- A message that spells an epoch, a value and a frame. -/
def epochMsg (e v f : Nat) : Msg := from1 (leBytes 4 e ++ [byte v, 0#8, 0#8, 0#8] ++ leBytes 8 f)

/-- The coordinator with epoch 9 in flight, both members named. -/
def inFlight : State :=
  let f : Flight := { epoch := 9, target := 60000, named := [0, 1], accepts := [] }
  { beating [0, 1] with fab := { (beating [0, 1]).fab with office := true, flight := some f } }

/-- A participant that has answered epoch 9 with ACCEPT. -/
def answered9 : State :=
  let a : Machine.Offer := { scene := none, epoch := 9, ring := none, go := false, target := 60010, checked := [] }
  { beating [0, 1] with fab := { (beating [0, 1]).fab with coord := some 1, answer := some a } }

/-- EpochsAreDecided: an offer while member 0 has none; GatherTime's end; a PREPARE; answers of both kinds; a deadline; both decisions. -/
theorem witness_epochsAreDecided :
    (let s : State := { beating [0, 1] with fab := { (beating [0, 1]).fab with office := true } }
     s.fabricUp = true ∧ s.fab.office = true ∧ s.coherent = true ∧ s.fab.gatherAt = none
       ∧ (∃ a ∈ s.participants, ([(1, 9)] : List (Nat × Nat)).any (fun o => o.1 == a) = false))
    ∧ (let s : State := { beating [0, 1] with fab := { (beating [0, 1]).fab with office := true, gatherAt := some 5, offers := [(1, 9)], timeState := 1 } }
       5 ≤ s.now ∧ s.fab.flight = none ∧ s.fab.offers = [(1, 9)] ∧ s.isParticipant = false)
    ∧ (let s : State := { beating [0, 1] with fab := { (beating [0, 1]).fab with coord := some 1 } }
       s.isParticipant = true ∧ s.coherent = true ∧ s.fab.coord = some (epochMsg 9 0 0).sender.val ∧ s.fab.answer = none ∧ s.fab.offer = none
         ∧ s.relabelOk 9 = true ∧ (s.modHead 0 (fun x => { x with curEpoch := 20 })).relabelOk 9 = false)
    ∧ inFlight.fab.office = true ∧ ([0, 1] : List Nat).all (fun a => (insertSorted (epochMsg 9 0 0).sender ([] : List Nat)).contains a) = false
    ∧ getLE (epochMsg 9 0 0).payload 0 4 = 9 ∧ getLE (epochMsg 9 0 0).payload 4 1 = 0 ∧ getLE (epochMsg 9 2 0).payload 4 1 ≠ 0
    ∧ inFlight.domainTime (60000 - 1) ≤ inFlight.now
    ∧ answered9.fab.lastDec ≠ lastDecision 9 2 ∧ answered9.fab.lastDec ≠ lastDecision 9 1
    ∧ answered9.enabledHeads.any (fun h => (answered9.head h).latchGone (answered9.domainTime 60010)) = false
    ∧ answered9.enabledHeads = [0] := by
  decide +kernel

/-- A registration record whose HOME is member 1. -/
def record1 : List Byte := (regRecord 0).take 72 ++ [1#8, 0#8] ++ (regRecord 0).drop 74

/-- Source 5 homed at member 1, subscribed here, with its replica buffers. -/
def remote5 : State :=
  State.setSource { domain with fab := { domain.fab with subscribed := [5] } } 5
    { source5 with reg := { source5.reg with home := 1, deadline := 1000000 }, replicas := [0x6_0000_0000, 0x6_0001_0000, 0x6_0002_0000] }

/-- A frame of source 5 of 512 bytes is being received. -/
def receiving : State :=
  { remote5 with fab := { remote5.fab with rx := [(5, { pub := pub5 0, length := 512, seq := 3, buffer := some 0, got := 0, crcReg := crcInit })] } }

/-- StreamsFlow: a registration of member 1's; a subscription to a source homed here; a frame's first flit, a flit of it and one of
another; and a frame that has been sent. -/
theorem witness_streamsFlow :
    domain.coreUp 1 = true ∧ domain.sys.mode ≠ .reset ∧ domain.sys.mode ≠ .boot ∧ record1.length = 80 ∧ (Reg.ofBytes record1).home = 1
    ∧ (Reg.ofBytes record1).home ≠ domain.ownAddress
    ∧ (let s := domain.setSource 5 source5
       s.source? 5 = some source5 ∧ source5.reg.home = s.ownAddress ∧ source5.withdrawn = false)
    ∧ (remote5.source? 5).any (fun x => !x.withdrawn && x.reg.home != remote5.ownAddress) = true ∧ remote5.fab.subscribed.contains 5 = true
    ∧ Tbl.find? remote5.fab.rx 5 = none
    ∧ (Tbl.find? receiving.fab.rx 5).any (fun r => r.seq == 3 && r.buffer == some 0 && decide (r.got + 228 < r.length)) = true
    ∧ (let s : State := { domain with fab := { domain.fab with tx := [(5, { buffer := 0, pub := pub5 0, seq := 1, next := none })] } }
       (Tbl.find? s.fab.tx 5).any (fun x => x.next.isNone) = true
         ∧ s.fab.ports.any (fun p => p.2.waiting.any (fun f => isStreamFlit 5 f)) = false) := by
  decide +kernel

/-- A request by PF0's dictionary window, of the default session or of session `id`. -/
def ctx0 (id : Nat) : LopCtx := { via := .window, generation := 2, session := id, requestId := 1, target := 0 }

/-- The window holds a request of a service with a payload; a session 1 at PRIVILEGED is open. -/
def asking (id code : Nat) (p : List Byte) (s : State) : State :=
  { s with lop := { s.lop with busy := true, taken := lopRequest (ctx0 id) code p,
                               sessions := [(1, { level := lvlPrivileged, via := .window, nonce := none, lastAt := s.now })] } }

/-- The state in which the service of that request runs. -/
def serving (id code : Nat) (p : List Byte) (s : State) : Option State := (asking id code p s).serving? (ctx0 id) code p

/-- An entry that a request names passes a test in the state in which it is served. -/
def named (id code : Nat) (p : List Byte) (s : State) (index sub : Nat) (f : State → EntryDef → Bool) : Bool :=
  (serving id code p s).any (fun u => match u.lookup (ctx0 id) index sub with | .ok e => f u e | .error _ => false)

/-- Two transfers that are open: one reads and one writes. -/
def moving (s : State) : State :=
  let x : Transfer := { key := dkey 0x4030 5, write := false, length := 4, bytes := [1#8, 2#8, 3#8, 4#8], owner := s.replayKey (ctx0 0), lastAt := s.now }
  { s with lop := { s.lop with transfers := [(3, x), (4, { x with write := true, length := 8192, bytes := [] })] } }

/-- LopReadsAnswer: each request served: of an entry that is read, described or a domain, of no entry, a KEEPALIVE, and a transfer's bytes
by its number and by another. -/
theorem witness_lopReadsAnswer :
    named 0 0x01 (leBytes 2 0x4000 ++ [13#8, 0#8]) up 0x4000 13 (fun _ e => e.typ != 13 && e.access != 3) = true
    ∧ (serving 0 0x01 (leBytes 2 0x4FFF ++ [13#8, 0#8]) up).any (fun u => match u.lookup (ctx0 0) 0x4FFF 13 with | .ok _ => false | .error _ => true) = true
    ∧ named 0 0x01 (leBytes 2 0x4030 ++ [5#8, 0#8]) up 0x4030 5 (fun _ e => e.typ == 13) = true
    ∧ named 0 0x03 (leBytes 2 0x4000 ++ [13#8, 0#8]) up 0x4000 13 (fun _ e => e.typ != 13) = true ∧ (ctx0 0).generation = 2
    ∧ (serving 0 0x23 [] up).isSome = true
    ∧ named 0 0x10 (leBytes 2 0x4030 ++ [5#8, 0#8]) up 0x4030 5 (fun u e => e.typ == 13 && e.access != 3 && !u.transferLimit (ctx0 0)) = true
    ∧ (serving 0 0x11 (leBytes 4 3 ++ leBytes 4 1 ++ leBytes 4 2) (moving up)).any (fun u => (u.transfer? (ctx0 0) 3 false).isSome) = true
    ∧ (serving 0 0x11 (leBytes 4 9 ++ leBytes 4 1 ++ leBytes 4 2) (moving up)).any (fun u => (u.transfer? (ctx0 0) 9 false).isNone) = true := by
  decide +kernel

/-- LopWritesTake: a value that is taken, an entry that is read only, and a value out of range. -/
theorem witness_lopWritesTake :
    named 0 0x02 (leBytes 2 0x5000 ++ [2#8, 0#8] ++ leBytes 4 4096) up 0x5000 2 (fun u e => e.typ != 13 && !e.d
      && decide (u.mayWrite (ctx0 0) 0x5000 2 e = abOk) && (u.valueCheck (dkey 0x5000 2) (leBytes 4 4096)).isNone
      && (u.commandWrite 0x5000 2 (leBytes 4 4096)).isNone) = true
    ∧ named 0 0x02 (leBytes 2 0x6000 ++ [7#8, 0#8] ++ leBytes 2 1) up 0x6000 7 (fun u e => e.typ != 13
      && decide (u.mayWrite (ctx0 0) 0x6000 7 e ≠ abOk)) = true
    ∧ named 0 0x02 (leBytes 2 0x6001 ++ [3#8, 0#8] ++ leBytes 1 99) up 0x6001 3 (fun u e => e.typ != 13
      && decide (u.mayWrite (ctx0 0) 0x6001 3 e = abOk) && (u.valueCheck (dkey 0x6001 3) (leBytes 1 99)).isSome) = true := by
  decide +kernel

/-- A device with valid images in both slots. -/
def images : State :=
  let x : Slot := { state := 1, version := 1, security := 200, bytes := [] }
  { up with boot := { up.boot with slotA := x, slotB := x } }

/-- CommandWritesAct: mode requests that R345 allows, that name the present mode and that it refuses; the activation of the staged slot, the
confirmation of a trial, and a value of the anti-rollback counter. -/
theorem witness_commandWritesAct :
    up.sys.scheduled = none ∧ up.sys.modeQueue = [] ∧ up.deriveMode = up.sys.mode
    ∧ Mode.ofCode 3 = some .standby ∧ Mode.ofCode 4 = some .operate ∧ Mode.ofCode 2 = some .configure
    ∧ named 1 0x02 (leBytes 2 0x1200 ++ [0#8, 0#8, 3#8]) up 0x1200 0 (fun u e => e.typ != 13 && decide (u.mayWrite (ctx0 1) 0x1200 0 e = abOk)
        && decide (lvlPrivileged ≤ u.levelOf (ctx0 1)) && decide (u.askMode u.sys.working .standby = .yes)
        && decide (u.askMode u.sys.working .operate = .same) && decide (u.askMode u.sys.working .configure = .state)) = true
    ∧ named 1 0x02 (leBytes 2 0x1022 ++ [2#8, 0#8, 1#8]) images 0x1022 2 (fun u e => e.typ != 13 && !e.d
        && decide (u.mayWrite (ctx0 1) 0x1022 2 e = abOk) && (u.valueCheck (dkey 0x1022 2) [1#8]).isNone
        && decide (u.boot.imageState (1 - u.boot.active) = 1) && !u.onTrial) = true
    ∧ named 1 0x02 (leBytes 2 0x1022 ++ [3#8, 0#8, 1#8]) { images with boot := { images.boot with trial := some 1, running := 1 } } 0x1022 3
        (fun u e => e.typ != 13 && !e.d && decide (u.mayWrite (ctx0 1) 0x1022 3 e = abOk)
          && (u.valueCheck (dkey 0x1022 3) [1#8]).isNone && u.onTrial) = true
    ∧ named 1 0x02 (leBytes 2 0x1022 ++ [5#8, 0#8] ++ leBytes 2 7) images 0x1022 5 (fun u e => e.typ != 13 && !e.d
        && decide (u.mayWrite (ctx0 1) 0x1022 5 e = abOk) && (u.valueCheck (dkey 0x1022 5) (leBytes 2 7)).isNone
        && decide (u.boot.rollback < 7) && decide (u.boot.imageState 0 = 1) && decide (u.boot.imageState 1 = 1)
        && decide (7 ≤ u.boot.slotA.security) && decide (7 ≤ u.boot.slotB.security) && u.boot.trial.isNone) = true := by
  decide +kernel

/-- LopSegmentsTransfer: a segmented write that opens; a segment that follows on and one that does not; a transfer that is cancelled and
one that no request reaches. -/
theorem witness_lopSegmentsTransfer :
    named 0 0x12 (leBytes 2 0x4030 ++ [5#8, 0#8] ++ leBytes 4 8192) up 0x4030 5 (fun u e => e.typ == 13
      && decide (u.segWriteCheck (ctx0 0) 0x4030 5 e 8192 = abOk)
      && !u.lop.transfers.any (fun p => p.2.write && p.2.key == dkey 0x4030 5) && !u.transferLimit (ctx0 0)) = true
    ∧ (serving 0 0x13 (leBytes 4 4 ++ leBytes 4 0 ++ [0#8, 0#8, 0#8, 0#8] ++ [7#8]) (moving up)).any (fun u =>
        (u.transfer? (ctx0 0) 4 true).any (fun x => x.bytes.length == 0 && decide (0 + 1 < x.length))) = true
    ∧ (serving 0 0x13 (leBytes 4 4 ++ leBytes 4 9 ++ [0#8, 0#8, 0#8, 0#8] ++ [7#8]) (moving up)).any (fun u =>
        (u.transfer? (ctx0 0) 4 true).any (fun x => x.bytes.length != 9)) = true
    ∧ (serving 0 0x14 (leBytes 4 3) (moving up)).any (fun u => (Tbl.find? u.lop.transfers 3).any (fun x => x.owner == u.replayKey (ctx0 0))) = true
    ∧ (let s := moving up
       (Tbl.find? s.lop.transfers 3).any (fun x => decide (x.lastAt + 5000000000 ≤ s.now + 5000000000)) = true ∧ s.coreUp 1 = true)
    ∧ (let s : State := { moving up with sys := { up.sys with wall := up.now + 5000000000 } }
       (Tbl.find? s.lop.transfers 3).any (fun x => decide (x.lastAt + 5000000000 ≤ s.now)) = true) := by
  decide +kernel

/-- LopSessionsLive: a session to open; one that closes and one that has expired; a DTLS association. -/
theorem witness_lopSessionsLive :
    (serving 0 0x20 [1#8, 0#8, 0#8, 0#8] up).any (fun u => !u.fromPf1 (ctx0 0) && decide (u.lop.sessions.length < 16)) = true
    ∧ (serving 1 0x22 [] up).any (fun u => (u.session? (ctx0 1)).isSome) = true
    ∧ (let s : State := { asking 1 0x22 [] up with sys := { up.sys with wall := up.now + 2 ^ 50 } }
       (Tbl.find? s.lop.sessions 1).any (fun x => s.sessionExpired x) = true ∧ s.coreUp 1 = true)
    ∧ up.lopFree = true ∧ up.lop.assocs.length < 8 ∧ up.lop.assocs.any (fun y => y.1 == 3) = false ∧ up.cfgBool 0x1420 2 = false
    ∧ (let d : Tbl (List Byte) := [(dkey 0x1410 1, [1#8])]
       State.cfg { up with dict := { up.dict with base := d, force := d } } 0x1410 1 ≠ 0) := by
  decide +kernel

/-- A session 1 that owes a proof, opened across the fabric by member 3. -/
def ctxF : LopCtx := { via := .fabric 3 3, generation := 2, session := 1, requestId := 1, target := 0 }
def proving : State :=
  { up with lop := { up.lop with sessions := [(1, { level := lvlPrivileged, via := .fabric 3 3, nonce := some (leBytes 32 0), lastAt := up.now })] } }

theorem list_cons_of_length {n : Nat} {l : List Byte} (h : l.length = n + 1) : ∃ a t, l = a :: t ∧ t.length = n := by
  cases l with
  | nil => simp at h
  | cons a t => exact ⟨a, t, rfl, by simpa using h⟩

/-- LopSessionsLive: a proof of 48 bytes, whichever they are: the right one, which has 48, among them. -/
theorem witness_sessionProve (mac : List Byte) (h : mac.length = 48) :
    (proving.serving? ctxF 0x21 mac).any (fun u => (u.session? ctxF).any (fun x => x.nonce == some (leBytes 32 0))) = true := by
  obtain ⟨a0, l0, rfl, h0⟩ := list_cons_of_length h
  obtain ⟨a1, l1, rfl, h1⟩ := list_cons_of_length h0
  obtain ⟨a2, l2, rfl, h2⟩ := list_cons_of_length h1
  obtain ⟨a3, l3, rfl, h3⟩ := list_cons_of_length h2
  obtain ⟨a4, l4, rfl, h4⟩ := list_cons_of_length h3
  obtain ⟨a5, l5, rfl, h5⟩ := list_cons_of_length h4
  obtain ⟨a6, l6, rfl, h6⟩ := list_cons_of_length h5
  obtain ⟨a7, l7, rfl, h7⟩ := list_cons_of_length h6
  obtain ⟨a8, l8, rfl, h8⟩ := list_cons_of_length h7
  obtain ⟨a9, l9, rfl, h9⟩ := list_cons_of_length h8
  obtain ⟨a10, l10, rfl, h10⟩ := list_cons_of_length h9
  obtain ⟨a11, l11, rfl, h11⟩ := list_cons_of_length h10
  obtain ⟨a12, l12, rfl, h12⟩ := list_cons_of_length h11
  obtain ⟨a13, l13, rfl, h13⟩ := list_cons_of_length h12
  obtain ⟨a14, l14, rfl, h14⟩ := list_cons_of_length h13
  obtain ⟨a15, l15, rfl, h15⟩ := list_cons_of_length h14
  obtain ⟨a16, l16, rfl, h16⟩ := list_cons_of_length h15
  obtain ⟨a17, l17, rfl, h17⟩ := list_cons_of_length h16
  obtain ⟨a18, l18, rfl, h18⟩ := list_cons_of_length h17
  obtain ⟨a19, l19, rfl, h19⟩ := list_cons_of_length h18
  obtain ⟨a20, l20, rfl, h20⟩ := list_cons_of_length h19
  obtain ⟨a21, l21, rfl, h21⟩ := list_cons_of_length h20
  obtain ⟨a22, l22, rfl, h22⟩ := list_cons_of_length h21
  obtain ⟨a23, l23, rfl, h23⟩ := list_cons_of_length h22
  obtain ⟨a24, l24, rfl, h24⟩ := list_cons_of_length h23
  obtain ⟨a25, l25, rfl, h25⟩ := list_cons_of_length h24
  obtain ⟨a26, l26, rfl, h26⟩ := list_cons_of_length h25
  obtain ⟨a27, l27, rfl, h27⟩ := list_cons_of_length h26
  obtain ⟨a28, l28, rfl, h28⟩ := list_cons_of_length h27
  obtain ⟨a29, l29, rfl, h29⟩ := list_cons_of_length h28
  obtain ⟨a30, l30, rfl, h30⟩ := list_cons_of_length h29
  obtain ⟨a31, l31, rfl, h31⟩ := list_cons_of_length h30
  obtain ⟨a32, l32, rfl, h32⟩ := list_cons_of_length h31
  obtain ⟨a33, l33, rfl, h33⟩ := list_cons_of_length h32
  obtain ⟨a34, l34, rfl, h34⟩ := list_cons_of_length h33
  obtain ⟨a35, l35, rfl, h35⟩ := list_cons_of_length h34
  obtain ⟨a36, l36, rfl, h36⟩ := list_cons_of_length h35
  obtain ⟨a37, l37, rfl, h37⟩ := list_cons_of_length h36
  obtain ⟨a38, l38, rfl, h38⟩ := list_cons_of_length h37
  obtain ⟨a39, l39, rfl, h39⟩ := list_cons_of_length h38
  obtain ⟨a40, l40, rfl, h40⟩ := list_cons_of_length h39
  obtain ⟨a41, l41, rfl, h41⟩ := list_cons_of_length h40
  obtain ⟨a42, l42, rfl, h42⟩ := list_cons_of_length h41
  obtain ⟨a43, l43, rfl, h43⟩ := list_cons_of_length h42
  obtain ⟨a44, l44, rfl, h44⟩ := list_cons_of_length h43
  obtain ⟨a45, l45, rfl, h45⟩ := list_cons_of_length h44
  obtain ⟨a46, l46, rfl, h46⟩ := list_cons_of_length h45
  obtain ⟨a47, l47, rfl, h47⟩ := list_cons_of_length h46
  rw [List.length_eq_zero_iff] at h47
  subst h47
  clear h h0 h1 h2 h3 h4 h5 h6 h7 h8 h9 h10 h11 h12 h13 h14 h15 h16 h17 h18 h19 h20 h21 h22 h23 h24 h25 h26 h27 h28 h29 h30 h31 h32 h33 h34 h35 h36 h37 h38 h39 h40 h41 h42 h43 h44 h45 h46
  with_unfolding_all rfl
theorem length_hmac (k m : List Byte) : (Config.hmac384 k m).length = 48 := by
  simp [Config.hmac384, leBytes]

/-- A LOP_EXCHANGE of `n` bytes at 0x4000, its response at 0x5000, in execution on the MGMT ring 9. -/
def exchange (n : Nat) : Exec := entry 0x40 (leBytes 8 0 ++ leBytes 4 n ++ leBytes 4 4096 ++ leBytes 8 0x4000 ++ leBytes 8 0x5000) .waiting
def exchanging (n : Nat) : State := ringUp 9 ringMgmt [exchange n] up

/-- Both management cores retired. -/
def noCores : State := (up.setCore 0 { inReset := true, retired := true, faults := [] }).setCore 1 { inReset := true, retired := true, faults := [] }

/-- A request that was forwarded to member 1. -/
def forwarding : State := { domain with lop := { domain.lop with forwards := [{ ctx := ctx0 7, code := 0x01, sentAt := 5 }] } }

/-- LopTransportsAnswer: GO while the window is free and while it is busy; a malformed request; an exchange without firmware, one whose
length is bad and one whose request is malformed; the answer to a request that was forwarded, and its time gone. -/
theorem witness_lopTransportsAnswer :
    (let s : State := { up with lop := { up.lop with reqLen := 16 } }
     s.hostUp .pf0 = true ∧ s.lop.busy = false ∧ s.lop.reqLen = 16 ∧ s.parityWrong 0x100_0008 = false ∧ s.bothCoresRetired = false)
    ∧ (let s : State := { up with lop := { up.lop with busy := true, taken := leBytes 16 1 } }
       s.lop.busy = true ∧ s.lopFree = true ∧ s.lop.taken ≠ [] ∧ headerGood s.lop.taken = true)
    ∧ (let s : State := { up with lop := { up.lop with busy := true, taken := leBytes 10 1 } }
       s.lopFree = true ∧ s.lop.taken ≠ [] ∧ headerGood s.lop.taken = false)
    ∧ (let s : State := { exchanging 16 with sys := noCores.sys }
       s.bothCoresRetired = true ∧ s.exchange? 9 = some (exchange 16))
    ∧ (let s := exchanging 15
       s.lopFree = true ∧ s.bothCoresRetired = false ∧ s.exchange? 9 = some (exchange 15) ∧ (exchange 15).phase = .waiting
         ∧ s.mgmtTurn = some 9 ∧ s.exchangeCheck 9 (exchange 15).body = some .format)
    ∧ (let s := (exchanging 16).devWrite 0x4000 (leBytes 10 0 ++ leBytes 2 9)
       s.exchange? 9 = some (exchange 16) ∧ s.mgmtTurn = some 9 ∧ s.exchangeCheck 9 (exchange 16).body = none ∧ s.busBad 0x4000 16 = none
         ∧ headerGood (s.busRead 0x4000 16) = false)
    ∧ forwarding.lopFree = true ∧ forwarding.fabricUp = true
    ∧ (forwarding.lop.forwards.find? (fun f => f.ctx.session == getLE (leBytes 4 0 ++ leBytes 4 7 ++ leBytes 2 1 ++ leBytes 6 0) 4 4
        && f.ctx.requestId == getLE (leBytes 4 0 ++ leBytes 4 7 ++ leBytes 2 1 ++ leBytes 6 0) 8 2)).isSome = true
    ∧ (forwarding.lop.forwards.find? (fun f => f.ctx.requestId == 1 && decide (f.sentAt + 100000000 ≤ forwarding.now))).isSome = true := by
  decide +kernel

/-- A store under way into bank 1; a coefficient set that has been accepted. -/
def storing (retry : Bool) : State := { up with dict := { up.dict with active := 0, storing := some (1, leBytes 64 5), storeRetry := retry } }
def loading : State := { up with gal := { up.gal with coefPending := [(2, { ctx := ctx0 0, code := 0x13 })] } }

/-- StoresAndSets: a store that may begin and one that may not; an automatic one that is due; a read-back; a coefficient set. -/
theorem witness_storesAndSets :
    up.lopFree = true ∧ up.storeFree = true ∧ (storing false).lopFree = true ∧ (storing false).storeFree = false
    ∧ (let d : Tbl (List Byte) := [(dkey 0x1010 5, leBytes 4 10)]
       let s : State := { up with dict := { up.dict with changedAt := some 0, base := d, force := d } }
       s.coreUp 1 = true ∧ s.storeFree = true ∧ s.autoDue = true)
    ∧ (storing false).dict.storing = some (1, leBytes 64 5) ∧ (storing false).coreUp 1 = true ∧ (storing true).dict.storeRetry = true
    ∧ loading.gal.coefPending = [(2, { ctx := ctx0 0, code := 0x13 })] ∧ loading.coreUp 1 = true := by
  decide +kernel

/-- A device in recovery with `n` bytes in RECOVBUF. -/
def recovering (n : Nat) : State :=
  { booting with boot := { booting.boot with bootFault := 4, recovLen := n, recovBuf := [(0, 7#8), (1, 8#8)] } }

/-- ConfirmAndRecovery: a trial that has run ConfirmDelay; chunks of 0, 1, 262,144 and 262,145 bytes; a slot that does not verify. That one
verifies rests on the opaque signature check. -/
theorem witness_confirmAndRecovery :
    (let s : State := { images with boot := { images.boot with trial := some 1, running := 1, atBootEnd := true, confirmFrom := 0 } }
     s.boot.trial = some 1 ∧ s.boot.running = 1 ∧ s.coreUp 1 = true ∧ s.boot.atBootEnd = true ∧ s.sys.mode ≠ .halt ∧ s.sys.mode ≠ .update
       ∧ s.cfg 0x1022 4 ≠ 0 ∧ s.boot.confirmFrom + s.cfg 0x1022 4 * 1000000000 ≤ s.now)
    ∧ (∀ n, (recovering n).inRecovery .pf0 = true ∧ (recovering n).boot.recovLen = n)
    ∧ (recovering 1).boot.recovOffset + 262144 ≤ 7340032
    ∧ imageCheck (recovering 1).boot.rollback (recovering 1).boot.keyRevoked (recovering 1).boot.slotA.bytes = some .format := by
  refine ⟨by decide +kernel, fun n => ⟨rfl, rfl⟩, by decide +kernel, by decide +kernel⟩

/-- BoundariesPass: a retired gallery forces a transition; a request for STANDBY at its boundary; nothing due; a gallery that may be tested
and one that may not. -/
theorem witness_boundariesPass :
    (let s := up.modGallery 3 (fun x => { x with retired := true })
     s.deriveMode ≠ s.sys.mode ∧ s.coreUp 1 = true ∧ s.sys.modeQueue = [])
    ∧ (let s : State := { up with sys := { up.sys with scheduled := some { target := 3, reply := { ctx := ctx0 1, code := 0x02 } } } }
       let n : State := { s with sys := { s.sys with working := .standby, scheduled := none, autoCause := none } }
       s.deriveMode = s.sys.mode ∧ s.sys.scheduled.isSome = true ∧ Mode.ofCode 3 = some .standby ∧ s.askMode s.sys.working .standby = .yes
         ∧ n.deriveMode ≠ s.sys.mode
         ∧ State.boundaryCheck { s with sys := { s.sys with scheduled := none, autoCause := none } } n.deriveMode = none)
    ∧ up.deriveMode = up.sys.mode ∧ up.sys.scheduled = none
    ∧ (let s : State := { up.modGallery 2 (fun x => { x with excluded := true }) with sys := { up.sys with mode := .maintain } }
       s.mayTest 2 = true ∧ s.coreUp 1 = true)
    ∧ up.mayTest 2 = false := by
  decide +kernel

/-- Channel 2 with one descriptor in execution, in the windows of `up` with rights for SIPHON. -/
def chanUp (e : Exec) : State := ringUp 2 ringSiphon [e] up

/-- An SG_COPY of one pair of `n` bytes to one pair. -/
def sgEntry (n reserved : Nat) : Exec :=
  entry 0x10 (leBytes 8 0 ++ leBytes 2 1 ++ leBytes 2 1 ++ leBytes 4 reserved ++ leBytes 8 0x1000 ++ leBytes 8 n ++ leBytes 8 0x2000 ++ leBytes 8 n) .waiting

/-- A FILL of `n` bytes at `a`. -/
def fillEntry (a n reserved : Nat) : Exec :=
  entry 0x11 (leBytes 8 0 ++ leBytes 8 0x0807060504030201 ++ leBytes 8 a ++ leBytes 4 n ++ leBytes 4 reserved) .waiting

/-- A check passes and its stream reads nothing bad; a check fails with a status. -/
def moves (s : State) (k : SgCheck) : Bool :=
  match k with
  | .move src _ => (src.findSome? (fun p => s.busBad p.1 p.2)).isNone
  | _ => false
def fails (k : SgCheck) : Bool :=
  match k with
  | .fail _ => true
  | _ => false

/-- DescriptorsMove: an SG_COPY and a FILL that pass and that fail, a CRC, a FENCE without an address, and one to device memory. -/
theorem witness_descriptorsMove :
    ((chanUp (sgEntry 24 0)).descriptor? 2 0x10).isSome = true ∧ moves (chanUp (sgEntry 24 0)) ((chanUp (sgEntry 24 0)).sgCheck 2 (sgEntry 24 0)) = true
    ∧ ((chanUp (sgEntry 24 1)).descriptor? 2 0x10).isSome = true ∧ fails ((chanUp (sgEntry 24 1)).sgCheck 2 (sgEntry 24 1)) = true
    ∧ ((chanUp (fillEntry 0x2000 20 0)).descriptor? 2 0x11).isSome = true
    ∧ moves (chanUp (fillEntry 0x2000 20 0)) ((chanUp (fillEntry 0x2000 20 0)).fillCheck 2 (fillEntry 0x2000 20 0)) = true
    ∧ fails ((chanUp (fillEntry 0x2000 20 1)).fillCheck 2 (fillEntry 0x2000 20 1)) = true
    ∧ (let e := entry 0x12 (leBytes 8 0 ++ leBytes 8 0x3000) .waiting
       let s := chanUp e
       s.descriptor? 2 0x12 = some e ∧ getLE e.body 8 8 % 16 = 0 ∧ s.siphGranted 2 true (getLE e.body 8 8) 16 = true)
    ∧ (let e := entry 0x16 (leBytes 16 0) .waiting
       (chanUp e).descriptor? 2 0x16 = some e ∧ getLE e.body 8 8 = 0)
    ∧ (let e := entry 0x16 (leBytes 8 0 ++ leBytes 8 0x3000) .waiting
       (chanUp e).descriptor? 2 0x16 = some e ∧ getLE e.body 8 8 ≠ 0 ∧ isHostAddr (getLE e.body 8 8) = false) := by
  decide +kernel

/-- FillWritesThePattern: 20 bytes, none, and a reserved field that is not zero, in a state whose memories are canonical. -/
theorem witness_fillWritesThePattern :
    (let s := chanUp (fillEntry 0x2000 20 0)
     s.memCanonical ∧ s.health.unusable = [] ∧ s.descriptor? 2 0x11 = some (fillEntry 0x2000 20 0) ∧ getLE (fillEntry 0x2000 20 0).body 28 4 = 0
       ∧ getLE (fillEntry 0x2000 20 0).body 24 4 = 20 ∧ s.siphGranted 2 true 0x2000 20 = true)
    ∧ getLE (fillEntry 0x2000 0 0).body 24 4 = 0 ∧ (chanUp (fillEntry 0x2000 0 0)).descriptor? 2 0x11 = some (fillEntry 0x2000 0 0)
    ∧ getLE (fillEntry 0x2000 20 1).body 28 4 ≠ 0 ∧ (chanUp (fillEntry 0x2000 20 1)).descriptor? 2 0x11 = some (fillEntry 0x2000 20 1) := by
  unfold State.memCanonical
  decide +kernel

/-- A WAIT on source 150 with a limit of 5 µs. -/
def waitEntry (flags : Nat) (p : Phase) : Exec :=
  { entry 0x14 (leBytes 8 0 ++ leBytes 2 150 ++ leBytes 2 0 ++ leBytes 4 5) p with flags := flags }

/-- ChannelsSignal: a SIPHON_PUBLISH of a channel that publishes; a WAIT whose bit is clear, one whose bit is set, and one out of time; a
SIGNAL of an event and one with a reserved bit; the pulse of wait sources that GPIO_EV does not drive, and of sources 0 to 127. -/
theorem witness_channelsSignal :
    (let e := entry 0x13 (leBytes 16 0 ++ pub5 0) .waiting
     let s := (chanUp e).modChan 2 (fun x => { x with pubF := true })
     s.descriptor? 2 0x13 = some e ∧ getLE e.body 8 8 = 0 ∧ pubReservedOk ((e.unitBytes 1).take 16) = true ∧ (s.chan 2).pubF = true
       ∧ (s.chan 2).acc.pubFail = false)
    ∧ (let e := waitEntry 0 .waiting
       let s := (chanUp e).modChan 2 (fun x => { x with pending := [150] })
       (chanUp e).descriptor? 2 0x14 = some e ∧ e.phase = .waiting ∧ e.waitSource = 150 ∧ getLE e.body 10 2 = 0
         ∧ ((chanUp e).chan 2).pending.contains 150 = false ∧ s.descriptor? 2 0x14 = some e ∧ (s.chan 2).pending.contains 150 = true ∧ bit e.flags 0 = false)
    ∧ (let e := waitEntry 0 .running
       (chanUp e).descriptor? 2 0x14 = some e ∧ e.waitLimit ≠ 0 ∧ e.began + e.waitLimit * 1000 ≤ (chanUp e).now
         ∧ ((chanUp e).chan 2).pending.contains e.waitSource = false)
    ∧ (let e := entry 0x15 (leBytes 8 0 ++ leBytes 8 0x105) .waiting
       let n := getLE e.body 8 4
       (chanUp e).descriptor? 2 0x15 = some e ∧ n / 2 ^ 15 = 0 ∧ bit n 7 = false ∧ getLE e.body 12 4 = 0 ∧ bit n 10 = false ∧ bit n 9 = false
         ∧ bit n 8 = true ∧ (chanUp e).sys.fwReady = true ∧ ((chanUp e).evEff (evSignal (field n 6 0))).level = false)
    ∧ (let e := entry 0x15 (leBytes 8 0 ++ leBytes 8 0x80) .waiting
       (chanUp e).descriptor? 2 0x15 = some e ∧ bit (getLE e.body 8 4) 7 = true)
    ∧ (128 ≤ 128 ∧ bit (up.cfg 0x5801 1) (128 - 128) = false) ∧ (∀ j : Fin 64, up.descriptor? j 0x14 = none) := by
  decide +kernel

/-- The engine halted with channel 2 halted by it, and `n` errors in its window. -/
def engineHalted (n : Nat) : State :=
  let s := State.modRing (chanUp (entry 0x16 (leBytes 16 0) .waiting)) 2 (fun r => { r with state := .halted, haltCode := Status.busError.code })
  { s with siph := { s.siph with halted := true, windowMasks := List.replicate n 4 } }

/-- ChannelsHaltAndRestart: a channel that a bus error halts and one that it does not; restarts before and after the fourth error; a retired
channel; a finished descriptor that ended well and one that failed. -/
theorem witness_channelsHaltAndRestart :
    (chanUp (fillEntry 0x2000 20 0)).siph.halted = false ∧ (chanUp (fillEntry 0x2000 20 0)).halts 2 = true
    ∧ (chanUp (fillEntry 0x2000 20 0)).halts 3 = false
    ∧ (engineHalted 3).siph.halted = true ∧ (engineHalted 3).coreUp 1 = true ∧ (engineHalted 3).siph.reenables = []
    ∧ (engineHalted 3).siph.windowMasks.length < 4 ∧ ((engineHalted 3).ring 2).force.cls = ringSiphon ∧ ((engineHalted 3).ring 2).state = .halted
    ∧ ((engineHalted 3).ring 2).haltCode = Status.busError.code ∧ ((engineHalted 3).chan 2).retired = false
    ∧ 4 ≤ (engineHalted 4).siph.windowMasks.length ∧ (engineHalted 4).coreUp 1 = true
    ∧ (let s := (engineHalted 3).modChan 5 (fun x => { x with retired := true })
       s.hostUp .pf0 = true ∧ s.ringReach .pf0 5 = true ∧ (s.chan 5).retired = true ∧ s.siph.halted = true)
    ∧ (let s := up.modChan 5 (fun x => { x with retired := true })
       s.hostUp .pf0 = true ∧ s.ringReach .pf0 5 = true ∧ (s.chan 5).retired = true ∧ s.siph.halted = false)
    ∧ (let s := chanUp (entry 0x16 (leBytes 16 0) (.finished .ok 0))
       (s.ring 2).inflight = [entry 0x16 (leBytes 16 0) (.finished .ok 0)] ∧ (s.ring 2).force.cls = ringSiphon ∧ (s.chan 2).retired = false)
    ∧ ((chanUp (entry 0x16 (leBytes 16 0) (.finished .format 0))).ring 2).inflight = [entry 0x16 (leBytes 16 0) (.finished .format 0)] := by
  decide +kernel

/-- A FILL of 16 by 2 pixels of 4 bytes by the 2D engine on ring 80, and unit 1 that has it. -/
def blitEntry (op : Nat) (p : Phase) : Exec :=
  let body := leBytes 8 0 ++ leBytes 2 16 ++ leBytes 2 2 ++ [2#8, 0#8] ++ leBytes 2 0
  entry op (if op = opFill then body ++ leBytes 8 0x8000 ++ leBytes 4 64 ++ leBytes 4 0 ++ leBytes 8 0x0403020104030201 ++ leBytes 24 0
            else body ++ leBytes 8 0x4000 ++ leBytes 8 0x8000 ++ leBytes 4 64 ++ leBytes 4 64 ++ leBytes 24 0) p
def blitUp (e : Exec) : State := ringUp 80 ringBlit [e] up
def unitHas (op : Nat) : State :=
  (blitUp (blitEntry op .running)).modUnit 1 (fun x => { x with state := .running, ring := 80, position := 0 })

/-- UnitsRunCommands: a free unit and an entry that waits, nothing that waits, and work that is shed; each command in a unit. -/
theorem witness_unitsRunCommands :
    (let s := blitUp (blitEntry opCopy .waiting)
     (s.unit 1).state = .idle ∧ s.sheds 4 = false ∧ s.nextBlit = some (80, blitEntry opCopy .waiting)
       ∧ (blitCmd (blitEntry opCopy .waiting)).staged = false)
    ∧ (up.unit 1).state = .idle ∧ up.nextBlit = none
    ∧ State.sheds { up with lamp := { up.lamp with stage := 5 } } 4 = true
    ∧ (∀ op ∈ [opCopy, opFill, opConvert, opTransform],
        (unitHas op).unitEntry 1 = some (80, blitEntry op .running) ∧ (blitEntry op .running).opcode = op
          ∧ (blitCmd (blitEntry op .running)).staged = false
          ∧ (unitHas op).readStop (blitCmd (blitEntry op .running)) ((blitEntry op .running).aux.headD 0) .none = none) := by
  decide +kernel

/-- A LEVEL source 984 of PF0: its level is high; it is claimed or it is pending. -/
def levelSource (active : Bool) : State := up.modEv 984 (fun x => { x with level := true, raw := true, pending := !active, active := active, enabled := true })

/-- SourcesAssert: a pulse source and a condition source, before FWREADY and after; a reserved, a SOFTWARE and a pulse source; a level that
is high. -/
theorem witness_sourcesAssert :
    evReserved 5 = false ∧ evSoftware 5 = false ∧ evCondition 5 = false ∧ up.sys.fwReady = true ∧ ((up.evEff 5).level && (up.evEff 5).active) = false
    ∧ booting.sys.fwReady = false ∧ evReserved 1030 = false ∧ evReserved 1040 = true ∧ evSoftware 1280 = true
    ∧ evReserved 984 = false ∧ evSoftware 984 = false ∧ evCondition 984 = true ∧ bit (up.cfg 0x5801 1) (984 - 944) = false
    ∧ ((levelSource false).ev 984).raw = true ∧ ((levelSource false).ev 984).level = true ∧ ((levelSource false).ev 984).active = false
    ∧ (up.ev 984).level = false := by
  decide +kernel

/-- SourceBitsAreWritten: bit 24 of word 30 is source 984; it is PF0's; a LEVEL source that no message has claimed and one that one has. -/
theorem witness_sourceBitsAreWritten :
    984 / 32 = 30 ∧ Nat.testBit 0x0100_0000 (984 % 32) = true ∧ up.hostUp .pf0 = true ∧ up.hostUp .pf1 = true
    ∧ (up.evEff 984).level = false
    ∧ ((levelSource false).evEff 984).level = true ∧ ((levelSource false).ev 984).level = true ∧ ((levelSource false).ev 984).active = false
    ∧ (((levelSource true).evEff 984).level && ((levelSource true).ev 984).active) = true
    ∧ (∀ i : Fin 1536, up.evOwner i = .pf0) := by
  decide +kernel

/-- Source 300 is pending for vector 3 of a function that may send, or for a core. -/
def presentable (target : Nat) (fn : Fn) : State :=
  let s := up.setEv 300 { up.ev 300 with enabled := true, target := target, vector := 3, owner := fn }
  let s := s.setFnCfg fn { s.fnCfg fn with msixEnable := true, busMaster := true, msix := [(3, { addr := 0x9000, data := 77, masked := false })] }
  after (.eventOccurrence 300) s

/-- MessagesAreIssued: PF0's source; a group at its threshold and one that is not; a deliverable vector of each function, and none; a core
that has a source to take. -/
theorem witness_messagesAreIssued :
    up.hostUp .pf0 = true ∧ up.hostUp .pf1 = true ∧ up.evOwner 5 = .pf0 ∧ field 0x9 1 1 = 0 ∧ field 0x9 3 2 ≠ 3 ∧ field 0x9 26 16 < 2048
    ∧ (let s := up.modGroup 2 (fun x => { x with count := 3, counted := 4, holding := true })
       ((s.group 2).timerDone s.now || ((s.group 2).holding && decide ((s.group 2).count + 1 ≤ (s.group 2).counted))) = true)
    ∧ ((up.group 2).timerDone up.now || ((up.group 2).holding && decide ((up.group 2).count + 1 ≤ (up.group 2).counted))) = false
    ∧ ((presentable 0 .pf0).evc.order.map (fun p => p.2)).find? (fun t => (presentable 0 .pf0).deliverable t) = some (.vector .pf0 3)
    ∧ ((presentable 0 .pf1).evc.order.map (fun p => p.2)).find? (fun t => (presentable 0 .pf1).deliverable t) = some (.vector .pf1 3)
    ∧ (up.evc.order.map (fun p => p.2)).find? (fun t => up.deliverable t) = none
    ∧ (presentable 1 .pf0).coreServes 0 0 = true
    ∧ ((presentable 1 .pf0).evc.order.any (fun p => decide (p.2 = Target.core 0))) = true ∧ (presentable 1 .pf0).claimed (.core 0) = [300] := by
  decide +kernel

/-- The readings of 24 sensors at 40 °C. -/
def forty : List Int := List.replicate 24 640

/-- LampPaces: readings that are valid and that are not; the hottest sensor; Lamp at work and in RESET; a temperature at the grade's limit and
above it; a voltage below its goal and at it; an hour that has passed with SelfDerate off and on; a record that is due; a re-check that is due. -/
theorem witness_lampPaces :
    up.readingValid forty 3 = true ∧ up.readingValid (forty.set 3 9999) 3 = false ∧ (up.sensor 3).excluded = false
    ∧ (let t := after (.sensorRead forty) up
       (hottestOf t t.validSensors).isSome = true ∧ hottestOf (noCores) [] = none)
    ∧ up.coreUp 1 = true ∧ up.powerHeld = false ∧ up.sys.mode ≠ .reset ∧ up.sys.mode ≠ .boot ∧ State.reset.sys.mode = .reset
    ∧ up.lamp.vcoreLost = false
    ∧ (let s : State := { up with health := { up.health with powered := 200 * 3600000 } }
       168 ≤ s.poweredHours ∧ s.lamp.lifeHour < s.poweredHours ∧ s.health.lastHour < s.poweredHours)
    ∧ (let derate (b : Byte) : State := { up with dict := { up.dict with base := [(dkey 0x2100 5, [b])], force := [(dkey 0x2100 5, [b])] } }
       (derate 0#8).cfgBool 0x2100 5 = false ∧ (derate 1#8).cfgBool 0x2100 5 = true)
    ∧ ({ up with scn := { up.scn with recheckDue := true } } : State).scn.recheckDue = true ∧ up.coreUp 0 = true ∧ up.bothCoresRetired = false := by
  decide +kernel

/-- LampPaces: T_hot at 0 °C is below either grade's limit and at 200 °C above it, and either direction of the core voltage is possible. -/
theorem witness_lampLimits : 0 ≤ gradeLimit16 ∧ gradeLimit16 < 3200 ∧ vcoreGoal (Config.vcoreMin 0) 800 = 800 := by
  refine ⟨?_, ?_, ?_⟩
  · unfold gradeLimit16 gradeLimit; cases Config.gradeCA <;> decide
  · unfold gradeLimit16 gradeLimit; cases Config.gradeCA <;> decide
  · unfold vcoreGoal vcoreWanted ceilDiv
    simp only [Nat.max_def, Nat.min_def]
    split <;> split <;> split <;> omega

/-- EntriesFinishAndRetire: a record that waits in the Sump of ring 70. -/
theorem witness_sumpDrains :
    (let x : Record := { pos := 3, len := 1, tag := 9, status := .ok, result := 0, notify := false, hdrDone := true, hdr := 1, noRec := false }
     let s := (ringUp 70 0 [] up).modRing 70 (fun r => { r with sump := [x] })
     let r := s.ring 70
     r.sump = [x] ∧ r.inflight = [] ∧ x.hdrDone = true ∧ x.noRec = false ∧ r.state ≠ .halted ∧ r.force.cls ≠ ringSiphon ∧ r.cqFull = false
       ∧ s.granted .priv true (r.force.cqBase + 16 * r.prodIdx) 16 = true) := by
  decide +kernel

/-- RingsAreControlled: a halting field is written on an enabled ring that is not HALTED, and on one that is not enabled. -/
theorem witness_haltingFieldIsWritten :
    (let r := (ringUp 70 0 [] up).ring 70
     r.enable = true ∧ r.state ≠ .halted) ∧ (up.ring 70).enable = false := by
  decide +kernel

/-- StepRunsTheFront: two commands wait. EmptyQueuePassesTime: none waits, in RESET and in OPERATE, with a rate of 0 and the counter below
its bounds. -/
theorem witness_step :
    (let s : State := { up with pending := [.messageIssue, .admission] }
     s.pending = .messageIssue :: [.admission])
    ∧ State.reset.pending = [] ∧ State.reset.sys.mode = .reset
    ∧ up.pending = [] ∧ up.sys.mode ≠ .reset ∧ up.sys.rate = 0 ∧ up.sys.frac < 2 ^ 32 ∧ up.sys.wall + 4 < 2 ^ 64 := by
  decide +kernel

/-- StepKeepsTheInvariant: a device whose windows grant memory meets the invariant, and its step answers. -/
theorem witness_stepKeepsTheInvariant : up.Inv ∧ (∃ t, step up = .next t) := by
  refine ⟨⟨⟨by decide +kernel, by decide +kernel, by decide +kernel, by decide +kernel⟩, ?_⟩, ⟨_, rfl⟩⟩
  unfold State.winsSound
  intro p hp
  have h : p = (0, { Win.reset with rights := 4095, enable := true, sizeF := 2 ^ 20 })
      ∨ p = (1, { Win.reset with rights := 255, enable := true, hostF := true, sizeF := 2 ^ 20 }) := by
    have : p ∈ [(0, { Win.reset with rights := 4095, enable := true, sizeF := 2 ^ 20 }),
      (1, { Win.reset with rights := 255, enable := true, hostF := true, sizeF := 2 ^ 20 })] := hp
    simpa using this
  rcases h with rfl | rfl <;> (unfold Win.sound; decide +kernel)

/-- CommandsLeaveTheRest: each of its predicates holds of a command and fails of another. -/
theorem witness_commandsLeaveTheRest :
    (Instr.nop 3).setsMode = false ∧ (Instr.nop 3).setsCores = false ∧ (Instr.nop 3).setsWindows = false ∧ (Instr.nop 3).keepsMemory = true
    ∧ (Instr.sourceStateCheck).keepsRings = true ∧ (Instr.nop 3).keepsHeads = true ∧ (Instr.nop 3).movesHealth = false
    ∧ (Instr.nop 3).movesChannels = false ∧ (Instr.nop 3).movesUnits = false ∧ (Instr.nop 3).movesSources = false
    ∧ (Instr.nop 3).movesScenes = false ∧ (Instr.nop 3).movesDict = false ∧ (Instr.nop 3).movesLop = false
    ∧ (Instr.modeBoundary).setsMode = true ∧ (Instr.lockstepFault 0).setsCores = true ∧ (Instr.memWinControlWrite .pf0 0 1).setsWindows = true
    ∧ (Instr.siphonFill 0).keepsMemory = false ∧ (Instr.nop 3).keepsRings = false ∧ (Instr.latch 0).keepsHeads = false := by
  decide +kernel

/-- RetiredCoresStayRetired: core 0 is retired, and every command answers. -/
theorem witness_retiredCoresStayRetired :
    (let s := up.setCore 0 { up.core 0 with retired := true }
     (s.core 0).retired = true ∧ ((after (.coreRestartDone 0) s).core 0).retired = true) ∧ (Instr.deviceReset).mayReset = true := by
  decide +kernel

/-! ## Well-formed and ill-formed commands -/

/-- What a sink reports, and a request's header, in good form. -/
def caps0 : SinkCaps :=
  { dpcd := List.replicate 16 0#8, edid := [], rateMax := 0x1E, lanesMax := 4, dsc := false, fec := false, testCrc := false }
def okCtx : LopCtx := { via := .window, generation := 2, session := 0, requestId := 1, target := 0 }

/-- A command of each kind of operand is well formed. -/
theorem test_wellFormed :
    [Instr.checkScene 70 0, .frameStart 0 ⟨1, 0, 0, 0⟩, .hpdPlug 0 caps0, .bar2Write 0 [0#8], .doorbell .pf0 70 0 0 [],
     .copy 0 (.parity 3), .bringUpStart 0 [0, 1], .ident { port := 0, sender := 0, payload := [0#8] }, .read okCtx 0x1000 1 0,
     .sensorRead (List.replicate 24 0), .ptpMessage (.sync (-5)), .configurationWrite .pf0 (.bar2Size 35),
     .fwReady .runs ⟨[(11, 16)], [], false, [3], []⟩].all Instr.wellFormed = true := by
  decide +kernel

/-- Numbers wider than their fields are refused. -/
theorem test_illFormed_numbers :
    [Instr.checkScene 70 (2 ^ 32), .commitScene 70 (2 ^ 32), .memWinControlWrite .pf0 0 (2 ^ 32), .haltingFieldWrite .pf0 (.ringSqBase 0) (2 ^ 64),
     .cqconsWrite .pf0 0 65536 false, .uncorrectableRead .bar2 (2 ^ 64) true, .correctedRewrite (2 ^ 35), .devReset .pf0 (2 ^ 32),
     .pendingSet .pf0 0 (2 ^ 32), .pendingClear .pf0 0 (2 ^ 32), .eventEnableWrite .pf0 0 .set (2 ^ 32), .eoi .pf0 0 (2 ^ 32),
     .evcSourceWrite .pf0 0 (2 ^ 32), .lampEvaluation (some 65536), .vcoreStep 65536 true, .transferTimeout (2 ^ 32), .sessionTimeout (2 ^ 32),
     .forwardTimeout 65536, .gallerySelfTest 256 [], .parityScrub [2 ^ 26], .parityRestore (2 ^ 26), .readClear .pf0 (2 ^ 26) 4,
     .registerWrite .pf0 0 4 (2 ^ 32), .timeSync 0 0 0 0 (2 ^ 64), .scrubPass [.corrected (2 ^ 35)],
     .scrubPass [.uncorrectable (2 ^ 35)]].all (fun i => !i.wellFormed) = true := by
  decide +kernel

/-- Payloads and records of a wrong size are refused. -/
theorem test_illFormed_sizes :
    [Instr.bar2Write (2 ^ 35) [0#8], .bar2Write 0 [], .bar2Write 0 (List.replicate 4097 0#8), .bar2Read 0 0, .bar2Read 0 4097,
     .doorbell .pf0 0 8 0 [], .doorbell .pf0 0 0 65536 [], .doorbell .pf0 0 0 0 (List.replicate 65 0#8), .flitReceive 0 (List.replicate 255 0#8),
     .ident { port := 0, sender := 0, payload := [] }, .registry { port := 0, sender := 0, payload := List.replicate 4865 0#8 },
     .readClear .pf0 0 0, .registerWrite .pf0 0 4097 0, .lopForwardResponse (List.replicate 15 0#8), .sessionProve okCtx (List.replicate 47 0#8),
     .sensorRead (List.replicate 23 0), .sensorRead (32768 :: List.replicate 23 0),
     .siphonBusError .poisoned 0 []].all (fun i => !i.wellFormed) = true := by
  decide +kernel

/-- Records of the sink, the link, the blit unit, self-test and the servo that the hardware cannot report are refused. -/
theorem test_illFormed_reports :
    [Instr.frameStart 0 ⟨16, 0, 0, 0⟩, .frameStart 0 ⟨0, 65536, 0, 0⟩, .hpdPlug 0 { caps0 with dpcd := [] },
     .hpdPlug 0 { caps0 with edid := List.replicate 513 0#8 }, .hpdPlug 0 { caps0 with rateMax := 256 }, .hpdPlug 0 { caps0 with lanesMax := 3 },
     .trainingAttemptEnd 0 (some ⟨256, 4⟩), .trainingAttemptEnd 0 (some ⟨30, 3⟩), .copy 0 (.parity 65536), .fill 0 (.readFails 65536),
     .bringUpStart 0 [1, 1], .bringUpRetry 0 [2, 0, 2], .blockAlignment 0 [3, 3],
     .fwReady .runs ⟨[(12, 0)], [], false, [], []⟩, .fwReady .runs ⟨[(0, 17)], [], false, [], []⟩, .fwReady .runs ⟨[], [12], false, [], []⟩,
     .fwReady .runs ⟨[], [], false, [4], []⟩, .fwReady .runs ⟨[], [], false, [], [2 ^ 19]⟩, .configurationWrite .pf0 (.bar2Size 27),
     .configurationWrite .pf0 (.bar2Size 36), .ptpMessage (.sync (2 ^ 63)), .ptpMessage (.sync (-(2 ^ 63) - 1)),
     .dtlsHandshake (.established 8 0 0 true), .dtlsHandshake (.established 0 (2 ^ 32) 0 true), .dtlsHandshake (.established 0 0 65536 true),
     .dtlsHandshake (.ended 8)].all (fun i => !i.wellFormed) = true := by
  decide +kernel

/-- Fields of a LOP request wider than R362 gives them are refused. -/
theorem test_illFormed_requests :
    [Instr.read { okCtx with generation := 256 } 0 0 0, .write { okCtx with session := 2 ^ 32 } 0 0 [], .describe { okCtx with requestId := 65536 } 0 0,
     .sessionClose { okCtx with target := 65536 }, .read okCtx 65536 0 0, .read okCtx 0 256 0, .read okCtx 0 0 256,
     .write okCtx 0 0 (List.replicate 65517 0#8), .segReadStart okCtx 0 0 256, .segRead okCtx (2 ^ 32) 0 0, .segRead okCtx 0 (2 ^ 32) 0,
     .segRead okCtx 0 0 (2 ^ 32), .segWriteStart okCtx 0 0 (2 ^ 32), .segWrite okCtx 0 (2 ^ 32) false [],
     .segWrite okCtx 0 0 false (List.replicate 65509 0#8), .segCancel okCtx (2 ^ 32), .sessionOpen okCtx 256, .modeRequest okCtx 256,
     .rollbackAdvance okCtx 65536].all (fun i => !i.wellFormed) = true := by
  decide +kernel

/-! ## Worked examples of the specification -/

/-- The worked example at R14 (00_scope.md): layer alpha. -/
theorem test_layerAlpha : mul16 40000 32768 = 20000 ∧ mul16 65535 1 = 1 ∧ mul16 1 32768 = 1 := by
  decide +kernel

/-- The worked example of 04_composition.md: the mimic's pixel premultiplied and blended OVER the background, and the alarm banner at
layer alpha 0xC000 over that. -/
theorem test_bannerOverMimic :
    (let m := unpackArgb 0x80FF4000
     let p : Smp := { c := m.c.map (fun c => mul16 c m.a), a := m.a }
     let stack := blend 0 false false p { r := 4096, g := 4096, b := 4096 }
     let b := unpackArgb 0xFFC80000
     let q : Smp := { c := b.c.map (fun c => mul16 c 0xC000), a := mul16 b.a 0xC000 }
     stack = { r := 34936, g := 10296, b := 2040 } ∧ q.a = 49152 ∧ blend 0 false false q stack = { r := 47285, g := 2574, b := 510 }) := by
  decide +kernel

/-- The worked example of 04_composition.md: a camera's NV12 pixel Y = 128, Cb = 100, Cr = 160 by the BT.709 set. -/
theorem test_cameraPixel : unpackYcc false 512 400 640 = { r := 48258, g := 30668, b := 18314 } := by
  decide +kernel

/-- The worked example of 05_scaling_and_colour.md at stage 2: the decode LUT, the BT.2020-to-BT.709 matrix and the tone curve. -/
theorem test_cameraColour :
    interpolate 24100 24180 48 64 = 24160 ∧ interpolate 17950 18030 48 64 = 18010 ∧ interpolate 8960 9040 32 64 = 9000
    ∧ matrixRow [6801, -2407, -298, -510, 4640, -34, -75, -412, 4583] 0 { r := 24160, g := 18010, b := 9000 } = 28877
    ∧ matrixRow [6801, -2407, -298, -510, 4640, -34, -75, -412, 4583] 1 { r := 24160, g := 18010, b := 9000 } = 17319
    ∧ matrixRow [6801, -2407, -298, -510, 4640, -34, -75, -412, 4583] 2 { r := 24160, g := 18010, b := 9000 } = 7816
    ∧ octave (fun i => if i = 3462 then 52010 else if i = 3463 then 52074 else 0) 28877 = 52036 := by
  decide +kernel

/-- The worked example of 05_scaling_and_colour.md through the head path: output encode and ordered dither of the banner's red at
active position (1,000, 100), frames 1,000,001 and 1,000,002. -/
theorem test_bannerOutput :
    octave (fun i => if i = 3803 then 59960 else if i = 3804 then 60020 else 0) 46829 = 60002
    ∧ ditherValue true 10 1000001 1000 100 60002 = 937 ∧ ditherValue true 10 1000002 1000 100 60002 = 936
    ∧ ditherValue false 10 0 1000 100 60002 = 937 := by
  decide +kernel

/-- The two worked examples of 03_scenes_and_commit.md on L_latch: VTOTAL 2,222, W = 3 and G = 2 (the defaults of R89 and R153) give
line 2,196; VTOTAL 2,190, W = 4 and G = 8 give line 2,150, with G_eff 8. -/
theorem test_latchLine :
    up.vtotal 0 = 2222 ∧ up.latchLine 0 = 2196
    ∧ (let d : Tbl (List Byte) := [(dkey 0x4000 7, leBytes 2 16), (dkey 0x4020 1, leBytes 1 4), (dkey 0x4020 2, leBytes 1 8)]
       let s : State := { up with dict := { up.dict with base := d, force := d } }
       s.vtotal 0 = 2190 ∧ s.gEff 0 = 8 ∧ s.latchLine 0 = 2150) := by
  decide +kernel

/-- CRC-32C of the ASCII digits 1 to 9 is 0xE306_9283 (the published check value of the polynomial that R186 names). -/
theorem test_crc32c : crc32c ((List.range 9).map (fun i => byte (0x31 + i))) = 0xE3069283 := by
  decide +kernel

/-- The worked example of 16_events.md at step 6: EVC_EOI word 30 lies at BAR0 0x0010_6078 and its bit 28 is source 988, LEVEL, claimed
and high: EOI clears ACTIVE and sets the pending bit again. -/
theorem test_eoiSamplesTheLevel :
    (let s := up.modEv 988 (fun x => { x with level := true, raw := true, pending := false, active := true, enabled := true })
     let t := after (.eoi .pf0 30 0x10000000) s
     (t.ev 988).active = false ∧ (t.ev 988).pending = true) := by
  decide +kernel

/-- IDCODE of R472, and the balls in RESET (R445). -/
theorem test_pins : jtagIdcode = 0x271929AB ∧ State.reset.syncOutPin = false ∧ State.reset.gpioPin 3 = none
    ∧ State.reset.mainLinkIdle 0 = true ∧ State.reset.flashResetPin = false := by
  decide +kernel

end Sys2Proof.Tests
end

section
/-!
PROOFS. The wall and the device: the frame of every command (exec_kept), retired cores (R25), the clock that passes on an empty
queue (R26), Lamp and the scan (R32), and the discipline of wall time (R303, R311 to R313).
-/

/-! ## The frame of every command -/

namespace Sys2Proof

/-- The frame of a command: the parts of the state that the predicates of Safety say it leaves alone. -/
def Instr.frame (c : Instr) : Machine.Mask where
  sys := false
  boot := false
  health := !c.movesHealth
  dev := c.keepsMemory
  host := c.keepsMemory
  wins := !c.setsWindows
  memx := false
  que := c.keepsRings
  siph := !c.movesChannels
  blit := !c.movesUnits
  evc := false
  src := !c.movesSources
  scn := !c.movesScenes
  gal := false
  heads := c.keepsHeads
  lant := false
  wb := false
  fab := false
  lamp := false
  dict := !c.movesDict
  lop := !c.movesLop
  fresh := false
  bus := false
  cores := !c.setsCores
  mode := !c.setsMode

end Sys2Proof

namespace Sys2Proof.Machine

/-- Every command keeps the invariant, the commands that wait, and its frame. -/
theorem exec_kept (s : State) : (c : Instr) → KeptO c.frame s (exec c s)
  | .registerSource .. => execRegisterSource_kept (.refl s)
  | .withdrawSource .. => execWithdrawSource_kept (.refl s)
  | .withdrawalComplete .. => execWithdrawalComplete_kept (.refl s)
  | .publish .. => execPublish_kept (.refl s)
  | .querySource .. => execQuerySource_kept (.refl s)
  | .checkScene .. => execCheckScene_kept (.refl s)
  | .commitScene .. => execCommitScene_kept (.refl s)
  | .queryScene .. => execQueryScene_kept (.refl s)
  | .pad .. => execPad_kept (.refl s)
  | .nop .. => execNop_kept (.refl s)
  | .lopExchange .. => execLopExchange_kept (.refl s)
  | .admission => execAdmission_kept (.refl s)
  | .sourceStateCheck => execSourceStateCheck_kept (.refl s)
  | .frameStart .. => execFrameStart_kept (.refl s)
  | .latch .. => execLatch_kept (.refl s)
  | .commitAhead .. => execCommitAhead_kept (.refl s)
  | .bandCompositionStart .. => execBandCompositionStart_kept (.refl s)
  | .tileTake .. => execTileTake_kept (.refl s)
  | .tileWrite .. => execTileWrite_kept (.refl s)
  | .bandDrain .. => execBandDrain_kept (.refl s)
  | .uncorrectableRead .. => execUncorrectableRead_kept (.refl s)
  | .galleryFault .. => execGalleryFault_kept (.refl s)
  | .galleryReturn .. => execGalleryReturn_kept (.refl s)
  | .sceneRecheck => execSceneRecheck_kept (.refl s)
  | .echoPartDone .. => execEchoPartDone_kept (.refl s)
  | .regionVerdict .. => execRegionVerdict_kept (.refl s)
  | .logWriteDone => execLogWriteDone_kept (.refl s)
  | .wbFrameDone .. => execWbFrameDone_kept (.refl s)
  | .wbCapture .. => execWbCapture_kept (.refl s)
  | .headResume .. => execHeadResume_kept (.refl s)
  | .syncInEdge => execSyncInEdge_kept (.refl s)
  | .syncInLost => execSyncInLost_kept (.refl s)
  | .hpdUnplug .. => execHpdUnplug_kept (.refl s)
  | .hpdPlug .. => execHpdPlug_kept (.refl s)
  | .irqHpd .. => execIrqHpd_kept (.refl s)
  | .trainingAttemptEnd .. => execTrainingAttemptEnd_kept (.refl s)
  | .trainingTimeout .. => execTrainingTimeout_kept (.refl s)
  | .trainingRetry .. => execTrainingRetry_kept (.refl s)
  | .linkReenable .. => execLinkReenable_kept (.refl s)
  | .memWinControlWrite .. => execMemWinControlWrite_kept (.refl s)
  | .memWinsync .. => execMemWinsync_kept (.refl s)
  | .bar2Write .. => execBar2Write_kept (.refl s)
  | .bar2Read .. => execBar2Read_kept (.refl s)
  | .scrubPass .. => execScrubPass_kept (.refl s)
  | .correctedRewrite .. => execCorrectedRewrite_kept (.refl s)
  | .granuleRemap => execGranuleRemap_kept (.refl s)
  | .doorbell .. => execDoorbell_kept (.refl s)
  | .cqconsWrite .. => execCqconsWrite_kept (.refl s)
  | .entryRead .. => execEntryRead_kept (.refl s)
  | .entryRetire .. => execEntryRetire_kept (.refl s)
  | .sumpDrain .. => execSumpDrain_kept (.refl s)
  | .ringEnable .. => execRingEnable_kept (.refl s)
  | .ringDisable .. => execRingDisable_kept (.refl s)
  | .ringStop .. => execRingStop_kept (.refl s)
  | .ringResume .. => execRingResume_kept (.refl s)
  | .restart .. => execRestart_kept (.refl s)
  | .haltingFieldWrite .. => execHaltingFieldWrite_kept (.refl s)
  | .functionLevelReset .. => execFunctionLevelReset_kept (.refl s)
  | .sgCopy .. => execSgCopy_kept (.refl s)
  | .siphonFill .. => execSiphonFill_kept (.refl s)
  | .crc .. => execCrc_kept (.refl s)
  | .siphonPublish .. => execSiphonPublish_kept (.refl s)
  | .wait .. => execWait_kept (.refl s)
  | .waitTimeout .. => execWaitTimeout_kept (.refl s)
  | .signal .. => execSignal_kept (.refl s)
  | .fence .. => execFence_kept (.refl s)
  | .descriptorRetire .. => execDescriptorRetire_kept (.refl s)
  | .siphonBusError .. => execSiphonBusError_kept (.refl s)
  | .siphonRestart => execSiphonRestart_kept (.refl s)
  | .reenable .. => execReenable_kept (.refl s)
  | .waitSourcePulse .. => execWaitSourcePulse_kept (.refl s)
  | .copy .. => execCopy_kept (.refl s)
  | .fill .. => execFill_kept (.refl s)
  | .convert .. => execConvert_kept (.refl s)
  | .transform .. => execTransform_kept (.refl s)
  | .blitUnitTake .. => execBlitUnitTake_kept (.refl s)
  | .flitReceive .. => execFlitReceive_kept (.refl s)
  | .bringUpStart .. => execBringUpStart_kept (.refl s)
  | .bringUpTimeout .. => execBringUpTimeout_kept (.refl s)
  | .bringUpRetry .. => execBringUpRetry_kept (.refl s)
  | .portReenable .. => execPortReenable_kept (.refl s)
  | .ident .. => execIdent_kept (.refl s)
  | .linkStatus .. => execLinkStatus_kept (.refl s)
  | .linkStatusTick => execLinkStatusTick_kept (.refl s)
  | .timeSync .. => execTimeSync_kept (.refl s)
  | .timeSyncTick => execTimeSyncTick_kept (.refl s)
  | .timeSyncTimeout => execTimeSyncTimeout_kept (.refl s)
  | .ppsEdge => execPpsEdge_kept (.refl s)
  | .routeUpdate .. => execRouteUpdate_kept (.refl s)
  | .linkDown .. => execLinkDown_kept (.refl s)
  | .wallFrameTick => execWallFrameTick_kept (.refl s)
  | .heartbeat .. => execHeartbeat_kept (.refl s)
  | .summary .. => execSummary_kept (.refl s)
  | .summarySend => execSummarySend_kept (.refl s)
  | .coordinatorTimeout => execCoordinatorTimeout_kept (.refl s)
  | .takeOffice => execTakeOffice_kept (.refl s)
  | .offer .. => execOffer_kept (.refl s)
  | .gatherTimeout => execGatherTimeout_kept (.refl s)
  | .prepare .. => execPrepare_kept (.refl s)
  | .answer .. => execAnswer_kept (.refl s)
  | .decisionDeadline => execDecisionDeadline_kept (.refl s)
  | .decision .. => execDecision_kept (.refl s)
  | .registry .. => execRegistry_kept (.refl s)
  | .subscribe .. => execSubscribe_kept (.refl s)
  | .unsubscribe .. => execUnsubscribe_kept (.refl s)
  | .streamStart .. => execStreamStart_kept (.refl s)
  | .streamData .. => execStreamData_kept (.refl s)
  | .streamFrameSent .. => execStreamFrameSent_kept (.refl s)
  | .isolation => execIsolation_kept (.refl s)
  | .domainEntryApply => execDomainEntryApply_kept (.refl s)
  | .modeRequest .. => execModeRequest_kept (.refl s)
  | .modeBoundary => execModeBoundary_kept (.refl s)
  | .gallerySelfTest .. => execGallerySelfTest_kept (.refl s)
  | .read .. => execRead_kept (.refl s)
  | .write .. => execWrite_kept (.refl s)
  | .describe .. => execDescribe_kept (.refl s)
  | .segReadStart .. => execSegReadStart_kept (.refl s)
  | .segRead .. => execSegRead_kept (.refl s)
  | .segWriteStart .. => execSegWriteStart_kept (.refl s)
  | .segWrite .. => execSegWrite_kept (.refl s)
  | .segCancel .. => execSegCancel_kept (.refl s)
  | .transferTimeout .. => execTransferTimeout_kept (.refl s)
  | .coefficientSetLoaded => execCoefficientSetLoaded_kept (.refl s)
  | .sessionOpen .. => execSessionOpen_kept (.refl s)
  | .sessionProve .. => execSessionProve_kept (.refl s)
  | .sessionClose .. => execSessionClose_kept (.refl s)
  | .keepalive .. => execKeepalive_kept (.refl s)
  | .sessionTimeout .. => execSessionTimeout_kept (.refl s)
  | .lopWindowGo .. => execLopWindowGo_kept (.refl s)
  | .lopWindowDone => execLopWindowDone_kept (.refl s)
  | .lopForwardResponse .. => execLopForwardResponse_kept (.refl s)
  | .forwardTimeout .. => execForwardTimeout_kept (.refl s)
  | .storeNow => execStoreNow_kept (.refl s)
  | .autoStore => execAutoStore_kept (.refl s)
  | .storeDone .. => execStoreDone_kept (.refl s)
  | .readClear .. => execReadClear_kept (.refl s)
  | .registerWrite .. => execRegisterWrite_kept (.refl s)
  | .parityScrub .. => execParityScrub_kept (.refl s)
  | .parityRestore .. => execParityRestore_kept (.refl s)
  | .devReset .. => execDevReset_kept (.refl s)
  | .eventOccurrence .. => execEventOccurrence_kept (.refl s)
  | .levelFall .. => execLevelFall_kept (.refl s)
  | .pendingSet .. => execPendingSet_kept (.refl s)
  | .pendingClear .. => execPendingClear_kept (.refl s)
  | .eventEnableWrite .. => execEventEnableWrite_kept (.refl s)
  | .eoi .. => execEoi_kept (.refl s)
  | .evcSourceWrite .. => execEvcSourceWrite_kept (.refl s)
  | .groupRelease .. => execGroupRelease_kept (.refl s)
  | .messageIssue => execMessageIssue_kept (.refl s)
  | .coreAccept .. => execCoreAccept_kept (.refl s)
  | .sensorRead .. => execSensorRead_kept (.refl s)
  | .lampEvaluation .. => execLampEvaluation_kept (.refl s)
  | .lifeEvaluation => execLifeEvaluation_kept (.refl s)
  | .vcoreStep .. => execVcoreStep_kept (.refl s)
  | .thermalTrip => execThermalTrip_kept (.refl s)
  | .healthRecordAppend .. => execHealthRecordAppend_kept (.refl s)
  | .lockstepFault .. => execLockstepFault_kept (.refl s)
  | .coreRestartDone .. => execCoreRestartDone_kept (.refl s)
  | .powerOnReset => execPowerOnReset_kept (.refl s)
  | .supplyMonitorTrip => execSupplyMonitorTrip_kept (.refl s)
  | .perst => execPerst_kept (.refl s)
  | .pcieReset => execPcieReset_kept (.refl s)
  | .resetRelease .. => execResetRelease_kept (.refl s)
  | .fwReady .. => execFwReady_kept (.refl s)
  | .bootEnd => execBootEnd_kept (.refl s)
  | .bootWatchdog => execBootWatchdog_kept (.refl s)
  | .refClockLost => execRefClockLost_kept (.refl s)
  | .refClockRestored => execRefClockRestored_kept (.refl s)
  | .imageActivate .. => execImageActivate_kept (.refl s)
  | .imageConfirm .. => execImageConfirm_kept (.refl s)
  | .confirmDelay => execConfirmDelay_kept (.refl s)
  | .rollbackAdvance .. => execRollbackAdvance_kept (.refl s)
  | .recoveryStart .. => execRecoveryStart_kept (.refl s)
  | .recoveryChunk .. => execRecoveryChunk_kept (.refl s)
  | .recoveryFinish .. => execRecoveryFinish_kept (.refl s)
  | .deviceReset => execDeviceReset_kept (.refl s)
  | .pcieResetEnd => execPcieResetEnd_kept (.refl s)
  | .configurationWrite .. => execConfigurationWrite_kept (.refl s)
  | .ptpMessage .. => execPtpMessage_kept (.refl s)
  | .blockAlignment .. => execBlockAlignment_kept (.refl s)
  | .dtlsHandshake .. => execDtlsHandshake_kept (.refl s)
  | .testEn .. => execTestEn_kept (.refl s)
  | .extest .. => execExtest_kept (.refl s)

theorem Kept.cores_of_flag {m : Mask} {s t : State} (h : Kept m s t) (hm : m.cores = true) : t.sys.cores = s.sys.cores := by
  obtain ⟨-, -, -, -, -, -, -, -, -, -, -, -, -, -, -, -, -, -, -, -, -, -, -, hcores, -⟩ := h.same
  exact hcores hm

theorem Kept.mode_of_flag {m : Mask} {s t : State} (h : Kept m s t) (hm : m.mode = true) : t.sys.mode = s.sys.mode := by
  obtain ⟨-, -, -, -, -, -, -, -, -, -, -, -, -, -, -, -, -, -, -, -, -, -, -, -, hmode⟩ := h.same
  exact hmode hm

theorem Kept.heads_of_flag {m : Mask} {s t : State} (h : Kept m s t) (hm : m.heads = true) : t.heads = s.heads := by
  obtain ⟨-, -, -, -, -, -, -, -, -, -, -, -, -, -, hheads, -⟩ := h.same
  exact hheads hm

theorem Kept.dict_of_flag {m : Mask} {s t : State} (h : Kept m s t) (hm : m.dict = true) : t.dict = s.dict := by
  obtain ⟨-, -, -, -, -, -, -, -, -, -, -, -, -, -, -, -, -, -, -, hdict, -⟩ := h.same
  exact hdict hm

theorem cores_of_exec {c : Instr} {s t : State} (e : exec c s = .next t) (hc : c.setsCores = false) : t.sys.cores = s.sys.cores :=
  ((exec_kept s c).out t e).cores_of_flag (by simp [Instr.frame, hc])

theorem heads_of_exec {c : Instr} {s t : State} (e : exec c s = .next t) (hc : c.keepsHeads = true) : t.heads = s.heads :=
  ((exec_kept s c).out t e).heads_of_flag hc

theorem dict_of_exec {c : Instr} {s t : State} (e : exec c s = .next t) (hc : c.movesDict = false) : t.dict = s.dict :=
  ((exec_kept s c).out t e).dict_of_flag (by simp [Instr.frame, hc])

/-! ## Management cores (R24, R25) -/

theorem State.core_of_cores {s t : State} (e : t.sys.cores = s.sys.cores) (k : Nat) : t.core k = s.core k := by
  unfold State.core; rw [e]

theorem State.core_setCore_ne (s : State) {c k : Fin 2} (x : Core) (h : k ≠ c) : (s.setCore c x).core k = s.core k := by
  match c, k, h with
  | 0, 0, h => exact absurd rfl h
  | 0, 1, _ => rfl
  | 1, 0, _ => rfl
  | 1, 1, h => exact absurd rfl h

/-! ## Into RESET, or with the cores as they are -/

/-- From `s` to `t` the cores and the mode are the same, or the device has entered RESET. -/
def State.CoresOrReset (s t : State) : Prop :=
  (t.sys.cores = s.sys.cores ∧ t.sys.mode = s.sys.mode) ∨ (s.sys.mode ≠ .reset ∧ t.sys.mode = .reset)

/-- The flags of the cores and of the mode. -/
abbrev Mask.coresAndMode : Mask :=
  ⟨false,false,false,false,false,false,false,false,false,false,false,false,false,false,false,false,false,false,false,false,false,false,false,true,true⟩

namespace State.CoresOrReset

theorem refl (s : State) : s.CoresOrReset s := .inl ⟨rfl, rfl⟩

theorem trans {s t u : State} (h : s.CoresOrReset t) (k : t.CoresOrReset u) : s.CoresOrReset u := by
  rcases h with ⟨hc, hm⟩ | ⟨hs, ht⟩ <;> rcases k with ⟨kc, km⟩ | ⟨kt, ku⟩
  · exact .inl ⟨kc.trans hc, km.trans hm⟩
  · exact .inr ⟨hm ▸ kt, ku⟩
  · exact .inr ⟨hs, km.trans ht⟩
  · exact absurd ht kt

theorem of_kept {s t : State} (h : Kept .coresAndMode s t) : s.CoresOrReset t :=
  .inl ⟨h.cores_of_flag rfl, h.mode_of_flag rfl⟩

theorem ite {c : Prop} [Decidable c] {s a b : State} (ha : s.CoresOrReset a) (hb : s.CoresOrReset b) : s.CoresOrReset (if c then a else b) := by
  split <;> assumption

theorem forEach {α : Type} {f : State → α → State} (hf : ∀ (s : State) a, s.CoresOrReset (f s a)) (l : List α) (s : State) :
    s.CoresOrReset (s.forEach l f) := by
  unfold State.forEach
  induction l generalizing s with
  | nil => exact refl s
  | cons a l ih => exact (hf s a).trans (ih _)

theorem after {s : State} {o : Host.Outcome State Fault Refusal} (h : ∀ t, o = .next t → s.CoresOrReset t) :
    s.CoresOrReset (Sys2Proof.Machine.after o s) := by
  unfold Sys2Proof.Machine.after
  split
  · exact h _ rfl
  · exact refl s

end State.CoresOrReset

theorem State.enterReset_coresOrReset (s : State) (cause : Nat) : s.CoresOrReset (s.enterReset cause) := by
  unfold State.enterReset
  by_cases h : s.sys.mode = .reset
  · rw [if_pos h]; exact .refl s
  · rw [if_neg h]; exact .inr ⟨h, by split <;> rfl⟩

theorem State.holdReset_coresOrReset (s : State) : s.CoresOrReset s.holdReset := by
  unfold State.holdReset
  by_cases h : s.sys.mode = .reset
  · rw [if_pos h]; exact .refl s
  · rw [if_neg h]; exact .inr ⟨h, rfl⟩

theorem State.powerOn_coresOrReset (s : State) : s.CoresOrReset s.powerOn := by
  unfold State.powerOn
  by_cases h : s.sys.mode = .reset
  · rw [if_pos h]; exact .inl ⟨rfl, rfl⟩
  · rw [if_neg h]; exact (s.enterReset_coresOrReset 1).trans (.inl ⟨rfl, rfl⟩)

theorem execThermalTrip_coresOrReset {s t : State} (e : execThermalTrip s = .next t) : s.CoresOrReset t := by
  unfold execThermalTrip at e
  cases e
  split
  · exact .refl s
  · exact .ite (.refl s) ((s.enterReset_coresOrReset 5).trans (.inl ⟨rfl, rfl⟩))

theorem execDeviceReset_coresOrReset {s t : State} (e : execDeviceReset s = .next t) : s.CoresOrReset t := by
  unfold execDeviceReset at e
  cases e
  split
  · exact .ite (s.enterReset_coresOrReset _) (.refl s)
  · exact .refl s

theorem execTestEn_coresOrReset {s t : State} {high : Bool} (e : execTestEn high s = .next t) : s.CoresOrReset t := by
  cases e
  exact State.CoresOrReset.trans (.ite s.holdReset_coresOrReset (.refl s)) (.inl ⟨rfl, rfl⟩)

theorem execExtest_coresOrReset {s t : State} {inForce : Bool} (e : execExtest inForce s = .next t) : s.CoresOrReset t := by
  cases e
  exact State.CoresOrReset.trans (.ite s.holdReset_coresOrReset (.refl s)) (.inl ⟨rfl, rfl⟩)

theorem execPerst_coresOrReset {s t : State} (e : execPerst s = .next t) : s.CoresOrReset t := by
  cases e
  exact .ite (.of_kept (State.pcieResetNow_kept (.refl s))) (s.enterReset_coresOrReset 2)

theorem execBootWatchdog_coresOrReset {s t : State} (e : execBootWatchdog s = .next t) : s.CoresOrReset t := by
  cases e
  exact .ite (s.enterReset_coresOrReset 6) (.refl s)

theorem execFwReady_coresOrReset {s t : State} {out : BootOutcome} {st : SelfTest} (e : execFwReady out st s = .next t) :
    s.CoresOrReset t := by
  unfold execFwReady at e
  cases e
  refine .ite (.refl s) ?_
  cases out with
  | sramFault => exact .inl ⟨rfl, rfl⟩
  | trainingFault => exact .inl ⟨rfl, rfl⟩
  | clockFault => exact .inl ⟨rfl, rfl⟩
  | imageMismatch => exact s.enterReset_coresOrReset 7
  | runs =>
    extract_lets loaded tested ready noted
    have hloaded : Kept .coresAndMode s loaded := .ite (.refl s) (State.loadDictionary_kept (.refl s))
    have htested : Kept .coresAndMode s tested := State.noteConditions_kept (State.noteEngines_kept (State.selfTest_kept hloaded))
    have hready : Kept .coresAndMode s ready := State.sparesLevel_kept (State.setFwReady_kept htested)
    have hnoted : Kept .coresAndMode s noted := .ite (State.raise_kept hready) hready
    exact .of_kept (.ite (State.raise_kept hnoted) hnoted)

theorem execRecoveryFinish_coresOrReset {s t : State} {fn : Fn} (e : execRecoveryFinish fn s = .next t) : s.CoresOrReset t := by
  unfold execRecoveryFinish at e
  cases e
  refine .ite (.refl s) ?_
  split
  · exact .inl ⟨rfl, rfl⟩
  · exact State.CoresOrReset.trans (.inl ⟨rfl, rfl⟩) (State.enterReset_coresOrReset _ 8)

theorem State.writeRecovery_coresOrReset (s : State) (o v : Nat) : s.CoresOrReset (s.writeRecovery o v) := by
  unfold State.writeRecovery
  refine .ite (.ite ?start (.ite ?chunk (.ite ?finish (.refl s)))) (.ite ?length (.ite ?buffer (.refl s)))
  case start => exact .of_kept (Kept.afterO (execRecoveryStart_kept (.refl s)) (.refl s))
  case chunk => exact .of_kept (Kept.afterO (execRecoveryChunk_kept (.refl s)) (.refl s))
  case finish => exact .after (fun t e => execRecoveryFinish_coresOrReset e)
  case length => exact .inl ⟨rfl, rfl⟩
  case buffer => exact .inl ⟨rfl, rfl⟩

theorem State.write4_coresOrReset (s : State) (fn : Fn) (o v : Nat) : s.CoresOrReset (s.write4 fn o v) := by
  unfold State.write4
  have h := Kept.refl (m := .coresAndMode) s
  refine .ite (.refl s) ?_
  refine .ite (.of_kept (State.writeHalf_kept h)) ?_
  refine .ite (.of_kept (State.devReset_kept h)) ?_
  refine .ite (s.writeRecovery_coresOrReset o v) ?_
  refine .ite (.of_kept (State.writeEvc_kept h)) ?_
  refine .ite (.of_kept (State.writeQue_kept h)) ?_
  refine .ite (.of_kept (State.writeSiph_kept h)) ?_
  refine .ite (.of_kept (State.privIgnore_kept h)) ?_
  refine .ite (.ite (.of_kept (State.writeWindow_kept h)) (.refl s)) ?_
  refine .ite (.ite (.of_kept (State.writePort_kept h)) (.refl s)) ?_
  exact .ite (.of_kept (State.writeDictWindow_kept h)) (.refl s)

theorem State.write8_coresOrReset (s : State) (fn : Fn) (o v : Nat) : s.CoresOrReset (s.write8 fn o v) := by
  unfold State.write8
  have halves := (s.write4_coresOrReset fn o (v % 2 ^ 32)).trans (State.write4_coresOrReset _ fn (o + 4) (v / 2 ^ 32))
  exact .ite (.refl s) (.ite (.ite (.of_kept (State.writeWide_kept (.refl s))) (.inl ⟨rfl, rfl⟩))
    (.ite halves (halves.trans (.inl ⟨rfl, rfl⟩))))

theorem State.writeBar0_coresOrReset (s : State) (fn : Fn) (o size v : Nat) : s.CoresOrReset (s.writeBar0 fn o size v) := by
  unfold State.writeBar0
  refine .ite (.of_kept (State.writeReqBuf_kept (.refl s))) (.ite (s.write4_coresOrReset _ _ _) (.ite ?_ (.inl ⟨rfl, rfl⟩)))
  exact .forEach (fun s k => s.write8_coresOrReset _ _ _) _ s

theorem execRegisterWrite_coresOrReset {s t : State} {fn : Fn} {off : Offset} {size v : Nat} (e : execRegisterWrite fn off size v s = .next t) :
    s.CoresOrReset t := by
  cases e
  exact .ite (s.writeBar0_coresOrReset fn off size v) (.refl s)

/-- The commands that may bring the device into RESET change no core otherwise. -/
theorem coresOrReset_of_exec {c : Instr} {s t : State} (e : exec c s = .next t) (hc : c.mayReset = true) : s.CoresOrReset t := by
  unfold Instr.mayReset at hc
  split at hc
  · exact execRegisterWrite_coresOrReset e
  · exact execThermalTrip_coresOrReset e
  · cases e; exact s.powerOn_coresOrReset
  · cases e; exact s.powerOn_coresOrReset
  · exact execPerst_coresOrReset e
  · exact execFwReady_coresOrReset e
  · exact execBootWatchdog_coresOrReset e
  · exact execRecoveryFinish_coresOrReset e
  · exact execDeviceReset_coresOrReset e
  · exact execTestEn_coresOrReset e
  · exact execExtest_coresOrReset e
  · cases hc

/-! ## The commands of the cores -/

theorem execLockstepFault_core {s t : State} {c k : Fin 2} (e : execLockstepFault c s = .next t) (hk : (s.core k).retired = true) :
    t.core k = s.core k := by
  unfold execLockstepFault at e
  cases e
  split
  case isTrue => rfl
  case isFalse h =>
    have hne : k ≠ c := by rintro rfl; exact h (.inr (.inl hk))
    extract_lets l gone raised noted
    have hraised : raised.core k = s.core k :=
      (State.core_of_cores (Kept.cores_eq (State.raise_kept (.refl _))) k).trans (s.core_setCore_ne _ hne)
    refine (State.core_of_cores (Kept.cores_eq ?_) k).trans hraised
    exact .ite (.refl raised) (.ite (State.closeFirmware_kept (State.noteConditions_kept (.refl raised)))
      (State.rerun_kept (State.noteConditions_kept (.refl raised))))

theorem execCoreRestartDone_core {s t : State} {c k : Fin 2} (e : execCoreRestartDone c s = .next t) (hk : (s.core k).retired = true) :
    t.core k = s.core k := by
  unfold execCoreRestartDone at e
  cases e
  split
  case isTrue => rfl
  case isFalse h =>
    have hne : k ≠ c := by rintro rfl; exact h (.inl hk)
    exact (State.core_of_cores (Kept.cores_eq (State.rerun_kept (.refl _))) k).trans (s.core_setCore_ne _ hne)

theorem setsCores_cases {c : Instr} (h : c.setsCores = true) :
    c.mayReset = true ∨ (∃ k, c = .lockstepFault k) ∨ ∃ k, c = .coreRestartDone k := by
  unfold Instr.setsCores at h
  split at h
  · exact .inr (.inl ⟨_, rfl⟩)
  · exact .inr (.inr ⟨_, rfl⟩)
  · exact .inl h

/-- Settles O58: a command that may change a core brings the device into RESET or leaves both cores, or it is a lockstep fault or
the end of a restart, which change nothing of a core that is retired. -/
theorem retiredCoresStayRetired : Obligations.RetiredCoresStayRetired := by
  intro c s t k e hk
  cases hc : c.setsCores with
  | false => exact .inl (State.core_of_cores (cores_of_exec e hc) k ▸ hk)
  | true =>
    obtain hr | ⟨j, rfl⟩ | ⟨j, rfl⟩ := setsCores_cases hc
    · rcases coresOrReset_of_exec e hr with ⟨hcores, -⟩ | ⟨hs, ht⟩
      · exact .inl (State.core_of_cores hcores k ▸ hk)
      · exact .inr ⟨hr, hs, ht⟩
    · exact .inl (execLockstepFault_core e hk ▸ hk)
    · exact .inl (execCoreRestartDone_core e hk ▸ hk)

/-! ## Time passes (R26, R441) -/

/-- A number that fits its field is kept as it is. -/
theorem ofSigned_natCast {w n : Nat} (h : n < 2 ^ w) : ofSigned w (n : Int) = n := by
  unfold ofSigned
  rw [← Int.natCast_emod, Int.toNat_natCast, Nat.mod_eq_of_lt h]

theorem State.tick_of_reset {s : State} (h : s.sys.mode = .reset) : s.tick = s := if_pos h

theorem State.tick_of_running {s : State} (h : s.sys.mode ≠ .reset) :
    s.tick = s.setWallFine (s.wallFine + 4 * 2 ^ 32 + s.sys.rate) := if_neg h

/-- Without a rate term the fine counter moves on by 4 ns. -/
theorem State.wallFine_add_clock {s : State} (h : s.sys.rate = 0) :
    s.wallFine + 4 * 2 ^ 32 + s.sys.rate = (((s.sys.wall + 4) * 2 ^ 32 + s.sys.frac : Nat) : Int) := by
  unfold State.wallFine
  rw [h]
  push_cast
  ring

/-- The counter set from a fine count reads as its nanoseconds and its fraction. -/
theorem State.setWallFine_natCast (s : State) {w f : Nat} (hf : f < 2 ^ 32) (hw : w < 2 ^ 64) :
    (s.setWallFine ((w * 2 ^ 32 + f : Nat) : Int)).sys.wall = w ∧ (s.setWallFine ((w * 2 ^ 32 + f : Nat) : Int)).sys.frac = f := by
  unfold State.setWallFine
  rw [ofSigned_natCast (by omega)]
  dsimp only
  omega

/-- With no command waiting a step is one TIME clock. -/
theorem step_of_empty {s : State} (h : s.pending = []) : step s = .next s.tick := by
  unfold step; rw [h]

/-- Settles O53: a step on an empty queue is a tick, which stands in RESET and else adds to the fine counter. -/
theorem emptyQueuePassesTime : Obligations.EmptyQueuePassesTime := by
  intro s hp
  rw [step_of_empty hp]
  refine ⟨fun hm => by rw [State.tick_of_reset hm], fun hm => ⟨s.tick, rfl, ?_, ?_⟩⟩
  · rw [State.tick_of_running hm]; rfl
  · intro hr hf hw
    rw [State.tick_of_running hm, State.wallFine_add_clock hr]
    exact s.setWallFine_natCast hf hw

/-! ## Lamp and the scan (R32) -/

/-- A command that keeps the heads and moves no entry of the dictionary leaves what the scan's timing is taken from. -/
theorem exec_leavesScanTiming {c : Instr} {s t : State} (e : exec c s = .next t) (hh : c.keepsHeads = true) (hd : c.movesDict = false) :
    ∃ t, exec c s = .next t ∧ t.heads = s.heads ∧ t.dict = s.dict :=
  ⟨t, e, heads_of_exec e hh, dict_of_exec e hd⟩

/-- Settles O59, by the frames of Lamp's four commands. -/
theorem lampLeavesScanTiming : Obligations.LampLeavesScanTiming := by
  intro s
  refine ⟨?sensorRead, ?lampEvaluation, ?vcoreStep, ?lifeEvaluation⟩
  case sensorRead => exact fun r => exec_leavesScanTiming (c := .sensorRead r) rfl rfl rfl
  case lampEvaluation => exact fun p => exec_leavesScanTiming (c := .lampEvaluation p) rfl rfl rfl
  case vcoreStep => exact fun m a => exec_leavesScanTiming (c := .vcoreStep m a) rfl rfl rfl
  case lifeEvaluation => exact exec_leavesScanTiming (c := .lifeEvaluation) rfl rfl rfl

/-! ## What sending leaves of a port -/

/-- The ports of a state whose table of ports is the same. -/
theorem State.port_of_ports {s t : State} (e : t.fab.ports = s.fab.ports) (j : Nat) : t.port j = s.port j := by
  unfold State.port; rw [e]

/-- The link's state, its step of bring-up and its measured delay are the same. -/
def Port.SameLink (x y : Port) : Prop := y.state = x.state ∧ y.step = x.step ∧ y.delay = x.delay ∧ y.syncAt = x.syncAt

theorem Port.SameLink.refl (x : Port) : x.SameLink x := ⟨rfl, rfl, rfl, rfl⟩

theorem Port.SameLink.trans {x y z : Port} (h : x.SameLink y) (k : y.SameLink z) : x.SameLink z := by
  obtain ⟨hstate, hstep, hdelay, hsync⟩ := h
  obtain ⟨kstate, kstep, kdelay, ksync⟩ := k
  exact ⟨kstate.trans hstate, kstep.trans hstep, kdelay.trans hdelay, ksync.trans hsync⟩

/-- Storing a port whose link is the same leaves every link the same. -/
theorem State.sameLink_setPort (s : State) {p : Nat} {x : Port} (h : (s.port p).SameLink x) (j : Nat) :
    (s.port j).SameLink ((s.setPort p x).port j) := by
  by_cases e : j = p
  · subst e; rw [State.port_setPort_self]; exact h
  · rw [State.port_setPort_ne s x e]; exact .refl _

/-- Sending a flit does nothing, or stores its port with the same link. -/
theorem State.sendFlit_cases (s : State) (p : Nat) (b : List Byte) :
    s.sendFlit p b = s ∨ ∃ x, (s.port p).SameLink x ∧ s.sendFlit p b = s.setPort p x := by
  unfold State.sendFlit
  dsimp only
  split
  · refine .inr ⟨_, ?_, rfl⟩; exact ⟨rfl, rfl, rfl, rfl⟩
  split
  · exact .inl rfl
  split
  · refine .inr ⟨_, ?_, rfl⟩; exact ⟨rfl, rfl, rfl, rfl⟩
  · refine .inr ⟨_, ?_, rfl⟩; exact ⟨rfl, rfl, rfl, rfl⟩

theorem State.sendFlit_sameLink (s : State) (p : Nat) (b : List Byte) (j : Nat) : (s.port j).SameLink ((s.sendFlit p b).port j) := by
  obtain e | ⟨x, hx, e⟩ := s.sendFlit_cases p b <;> rw [e]
  · exact .refl _
  · exact s.sameLink_setPort hx j

/-- A flit changes no other port. -/
theorem State.sendFlit_port_ne (s : State) {p j : Nat} (b : List Byte) (e : j ≠ p) : (s.sendFlit p b).port j = s.port j := by
  obtain k | ⟨x, -, k⟩ := s.sendFlit_cases p b <;> rw [k]
  exact State.port_setPort_ne s x e

/-- A link that is UP, not retraining and with room in its replay buffer sends a flit at once. -/
theorem State.sendFlit_flitsOut {s : State} {p : Nat} (b : List Byte) (hup : (s.port p).state = .up) (hstep : (s.port p).step ≠ 7)
    (hroom : (s.port p).replayBuf.length < 256) : ((s.sendFlit p b).port p).flitsOut = wrapInc 64 (s.port p).flitsOut := by
  have hcarries : (s.port p).carries (getLE b 5 1) = true := by simp [Port.carries, hup]
  unfold State.sendFlit
  simp only [hstep, hcarries, Nat.not_le.2 hroom, ↓reduceIte, Bool.not_true, Bool.false_eq_true, State.port_setPort_self]

theorem State.forEach_sameLink {α : Type} {f : State → α → State} {j : Nat} (hf : ∀ (s : State) a, (s.port j).SameLink ((f s a).port j))
    (l : List α) (s : State) : (s.port j).SameLink ((s.forEach l f).port j) := by
  unfold State.forEach
  induction l generalizing s with
  | nil => exact .refl _
  | cons a l ih => exact (hf s a).trans (ih _)

theorem State.noteRoute_sameLink (s : State) (a p : Nat) (restored : Bool) (except : Option Nat) (j : Nat) :
    (s.port j).SameLink ((s.noteRoute a p restored except).port j) := by
  unfold State.noteRoute
  extract_lets b q known rest failed fab noted raised
  split
  · exact .refl _
  · have hraised : raised.fab = noted.fab := Kept.fab_eq (State.raise_kept (.refl noted))
    have hports : raised.port j = s.port j := State.port_of_ports (by rw [hraised]) j
    rw [← hports]
    exact State.forEach_sameLink (fun t n => t.sendFlit_sameLink n _ j) _ raised

theorem State.sendStatus_sameLink (s : State) (p j : Nat) : (s.port j).SameLink ((s.sendStatus p).port j) := by
  unfold State.sendStatus
  split
  · exact .refl _
  · refine (s.sendFlit_sameLink p _ j).trans (State.sameLink_setPort _ ?_ j)
    exact ⟨rfl, rfl, rfl, rfl⟩

/-! ## An exchange (R303, R312, R313) -/

theorem State.noteDomainState_port (s : State) (j : Nat) : s.noteDomainState.port j = s.port j := rfl

/-- A link that comes up keeps what its exchange measured. -/
theorem State.linkUp_port (s : State) (p : Nat) :
    ({ s.port p with state := .up, step := 0 } : Port).SameLink ((s.linkUp p).port p) := by
  unfold State.linkUp
  extract_lets port raised
  have hraised : raised.port p = { s.port p with state := .up, step := 0 } :=
    (State.port_of_fab (Kept.fab_eq (State.raiseNum_kept (.refl _))) p).trans (State.port_modPort_self s p _)
  rw [← hraised, State.noteDomainState_port]
  exact (raised.noteRoute_sameLink _ _ _ _ p).trans (State.sendStatus_sameLink _ p p)

/-- A change of TIMESTATE changes nothing else of the fabric. -/
theorem State.setTimeState_fab (s : State) (n : Nat) : (s.setTimeState n).fab = { s.fab with timeState := n } := by
  unfold State.setTimeState
  extract_lets was fab stated
  split
  · exact Kept.fab_eq (State.level_kept (.refl stated))
  split
  · exact Kept.fab_eq (State.raise_kept (State.level_kept (.refl stated)))
  · rfl

/-- The discipline of the counter leaves every port. -/
theorem State.followParent_ports (s : State) (two : Int) : (s.followParent two).fab.ports = s.fab.ports := by
  unfold State.followParent
  extract_lets _ _ _ size good _ counted judged _ _ steered _ slewed
  have hjudged : judged.fab.ports = s.fab.ports := by
    unfold judged
    split
    · rw [State.setTimeState_fab]
    · rfl
  have hslewed : slewed.fab.ports = s.fab.ports := hjudged
  split
  · exact hjudged
  split
  · split
    · exact hjudged
    · rw [Kept.fab_eq (State.reacquire_kept (.refl _))]; exact hjudged
  split
  · rw [State.setTimeState_fab]; exact hslewed
  · exact hslewed

/-- An exchange but for the counter: the delay is noted, and a link at its last step comes up. -/
def State.measured (s : State) (p t1 t2 t3 t4 : Nat) : State :=
  let u := s.setPort p { s.port p with delay := sat 32 ((((t4 : Int) - t1) - ((t3 : Int) - t2)) * 125 / 8).toNat, syncAt := s.now }
  if (s.port p).step = 6 then u.linkUp p else u

/-- An exchange on a link that may hold one: after the measurement the counter may be corrected. -/
theorem State.timeExchange_eq {s m : State} {p t1 t2 t3 t4 : Nat} (hf : s.fabricUp = true)
    (hx : (s.port p).state = .up ∨ (s.port p).step = 6) (hm : s.measured p t1 t2 t3 t4 = m) :
    s.timeExchange p t1 t2 t3 t4 =
      if m.routePort m.fab.timeRoot = some p ∧ m.fab.timeState ≠ 3 ∧ m.fab.timeState ≠ 0 then
        m.followParent (((t4 : Int) - t3) - ((t2 : Int) - t1))
      else m := by
  subst hm
  have hguard : ¬ (!s.fabricUp || !((s.port p).state == .up || (s.port p).step == 6)) = true := by
    rcases hx with h | h <;> simp [hf, h]
  exact if_neg hguard

/-- The correction of the counter leaves the port as the measurement leaves it. -/
theorem State.timeExchange_port {s : State} {p : Nat} (t1 t2 t3 t4 : Nat) (hf : s.fabricUp = true)
    (hx : (s.port p).state = .up ∨ (s.port p).step = 6) :
    (s.timeExchange p t1 t2 t3 t4).port p = (s.measured p t1 t2 t3 t4).port p := by
  rw [State.timeExchange_eq hf hx rfl]
  split
  · exact State.port_of_ports (State.followParent_ports _ _) p
  · rfl

/-- What an exchange measures, and the link at its last step of bring-up. -/
theorem State.measured_port (s : State) (p t1 t2 t3 t4 : Nat) :
    ((s.measured p t1 t2 t3 t4).port p).syncAt = s.now ∧
    ((s.measured p t1 t2 t3 t4).port p).delay = sat 32 ((((t4 : Int) - t1) - ((t3 : Int) - t2)) * 125 / 8).toNat ∧
    ((s.port p).step = 6 → ((s.measured p t1 t2 t3 t4).port p).state = .up ∧ ((s.measured p t1 t2 t3 t4).port p).step = 0) := by
  unfold State.measured
  extract_lets port u
  have hu : u.port p = _ := State.port_setPort_self s p _
  split
  case isTrue h =>
    have hup := u.linkUp_port p
    rw [hu] at hup
    obtain ⟨hstate, hstep, hdelay, hsync⟩ := hup
    exact ⟨hsync, hdelay, fun _ => ⟨hstate, hstep⟩⟩
  case isFalse h =>
    rw [hu]
    exact ⟨rfl, rfl, fun k => absurd k h⟩

/-- Where the link does not lead to the time root, an exchange on a link that is UP corrects nothing. -/
theorem State.timeExchange_of_not_root {s : State} {p : Nat} (t1 t2 t3 t4 : Nat) (hf : s.fabricUp = true) (hx : (s.port p).state = .up)
    (hstep : (s.port p).step ≠ 6) (hroot : s.routePort s.fab.timeRoot ≠ some p) :
    (s.timeExchange p t1 t2 t3 t4).sys = s.sys ∧ (s.timeExchange p t1 t2 t3 t4).heads = s.heads := by
  have hm : s.measured p t1 t2 t3 t4 = s.setPort p _ := if_neg hstep
  rw [State.timeExchange_eq hf (.inl hx) hm, if_neg (fun h => hroot h.1)]
  exact ⟨rfl, rfl⟩

theorem exec_timeSync {s : State} {p : Fin 4} (t1 t2 t3 t4 : Nat) (hf : s.fabricUp = true) (hx : (s.port p).state = .up ∨ (s.port p).step = 6) :
    ∃ t, exec (.timeSync p t1 t2 t3 t4) s = .next t ∧ (t.port p).syncAt = s.now
      ∧ (t.port p).delay = sat 32 ((((t4 : Int) - t1) - ((t3 : Int) - t2)) * 125 / 8).toNat
      ∧ ((s.port p).step = 6 → (t.port p).state = .up ∧ (t.port p).step = 0) ∧ t.mem = s.mem ∧ t.que = s.que
      ∧ ((s.port p).step ≠ 6 → s.routePort s.fab.timeRoot ≠ some p.val → t.sys = s.sys ∧ t.heads = s.heads) := by
  have hport := State.timeExchange_port t1 t2 t3 t4 hf hx
  obtain ⟨hsync, hdelay, hup⟩ := s.measured_port p t1 t2 t3 t4
  rw [← hport] at hsync hdelay hup
  refine ⟨s.timeExchange p t1 t2 t3 t4, rfl, hsync, hdelay, hup, ?mem, ?que, ?root⟩
  case mem => exact Kept.mem_eq ((execTimeSync_kept (.refl s)).out _ rfl)
  case que => exact Kept.que_eq ((execTimeSync_kept (.refl s)).out _ rfl)
  case root =>
    intro hstep hroot
    exact State.timeExchange_of_not_root t1 t2 t3 t4 hf (hx.resolve_right hstep) hstep hroot

/-! ## The tick of the exchanges (R312) -/

/-- A tick on one port: a request where one is due. -/
def State.tickPort (s : State) (p : Nat) : State :=
  if s.fabricUp && (((s.port p).state == .up && decide ((s.port p).syncAt + 1000000 ≤ s.now)) || (s.port p).step == 6) then
    s.sendNeighbour p msgTimeSync vcControl (leBytes 12 s.stamp32)
  else s

theorem execTimeSyncTick_eq (s : State) : execTimeSyncTick s = .next (s.forEach (List.range 4) State.tickPort) := rfl

theorem State.tickPort_sys (s : State) (p : Nat) : (s.tickPort p).sys = s.sys :=
  Kept.sys_eq (.ite (State.sendNeighbour_kept (.refl s)) (.refl s))

theorem State.tickPort_port_ne (s : State) {p j : Nat} (e : j ≠ p) : (s.tickPort p).port j = s.port j := by
  unfold State.tickPort
  split
  · exact s.sendFlit_port_ne _ e
  · rfl

/-- Ticks on other ports leave a port. -/
theorem State.forEach_tickPort_ne {p : Nat} {l : List Nat} (s : State) (hp : p ∉ l) :
    (s.forEach l State.tickPort).port p = s.port p := by
  unfold State.forEach
  induction l generalizing s with
  | nil => rfl
  | cons q l ih =>
    exact (ih _ (List.not_mem_of_not_mem_cons hp)).trans (s.tickPort_port_ne (List.ne_of_not_mem_cons hp))

/-- Ticks on several ports do to each what its own tick does to it. -/
theorem State.forEach_tickPort {s : State} {p : Nat} {P : Port → Prop} {l : List Nat} (hl : l.Nodup) (hp : p ∈ l)
    (h : ∀ t : State, t.port p = s.port p → t.sys = s.sys → P ((t.tickPort p).port p)) : P ((s.forEach l State.tickPort).port p) := by
  suffices ∀ t : State, t.port p = s.port p → t.sys = s.sys → P ((t.forEach l State.tickPort).port p) from this s rfl rfl
  induction l with
  | nil => cases hp
  | cons q l ih =>
    intro t hport hsys
    obtain ⟨hq, hl⟩ := List.nodup_cons.1 hl
    by_cases e : p = q
    · subst e
      exact (State.forEach_tickPort_ne (t.tickPort p) hq).symm ▸ h t hport hsys
    · exact ih hl ((List.mem_cons.1 hp).resolve_left e) _ ((t.tickPort_port_ne e).trans hport) ((t.tickPort_sys q).trans hsys)

theorem State.fabricUp_of_sys {s t : State} (e : t.sys = s.sys) : t.fabricUp = s.fabricUp := by
  unfold State.fabricUp State.coreUp; rw [e]

/-- A port that is UP and whose latest exchange is 1 ms old sends its request. -/
theorem State.tickPort_due {s : State} {p : Nat} (hf : s.fabricUp = true) (hup : (s.port p).state = .up) (hstep : (s.port p).step < 6)
    (hdue : (s.port p).syncAt + 1000000 ≤ s.now) (hroom : (s.port p).replayBuf.length < 256) :
    ((s.tickPort p).port p).flitsOut = wrapInc 64 (s.port p).flitsOut := by
  unfold State.tickPort
  rw [if_pos (by simp [hf, hup, hdue])]
  exact State.sendFlit_flitsOut _ hup (by omega) hroom

/-- A port that is neither UP nor at the last step of bring-up sends none. -/
theorem State.tickPort_idle {s : State} {p : Nat} (hup : (s.port p).state ≠ .up) (hstep : (s.port p).step ≠ 6) : s.tickPort p = s := by
  unfold State.tickPort
  exact if_neg (by simp [hup, hstep])

theorem exec_timeSyncTick {s : State} (p : Fin 4) (hf : s.fabricUp = true) :
    ∃ t, exec .timeSyncTick s = .next t ∧ t.sys = s.sys ∧ t.mem = s.mem ∧ t.heads = s.heads
      ∧ ((s.port p).state = .up → (s.port p).step < 6 → (s.port p).syncAt + 1000000 ≤ s.now → (s.port p).replayBuf.length < 256 →
          (t.port p).flitsOut = wrapInc 64 (s.port p).flitsOut)
      ∧ ((s.port p).state ≠ .up → (s.port p).step ≠ 6 → t.port p = s.port p) := by
  have hmem : p.val ∈ List.range 4 := List.mem_range.2 p.isLt
  refine ⟨s.forEach (List.range 4) State.tickPort, execTimeSyncTick_eq s, ?sys, ?mem, ?heads, ?due, ?idle⟩
  case sys => exact Kept.sys_eq ((execTimeSyncTick_kept (.refl s)).out _ rfl)
  case mem => exact Kept.mem_eq ((execTimeSyncTick_kept (.refl s)).out _ rfl)
  case heads => exact Kept.heads_eq ((execTimeSyncTick_kept (.refl s)).out _ rfl)
  case due =>
    intro hup hstep hdue hroom
    refine State.forEach_tickPort (P := fun x => x.flitsOut = _) List.nodup_range hmem (fun t hport hsys => ?_)
    have hnow : t.now = s.now := by unfold State.now; rw [hsys]
    rw [← hport] at hup hstep hdue hroom ⊢
    exact State.tickPort_due ((State.fabricUp_of_sys hsys).trans hf) hup hstep (hnow ▸ hdue) hroom
  case idle =>
    intro hup hstep
    refine State.forEach_tickPort (P := fun x => x = _) List.nodup_range hmem (fun t hport _ => ?_)
    rw [← hport] at hup hstep ⊢
    rw [State.tickPort_idle hup hstep]

/-! ## Unsynced, and the references (R311, R313) -/

theorem exec_timeSyncTimeout {s : State} {p : Nat} (hf : s.fabricUp = true) (hs : s.fab.timeState = 2)
    (hroot : s.routePort s.fab.timeRoot = some p) (hold : (s.port p).syncAt + 10000000 ≤ s.now) :
    ∃ t, exec .timeSyncTimeout s = .next t ∧ t.fab.timeState = 1 ∧ t.fab.goodSyncs = 0 ∧ t.sys = s.sys ∧ t.heads = s.heads := by
  have e : exec .timeSyncTimeout s = .next (State.setTimeState { s with fab := { s.fab with goodSyncs := 0 } } 1) := by
    show execTimeSyncTimeout s = _
    unfold execTimeSyncTimeout
    simp [hf, hs, hroot, hold]
  refine ⟨_, e, ?_, ?_, Kept.sys_eq (State.setTimeState_kept (.upd (.refl s))), Kept.heads_eq (State.setTimeState_kept (.upd (.refl s)))⟩
  · rw [State.setTimeState_fab]
  · rw [State.setTimeState_fab]

/-- Following a reference moves the rate of the counter alone. -/
theorem State.followReference_frame (s : State) :
    s.followReference.fab = s.fab ∧ s.followReference.sys.wall = s.sys.wall ∧ s.followReference.heads = s.heads := by
  unfold State.followReference
  split <;> exact ⟨rfl, rfl, rfl⟩

theorem exec_ppsEdge_first {s : State} (hf : s.fabricUp = true) (h : s.fab.ppsLast = none) :
    exec .ppsEdge s = .next { s with fab := { s.fab with ppsLast := some s.now } } := by
  show execPpsEdge s = _
  unfold execPpsEdge
  simp [hf, h]

/-- An edge of PPS_IN that is kept and valid. -/
def State.withPps (s : State) : State := { s with fab := { s.fab with ppsLast := some s.now, ppsValid := true } }

theorem exec_ppsEdge_valid {s : State} {u : Nat} (hf : s.fabricUp = true) (h : s.fab.ppsLast = some u)
    (hlow : u + 999900000 ≤ s.now) (hhigh : s.now ≤ u + 1000100000) :
    ∃ t, exec .ppsEdge s = .next t ∧ t.fab.ppsLast = some s.now ∧ t.fab.ppsValid = true ∧ t.sys.wall = s.sys.wall ∧ t.heads = s.heads := by
  have hin : ¬ (s.now < u + 999900000 ∨ u + 1000100000 < s.now) := by omega
  have e : exec .ppsEdge s = .next (if s.fab.ptpTai then s.withPps.followReference else s.withPps) := by
    show execPpsEdge s = _
    unfold execPpsEdge
    simp [hf, h, hin, State.withPps]
  obtain ⟨hfab, hwall, hheads⟩ := s.withPps.followReference_frame
  refine ⟨_, e, ?_⟩
  split
  · exact ⟨by rw [hfab]; rfl, by rw [hfab]; rfl, hwall, hheads⟩
  · exact ⟨rfl, rfl, rfl, rfl⟩

theorem exec_ptpMessage_off {s : State} (e : PtpEvent) (hf : s.fabricUp = true) (h : s.cfgBool 0x1430 1 = false) :
    exec (.ptpMessage e) s = .next { s with fab := { s.fab with ptpState := 0, ptpTai := false } } := by
  show execPtpMessage e s = _
  unfold execPtpMessage
  simp [hf, h]

theorem exec_ptpMessage_announce {s : State} (hf : s.fabricUp = true) (h : s.cfgBool 0x1430 1 = true) :
    exec (.ptpMessage .announce) s = .next { s with fab := { s.fab with
      ethLink := true, ptpTai := true, ptpState := if s.fab.ptpState = 2 then 2 else 1 } } := by
  show execPtpMessage .announce s = _
  unfold execPtpMessage
  simp [hf, h]

theorem exec_ptpMessage_sync {s : State} (n : Int) (hf : s.fabricUp = true) (h : s.cfgBool 0x1430 1 = true) :
    exec (.ptpMessage (.sync n)) s = .next (State.followReference { s with fab := { s.fab with
      ethLink := true, ptpState := 2, ptpTai := true } }) := by
  show execPtpMessage (.sync n) s = _
  unfold execPtpMessage
  simp [hf, h]

/-- Settles O30, command by command: an exchange, its tick and its timeout, the edges of PPS_IN, the PTP messages. -/
theorem wallTimeIsDisciplined : Obligations.WallTimeIsDisciplined := by
  intro s p t1 t2 t3 t4 x hf
  refine ⟨?exchange, ?tick, ?timeout, ?firstEdge, ?validEdge, ?ptpOff, ?announce, ?sync⟩
  case exchange => exact exec_timeSync t1 t2 t3 t4 hf
  case tick => exact exec_timeSyncTick p hf
  case timeout => exact exec_timeSyncTimeout hf
  case firstEdge => exact fun h => ⟨_, exec_ppsEdge_first hf h, rfl⟩
  case validEdge => exact fun u => exec_ppsEdge_valid hf
  case ptpOff => exact fun e h => ⟨_, exec_ptpMessage_off e hf h, rfl⟩
  case announce => exact fun h => ⟨_, exec_ptpMessage_announce hf h, rfl, rfl, rfl⟩
  case sync =>
    intro n h
    obtain ⟨hfab, hwall, hheads⟩ := State.followReference_frame { s with fab := { s.fab with ethLink := true, ptpState := 2, ptpTai := true } }
    exact ⟨_, exec_ptpMessage_sync n hf h, by rw [hfab], by rw [hfab], hwall, hheads⟩

end Sys2Proof.Machine
end

section
/-!
PROOFS. Sources and freshness: registration and withdrawal (R36 to R39, R60), publication and admission (R41, R42), the reported
state and the queries (R53, R63, R66), and the streams of remote sources (R314 to R317).
-/

namespace Sys2Proof.Machine

/-! ## Finishing a command that firmware serves -/

theorem State.otherRings_finishAt (s : State) (q pos : Nat) (st : Status) (r : Nat) : s.otherRings (s.finishAt q pos st r) q :=
  s.otherRings_modRing q _

theorem State.otherRings_keepRunning (s : State) (q pos : Nat) (aux : List Nat) : s.otherRings (s.keepRunning q pos aux) q :=
  s.otherRings_modRing q _

/-- An entry in execution that finishes, and the rings. -/
theorem State.finishAt_running {s : State} {q op : Nat} {e : Exec} (h : s.running? q op = some e) (st : Status) :
    (s.finishAt q e.pos st 0).hasFinished q e.pos st 0 = true ∧ s.otherRings (s.finishAt q e.pos st 0) q :=
  ⟨State.hasFinished_finishAt (State.running_mem h), s.otherRings_finishAt q _ _ _⟩

/-- A served entry that finishes in a state whose rings are still those of the service. -/
theorem State.finishAt_served {s u : State} {q op : Nat} {e : Exec} (h : s.serves q op e) (hu : u.que = (s.servedNow q).que) (st : Status) :
    (u.finishAt q e.pos st 0).hasFinished q e.pos st 0 = true ∧ s.otherRings (u.finishAt q e.pos st 0) q := by
  have hring : ∀ j, u.ring j = s.ring j := fun j => (State.ring_of_que hu j).trans (State.ring_servedNow s q j)
  have hmem : e ∈ (u.ring q).inflight := hring q ▸ State.running_mem h.1
  exact ⟨State.hasFinished_finishAt hmem, fun j hj => (u.otherRings_finishAt q _ _ _ j hj).trans (hring j)⟩

/-! ## One source of the table changes -/

/-- `t` holds `y` as source `id`, and every other source as `s` does. -/
def State.setsSource (s t : State) (id : Nat) (y : Source) : Prop :=
  t.source? id = some y ∧ ∀ j, j ≠ id → t.source? j = s.source? j

theorem State.setsSource_of_src {s t : State} {id : Nat} {y : Source} (h : t.src = (s.setSource id y).src) : s.setsSource t id y :=
  ⟨(State.source?_of_src h id).trans (s.source?_setSource_self id y),
    fun j hj => (State.source?_of_src h j).trans (s.source?_setSource_ne y hj)⟩

theorem State.setsSource_trans {s t u : State} {id : Nat} {x y : Source} (h : s.setsSource t id x) (k : t.setsSource u id y) :
    s.setsSource u id y :=
  ⟨k.1, fun j hj => (k.2 j hj).trans (h.2 j hj)⟩

theorem State.setsSource_congr {s t u : State} {id : Nat} {y : Source} (h : s.setsSource t id y) (e : u.src = t.src) :
    s.setsSource u id y :=
  ⟨(State.source?_of_src e id).trans h.1, fun j hj => (State.source?_of_src e j).trans (h.2 j hj)⟩

/-! ## The reported state (R53) -/

/-- A source whose reported state is judged at wall time `now`. -/
def Source.refreshed (x : Source) (now : Nat) : Source := { x with reported := x.report now }

/-- The judgement reads nothing of the state reported before. -/
theorem Source.refreshed_refreshed (x : Source) (now : Nat) : (x.refreshed now).refreshed now = x.refreshed now := rfl

theorem State.updateReported_setsSource {s : State} {i : Nat} {x : Source} (h : s.source? i = some x) :
    s.setsSource (s.updateReported i) i (x.refreshed s.now) := by
  refine State.setsSource_of_src ?_
  unfold State.updateReported
  simp only [h]
  split
  · exact (State.freshEvent_kept (.refl _)).src_eq
  · rfl

theorem State.updateReported_source?_ne (s : State) {i j : Nat} (e : j ≠ i) : (s.updateReported i).source? j = s.source? j := by
  rcases h : s.source? i with _ | x
  · unfold State.updateReported; rw [h]
  · exact (State.updateReported_setsSource h).2 j e

/-- A source that is stored and judged. -/
theorem State.setSource_updateReported (s : State) (i : Nat) (x : Source) :
    s.setsSource ((s.setSource i x).updateReported i) i (x.refreshed s.now) :=
  State.setsSource_trans (State.setsSource_of_src rfl) (State.updateReported_setsSource (s.source?_setSource_self i x))

theorem State.updateReported_now (s : State) (i : Nat) : (s.updateReported i).now = s.now := by
  unfold State.now; rw [(State.updateReported_kept (.refl s)).sys_eq]

/-- Judging several sources leaves one whose state is judged already. -/
theorem State.forEach_updateReported_refreshed {s : State} {i : Nat} {x : Source} (l : List Nat)
    (h : s.source? i = some (x.refreshed s.now)) : (s.forEach l State.updateReported).source? i = some (x.refreshed s.now) := by
  unfold State.forEach
  induction l generalizing s with
  | nil => exact h
  | cons k l ih =>
    rw [← s.updateReported_now k] at h ⊢
    refine ih ?_
    by_cases e : i = k
    · subst e
      rw [s.updateReported_now i] at h ⊢
      exact (State.updateReported_setsSource h).1.trans (congrArg some (x.refreshed_refreshed s.now))
    · exact (s.updateReported_source?_ne e).trans h

/-- Judging several sources judges each of them. -/
theorem State.forEach_updateReported {s : State} {i : Nat} {x : Source} {l : List Nat} (hi : i ∈ l) (h : s.source? i = some x) :
    (s.forEach l State.updateReported).source? i = some (x.refreshed s.now) := by
  induction l generalizing s with
  | nil => cases hi
  | cons k l ih =>
    by_cases e : i = k
    · subst e
      have hself := (State.updateReported_setsSource h).1
      rw [← s.updateReported_now i] at hself ⊢
      exact State.forEach_updateReported_refreshed l hself
    · rw [← s.updateReported_now k]
      exact ih ((List.mem_cons.1 hi).resolve_left e) ((s.updateReported_source?_ne e).trans h)

/-- A key at which a table holds a value is one of its keys. -/
theorem Tbl.mem_keys_of_find? {α : Type} {t : Tbl α} {k : Nat} {v : α} (h : Tbl.find? t k = some v) : k ∈ t.map (fun p => p.1) := by
  induction t with
  | nil => cases h
  | cons p t ih =>
    obtain ⟨j, w⟩ := p
    rw [List.map_cons, List.mem_cons]
    by_cases e : j = k
    · exact .inl e.symm
    · exact .inr (ih ((if_neg e).symm.trans h))

theorem exec_sourceStateCheck {s : State} {id : Nat} {x : Source} (h : s.source? id = some x) :
    ∃ t, exec .sourceStateCheck s = .next t ∧ t.source? id = some (x.refreshed s.now) ∧ t.mem = s.mem ∧ t.que = s.que
      ∧ t.heads = s.heads :=
  ⟨s.forEach (s.src.table.map (fun p => p.1)) State.updateReported, rfl, State.forEach_updateReported (Tbl.mem_keys_of_find? h) h,
    Kept.mem_eq ((execSourceStateCheck_kept (.refl s)).out _ rfl), Kept.que_eq ((execSourceStateCheck_kept (.refl s)).out _ rfl),
    Kept.heads_eq ((execSourceStateCheck_kept (.refl s)).out _ rfl)⟩

/-! ## Queries (R53, R63, R66) -/

/-- QUERY_SOURCE of an identity below 8,192 whose body passes. -/
theorem exec_querySource {s : State} {q : Fin 256} {e : Exec} (h : s.serves q 0x23 e) (hb : queryBodyOk e = true)
    (hid : getLE e.body 8 2 < 8192) :
    exec (.querySource q) s = .next (
      if s.granted (s.ringCls q) true (getLE e.body 16 8) 24 = false then (s.servedNow q).countBounds.finishAt q e.pos .bounds 0
      else match s.source? (getLE e.body 8 2) with
        | none => (s.servedNow q).finishAt q e.pos .state 0
        | some x => ((s.servedNow q).busWrite (getLE e.body 16 8) (s.statusRecord (getLE e.body 8 2) x)).finishAt q e.pos .ok 0) := by
  show execQuerySource q s = _
  unfold execQuerySource
  rw [State.serveScene_run _ h (by simp [hb, Nat.div_eq_of_lt hid])]
  simp only [State.granted_servedNow, Bool.not_eq_true']
  rfl

theorem exec_queryScene {s : State} {q : Fin 256} {e : Exec} (h : s.serves q 0x32 e) (hb : queryBodyOk e = true) :
    exec (.queryScene q) s = .next (
      if s.granted (s.ringCls q) true (getLE e.body 16 8) (32 * (bitsOf 16 (getLE e.body 8 2)).length) = false then
        (s.servedNow q).countBounds.finishAt q e.pos .bounds 0
      else ((s.servedNow q).busWrite (getLE e.body 16 8)
        ((bitsOf 16 (getLE e.body 8 2)).flatMap (fun h => s.queryRecord h))).finishAt q e.pos .ok 0) := by
  show execQueryScene q s = _
  unfold execQueryScene
  rw [State.serveScene_run _ h (by simp [hb])]
  simp only [State.granted_servedNow, Bool.not_eq_true']
  rfl

/-- A record that a served command writes, after which it finishes OK. -/
theorem State.record_written {s : State} {q op : Nat} {e : Exec} (h : s.serves q op e) (a : Nat) (l : List Byte) :
    let t := ((s.servedNow q).busWrite a l).finishAt q e.pos .ok 0
    t.hasFinished q e.pos .ok 0 = true ∧ t.mem = (s.busWrite a l).mem ∧ t.src = s.src ∧ t.heads = s.heads ∧ s.otherRings t q := by
  obtain ⟨hfin, hother⟩ := State.finishAt_served h (State.busWrite_kept (.refl (s.servedNow q))).que_eq .ok
  exact ⟨hfin, State.busWrite_mem_congr (s := s) (t := s.servedNow q) rfl rfl a l, (State.busWrite_kept (.refl (s.servedNow q))).src_eq,
    (State.busWrite_kept (.refl (s.servedNow q))).heads_eq, hother⟩

/-- Settles O7, command by command: the judgement of every source, then the two queries by the outcomes of their checks. -/
theorem queriesAndStates : Obligations.QueriesAndStates := by
  refine ⟨?check, fun s q e => ⟨?source, ?scene⟩⟩
  case check =>
    intro s id x hx
    obtain ⟨t, hexec, hsource, hmem, hque, hheads⟩ := exec_sourceStateCheck hx
    exact ⟨t, _, hexec, hsource, rfl, rfl, hmem, hque, hheads⟩
  case source =>
    intro hserve hbody hid
    rw [exec_querySource hserve hbody hid]
    refine ⟨fun x hgrant hx => ?_, fun hgrant hx => ?_, fun hgrant => ?_⟩
    · obtain ⟨hfin, hmem, hsrc, hheads, hother⟩ := State.record_written hserve (getLE e.body 16 8)
        (s.statusRecord (getLE e.body 8 2) x)
      refine ⟨_, ?_, hfin, hmem, hsrc, hheads, hother⟩
      rw [if_neg (by simp [hgrant]), hx]
    · obtain ⟨hfin, hother⟩ := State.finishAt_served hserve rfl .state
      refine ⟨_, ?_, hfin, rfl, hother⟩
      rw [if_neg (by simp [hgrant]), hx]
    · obtain ⟨hfin, hother⟩ := State.finishAt_served (u := (s.servedNow q).countBounds) hserve rfl .bounds
      exact ⟨_, congrArg _ (if_pos hgrant), hfin, rfl, rfl, rfl, hother⟩
  case scene =>
    intro hserve hbody
    rw [exec_queryScene hserve hbody]
    refine ⟨fun hgrant => ?_, fun hgrant => ?_⟩
    · obtain ⟨hfin, hmem, -, hheads, hother⟩ := State.record_written hserve (getLE e.body 16 8)
        ((bitsOf 16 (getLE e.body 8 2)).flatMap (fun h => s.queryRecord h))
      exact ⟨_, congrArg _ (if_neg (by simp [hgrant])), hfin, hmem, hheads, hother⟩
    · obtain ⟨hfin, hother⟩ := State.finishAt_served (u := (s.servedNow q).countBounds) hserve rfl .bounds
      exact ⟨_, congrArg _ (if_pos hgrant), hfin, rfl, rfl, hother⟩

/-! ## Registration (R36 to R39) -/

/-- A source as a registration enters it: NEVER, with nothing published. -/
def Source.registered (r : Reg) : Source :=
  { reg := r, withdrawn := false, cur := none, bufs := [], lastCrc := none, repeats := 0, rejects := 0, conflicts := 0, pubs := 0,
    reported := .never, replicas := [] }

/-- A record without REPLACE, or of a source that the table does not hold, enters its source anew. -/
theorem State.install_new {s : State} {b : List Byte} (h : s.source? (recordId b) = none ∨ recordReplace b = false) :
    s.setsSource (s.install b) (recordId b) (Source.registered (Reg.ofBytes b)) := by
  refine State.setsSource_of_src ?_
  unfold State.install
  extract_lets id r
  split
  next hx hr =>
    rcases h with h | h
    · exact absurd (h.symm.trans hx) (by simp)
    · exact absurd (h.symm.trans hr) (by simp)
  next => rfl

/-- After REPLACE a source keeps all but its registration and the state reported (R39). -/
theorem State.install_replace {s : State} {b : List Byte} {x : Source} (hx : s.source? (recordId b) = some x)
    (hr : recordReplace b = true) :
    s.setsSource (s.install b) (recordId b) (Source.refreshed { x with reg := Reg.ofBytes b } s.now) := by
  unfold State.install
  simp only [hx, hr]
  exact s.setSource_updateReported _ _

/-- An accepted record gives its source its registration, whether the source is new or replaced. -/
theorem State.install_reg (s : State) (b : List Byte) : ∃ x, (s.install b).source? (recordId b) = some x ∧ x.reg = Reg.ofBytes b := by
  rcases hx : s.source? (recordId b) with _ | x
  · exact ⟨_, (State.install_new (.inl hx)).1, rfl⟩
  · cases hr : recordReplace b with
    | false => exact ⟨_, (State.install_new (.inr hr)).1, rfl⟩
    | true => exact ⟨_, (State.install_replace hx hr).1, rfl⟩

/-- The registration record of an entry. -/
def Exec.regRecord (e : Exec) : List Byte := (e.unitBytes 1).take 80

section RegisterSource

variable {s : State} {q : Fin 256} {e : Exec} (hserve : s.serves q 0x20 e) (hzero : allZero ((e.body.drop 8).take 8) = true)
  (hres : regReservedOk (e.unitBytes 1) = true)
include hserve hzero hres

/-- REGISTER_SOURCE of a record whose body passes: it is judged first. -/
theorem exec_registerSource : exec (.registerSource q) s = .next (
    match s.regCheck e.regRecord with
    | some st => (if st = .bounds then (s.servedNow q).countBounds else s.servedNow q).finishAt q e.pos st 0
    | none =>
      if (Reg.ofBytes e.regRecord).home = s.ownAddress then
        (((s.servedNow q).install e.regRecord).distribute e.regRecord).finishAt q e.pos .ok 0
      else ((s.servedNow q).sendTo (Reg.ofBytes e.regRecord).home msgRegistry e.regRecord).keepRunning q e.pos []) := by
  show execRegisterSource q s = _
  unfold execRegisterSource
  rw [State.serveScene_run _ hserve (by simp [hzero, hres])]
  simp only [State.regCheck_servedNow]
  rfl

theorem exec_registerSource_refused {st : Status} (hcheck : s.regCheck e.regRecord = some st) :
    ∃ t, exec (.registerSource q) s = .next t ∧ t.hasFinished q e.pos st 0 = true ∧ t.src = s.src ∧ t.mem.dev = s.mem.dev
      ∧ t.mem.host = s.mem.host ∧ s.otherRings t q := by
  rw [exec_registerSource hserve hzero hres, hcheck]
  refine ⟨_, rfl, ?_⟩
  dsimp only
  split
  · obtain ⟨hfin, hother⟩ := State.finishAt_served (u := (s.servedNow q).countBounds) hserve rfl st
    exact ⟨hfin, rfl, rfl, rfl, hother⟩
  · obtain ⟨hfin, hother⟩ := State.finishAt_served hserve rfl st
    exact ⟨hfin, rfl, rfl, rfl, hother⟩

/-- A record that passes at the home device is entered, and its command finishes OK. -/
theorem exec_registerSource_entered (hcheck : s.regCheck e.regRecord = none) (hhome : (Reg.ofBytes e.regRecord).home = s.ownAddress) :
    ∃ t, exec (.registerSource q) s = .next t ∧ t.hasFinished q e.pos .ok 0 = true
      ∧ t.src = ((s.servedNow q).install e.regRecord).src ∧ t.mem = s.mem ∧ s.otherRings t q := by
  rw [exec_registerSource hserve hzero hres, hcheck]
  obtain ⟨hfin, hother⟩ := State.finishAt_served (u := ((s.servedNow q).install e.regRecord).distribute e.regRecord) hserve
    (Kept.que_eq (State.distribute_kept (State.install_kept (.refl _)))) .ok
  have hmem : (((s.servedNow q).install e.regRecord).distribute e.regRecord).mem = s.mem :=
    Kept.mem_eq (s := s.servedNow q) (State.distribute_kept (State.install_kept (.refl _)))
  exact ⟨_, congrArg _ (if_pos hhome), hfin, (State.distribute_kept (.refl _)).src_eq, hmem, hother⟩

end RegisterSource

/-! ## Withdrawal (R60) -/

/-- A WITHDRAW_SOURCE in execution of source `id` notes that the withdrawal is executed. -/
def Exec.noteWithdrawn (id : Nat) (e : Exec) : Exec :=
  if e.opcode = 0x21 ∧ e.phase = .running ∧ getLE e.body 8 2 = id then { e with aux := [1] } else e

theorem State.withdrawHere_setsSource {s : State} {id : Nat} {x : Source} (h : s.source? id = some x) :
    s.setsSource (s.withdrawHere id) id (Source.refreshed { x with withdrawn := true } s.now) := by
  have hmod : s.modSource id (fun x => { x with withdrawn := true }) = s.setSource id { x with withdrawn := true } := by
    unfold State.modSource; rw [h]
  refine State.setsSource_congr (s.setSource_updateReported id { x with withdrawn := true }) ?_
  unfold State.withdrawHere
  rw [hmod]
  extract_lets withdrawn noted
  split
  · exact (State.discardFrame_kept (.refl _)).src_eq
  · rfl

theorem State.withdrawHere_inflight (s : State) (id q : Nat) :
    ((s.withdrawHere id).ring q).inflight = (s.ring q).inflight.map (Exec.noteWithdrawn id) := by
  have hque : (s.withdrawHere id).que.rings =
      Tbl.mapVals s.que.rings (fun _ r => { r with inflight := r.inflight.map (Exec.noteWithdrawn id) }) := by
    have hkept : ((s.modSource id (fun x => { x with withdrawn := true })).updateReported id).que = s.que :=
      Kept.que_eq (State.updateReported_kept (State.modSource_kept (.refl s)))
    rw [← hkept]
    unfold State.withdrawHere
    extract_lets withdrawn noted
    split
    · rw [(State.discardFrame_kept (.refl _)).que_eq]; rfl
    · rfl
  unfold State.ring
  rw [hque, Tbl.get_mapVals _ _ _ rfl]

/-- The entry whose withdrawal is executed runs on with that noted. -/
theorem State.isRunning_withdrawHere {s : State} {q id : Nat} {e : Exec} (he : e ∈ (s.ring q).inflight) (hop : e.opcode = 0x21)
    (hid : getLE e.body 8 2 = id) : ((s.keepRunning q e.pos []).withdrawHere id).isRunning q e.pos [1] = true := by
  have hnow : Exec.noteWithdrawn id { e with phase := .running, aux := [] } = { e with phase := .running, aux := [1] } :=
    if_pos ⟨hop, rfl, hid⟩
  have hmem : { e with phase := .running, aux := [] } ∈ ((s.keepRunning q e.pos []).ring q).inflight := by
    unfold State.keepRunning
    rw [State.ring_modRing_self]
    exact List.mem_map.2 ⟨e, he, if_pos rfl⟩
  unfold State.isRunning
  rw [State.withdrawHere_inflight, List.any_eq_true]
  exact ⟨_, List.mem_map.2 ⟨_, hmem, hnow⟩, by simp⟩

/-- WITHDRAW_SOURCE at the home device of a source that is not withdrawn. -/
theorem exec_withdrawSource_home {s : State} {q : Fin 256} {e : Exec} {x : Source} (h : s.serves q 0x21 e)
    (hzero : allZero ((e.body.drop 10).take 6) = true) (hid : getLE e.body 8 2 < 8192) (hx : s.source? (getLE e.body 8 2) = some x)
    (hw : x.withdrawn = false) (hhome : x.reg.home = s.ownAddress) :
    exec (.withdrawSource q) s = .next ((((s.servedNow q).keepRunning q e.pos []).withdrawHere (getLE e.body 8 2)).distribute
      (withdrawMessage (getLE e.body 8 2))) := by
  show execWithdrawSource q s = _
  unfold execWithdrawSource
  have hsource : (s.servedNow q).source? (getLE e.body 8 2) = some x := hx
  have hown : x.reg.home = (s.servedNow q).ownAddress := hhome
  rw [State.serveScene_run _ h (by simp [hzero, Nat.div_eq_of_lt hid])]
  simp only [hsource, hw, if_pos hown, Bool.false_eq_true, ↓reduceIte]

theorem exec_withdrawalComplete {s : State} {q : Fin 256} {e : Exec} (h : s.running? q 0x21 = some e) (hrun : e.phase = .running)
    (haux : e.aux = [1]) (hbands : s.bandHolds (getLE e.body 8 2) = []) (htx : Tbl.find? s.fab.tx (getLE e.body 8 2) = none) :
    exec (.withdrawalComplete q) s = .next (s.finishAt q e.pos .ok 0) := by
  show execWithdrawalComplete q s = _
  unfold execWithdrawalComplete
  simp [h, hrun, haux, hbands, htx]

/-- Settles O5, command by command: the outcomes of the record's checks, the withdrawal at home, and its completion. -/
theorem registrationsComeAndGo : Obligations.RegistrationsComeAndGo := by
  refine ⟨?register, fun s q e => ⟨?withdraw, ?complete⟩⟩
  case register =>
    intro s q e b id hserve hzero hres
    refine ⟨fun st => exec_registerSource_refused hserve hzero hres, fun hcheck hhome hnew => ?_, fun x hcheck hhome hx hreplace => ?_⟩
    · obtain ⟨t, hexec, hfin, hsrc, hmem, hother⟩ := exec_registerSource_entered hserve hzero hres hcheck hhome
      obtain ⟨hself, hne⟩ := State.setsSource_congr (State.install_new (s := s.servedNow q) hnew) hsrc
      exact ⟨t, hexec, hfin, hself, hne, hmem, hother⟩
    · obtain ⟨t, hexec, hfin, hsrc, hmem, hother⟩ := exec_registerSource_entered hserve hzero hres hcheck hhome
      obtain ⟨hself, hne⟩ := State.setsSource_congr (State.install_replace (s := s.servedNow q) hx hreplace) hsrc
      exact ⟨t, _, hexec, hfin, hself, rfl, rfl, rfl, rfl, rfl, rfl, hne, hmem, hother⟩
  case withdraw =>
    intro x hserve hzero hid hx hw hhome
    have hexec := exec_withdrawSource_home hserve hzero hid hx hw hhome
    obtain ⟨hself, hne⟩ := State.setsSource_congr (State.withdrawHere_setsSource (s := (s.servedNow q).keepRunning q e.pos []) hx)
      (State.distribute_kept (a1 := withdrawMessage (getLE e.body 8 2)) (.refl _)).src_eq
    refine ⟨_, _, hexec, hself, rfl, rfl, ?running, hne, Kept.mem_eq ((execWithdrawSource_kept (.refl s)).out _ hexec),
      heads_of_exec hexec rfl⟩
    rw [State.isRunning_of_que (State.distribute_kept (.refl _)).que_eq]
    exact State.isRunning_withdrawHere (State.serves_mem hserve) (State.running_opcode hserve.1) rfl
  case complete =>
    intro hrun hphase haux hbands htx
    obtain ⟨hfin, hother⟩ := State.finishAt_running hrun .ok
    exact ⟨_, exec_withdrawalComplete hrun hphase haux hbands htx, hfin, rfl, hother⟩

/-! ## Publication (R41) -/

theorem exec_publish_handed {s : State} {q : Fin 256} {e : Exec} (h : s.running? q 0x22 = some e) (hwait : e.phase = .waiting)
    (hpass : s.publishRefusal e = none) :
    exec (.publish q) s = .next { s.keepRunning q e.pos [] with src := { s.src with
      arrivals := s.src.arrivals ++ [{ raw := (e.unitBytes 1).take 16, path := .host q, at_ := s.now }] } } := by
  show execPublish q s = _
  unfold execPublish
  simp only [h, hwait, hpass, ne_eq, not_true_eq_false, ↓reduceIte]

theorem exec_publish_refused {s : State} {q : Fin 256} {e : Exec} {st : Status} (h : s.running? q 0x22 = some e)
    (hwait : e.phase = .waiting) (href : s.publishRefusal e = some st) : exec (.publish q) s = .next (s.finishAt q e.pos st 0) := by
  show execPublish q s = _
  unfold execPublish
  simp only [h, hwait, href, ne_eq, not_true_eq_false, ↓reduceIte]

/-! ## Admission (R42) -/

/-- The state in which `rest` are the publications that wait. -/
def State.withArrivals (s : State) (rest : List Pub) : State := { s with src := { s.src with arrivals := rest } }

theorem exec_admission {s : State} {p : Pub} {rest : List Pub} (h : s.src.arrivals = p :: rest) :
    exec .admission s = .next ((s.withArrivals rest).admitPub p) := by
  show execAdmission s = _
  unfold execAdmission
  rw [h]
  rfl

theorem State.rejectPub_src {s : State} {id : Nat} {x : Source} (h : s.source? id = some x) (st : Status) :
    (s.rejectPub id st).src = (s.setSource id { x with rejects := satInc 32 x.rejects }).src := by
  unfold State.rejectPub State.modSource
  rw [h]
  exact (State.freshEvent_kept (.refl _)).src_eq

/-- A publication refused: its known source counts it in REJECTS, and the rest of the source table and memory stay. -/
theorem State.rejectPub_frame {s : State} {id : Nat} {x : Source} (h : s.source? id = some x) (p : Pub) (st : Status) :
    let t := (s.rejectPub id st).answerPub p st
    t.src.arrivals = s.src.arrivals ∧ s.setsSource t id { x with rejects := satInc 32 x.rejects } ∧ t.mem = s.mem := by
  intro t
  have hsrc : t.src = (s.setSource id { x with rejects := satInc 32 x.rejects }).src :=
    (State.answerPub_kept (.refl _)).src_eq.trans (State.rejectPub_src h st)
  exact ⟨by rw [hsrc]; rfl, State.setsSource_of_src hsrc, Kept.mem_eq (State.answerPub_kept (State.rejectPub_kept (.refl s)))⟩

/-- PUBLISH_FUTURE_STAMP is raised where step 2 asks for it. -/
def State.noteFuture (s : State) (p : Pub) (x : Source) : State :=
  if (pubStampAt p x.reg.stampDevice s.now).2 then s.freshEvent .publishFutureStamp (pubId p.raw) 0x10 0 else s

theorem State.noteFuture_src (s : State) (p : Pub) (x : Source) : (s.noteFuture p x).src = s.src := by
  unfold State.noteFuture
  split
  · exact (State.freshEvent_kept (.refl s)).src_eq
  · rfl

theorem State.noteFuture_mem (s : State) (p : Pub) (x : Source) : (s.noteFuture p x).mem = s.mem := by
  unfold State.noteFuture
  split
  · exact Kept.mem_eq (State.freshEvent_kept (.refl s))
  · rfl

/-- The stamp of step 2 is not later than that of the current buffer. -/
def Source.outdates (x : Source) (p : Pub) (now : Nat) : Prop :=
  ∃ b, x.cur = some b ∧ (pubStampAt p x.reg.stampDevice now).1 ≤ (Tbl.get Buf.reset x.bufs b).stamp

theorem State.admitPub_of_step1 {s : State} {p : Pub} {st : Status} (h : s.pubStep1 p = some st) :
    s.admitPub p = (s.rejectPub (pubId p.raw) st).answerPub p st := by
  unfold State.admitPub
  simp only [h]

theorem State.admitPub_of_outdated {s : State} {p : Pub} {x : Source} (h : s.pubStep1 p = none) (hx : s.source? (pubId p.raw) = some x)
    (hold : x.outdates p s.now) :
    s.admitPub p = ((s.noteFuture p x).rejectPub (pubId p.raw) .staleSource).answerPub p .staleSource := by
  obtain ⟨b, hb, hle⟩ := hold
  unfold State.admitPub
  simp only [h, hx, hb, hle, decide_true, ↓reduceIte]
  rfl

/-- A source that has taken the buffer of a publication, with its count of conflicts (steps 4 and 5). -/
def Source.taking (x : Source) (p : Pub) (now conflicts : Nat) : Source :=
  { x.admitted (pubBuffer p.raw) (pubStampAt p x.reg.stampDevice now).1 (if pubCrcValid p.raw then some (pubCrc p.raw) else none) with
    conflicts := conflicts }

theorem State.srcKept_ite {s a b : State} {c : Prop} [Decidable c] (ha : s.srcKept a) (hb : s.srcKept b) :
    s.srcKept (if c then a else b) := by
  split <;> assumption

/-- An admitted publication: the source table holds what steps 4 and 5 enter, but for the judgements that follow. -/
theorem State.admitPub_of_later {s : State} {p : Pub} {x : Source} (h : s.pubStep1 p = none) (hx : s.source? (pubId p.raw) = some x)
    (hnew : ¬ x.outdates p s.now) : ∃ n, (s.setSource (pubId p.raw) (x.taking p s.now n)).srcKept (s.admitPub p) := by
  unfold State.admitPub
  simp -zeta only [h]
  extract_lets id b crc
  simp -zeta only [show s.source? id = some x from hx]
  extract_lets noted stale conflict taken entered warned cancelled judged sent
  have hstale : stale = false := by
    unfold stale
    split
    next b hb => exact decide_eq_false (fun hle => hnew ⟨b, hb, hle⟩)
    next => rfl
  rw [if_neg (by simp [hstale])]
  have hentered : (s.setSource id (x.taking p s.now (if conflict then satInc 32 x.conflicts else x.conflicts))).srcKept entered :=
    State.srcKept_of_src (congrArg (fun r : Src => ({ r with table := Tbl.set r.table id _ } : Src)) (s.noteFuture_src p x))
  have hwarned : entered.srcKept warned := State.srcKept_ite (State.srcKept_freshEvent _ _ _ _ _) (State.srcKept_refl _)
  have hcancelled : warned.srcKept cancelled := State.srcKept_ite (State.srcKept_cancelBuffer _ _ _) (State.srcKept_refl _)
  have hjudged : cancelled.srcKept judged := State.srcKept_updateReported _ _
  have hsent : judged.srcKept sent := State.srcKept_ite (State.srcKept_egress _ _ _ _) (State.srcKept_refl _)
  have hanswered : sent.srcKept (sent.answerPub p .ok) := State.srcKept_of_src (State.answerPub_kept (.refl _)).src_eq
  exact ⟨_, State.srcKept_trans hentered (State.srcKept_trans hwarned (State.srcKept_trans hcancelled
    (State.srcKept_trans hjudged (State.srcKept_trans hsent hanswered))))⟩

/-- What two sources with the same core agree on. -/
theorem Source.eq_of_core {x y : Source} (h : y.core = x.core) : y.cur = x.cur ∧ y.pubs = x.pubs ∧ y.rejects = x.rejects
    ∧ ∀ b, (Tbl.get Buf.reset y.bufs b).stamp = (Tbl.get Buf.reset x.bufs b).stamp
        ∧ (Tbl.get Buf.reset y.bufs b).crc = (Tbl.get Buf.reset x.bufs b).crc :=
  ⟨congrArg (fun c => c.1.cur) h, congrArg (fun c => c.1.pubs) h, congrArg (fun c => c.1.rejects) h,
    fun b => ⟨congrArg (fun c => (c.2 b).1) h, congrArg (fun c => (c.2 b).2.1) h⟩⟩

/-- What an admitted publication leaves of its source's buffer. -/
theorem Source.admitted_buffer (x : Source) (b stamp : Nat) (crc : Option Nat) :
    (Tbl.get Buf.reset (x.admitted b stamp crc).bufs b).stamp = stamp
      ∧ (Tbl.get Buf.reset (x.admitted b stamp crc).bufs b).crc = crc := by
  unfold Source.admitted
  simp

/-- Settles O6: PUBLISH by its checks, then ADMISSION by step 1 and by the stamps. -/
theorem publicationsAreAdmitted : Obligations.PublicationsAreAdmitted := by
  refine ⟨fun s q e hrun hwait => ⟨?handed, ?refused⟩, ?admission⟩
  case handed =>
    intro hpass
    exact ⟨_, exec_publish_handed hrun hwait hpass, State.isRunning_keepRunning (State.running_mem hrun), rfl, rfl, rfl,
      State.otherRings_trans (s.otherRings_keepRunning q e.pos []) (State.otherRings_of_que rfl)⟩
  case refused =>
    intro st href
    obtain ⟨hfin, hother⟩ := State.finishAt_running hrun st
    exact ⟨_, exec_publish_refused hrun hwait href, hfin, rfl, hother⟩
  case admission =>
    intro s p rest id harr
    refine ⟨?step1, ?admitted, ?outdated⟩
    case step1 =>
      intro st x hstep hx
      obtain ⟨harrivals, ⟨hself, hne⟩, hmem⟩ := State.rejectPub_frame (s := s.withArrivals rest) hx p st
      rw [exec_admission harr, State.admitPub_of_step1 (s := s.withArrivals rest) hstep]
      exact ⟨_, _, rfl, harrivals, hself, rfl, rfl, rfl, rfl, hne, hmem⟩
    case admitted =>
      intro x hstep hx hlater
      have hnew : ¬ x.outdates p s.now := fun ⟨b, hb, hle⟩ => absurd (hlater b hb) (Nat.not_lt.2 hle)
      obtain ⟨n, hkept⟩ := State.admitPub_of_later (s := s.withArrivals rest) hstep hx hnew
      have ⟨harrivals, _⟩ := hkept
      obtain ⟨y, hy, hcore⟩ := State.srcKept_find hkept (State.source?_setSource_self _ _ _)
      obtain ⟨hcur, hpubs, hrejects, hbufs⟩ := Source.eq_of_core hcore
      obtain ⟨hstamp, hcrc⟩ := hbufs (pubBuffer p.raw)
      obtain ⟨hstamp', hcrc'⟩ := x.admitted_buffer (pubBuffer p.raw) (pubStampAt p x.reg.stampDevice s.now).1
        (if pubCrcValid p.raw then some (pubCrc p.raw) else none)
      exact ⟨_, y, exec_admission harr, harrivals, hy, hcur, hpubs, hrejects, hstamp.trans hstamp', hcrc.trans hcrc'⟩
    case outdated =>
      intro x b hstep hx hb hle
      have hsrc := (s.withArrivals rest).noteFuture_src p x
      obtain ⟨harrivals, ⟨hself, -⟩, hmem⟩ := State.rejectPub_frame (s := (s.withArrivals rest).noteFuture p x)
        ((State.source?_of_src hsrc _).trans hx) p .staleSource
      rw [exec_admission harr, State.admitPub_of_outdated (s := s.withArrivals rest) hstep hx ⟨b, hb, hle⟩]
      exact ⟨_, _, rfl, harrivals.trans (by rw [hsrc]; rfl), hself, rfl, rfl, rfl, rfl, hmem.trans (State.noteFuture_mem _ p x)⟩

/-! ## The registry and subscriptions (R36, R60, R314) -/

/-- The home device's word of a registration, on another member. -/
theorem exec_registry_entered {s : State} {m : Msg} (hcore : s.coreUp 1 = true) (hreset : s.sys.mode ≠ .reset)
    (hboot : s.sys.mode ≠ .boot) (hlen : m.payload.length = 80) (hown : (Reg.ofBytes m.payload).home ≠ s.ownAddress)
    (hhome : (Reg.ofBytes m.payload).home = m.sender.val) :
    exec (.registry m) s = .next ((s.install m.payload).finishWaiting
      (fun e => e.opcode == 0x20 && (e.unitBytes 1).take 80 == m.payload) .ok) := by
  have htake : s.takeRegistration m.sender m.payload = (s.install m.payload).finishWaiting
      (fun e => e.opcode == 0x20 && (e.unitBytes 1).take 80 == m.payload) .ok := by
    unfold State.takeRegistration
    simp only [if_neg hown, if_pos hhome]
  show execRegistry m s = _
  unfold execRegistry
  simp [hcore, hreset, hboot, hlen, htake]

theorem State.sendFlit_subs (s : State) (p : Nat) (b : List Byte) : (s.sendFlit p b).fab.subs = s.fab.subs := by
  obtain e | ⟨x, -, e⟩ := s.sendFlit_cases p b <;> rw [e]
  rfl

theorem State.sendTree_subs (s : State) (n type vc : Nat) (payload : List Byte) : (s.sendTree n type vc payload).fab.subs = s.fab.subs := by
  unfold State.sendTree State.forEach
  dsimp only
  generalize flitBody (routeTree n) s.ownAddress type vc payload = b
  generalize portsOf (s.treeEntry n) = ports
  induction ports generalizing s with
  | nil => rfl
  | cons p ports ih => exact (ih _).trans (s.sendFlit_subs p _)

theorem State.sendData_subs (s : State) (id seq fuel : Nat) (content : List Byte) :
    (s.sendData id seq content fuel).fab.subs = s.fab.subs := by
  induction fuel generalizing s content with
  | zero => rfl
  | succ fuel ih =>
    unfold State.sendData
    split
    · rfl
    · exact (ih _ _).trans (s.sendTree_subs id _ _ _)

theorem State.startFrame_subs (s : State) (id b : Nat) (pub : List Byte) : (s.startFrame id b pub).fab.subs = s.fab.subs := by
  unfold State.startFrame
  split
  · rfl
  extract_lets runs
  split
  · rfl
  split
  · rfl
  split
  · rw [Kept.fab_eq (State.cancelBuffer_kept (State.countRepeated_kept (.refl s)))]
  · exact (State.sendData_subs _ _ _ _ _).trans (State.sendTree_subs _ _ _ _ _)

/-- What leaves for the subscribers changes no subscription. -/
theorem State.egress_subs (s : State) (id b : Nat) (pub : List Byte) : (s.egress id b pub).fab.subs = s.fab.subs := by
  unfold State.egress
  split
  · rfl
  split
  · rfl
  · exact s.startFrame_subs id b pub

/-- A subscriber enters the tree of a source homed here (R314). -/
theorem execSubscribe_subs {s : State} {m : Msg} {x : Source} (hcore : s.coreUp 1 = true) (hx : s.source? (getLE m.payload 0 2) = some x)
    (hhome : x.reg.home = s.ownAddress) (hw : x.withdrawn = false) :
    ∃ t, execSubscribe m s = .next t ∧ t.fab.subs = Tbl.set s.fab.subs (getLE m.payload 0 2)
      (insertSorted m.sender (Tbl.get [] s.fab.subs (getLE m.payload 0 2))) := by
  refine ⟨_, rfl, ?_⟩
  rw [if_neg (by simp [hcore])]
  simp only [hx, hhome, hw, ne_eq, not_true_eq_false, Bool.false_eq_true, or_self, ↓reduceIte]
  split
  · rfl
  · exact State.egress_subs _ _ _ _

theorem exec_subscribe {s : State} {m : Msg} {x : Source} (hcore : s.coreUp 1 = true) (hx : s.source? (getLE m.payload 0 2) = some x)
    (hhome : x.reg.home = s.ownAddress) (hw : x.withdrawn = false) :
    ∃ t, exec (.subscribe m) s = .next t
      ∧ Tbl.get [] t.fab.subs (getLE m.payload 0 2) = insertSorted m.sender (Tbl.get [] s.fab.subs (getLE m.payload 0 2))
      ∧ (∀ j, j ≠ getLE m.payload 0 2 → Tbl.find? t.fab.subs j = Tbl.find? s.fab.subs j) ∧ t.mem.dev = s.mem.dev
      ∧ t.mem.host = s.mem.host ∧ t.que = s.que ∧ t.heads = s.heads := by
  obtain ⟨t, hexec, hsubs⟩ := execSubscribe_subs hcore hx hhome hw
  exact ⟨t, hexec, by rw [hsubs, Tbl.get_set_self], fun j hj => by rw [hsubs, Tbl.find?_set_ne _ _ hj],
    Kept.dev_eq ((execSubscribe_kept (.refl s)).out t hexec), Kept.host_eq ((execSubscribe_kept (.refl s)).out t hexec),
    Kept.que_eq ((execSubscribe_kept (.refl s)).out t hexec), heads_of_exec (c := .subscribe m) hexec rfl⟩

/-- The subscribers of a source but for one member. -/
def State.subscribersBut (s : State) (id a : Nat) : List Nat := (Tbl.get [] s.fab.subs id).filter (fun x => x != a)

/-- The state in which `subs` are the subscriptions. -/
def State.withSubs (s : State) (subs : Tbl (List Nat)) : State := { s with fab := { s.fab with subs := subs } }

theorem exec_unsubscribe {s : State} {m : Msg} (hcore : s.coreUp 1 = true) :
    exec (.unsubscribe m) s = .next (s.withSubs (if s.subscribersBut (getLE m.payload 0 2) m.sender.val = [] then
        Tbl.erase s.fab.subs (getLE m.payload 0 2)
      else Tbl.set s.fab.subs (getLE m.payload 0 2) (s.subscribersBut (getLE m.payload 0 2) m.sender.val))) := by
  show execUnsubscribe m s = _
  unfold execUnsubscribe
  simp only [hcore, Bool.not_true, Bool.false_eq_true, ↓reduceIte, List.isEmpty_iff]
  rfl

/-! ## Stream frames (R315 to R317) -/

/-- A stream frame as its first flit announces it, with the replica buffer it takes. -/
def Rx.announced (m : Msg) (b : Option Nat) : Rx :=
  { pub := m.payload.take 16, length := getLE m.payload 16 4, seq := getLE m.payload 20 4, buffer := b, got := 0, crcReg := crcInit }

/-- The state in which source `id` receives the frame `r`. -/
def State.receives (s : State) (id : Nat) (r : Rx) : State := { s with fab := { s.fab with rx := Tbl.set s.fab.rx id r } }

theorem State.discardFrame_fab (s : State) : s.discardFrame.fab = { s.fab with streamDisc := satInc 32 s.fab.streamDisc } :=
  State.raise_fab _ _

section StreamStart

variable {s : State} {k : Fin 8192} {m : Msg} {x : Source} (hx : s.source? k = some x) (hsub : s.fab.subscribed.contains k.val = true)
  (hw : x.withdrawn = false) (hhome : x.reg.home ≠ s.ownAddress) (hrx : Tbl.find? s.fab.rx k = none)
include hx hsub hw hhome hrx

/-- STREAM_START of a subscribed source that receives no frame yet. -/
theorem exec_streamStart : exec (.streamStart k m) s = .next (
    if s.freeReplica k x = none then (s.receives k (Rx.announced m none)).discardFrame
    else s.receives k (Rx.announced m (s.freeReplica k x))) := by
  show execStreamStart k m s = _
  unfold execStreamStart
  simp only [hx, hsub, hw, hhome, hrx, Bool.not_true, Bool.or_self, decide_false, Bool.false_eq_true, ↓reduceIte]
  rcases s.freeReplica k x with _ | b <;> rfl

theorem exec_streamStart_frame : ∃ t, exec (.streamStart k m) s = .next t
    ∧ Tbl.find? t.fab.rx k = some (Rx.announced m (s.freeReplica k x))
    ∧ t.fab.streamDisc = (if s.freeReplica k x = none then satInc 32 s.fab.streamDisc else s.fab.streamDisc)
    ∧ t.mem = s.mem ∧ t.src = s.src := by
  have hexec := exec_streamStart (m := m) hx hsub hw hhome hrx
  refine ⟨_, hexec, ?rx, ?disc, Kept.mem_eq ((execStreamStart_kept (.refl s)).out _ hexec),
    Kept.src_eq ((execStreamStart_kept (.refl s)).out _ hexec)⟩
  case rx =>
    split
    next hnone => rw [State.discardFrame_fab, hnone]; exact Tbl.find?_set_self _ _ _
    next => exact Tbl.find?_set_self _ _ _
  case disc =>
    split
    next => rw [State.discardFrame_fab]; rfl
    next => rfl

end StreamStart

/-- A flit of another frame sequence is no part of the frame. -/
theorem exec_streamData_other {s : State} {k : Fin 8192} {m : Msg} {x : Source} {r : Rx} (hx : s.source? k = some x)
    (hr : Tbl.find? s.fab.rx k = some r) (hseq : getLE m.payload 0 4 ≠ r.seq) : exec (.streamData k m) s = .next s := by
  show execStreamData k m s = _
  unfold execStreamData
  simp only [hx, hr, if_pos hseq]

/-- A frame after the next bytes `l` of its content. -/
def Rx.advanced (r : Rx) (l : List Byte) : Rx := { r with got := r.got + l.length, crcReg := crcUpdate r.crcReg l }

/-- A flit in the middle of a frame. -/
theorem exec_streamData_middle {s : State} {k : Fin 8192} {m : Msg} {x : Source} {r : Rx} {b : Nat} (hx : s.source? k = some x)
    (hr : Tbl.find? s.fab.rx k = some r) (hseq : getLE m.payload 0 4 = r.seq) (hb : r.buffer = some b)
    (hmore : r.got + 228 < r.length) (hlen : ((m.payload.drop 4).take 228).length = 228) :
    exec (.streamData k m) s = .next (
      (s.writeRuns (x.reg.replicaRuns (x.replicas.getD b 0)) r.got ((m.payload.drop 4).take 228)).receives k
        (r.advanced ((m.payload.drop 4).take 228))) := by
  have htake : ((m.payload.drop 4).take 228).take (r.length - r.got) = (m.payload.drop 4).take 228 :=
    List.take_of_length_le (by omega)
  show execStreamData k m s = _
  unfold execStreamData
  simp only [hx, hr, hseq, hb, htake, ne_eq, not_true_eq_false, ↓reduceIte]
  rw [if_neg (by omega)]
  simp only [State.receives, Rx.advanced, hb]

theorem exec_streamFrameSent_last {s : State} {k : Fin 8192} {x : Tx} (hx : Tbl.find? s.fab.tx k = some x) (hnext : x.next = none)
    (hwait : s.fab.ports.any (fun p => p.2.waiting.any (fun f => isStreamFlit k f)) = false) :
    exec (.streamFrameSent k) s = .next { s with fab := { s.fab with tx := Tbl.erase s.fab.tx k } } := by
  show execStreamFrameSent k s = _
  unfold execStreamFrameSent
  simp only [hx, hnext, hwait, Bool.false_eq_true, ↓reduceIte]

/-- Settles O34, message by message. -/
theorem streamsFlow : Obligations.StreamsFlow := by
  intro s m k id
  refine ⟨?registry, fun x => exec_subscribe, ?unsubscribe, ?start, fun x r hx hr => ⟨?otherFrame, ?middle⟩, ?sent⟩
  case registry =>
    intro hcore hreset hboot hlen hown hhome
    obtain ⟨x, hx, hreg⟩ := s.install_reg m.payload
    have hexec := exec_registry_entered hcore hreset hboot hlen hown hhome
    exact ⟨_, x, hexec, hx, hreg, Kept.mem_eq (State.finishWaiting_kept (State.install_kept (.refl s)))⟩
  case unsubscribe =>
    exact fun hcore => ⟨_, exec_unsubscribe hcore, fun h => if_neg h, fun h => if_pos h, rfl⟩
  case start =>
    intro x hx hsub hw hhome hrx
    obtain ⟨t, hexec, hfind, hdisc, hmem, hsrc⟩ := exec_streamStart_frame (m := m) hx hsub hw hhome hrx
    exact ⟨t, _, hexec, hfind, rfl, rfl, rfl, rfl, rfl, hdisc, hmem, hsrc⟩
  case otherFrame => exact fun hseq => ⟨s, exec_streamData_other hx hr hseq, rfl⟩
  case middle =>
    intro b hseq hb hmore hpayload
    have hlen : ((m.payload.drop 4).take 228).length = 228 := by
      rw [List.length_take, List.length_drop]; omega
    have hexec := exec_streamData_middle hx hr hseq hb hmore hlen
    exact ⟨_, _, hexec, rfl, Tbl.find?_set_self _ _ _, congrArg (r.got + ·) hlen, rfl, hb, (State.writeRuns_kept (.refl s)).src_eq,
      heads_of_exec hexec rfl⟩
  case sent => exact fun x hx hnext hwait => ⟨_, exec_streamFrameSent_last hx hnext hwait, rfl⟩

end Sys2Proof.Machine
end

section
/-!
PROOFS. Scenes and commit: CHECK_SCENE and COMMIT_SCENE outside a coherent domain (R64, R65, R78, R90), and the latch (R89, R90,
R94, R97).
-/

namespace Sys2Proof.Machine

/-! ## One head changes -/

/-- `t` holds `y` as head `h`, and every other head as `s` does. -/
def State.setsHead (s t : State) (h : Nat) (y : Head) : Prop := t.head h = y ∧ ∀ j, j ≠ h → t.head j = s.head j

theorem State.modHead_setsHead (s : State) (h : Nat) (f : Head → Head) : s.setsHead (s.modHead h f) h (f (s.head h)) :=
  ⟨s.head_setHead_self h _, fun _ hj => s.head_setHead_ne _ hj⟩

theorem State.setsHead_trans {s t u : State} {h : Nat} {x y : Head} (k : s.setsHead t h x) (l : t.setsHead u h y) : s.setsHead u h y :=
  ⟨l.1, fun j hj => (l.2 j hj).trans (k.2 j hj)⟩

theorem State.setsHead_congr {s t u : State} {h : Nat} {y : Head} (k : s.setsHead t h y) (e : u.heads = t.heads) : s.setsHead u h y :=
  ⟨(State.head_of_heads e h).trans k.1, fun j hj => (State.head_of_heads e j).trans (k.2 j hj)⟩

theorem State.setsHead_of_heads {s t : State} (e : t.heads = s.heads) (h : Nat) : s.setsHead t h (s.head h) :=
  ⟨State.head_of_heads e h, fun j _ => State.head_of_heads e j⟩

/-! ## A scene is read and judged (R78) -/

/-- Rows 0 to 4 of R78: the body of a command, then its descriptor. -/
def State.readChecked (s : State) (q : Nat) (e : Exec) : State × Except Detail Scene :=
  match sceneBody e with
  | some st => (s, .error (plainDetail st noOffset))
  | none => s.readScene q e

theorem State.readChecked_of_body {e : Exec} {st : Status} (s : State) (q : Nat) (hb : sceneBody e = some st) :
    s.readChecked q e = (s, .error (plainDetail st noOffset)) := by
  unfold State.readChecked; rw [hb]

theorem State.readChecked_of_none {e : Exec} (s : State) (q : Nat) (hb : sceneBody e = none) :
    s.readChecked q e = s.readScene q e := by
  unfold State.readChecked; rw [hb]

theorem State.readChecked_of_read {s : State} {q : Nat} {e : Exec} {r : Except Detail Scene} (hb : sceneBody e = none)
    (hr : (s.readScene q e).2 = r) : s.readChecked q e = ((s.readScene q e).1, r) :=
  (s.readChecked_of_none q hb).trans (Prod.ext rfl hr)

/-- Reading a scene leaves the rings, the configuration, the mode, the heads and the scene block. -/
theorem State.readChecked_frame {s u : State} {q : Nat} {e : Exec} {r : Except Detail Scene} (h : s.readChecked q e = (u, r)) :
    u.que = s.que ∧ u.dict = s.dict ∧ u.sys = s.sys ∧ u.heads = s.heads ∧ u.scn = s.scn := by
  obtain rfl : (s.readChecked q e).1 = u := congrArg Prod.fst h
  rcases hb : sceneBody e with _ | st
  · rw [s.readChecked_of_none q hb]
    exact ⟨(State.readScene_kept (.refl s)).que_eq, (State.readScene_kept (.refl s)).dict_eq, (State.readScene_kept (.refl s)).sys_eq,
      (State.readScene_kept (.refl s)).heads_eq, (State.readScene_kept (.refl s)).scn_eq⟩
  · rw [s.readChecked_of_body q hb]
    exact ⟨rfl, rfl, rfl, rfl, rfl⟩

/-- An entry that firmware serves is judged by what rows 0 to 4 find. -/
theorem State.serveCheck_run {s : State} {q op : Nat} {e : Exec} (judge : State → Exec → Except Detail Scene → State)
    (h : s.serves q op e) (hcoef : s.gal.coefPending = []) :
    s.serveCheck q op judge = judge ((s.servedNow q).readChecked q e).1 e ((s.servedNow q).readChecked q e).2 := by
  obtain ⟨hrun, hwait, hcores, hturn, hup, -⟩ := h
  unfold State.serveCheck
  simp only [hrun, hwait, hcores, hturn, hup, hcoef, bne_self_eq_false, Bool.false_eq_true, ↓reduceIte, Bool.not_true, Bool.or_self,
    List.isEmpty_nil]
  rcases hb : sceneBody e with _ | st
  · rw [State.readChecked_of_none _ q hb]
    unfold State.servedNow
    rcases State.readScene _ q e with ⟨u, d | sc⟩ <;> rfl
  · rw [State.readChecked_of_body _ q hb]
    rfl

/-- A served entry finishes with any status and RESULT in a state whose rings are those of the service. -/
theorem State.hasFinished_served {s u : State} {q op : Nat} {e : Exec} (h : s.serves q op e) (hu : u.que = (s.servedNow q).que)
    (st : Status) (res : Nat) : (u.finishAt q e.pos st res).hasFinished q e.pos st res = true :=
  State.hasFinished_finishAt (State.ring_of_que hu q ▸ State.serves_mem h)

/-! ## CHECK_SCENE (R64) -/

/-- What CHECK_SCENE reports after rows 0 to 4: their failure, else the first of rows 6 and 7 that fails. -/
def State.checkDetail (s : State) : Except Detail Scene → Detail
  | .error d => d
  | .ok sc => ((s.row6 sc).orElse (fun _ => s.row7 sc)).getD okDetail

section
variable {s u : State} {q : Fin 256} {e : Exec} {r : Except Detail Scene} (ns : Nat) (h : s.serves q 0x30 e)
  (hcoef : s.gal.coefPending = []) (hread : (s.servedNow q).readChecked q e = (u, r))
include h hcoef hread

theorem exec_checkScene : exec (.checkScene q ns) s
    = .next (((u.noteCheck (u.checkDetail r) ns).writeDetail q e (u.checkDetail r)).finishAt q e.pos (u.checkDetail r).status 0) := by
  show execCheckScene q ns s = _
  unfold execCheckScene
  rw [State.serveCheck_run _ h hcoef, hread]
  cases r <;> rfl

/-- CHECK_SCENE finishes with the status that it reports, and the scene block notes it. -/
theorem exec_checkScene_noted {d : Detail} (hd : u.checkDetail r = d) :
    ∃ t, exec (.checkScene q ns) s = .next t ∧ t.hasFinished q e.pos d.status 0 = true ∧ t.heads = s.heads
      ∧ t.scn.lastStatus = d.status.code := by
  subst hd
  obtain ⟨hque, -, -, hheads, -⟩ := State.readChecked_frame hread
  refine ⟨_, exec_checkScene ns h hcoef hread, State.hasFinished_served h ?_ _ 0, ?_, ?_⟩
  · exact (State.writeDetail_kept (.refl _)).que_eq.trans hque
  · exact (State.writeDetail_kept (.refl _)).heads_eq.trans hheads
  · exact congrArg Scn.lastStatus (State.writeDetail_kept (.refl _)).scn_eq

theorem exec_checkScene_finishes {d : Detail} (hd : u.checkDetail r = d) :
    ∃ t, exec (.checkScene q ns) s = .next t ∧ t.hasFinished q e.pos d.status 0 = true ∧ t.heads = s.heads := by
  obtain ⟨t, hexec, hfin, hheads, -⟩ := exec_checkScene_noted ns h hcoef hread hd
  exact ⟨t, hexec, hfin, hheads⟩

end

/-- Settles O8, row by row. -/
theorem checkSceneJudges : Obligations.CheckSceneJudges := by
  intro s q ns e s0 r hserve hcoef
  have hread {x : Except Detail Scene} (hb : sceneBody e = none) (hr : r.2 = x) : (s.servedNow q).readChecked q e = (r.1, x) :=
    State.readChecked_of_read hb hr
  refine ⟨fun st hb => ?body, fun d hb hr => ?descriptor, fun sc d hb hr h6 => ?row6, fun sc d hb hr h6 h7 => ?row7,
    fun sc hb hr h6 h7 => ?passes⟩
  case body => exact exec_checkScene_finishes ns hserve hcoef (State.readChecked_of_body (s.servedNow q) q hb) rfl
  case descriptor => exact exec_checkScene_finishes ns hserve hcoef (hread hb hr) rfl
  case row6 => exact exec_checkScene_finishes ns hserve hcoef (hread hb hr) (by simp [State.checkDetail, h6])
  case row7 => exact exec_checkScene_finishes ns hserve hcoef (hread hb hr) (by simp [State.checkDetail, h6, h7])
  case passes =>
    exact exec_checkScene_noted (d := okDetail) ns hserve hcoef (hread hb hr) (by simp [State.checkDetail, h6, h7])

/-! ## Acceptance (R90) -/

/-- `y` is head `x` with an accepted scene pending: its epoch and target frame are noted, and what the head shows stays. -/
def Head.Accepts (sc : Scene) (x y : Head) : Prop :=
  y.pend = some sc ∧ y.pendEpoch = sc.epoch ∧ y.target = x.targetNow ∧ y.cur = x.cur ∧ y.curEpoch = x.curEpoch

/-- A pending scene that is replaced is counted on its head. -/
theorem State.supersede_setsHead (s : State) (h : Nat) : ∃ n, s.setsHead (s.supersede h) h { s.head h with superseded := n } := by
  unfold State.supersede
  split
  · exact ⟨_, State.setsHead_congr (s.modHead_setsHead h _) (State.raiseHead_kept (.refl _)).heads_eq⟩
  · exact ⟨_, State.setsHead_of_heads rfl h⟩

/-- Head `x` takes an accepted scene, with the values that the check judged. -/
def Head.accepting (x : Head) (sc : Scene) (checked : List (Nat × List Byte)) : Head :=
  { x with pend := some sc, pendEpoch := sc.epoch, pendCfg := checked, pendLate := x.lateNow, target := x.targetNow,
           late := if x.lateNow then satInc 32 x.late else x.late, lateRc := if x.lateNow then satInc 16 x.lateRc else x.lateRc }

theorem State.acceptHead_heads (s : State) (sc : Scene) (h : Nat) :
    (s.acceptHead sc h).heads
      = ((s.supersede h).modHead h (fun x => x.accepting sc ((s.supersede h).checkedCfg h))).heads := by
  show (if ((s.supersede h).head h).lateNow then
      ((s.supersede h).modHead h (fun x => x.accepting sc ((s.supersede h).checkedCfg h))).raiseHead h .commitLate
    else (s.supersede h).modHead h (fun x => x.accepting sc ((s.supersede h).checkedCfg h))).heads = _
  split
  · exact (State.raiseHead_kept (.refl _)).heads_eq
  · rfl

theorem State.acceptHead_accepts (s : State) (sc : Scene) (h : Nat) :
    ∃ y, s.setsHead (s.acceptHead sc h) h y ∧ (s.head h).Accepts sc y := by
  obtain ⟨n, hsup⟩ := s.supersede_setsHead h
  have hset := State.setsHead_trans hsup ((s.supersede h).modHead_setsHead h (fun x => x.accepting sc ((s.supersede h).checkedCfg h)))
  rw [hsup.1] at hset
  exact ⟨_, State.setsHead_congr hset (s.acceptHead_heads sc h), rfl, rfl, rfl, rfl, rfl⟩

/-- Each head of a list accepts the scene, and no other changes. -/
theorem State.forEach_acceptHead (sc : Scene) {l : List Nat} (hl : l.Nodup) (s : State) :
    (∀ h ∈ l, (s.head h).Accepts sc ((s.forEach l (fun s h => s.acceptHead sc h)).head h))
      ∧ ∀ h, h ∉ l → (s.forEach l (fun s h => s.acceptHead sc h)).head h = s.head h := by
  induction l generalizing s with
  | nil => exact ⟨fun _ hm => absurd hm List.not_mem_nil, fun _ _ => rfl⟩
  | cons k l ih =>
    obtain ⟨hk, hl⟩ := List.nodup_cons.1 hl
    obtain ⟨hin, hout⟩ := ih hl (s.acceptHead sc k)
    obtain ⟨y, ⟨hself, hother⟩, hacc⟩ := s.acceptHead_accepts sc k
    refine ⟨fun h hm => ?_, fun h hm => ?_⟩
    · by_cases e : h = k
      · subst e
        have hlast := (hout h hk).trans hself
        exact hlast ▸ hacc
      · have hrest := hin h ((List.mem_cons.1 hm).resolve_left e)
        rw [hother h e] at hrest
        exact hrest
    · rw [List.mem_cons, not_or] at hm
      obtain ⟨e, hm⟩ := hm
      exact (hout h hm).trans (hother h e)

theorem Scene.named_nodup (sc : Scene) : sc.named.Nodup := List.nodup_range.filter _

/-- The heads after an acceptance. -/
theorem State.acceptScene_heads (s : State) (sc : Scene) :
    (∀ h ∈ sc.named, (s.head h).Accepts sc ((s.acceptScene sc).head h))
      ∧ ∀ h, h ∉ sc.named → (s.acceptScene sc).head h = s.head h := by
  have hheads : (s.acceptScene sc).heads = (s.forEach sc.named (fun s h => s.acceptHead sc h)).heads :=
    (State.subscribeScene_kept (.refl _)).heads_eq
  simp only [State.head_of_heads hheads]
  exact State.forEach_acceptHead sc sc.named_nodup s

theorem State.acceptScene_accepted (s : State) (sc : Scene) : (s.acceptScene sc).scn.accepted = satInc 16 s.scn.accepted := by
  have hscn : (s.forEach sc.named (fun s h => s.acceptHead sc h)).scn = s.scn :=
    Kept.scn_eq (State.forEach_kept (.refl s) (fun _ _ => State.acceptHead_kept))
  calc (s.acceptScene sc).scn.accepted
      = ((s.forEach sc.named (fun s h => s.acceptHead sc h)).countAccepted sc.epoch).scn.accepted :=
        congrArg Scn.accepted (State.subscribeScene_kept (.refl _)).scn_eq
    _ = satInc 16 s.scn.accepted := congrArg (fun x : Scn => satInc 16 x.accepted) hscn

/-! ## COMMIT_SCENE outside a coherent domain (R65, R78) -/

/-- The first row that refuses a scene: what rows 0 to 4 found, else the first of rows 5 to 8 that fails. -/
def State.commitRefusal (s : State) (e : Exec) : Except Detail Scene → Option Detail
  | .error d => some d
  | .ok sc => (s.row5 sc).orElse (fun _ => (s.row6 sc).orElse (fun _ => (s.row7 sc).orElse (fun _ => s.row8 e sc)))

theorem State.commitElastic_refused {s : State} {e : Exec} {r : Except Detail Scene} {d : Detail} (q ns : Nat)
    (h : s.commitRefusal e r = some d) : s.commitElastic q ns e r = ((s.noteCheck d ns).countRejected).endCommit q e d 0 := by
  unfold State.commitElastic
  cases r with
  | error d' => cases h; rfl
  | ok sc => simp only [State.commitRefusal] at h; simp only [h]

theorem State.commitElastic_accepted {s : State} {e : Exec} {sc : Scene} (q ns : Nat) (h : s.commitRefusal e (.ok sc) = none) :
    s.commitElastic q ns e (.ok sc)
      = (((s.noteCheck okDetail ns).acceptScene sc).maskForScenes).endCommit q e okDetail (s.commitResult sc) := by
  unfold State.commitElastic
  simp only [State.commitRefusal] at h
  simp only [h]

section
variable {s u : State} {q : Fin 256} {e : Exec} {r : Except Detail Scene} (ns : Nat) (h : s.serves q 0x31 e)
  (hcoef : s.gal.coefPending = []) (helastic : s.coherent = false ∨ s.sys.mode = .isolated)
  (hread : (s.servedNow q).readChecked q e = (u, r))
include h hcoef helastic hread

/-- Outside a coherent domain COMMIT_SCENE is the member's own. -/
theorem exec_commitScene_elastic : exec (.commitScene q ns) s = .next (u.commitElastic q ns e r) := by
  obtain ⟨-, hdict, hsys, -, -⟩ := State.readChecked_frame hread
  have hcoherent : u.coherent = s.coherent := congrArg (· == 1) (State.cfg_of_dict (s := s) hdict 0x6001 1)
  have hmode : u.sys.mode = s.sys.mode := congrArg Sys.mode hsys
  show execCommitScene q ns s = _
  unfold execCommitScene
  rw [State.serveCheck_run _ h hcoef, hread, hcoherent, hmode, if_neg (by rcases helastic with h | h <;> simp [h])]

/-- A COMMIT_SCENE that a row refuses. -/
theorem exec_commitScene_refused {d : Detail} (hd : u.commitRefusal e r = some d) :
    ∃ t, exec (.commitScene q ns) s = .next t ∧ t.hasFinished q e.pos d.status 0 = true ∧ t.heads = s.heads
      ∧ t.scn.rejected = satInc 16 s.scn.rejected := by
  obtain ⟨hque, -, -, hheads, hscn⟩ := State.readChecked_frame hread
  refine ⟨_, exec_commitScene_elastic ns h hcoef helastic hread, ?_⟩
  rw [State.commitElastic_refused q ns hd]
  refine ⟨State.hasFinished_served h ?_ _ 0, ?_, ?_⟩
  · exact (State.writeDetail_kept (.refl _)).que_eq.trans hque
  · exact (State.writeDetail_kept (.refl _)).heads_eq.trans hheads
  · have hcount : u.scn.rejected = s.scn.rejected := congrArg Scn.rejected hscn
    exact (congrArg Scn.rejected (State.writeDetail_kept (.refl _)).scn_eq).trans (congrArg (satInc 16) hcount)

end

/-- A COMMIT_SCENE that every row passes. -/
theorem exec_commitScene_accepted {s u : State} {q : Fin 256} {e : Exec} {sc : Scene} (ns : Nat) (h : s.serves q 0x31 e)
    (hcoef : s.gal.coefPending = []) (helastic : s.coherent = false ∨ s.sys.mode = .isolated)
    (hread : (s.servedNow q).readChecked q e = (u, .ok sc)) (hpass : u.commitRefusal e (.ok sc) = none) :
    ∃ t, exec (.commitScene q ns) s = .next t ∧ t.hasFinished q e.pos .ok (u.commitResult sc) = true
      ∧ (∀ j ∈ sc.named, (s.head j).Accepts sc (t.head j)) ∧ (∀ j, j ∉ sc.named → t.head j = s.head j)
      ∧ t.scn.accepted = satInc 16 s.scn.accepted := by
  obtain ⟨hque, -, -, hheads, hscn⟩ := State.readChecked_frame hread
  obtain ⟨hnamed, hother⟩ := (u.noteCheck okDetail ns).acceptScene_heads sc
  have hbefore : ∀ j, (u.noteCheck okDetail ns).head j = s.head j := State.head_of_heads hheads
  refine ⟨_, exec_commitScene_elastic ns h hcoef helastic hread, ?_⟩
  rw [State.commitElastic_accepted q ns hpass]
  have hafter : ∀ j, ((((u.noteCheck okDetail ns).acceptScene sc).maskForScenes).endCommit q e okDetail (u.commitResult sc)).head j
      = ((u.noteCheck okDetail ns).acceptScene sc).head j :=
    State.head_of_heads (Kept.heads_eq (State.endCommit_kept (State.maskForScenes_kept (.refl _))))
  refine ⟨State.hasFinished_served h ?_ .ok _, fun j hj => ?_, fun j hj => ?_, ?_⟩
  · exact (Kept.que_eq (State.writeDetail_kept (State.maskForScenes_kept (State.acceptScene_kept (State.noteCheck_kept (.refl u)))))).trans
      hque
  · rw [hafter, ← hbefore]; exact hnamed j hj
  · exact (hafter j).trans ((hother j hj).trans (hbefore j))
  · have hcount : u.scn.accepted = s.scn.accepted := congrArg Scn.accepted hscn
    calc _ = ((u.noteCheck okDetail ns).acceptScene sc).scn.accepted :=
          congrArg Scn.accepted (Kept.scn_eq (State.endCommit_kept (State.maskForScenes_kept (.refl _))))
      _ = satInc 16 (u.noteCheck okDetail ns).scn.accepted := State.acceptScene_accepted _ sc
      _ = satInc 16 s.scn.accepted := congrArg (satInc 16) hcount

/-- Settles O9: a body or a descriptor that fails, a row of 5 to 8 that fails, and acceptance. -/
theorem commitSceneAccepts : Obligations.CommitSceneAccepts := by
  intro s q ns e s0 r hserve hcoef helastic
  have hread {x : Except Detail Scene} (hb : sceneBody e = none) (hr : r.2 = x) : (s.servedNow q).readChecked q e = (r.1, x) :=
    State.readChecked_of_read hb hr
  refine ⟨fun st hb => ?body, fun d hb hr => ?descriptor, fun sc d hb hr hd => ?row, fun sc hb hr h5 h6 h7 h8 => ?accepted⟩
  case body => exact exec_commitScene_refused ns hserve hcoef helastic (State.readChecked_of_body (s.servedNow q) q hb) rfl
  case descriptor => exact exec_commitScene_refused ns hserve hcoef helastic (hread hb hr) rfl
  case row => exact exec_commitScene_refused ns hserve hcoef helastic (hread hb hr) hd
  case accepted =>
    exact exec_commitScene_accepted ns hserve hcoef helastic (hread hb hr) (by simp [State.commitRefusal, h5, h6, h7, h8])

/-! ## The latch (R89, R90, R94, R97) -/

/-- A head whose pending scene becomes its current one. -/
def Head.taken (x : Head) : Head :=
  { x with cur := x.pend, curEpoch := x.pendEpoch, pend := none, pendEpoch := 0, pendCfg := [], pendLate := false }

/-- `y` is head `x` after its latch, at which the pending scene is taken or stays pending. -/
def Head.Latches (take : Bool) (x y : Head) : Prop :=
  y.cur = (if take then x.pend else x.cur) ∧ y.curEpoch = (if take then x.pendEpoch else x.curEpoch)
    ∧ y.pend = (if take then none else x.pend) ∧ y.latched = true ∧ y.nextBand = 0

/-- An analysis that ends at a latch leaves every head and the mode. -/
theorem State.endAnalysisAt_frame (s : State) (h : Nat) (old new : Option Scene) :
    (s.endAnalysisAt h old new).heads = s.heads ∧ (s.endAnalysisAt h old new).sys = s.sys := by
  have hend : (s.endAnalysis 3 0 0).heads = s.heads ∧ (s.endAnalysis 3 0 0).sys = s.sys := by
    unfold State.endAnalysis
    rw [if_neg (by decide)]
    exact ⟨(State.raise_kept (.refl _)).heads_eq, (State.raise_kept (.refl _)).sys_eq⟩
  unfold State.endAnalysisAt
  dsimp only
  split
  · split
    · exact hend
    · exact ⟨rfl, rfl⟩
  · exact ⟨rfl, rfl⟩

/-- Outside STANDBY a scene that is taken changes its head alone, and no mode. -/
theorem State.takeScene_frame {s : State} (h : Nat) (hw : s.sys.working ≠ .standby) :
    s.setsHead (s.takeScene h) h (s.head h).taken ∧ (s.takeScene h).sys = s.sys := by
  obtain ⟨hheads, hsys⟩ := ((s.modHead h Head.taken).clearRefs h).endAnalysisAt_frame h (s.head h).cur (s.head h).pend
  have hworking : (((s.modHead h Head.taken).clearRefs h).endAnalysisAt h (s.head h).cur (s.head h).pend).sys.working ≠ .standby := by
    rw [hsys]; exact hw
  have hstay : ¬(((((s.modHead h Head.taken).clearRefs h).endAnalysisAt h (s.head h).cur (s.head h).pend).sys.working = .standby
      && (s.head h).namesHead h) = true) := by
    simp [hworking]
  have htake : s.takeScene h = _ := if_neg hstay
  rw [htake]
  exact ⟨State.setsHead_congr (s.modHead_setsHead h Head.taken) hheads, hsys⟩

theorem State.judgeMisfit_frame (s : State) (h : Nat) (first : Bool) :
    (∃ b, s.setsHead (s.judgeMisfit h first) h { s.head h with misfit := b }) ∧ (s.judgeMisfit h first).sys = s.sys :=
  ⟨⟨_, State.setsHead_congr (s.modHead_setsHead h _) (State.levelHead_kept (.refl _)).heads_eq⟩,
    (State.judgeMisfit_kept (.refl s)).sys_eq⟩

/-- The pending scene of a head is taken at its latch, if it is due. -/
def State.takeDue (s : State) (h : Nat) (due : Bool) : State := if due then (s.takeScene h).unsubscribeUnused else s

theorem State.takeDue_frame {s : State} (h : Nat) (due : Bool) (hw : s.sys.working ≠ .standby) :
    s.setsHead (s.takeDue h due) h (if due then (s.head h).taken else s.head h) ∧ (s.takeDue h due).sys = s.sys := by
  obtain ⟨htake, hsys⟩ := State.takeScene_frame h hw
  cases due with
  | true => exact ⟨State.setsHead_congr htake (State.unsubscribeUnused_kept (.refl _)).heads_eq,
      (State.unsubscribeUnused_kept (.refl _)).sys_eq.trans hsys⟩
  | false => exact ⟨State.setsHead_of_heads rfl h, rfl⟩

/-- A head notes the entries in force for the frame that its latch begins. -/
def State.noteForce (s : State) (h : Nat) : State := s.modHead h (fun x => { x with cfg := s.dict.force })

/-- A head samples the sources of its current scene, and the bands of its next frame begin. -/
def State.sampleAt (s : State) (h : Nat) : State :=
  s.modHead h (fun x => { x with samples := s.latchSamples h (s.head h).cur, latched := true, nextBand := 0 })

theorem State.sampleAt_frame (s : State) (h : Nat) :
    ∃ m, s.setsHead (s.sampleAt h) h { s.head h with samples := m, latched := true, nextBand := 0 } :=
  ⟨_, s.modHead_setsHead h _⟩

/-- The latch of a running head, step by step. -/
theorem State.latchHead_eq {s : State} {h : Nat} {due : Bool} (hruns : (s.head h).runs = true) (hlatch : (s.head h).latched = false)
    (hdue : ((s.head h).pend.isSome && (s.head h).dueAt) = due) :
    s.latchHead h = ((((s.latchEntries h (due && (s.head h).namesHead h) (s.head h).pendCfg).noteForce h).takeDue h due).sampleAt
      h).judgeMisfit h false := by
  subst hdue
  exact if_neg (by simp [hruns, hlatch])

/-- Outside STANDBY the latch of a running head changes that head alone, and no mode. -/
theorem State.latchHead_latches {s : State} {h : Nat} {due : Bool} (hruns : (s.head h).runs = true)
    (hlatch : (s.head h).latched = false) (hw : s.sys.working ≠ .standby)
    (hdue : ((s.head h).pend.isSome && (s.head h).dueAt) = due) :
    (∃ y, s.setsHead (s.latchHead h) h y ∧ (s.head h).Latches due y) ∧ (s.latchHead h).sys = s.sys := by
  rw [State.latchHead_eq hruns hlatch hdue]
  generalize hentries : s.latchEntries h (due && (s.head h).namesHead h) (s.head h).pendCfg = a
  have hheads : a.heads = s.heads := hentries ▸ (State.latchEntries_kept (.refl s)).heads_eq
  have hsys : (a.noteForce h).sys = s.sys := hentries ▸ (State.latchEntries_kept (.refl s)).sys_eq
  have hnote : s.setsHead (a.noteForce h) h { s.head h with cfg := a.dict.force } :=
    State.head_of_heads hheads h ▸ State.setsHead_trans (State.setsHead_of_heads hheads h) (a.modHead_setsHead h _)
  obtain ⟨htake, hsysTake⟩ := State.takeDue_frame (s := a.noteForce h) h due (hsys ▸ hw)
  obtain ⟨m, hsample⟩ := ((a.noteForce h).takeDue h due).sampleAt_frame h
  obtain ⟨⟨b, hmisfit⟩, hsysMisfit⟩ := (((a.noteForce h).takeDue h due).sampleAt h).judgeMisfit_frame h false
  refine ⟨⟨_, State.setsHead_trans (State.setsHead_trans hnote htake) (State.setsHead_trans hsample hmisfit), ?_⟩,
    hsysMisfit.trans (hsysTake.trans hsys)⟩
  rw [hsample.1, htake.1, hnote.1]
  cases due <;> exact ⟨rfl, rfl, rfl, rfl, rfl⟩

/-- Without an automatic transition LATCH is the latch of its head. -/
theorem exec_latch {s : State} {h : Fin 16} (hsys : (s.latchHead h).sys = s.sys) (hauto : s.sys.autoCause = none) :
    exec (.latch h) s = .next (s.latchHead h) :=
  congrArg Host.Outcome.next (if_pos (by rw [hsys, hauto]; rfl))

theorem exec_commitAhead {s : State} {h : Fin 16} (hstate : (s.head h).state ≠ .off) :
    exec (.commitAhead h) s = .next (s.raiseHead h .commitAhead) :=
  congrArg Host.Outcome.next (if_neg hstate)

/-- Settles O10: a latch at which the pending scene is due, one at which none is, and the event of COMMIT_AHEAD. -/
theorem latchTakesPending : Obligations.LatchTakesPending := by
  intro s h x
  refine ⟨fun hruns hlatch hauto hw => ⟨fun hpend hdue => ?due, fun hdue => ?notDue⟩, fun hstate => ?ahead⟩
  case due =>
    obtain ⟨⟨_, ⟨rfl, hother⟩, hcur, hepoch, hpendAfter, hlatched, hband⟩, hsys⟩ :=
      State.latchHead_latches hruns hlatch hw (Bool.and_eq_true_iff.2 ⟨hpend, hdue⟩)
    exact ⟨_, exec_latch hsys hauto, hcur, hepoch, hpendAfter, hlatched, hband, hother⟩
  case notDue =>
    obtain ⟨⟨_, ⟨rfl, hother⟩, hcur, hepoch, hpendAfter, hlatched, hband⟩, hsys⟩ := State.latchHead_latches hruns hlatch hw hdue
    exact ⟨_, exec_latch hsys hauto, hcur, hepoch, hpendAfter, hlatched, hband, hother⟩
  case ahead =>
    exact ⟨_, exec_commitAhead hstate, rfl, (State.raiseHead_kept (.refl s)).heads_eq, Kept.mem_eq (State.raiseHead_kept (.refl s)),
      (State.raiseHead_kept (.refl s)).que_eq⟩

end Sys2Proof.Machine
end

section
/-!
PROOFS. Composition: a band's composition start (R101, R102, R176), tiles taken and written (R103, R106, R124), the drain of a band
(R120, R122, R161), and the faults of a gallery's shared part (R127).
-/

namespace Sys2Proof.Machine

/-! ## A head's bands -/

theorem State.band?_of_head {s t : State} {h : Nat} (e : (t.head h).bands = (s.head h).bands) (frame b : Nat) :
    t.band? h frame b = s.band? h frame b := by
  unfold State.band?; rw [e]

theorem State.clocks_modBand (s : State) (h frame b : Nat) (f : Band → Band) : s.clocks (s.modBand h frame b f) :=
  State.clocks_modHead rfl

theorem State.modBand_heads_congr {s t : State} (e : t.heads = s.heads) (h frame b : Nat) (f : Band → Band) :
    (t.modBand h frame b f).heads = (s.modBand h frame b f).heads := by
  unfold State.modBand State.modHead State.setHead
  rw [State.head_of_heads e, e]

/-- A band that is changed in its place is found changed. -/
theorem State.band?_modBand (s : State) (h frame b : Nat) {f : Band → Band} (hf : ∀ y, (f y).frame = y.frame ∧ (f y).band = y.band) :
    (s.modBand h frame b f).band? h frame b = (s.band? h frame b).map f := by
  have hname : ((fun y : Band => y.frame == frame && y.band == b) ∘ fun y => if y.frame = frame ∧ y.band = b then f y else y)
      = fun y => y.frame == frame && y.band == b := by
    funext y
    show ((if _ then f y else y).frame == frame && (if _ then f y else y).band == b) = _
    split
    next => rw [(hf y).1, (hf y).2]
    next => rfl
  unfold State.band? State.modBand
  rw [State.head_modHead_self, List.find?_map, hname]
  refine Option.map_congr fun y hy => ?_
  have hy := List.find?_some hy
  exact if_pos (by simpa using hy)

/-! ## A band's composition start (R101, R102) -/

/-- The head's next band passes its composition start. -/
def State.passBand (s : State) (h : Nat) : State := s.modHead h (fun x => { x with nextBand := x.nextBand + 1 })

theorem State.passBand_head (s : State) (h j : Nat) :
    (s.passBand h).head j = { s.head j with nextBand := (s.head j).nextBand + if j = h then 1 else 0 } := by
  unfold State.passBand
  by_cases e : j = h
  · subst e; rw [State.head_modHead_self, if_pos rfl]
  · rw [State.head_modHead_ne _ _ e, if_neg e]; rfl

/-- The state that a band is composed for does not turn on the band. -/
theorem State.composingState_passBand (s : State) (h : Nat) : (s.passBand h).composingState h = s.composingState h := by
  unfold State.composingState State.callsOf State.stateAt
  simp only [State.passBand_head]
  rfl

theorem exec_bandCompositionStart {s : State} {h : Fin 16} (hruns : (s.head h).runs = true)
    (hband : (s.head h).nextBand < (s.head h).bandCount) :
    exec (.bandCompositionStart h) s = .next (if (s.composingState h).composes then
        (s.passBand h).composeBand h (s.head h).bandFrame.1 (s.head h).nextBand (s.head h).bandFrame.2 (s.composingState h) false
      else s.passBand h) := by
  refine congrArg Host.Outcome.next ((if_neg (by simp [hruns, hband])).trans ?_)
  show (if !((s.passBand h).composingState h).composes then _ else State.composeBand _ _ _ _ _ ((s.passBand h).composingState h) _) = _
  rw [State.composingState_passBand]
  cases (s.composingState h).composes <;> rfl

/-- Whether it composes the band or not, a head that passes the point keeps its clock. -/
theorem State.clocks_compositionStart (s : State) (h frame b start : Nat) (st : HState) (c : Prop) [Decidable c] :
    (s.passBand h).clocks (if c then (s.passBand h).composeBand h frame b start st false else s.passBand h) :=
  State.clocks_ite (State.clocks_composeBand _ _ _ _ _ _ _) (State.clocks_refl _)

theorem State.band?_assignBand (s : State) (h : Nat) (y : Band) : ((s.assignBand h y).band? h y.frame y.band).isSome = true := by
  unfold State.band? State.assignBand
  rw [State.head_setHead_self, List.find?_isSome]
  exact ⟨_, List.mem_append_right _ (List.mem_singleton.2 rfl), by simp⟩

theorem State.prepareBand_names (s : State) (h frame b start : Nat) (st : HState) :
    (s.prepareBand h frame b start st).2.frame = frame ∧ (s.prepareBand h frame b start st).2.band = b := by
  unfold State.prepareBand
  dsimp only
  split <;> exact ⟨rfl, rfl⟩

/-- A band whose composition starts stands in the head's band buffer. -/
theorem State.band?_composeBand (s : State) (h frame b start : Nat) (st : HState) (again : Bool) :
    ((s.composeBand h frame b start st again).band? h frame b).isSome = true := by
  have hnames := s.prepareBand_names h frame b start st
  unfold State.composeBand
  generalize s.prepareBand h frame b start st = p at hnames
  obtain ⟨t, y⟩ := p
  obtain ⟨rfl, rfl⟩ := hnames
  exact State.band?_assignBand _ h { y with restarted := again }

/-! ## TILE_TAKE (R103, R106) -/

section
variable {s : State} {g : Fin 12} {e : Fin 17} (hservice : (s.gallery g).inService = true) (hgate : (s.gallery g).gated = false)
  (hactive : (s.gallery g).engineActive e = true) (hidle : (s.gallery g).jobs.any (fun j => j.engine == e.val) = false)
  {h k : Nat} {b : Band} (hnext : s.nextTile g e = some (h, b, k))
include hservice hgate hactive hidle hnext

theorem exec_tileTake_composed (hgood : s.tileBad h b k = none) :
    exec (.tileTake g e) s = .next ((s.modBand h b.frame b.band (fun y => { y with untaken := y.untaken.drop 1 })).modGallery g
      (fun x => { x with jobs := x.jobs ++
        [{ engine := e, head := h, frame := b.frame, band := b.band, tile := k, pixels := s.tilePixels h b k }] })) := by
  show execTileTake g e s = _
  unfold execTileTake
  simp only [hservice, hgate, hactive, hidle, hnext, hgood, Bool.not_true, Bool.or_self, Bool.false_eq_true, ↓reduceIte]

theorem exec_tileTake_bad {addr : Nat} {d : LayerDec} (hbad : s.tileBad h b k = some (addr, d)) :
    exec (.tileTake g e) s = .next ((s.countRepeated addr).abandonBand h b addr) := by
  show execTileTake g e s = _
  unfold execTileTake
  simp only [hservice, hgate, hactive, hidle, hnext, hbad, Bool.not_true, Bool.or_self, Bool.false_eq_true, ↓reduceIte]

end

/-- A read that fails twice counts twice, and its address is the last error. -/
theorem State.countRepeated_mem (s : State) (a : Nat) :
    (s.countRepeated a).mem = { s.mem with uncorr := satInc 32 (satInc 32 s.mem.uncorr), lastError := a } := by
  unfold State.countRepeated State.countUncorrectable
  simp only [State.raise_mem]

/-! ## BAND_DRAIN (R120, R122, R161) -/

/-- A head that has missed band `b`, of which `y` stood in the band buffer. -/
def Head.missed (x : Head) (b : Nat) (y : Option Band) : Head :=
  { x with missCount := satInc 32 x.missCount, missRc := satInc 16 x.missRc, lastMiss := wrap 48 x.frame + b * 2 ^ 48,
           missCause := Band.cause y, missInFrame := true }

/-- A head whose band `b` of the frame under way has left the band buffer. -/
def Head.dropBand (x : Head) (b : Nat) : Head :=
  { x with bands := x.bands.filter (fun y => !(y.frame == x.frame && y.band == b)) }

/-- A head after its test of band `b`, of which `y` stands in the band buffer. -/
def Head.drained (x : Head) (b : Nat) (y : Option Band) : Head :=
  match y with
  | some z => if z.finished && !z.abandon then x.dropBand b else (x.missed b y).dropBand b
  | none => x.missed b none

/-- The test of a band leaves the head's frame, its state and the bands drained so far. -/
theorem Head.drained_frame (x : Head) (b : Nat) (y : Option Band) :
    (x.drained b y).frame = x.frame ∧ (x.drained b y).state = x.state ∧ (x.drained b y).nextDrain = x.nextDrain := by
  unfold Head.drained
  split
  next => split <;> exact ⟨rfl, rfl, rfl⟩
  next => exact ⟨rfl, rfl, rfl⟩

theorem Head.find?_dropBand (x : Head) (b : Nat) :
    (x.dropBand b).bands.find? (fun y => y.frame == x.frame && y.band == b) = none := by
  unfold Head.dropBand
  rw [List.find?_eq_none]
  intro y hy
  simpa only [Bool.not_eq_true, Bool.not_eq_true'] using (List.mem_filter.1 hy).2

theorem State.missBand_setsHead (s : State) (h b : Nat) (y : Option Band) :
    s.setsHead (s.missBand h b y) h ((s.head h).missed b y) :=
  State.setsHead_congr (s.modHead_setsHead h (fun x => x.missed b y))
    (Kept.heads_eq (State.raiseHead_kept (State.forEach_kept (.refl _) (fun _ _ => State.modRegion_kept))))

/-- A band leaves the buffer, and its tiles in hand are discarded. -/
theorem State.leave_setsHead {s t : State} {h : Nat} {x : Head} (k : s.setsHead t h x) (frame b : Nat) :
    s.setsHead ((t.dropJobs h frame b).modHead h (fun y => y.dropBand b)) h (x.dropBand b) := by
  have hself : (t.dropJobs h frame b).head h = x := k.1
  exact State.setsHead_trans k (hself ▸ (t.dropJobs h frame b).modHead_setsHead h (fun y => y.dropBand b))

/-- Echo gives up its parts of a band. -/
def State.dropParts (s : State) (h frame b : Nat) : State :=
  { s with lant := { s.lant with
    parts := s.lant.parts.filter (fun (p : Nat × EchoPart × Band) => !(p.1 == h && p.2.1.frame == frame && p.2.1.band == b)) } }

theorem State.drainRows_setsHead (s : State) (h b : Nat) :
    s.setsHead (s.drainRows h b).1 h ((s.head h).drained b (s.band? h (s.head h).frame b)) := by
  unfold State.drainRows
  dsimp only
  rcases s.band? h (s.head h).frame b with _ | z
  · exact s.missBand_setsHead h b none
  · unfold Head.drained
    dsimp only
    split
    · exact State.leave_setsHead (State.setsHead_of_heads rfl h) (s.head h).frame b
    · exact State.leave_setsHead (s := s) ((s.dropParts h (s.head h).frame b).missBand_setsHead h b (some z)) (s.head h).frame b

/-- A head once it has drawn the lines of band `b`, of which `y` stands in the band buffer. A HALTED head draws its own output. -/
def Head.drawn (x : Head) (b : Nat) (y : Option Band) : Head := if x.state = .halted then x else x.drained b y

/-- A band that was not composed in time is missed. -/
theorem Head.drawn_missed {x : Head} (b : Nat) (h : x.state ≠ .halted) : x.drawn b none = x.missed b none := if_neg h

theorem Head.drawn_composed {x : Head} {z : Band} (b : Nat) (h : x.state ≠ .halted) (hfin : z.finished = true)
    (hkept : z.abandon = false) : x.drawn b (some z) = x.dropBand b :=
  (if_neg h).trans (if_pos (by simp [hfin, hkept]))

theorem Head.drawn_frame (x : Head) (b : Nat) (y : Option Band) :
    (x.drawn b y).frame = x.frame ∧ (x.drawn b y).state = x.state ∧ (x.drawn b y).nextDrain = x.nextDrain := by
  unfold Head.drawn
  split
  next => exact ⟨rfl, rfl, rfl⟩
  next => exact x.drained_frame b y

theorem State.drainLines_setsHead (s : State) (h b : Nat) :
    s.setsHead (s.drainLines h b).1 h ((s.head h).drawn b (s.band? h (s.head h).frame b)) := by
  unfold State.drainLines Head.drawn
  dsimp only
  split
  · split <;> exact State.setsHead_of_heads rfl h
  · exact s.drainRows_setsHead h b

/-- The head's next band is drained. -/
def Head.nextDrained (x : Head) : Head := { x with nextDrain := x.nextDrain + 1 }

/-- The lines last sent. -/
def Head.sent (x : Head) (lines : List (List Px)) : Head := { x with lineOut := lines }

/-- The lines of band `b` of a frame at output depth `n` are sent, signed and captured. -/
def State.sendLines (s : State) (h n frame b : Nat) (full : List (Fin 4)) (lines : List (List Px)) : State :=
  let s := (s.modHead h (fun x => x.sent lines)).modLink h (fun l => { l with ownCrc := testLines l.ownCrc lines })
  let s := s.forEach (s.regionsOf h) (fun s r =>
    (s.signLines h n frame r lines (8 * b)).noteSubs h r.id frame false (subSignatures n frame b r lines))
  s.forEach [0, 1, 2, 3] (fun s w =>
    if (s.stream w).capturing && (s.stream w).cfg.head == h then s.wbLines w n lines (8 * b) (full.any (fun v => v.val == w)) else s)

theorem State.sendLines_setsHead (s : State) (h n frame b : Nat) (full : List (Fin 4)) (lines : List (List Px)) :
    s.setsHead (s.sendLines h n frame b full lines) h ((s.head h).sent lines) := by
  have hsent : s.setsHead ((s.modHead h (fun x => x.sent lines)).modLink h (fun l => { l with ownCrc := testLines l.ownCrc lines })) h
      ((s.head h).sent lines) := s.modHead_setsHead h (fun x => x.sent lines)
  exact State.setsHead_congr hsent (Kept.heads_eq (State.forEach_kept
    (State.forEach_kept (.refl _) (fun _ _ k => State.noteSubs_kept (State.signLines_kept k)))
    (fun _ _ k => Kept.ite (State.wbLines_kept k) k)))

/-- Neither the drain of a band nor its lines move the count of missed bands. -/
theorem Head.missCount_sent_dropBand (x : Head) (b : Nat) (lines : List (List Px)) :
    ((x.nextDrained.dropBand b).sent lines).missCount = x.missCount := rfl

section
variable {s : State} {h : Fin 16} (full : List (Fin 4)) (hon : (s.head h).state ≠ .off) (hcounted : (s.head h).counted = true)
  (hband : (s.head h).nextDrain < (s.head h).bandCount)
include hon hcounted hband

/-- An IDLE head passes over its band. -/
theorem exec_bandDrain_idle (hidle : (s.head h).state = .idle) :
    exec (.bandDrain h full) s = .next (s.modHead h Head.nextDrained) :=
  congrArg Host.Outcome.next ((if_neg (by simp [hon, hcounted, hband])).trans (if_pos hidle))

theorem exec_bandDrain_sends (hidle : (s.head h).state ≠ .idle) :
    exec (.bandDrain h full) s = .next (((s.modHead h Head.nextDrained).drainLines h (s.head h).nextDrain).1.sendLines h
      (depthBits (s.head h).timing.depth) (s.head h).frame (s.head h).nextDrain full
      ((s.modHead h Head.nextDrained).drainLines h (s.head h).nextDrain).2) :=
  congrArg Host.Outcome.next ((if_neg (by simp [hon, hcounted, hband])).trans (if_neg hidle))

/-- The drain of a band changes its head alone. -/
theorem exec_bandDrain_setsHead (hidle : (s.head h).state ≠ .idle) :
    ∃ t lines, exec (.bandDrain h full) s = .next t ∧ s.setsHead t h
      (((s.head h).nextDrained.drawn (s.head h).nextDrain (s.band? h (s.head h).frame (s.head h).nextDrain)).sent lines) := by
  have hnext := s.modHead_setsHead h Head.nextDrained
  have hbuffer : (s.modHead h Head.nextDrained).band? h (s.head h).frame (s.head h).nextDrain
      = s.band? h (s.head h).frame (s.head h).nextDrain :=
    State.band?_of_head (by rw [hnext.1]; rfl) _ _
  have hlines := (s.modHead h Head.nextDrained).drainLines_setsHead h (s.head h).nextDrain
  rw [hnext.1, show (s.head h).nextDrained.frame = (s.head h).frame from rfl, hbuffer] at hlines
  exact ⟨_, _, exec_bandDrain_sends full hon hcounted hband hidle,
    State.setsHead_trans (State.setsHead_trans hnext hlines) (hlines.1 ▸ State.sendLines_setsHead _ h _ _ _ full _)⟩

end

/-- Settles O14: a composition start, a tile taken and one whose read fails, and the drain of a band by an IDLE head and by one that
sends. -/
theorem bandsAreComposedAndDrained : Obligations.BandsAreComposedAndDrained := by
  refine ⟨fun s hd g e => ⟨fun hruns hband => ?start, fun hservice hgate hactive hidle =>
    ⟨fun h b k hnext hgood => ?take, fun h b k p hnext hbad => ?bad⟩⟩, fun s h full hon hcounted hband => ?drain⟩
  case start =>
    have hexec := exec_bandCompositionStart hruns hband
    have hclock (j : Nat) := s.clocks_compositionStart hd (s.head hd).bandFrame.1 (s.head hd).nextBand (s.head hd).bandFrame.2
      (s.composingState hd) ((s.composingState hd).composes = true) j
    simp only [State.passBand_head] at hclock
    refine ⟨_, hexec, ?next, fun hcomposes => ?stands, fun j => ⟨congrArg Clock.frame (hclock j), congrArg Clock.state (hclock j),
      congrArg Clock.cur (hclock j)⟩, fun j hj => ?other, 
      Kept.dev_eq ((execBandCompositionStart_kept (.refl s)).out _ hexec),
      Kept.host_eq ((execBandCompositionStart_kept (.refl s)).out _ hexec)⟩
    case next => exact (congrArg Clock.nextBand (hclock hd)).trans (congrArg _ (if_pos rfl))
    case stands => rw [if_pos hcomposes]; exact State.band?_composeBand _ _ _ _ _ _ _
    case other => exact (congrArg Clock.nextBand (hclock j)).trans (congrArg _ (if_neg hj))
  case take =>
    exact ⟨_, exec_tileTake_composed hservice hgate hactive hidle hnext hgood, congrArg Gal.jobs (State.gallery_modGallery_self _ _ _),
      fun j hj => State.gallery_modGallery_ne _ _ hj, rfl, fun j => congrArg Clock.frame (s.clocks_modBand h _ _ _ j)⟩
  case bad =>
    have hmem : ((s.countRepeated p.1).abandonBand h b p.1).mem = _ :=
      (Kept.mem_eq (State.abandonBand_kept (.refl _))).trans (s.countRepeated_mem p.1)
    exact ⟨_, exec_tileTake_bad hservice hgate hactive hidle hnext hbad, congrArg Mem.uncorr hmem, congrArg Mem.lastError hmem,
      hmem ▸ rfl, hmem ▸ rfl⟩
  case drain =>
    by_cases hidle : (s.head h).state = .idle
    · obtain ⟨hself, hother⟩ := s.modHead_setsHead h Head.nextDrained
      exact ⟨_, exec_bandDrain_idle full hon hcounted hband hidle, hself ▸ rfl, hself ▸ rfl, hself ▸ rfl, hother,
        fun _ => ⟨rfl, hself ▸ rfl⟩, fun h => absurd hidle h,
        fun _ h => absurd hidle h⟩
    · obtain ⟨t, lines, hexec, hself, hother⟩ := exec_bandDrain_setsHead full hon hcounted hband hidle
      obtain ⟨hframe, hstate, hnext⟩ := (s.head h).nextDrained.drawn_frame (s.head h).nextDrain
        (s.band? h (s.head h).frame (s.head h).nextDrain)
      refine ⟨t, hexec, hself ▸ hnext, hself ▸ hframe, hself ▸ hstate, hother, fun h => absurd h hidle, fun _ hhalt hb => ?missed,
        fun b _ hhalt hb hfin hkept => ?composed⟩
      case missed =>
        rw [hself, hb, Head.drawn_missed (x := (s.head h).nextDrained) _ hhalt]
        exact ⟨rfl, rfl⟩
      case composed =>
        rw [hb, Head.drawn_composed (x := (s.head h).nextDrained) _ hhalt hfin hkept] at hself
        rw [State.band?, hself]
        exact ⟨Head.missCount_sent_dropBand _ _ _, (s.head h).nextDrained.find?_dropBand _⟩

/-! ## TILE_WRITE (R103, R124) -/

/-- An engine's tile leaves its hands and counts in TilesDone. -/
def State.countTile (s : State) (g e : Nat) (j : TileJob) : State :=
  ((s.modGallery g (fun x => { x with jobs := x.jobs.filter (fun i => i.engine != e) })).modGallery g
    (fun x => { x with tilesDone := wrapInc 64 x.tilesDone })).noteWriter j.head j.frame j.band j.tile g e

theorem State.countTile_gallery (s : State) (g e : Nat) (j : TileJob) : (s.countTile g e j).gallery g
    = { s.gallery g with jobs := (s.gallery g).jobs.filter (fun i => i.engine != e), tilesDone := wrapInc 64 (s.gallery g).tilesDone } := by
  refine (State.gallery_of_gal (State.noteWriter_kept (.refl _)).gal_eq g).trans ?_
  rw [State.gallery_modGallery_self, State.gallery_modGallery_self]

theorem State.countTile_heads (s : State) (g e : Nat) (j : TileJob) : (s.countTile g e j).heads = s.heads :=
  (State.noteWriter_kept (.refl _)).heads_eq

/-- The tile of job `j` is written into its band, which held the tiles `done`. -/
def State.putTile (s : State) (j : TileJob) (done : Tbl (List Px)) (fin : Bool) : State :=
  s.modBand j.head j.frame j.band (fun y => { y with done := Tbl.set done j.tile j.pixels, finished := fin })

theorem State.putTile_gallery (s : State) (j : TileJob) (done : Tbl (List Px)) (fin : Bool) (g : Nat) :
    (s.putTile j done fin).gallery g = s.gallery g := rfl

/-- The band has the tile, and the decisions it had. -/
theorem State.band?_putTile {s t : State} {j : TileJob} {b : Band} {fin : Bool} (hband : s.band? j.head j.frame j.band = some b)
    (h : t.heads = (s.putTile j b.done fin).heads) :
    ∃ b', t.band? j.head j.frame j.band = some b' ∧ Tbl.find? b'.done j.tile = some j.pixels ∧ b'.decs = b.decs := by
  have hput : (s.putTile j b.done fin).band? j.head j.frame j.band = some _ :=
    (s.band?_modBand j.head j.frame j.band (f := fun y => { y with done := Tbl.set b.done j.tile j.pixels, finished := fin })
      (fun _ => ⟨rfl, rfl⟩)).trans (congrArg _ hband)
  exact ⟨_, (State.band?_of_head (congrArg Head.bands (State.head_of_heads h _)) _ _).trans hput, Tbl.find?_set_self _ _ _, rfl⟩

theorem State.clocks_putTile {s t : State} {j : TileJob} {done : Tbl (List Px)} {fin : Bool} (h : t.heads = (s.putTile j done fin).heads) :
    s.clocks t :=
  State.clocks_trans (s.clocks_modBand j.head j.frame j.band _) (State.clocks_of_heads h)

/-- A tile whose checks pass counts and is written into its band. -/
theorem exec_tileWrite_passes {s : State} {g : Fin 12} {e : Fin 17} {j : TileJob} {b : Band}
    (hjob : (s.gallery g).jobs.find? (fun j => j.engine == e.val) = some j) (hband : s.band? j.head j.frame j.band = some b)
    (hkept : b.abandon = false) :
    ∃ t n fin, exec (.tileWrite g e false) s = .next t
      ∧ t.gallery g = { s.gallery g with jobs := (s.gallery g).jobs.filter (fun i => i.engine != e.val),
                                         tilesDone := wrapInc 64 (s.gallery g).tilesDone, bandsDone := n }
      ∧ t.heads = (s.putTile j b.done fin).heads := by
  have hcount := s.countTile_gallery g e j
  have hheads (fin : Bool) : ((s.countTile g e j).putTile j b.done fin).heads = (s.putTile j b.done fin).heads :=
    State.modBand_heads_congr (s.countTile_heads g e j) _ _ _ _
  have hband' : (s.modGallery g (fun x => { x with jobs := x.jobs.filter (fun i => i.engine != e.val) })).band? j.head j.frame j.band
      = some b := hband
  generalize hfin : decide (ceilDiv ((s.countTile g e j).head j.head).timing.hActive 128
    ≤ (Tbl.set b.done j.tile j.pixels).length) = fin
  have hexec : exec (.tileWrite g e false) s = .next (if fin then ((s.countTile g e j).putTile j b.done fin).modGallery g
      (fun x => { x with bandsDone := wrapInc 64 x.bandsDone }) else (s.countTile g e j).putTile j b.done fin) := by
    show execTileWrite g e false s = _
    unfold execTileWrite
    simp only [hjob, hband', hkept, Bool.false_eq_true, ↓reduceIte]
    subst hfin
    rfl
  rw [hexec]
  cases fin with
  | true => exact ⟨_, _, true, rfl, by rw [if_pos rfl, State.gallery_modGallery_self, State.putTile_gallery, hcount], hheads true⟩
  | false => exact ⟨_, _, false, rfl, hcount, hheads false⟩

/-- The first fault of an engine counts and retires nothing. -/
theorem State.engineFault_first {s : State} {g e : Nat} (h : Tbl.find? (s.gallery g).engFaults e = none) :
    ∃ t, s.engineFault g e = State.raise t .engineFault ∧ t.gal.engineFaults = satInc 32 s.gal.engineFaults
      ∧ t.gallery g = { s.gallery g with faults := satInc 16 (s.gallery g).faults,
                                         engFaults := Tbl.set (s.gallery g).engFaults e s.now } := by
  unfold State.engineFault
  simp only [h, Bool.false_eq_true, ↓reduceIte]
  exact ⟨_, rfl, rfl, Tbl.get_set_self Gal.reset _ g _⟩

/-- A tile that is reissued is no longer in its engine's hands. -/
theorem State.reissue_gallery (s : State) (g : Nat) (j : TileJob) :
    (s.reissue g j).gallery g = { s.gallery g with jobs := (s.gallery g).jobs.filter (fun i => i.engine != j.engine),
                                                   reissued := satInc 16 (s.gallery g).reissued } :=
  Tbl.get_set_self Gal.reset _ g _

theorem exec_tileWrite_fails {s : State} {g : Fin 12} {e : Fin 17} {j : TileJob}
    (hjob : (s.gallery g).jobs.find? (fun j => j.engine == e.val) = some j) :
    exec (.tileWrite g e true) s = .next ((s.reissue g j).engineFault g e) := by
  show execTileWrite g e true s = _
  unfold execTileWrite
  simp only [hjob, ↓reduceIte]

/-! ## Faults of a gallery's shared part (R127) -/

/-- A loop over a function that leaves a reading of the state leaves it. -/
theorem State.forEach_reading {α β : Type} {f : State → α → State} (p : State → β) (hf : ∀ s a, p (f s a) = p s) (l : List α)
    (s : State) : p (s.forEach l f) = p s := by
  unfold State.forEach
  induction l generalizing s with
  | nil => rfl
  | cons a l ih => exact (ih _).trans (hf s a)

/-- Assigning a band moves the count of bands dispatched and no gallery. -/
theorem State.assignBand_gal (s : State) (h : Nat) (b : Band) : ∃ n, (s.assignBand h b).gal = { s.gal with dispatched := n } := by
  unfold State.assignBand
  dsimp only
  split
  · exact ⟨s.gal.dispatched, rfl⟩
  · exact ⟨_, rfl⟩

/-- Of a gallery, the return of those excluded moves only whether it is excluded. -/
theorem State.keepOneGallery_gallery (s : State) (g : Nat) : ∃ b, s.keepOneGallery.gallery g = { s.gallery g with excluded := b } := by
  unfold State.keepOneGallery
  split
  · rw [State.gallery, Tbl.get_mapVals _ _ _ rfl]
    dsimp only
    split
    · exact ⟨_, rfl⟩
    · exact ⟨_, rfl⟩
  · exact ⟨_, rfl⟩

theorem State.keepOneGallery_galFaults (s : State) : s.keepOneGallery.gal.galFaults = s.gal.galFaults := by
  unfold State.keepOneGallery; split <;> rfl

/-- A gallery that leaves service holds no tile, and no fault counts. -/
theorem State.leaveService_gallery (s : State) (g : Nat) :
    (∃ b, (s.leaveService g).gallery g = { s.gallery g with jobs := [], excluded := b })
      ∧ (s.leaveService g).gal.galFaults = s.gal.galFaults := by
  obtain ⟨b, hkeep⟩ := (s.modGallery g (fun x => { x with jobs := [] })).keepOneGallery_gallery g
  have hassign (t : State) (p : Nat × Band) : ((t.assignBand p.1 { p.2 with galLeft := true }).gal.gals,
      (t.assignBand p.1 { p.2 with galLeft := true }).gal.galFaults) = (t.gal.gals, t.gal.galFaults) := by
    obtain ⟨n, hn⟩ := t.assignBand_gal p.1 { p.2 with galLeft := true }
    rw [hn]
  have hloop := State.forEach_reading (fun t => (t.gal.gals, t.gal.galFaults)) hassign (s.queueOf g)
    (s.modGallery g (fun x => { x with jobs := [] })).keepOneGallery
  obtain ⟨hgals, hfaults⟩ := Prod.ext_iff.1 hloop
  unfold State.leaveService
  dsimp only
  rw [State.gallery_of_gal (State.noteMask_gal _), State.noteMask_gal]
  refine ⟨⟨b, ?_⟩, hfaults.trans (State.keepOneGallery_galFaults _)⟩
  rw [State.gallery_modGallery_self] at hkeep
  exact (congrArg (fun t => Tbl.get Gal.reset t g) hgals).trans hkeep

/-- A gallery that is retired leaves service for good. -/
theorem State.retireGallery_gallery {s : State} {g : Nat} (h : (s.gallery g).retired = false) :
    ((s.retireGallery g).gallery g).retired = true ∧ ((s.retireGallery g).gallery g).jobs = [] := by
  obtain ⟨⟨b, hleave⟩, -⟩ := (s.modGallery g (fun x => { x with retired := true })).leaveService_gallery g
  have hretire : (s.retireGallery g).gallery g = ((s.modGallery g (fun x => { x with retired := true })).leaveService g).gallery g := by
    unfold State.retireGallery
    rw [if_neg (by simp [h])]
    exact State.gallery_of_gal (Kept.gal_eq (State.healthDue_kept (State.noteConditions_kept (State.recheckDue_kept
      (State.raise_kept (State.raise_kept (.refl _))))))) g
  rw [hretire, hleave, State.gallery_modGallery_self]
  exact ⟨rfl, rfl⟩

/-- The moment of a shared-part fault is noted. -/
def State.noteShared (s : State) (g : Nat) : State := s.modGallery g (fun x => { x with lastShared := some s.now })

/-- A transient fault of a shared part: it counts, and the gallery is out of service. -/
def State.faultShared (s : State) (g : Nat) : State :=
  ((State.raise { s with gal := { s.gal with galFaults := satInc 32 s.gal.galFaults } } .galleryFault).modGallery g
    (fun x => { x with faultOut := true })).leaveService g

section
variable {s : State} {g : Fin 12} (hretired : (s.gallery g).retired = false) (hexcluded : (s.gallery g).excluded = false)
include hretired hexcluded

theorem exec_galleryFault_transient (h : ∀ l, (s.gallery g).lastShared = some l → l + 1000000000 < s.now) :
    exec (.galleryFault g) s = .next ((s.noteShared g).faultShared g) := by
  show execGalleryFault g s = _
  unfold execGalleryFault
  rcases hl : (s.gallery g).lastShared with _ | l
  · simp only [hretired, hexcluded, hl, Bool.or_self, Bool.false_eq_true, ↓reduceIte]
    rfl
  · simp only [hretired, hexcluded, hl, Bool.or_self, Bool.false_eq_true, decide_eq_true_eq, Nat.not_le.2 (h l hl), ↓reduceIte]
    rfl

theorem exec_galleryFault_recurs {l : Nat} (hl : (s.gallery g).lastShared = some l) (h : s.now ≤ l + 1000000000) :
    exec (.galleryFault g) s = .next ((s.noteShared g).retireGallery g) := by
  show execGalleryFault g s = _
  unfold execGalleryFault
  simp only [hretired, hexcluded, hl, h, Bool.or_self, Bool.false_eq_true, decide_true, ↓reduceIte]
  rfl

end

theorem State.noteShared_gallery (s : State) (g : Nat) :
    (s.noteShared g).gallery g = { s.gallery g with lastShared := some s.now } :=
  Tbl.get_set_self Gal.reset _ g _

theorem State.faultShared_gallery (s : State) (g : Nat) :
    (∃ b, (s.faultShared g).gallery g = { s.gallery g with faultOut := true, jobs := [], excluded := b })
      ∧ (s.faultShared g).gal.galFaults = satInc 32 s.gal.galFaults := by
  unfold State.faultShared
  generalize hraise : State.raise { s with gal := { s.gal with galFaults := satInc 32 s.gal.galFaults } } .galleryFault = u
  have hgal : u.gal = { s.gal with galFaults := satInc 32 s.gal.galFaults } := hraise ▸ State.raise_gal _ _
  obtain ⟨⟨b, hleave⟩, hfaults⟩ := (u.modGallery g (fun x => { x with faultOut := true })).leaveService_gallery g
  have hu : u.gallery g = s.gallery g := by unfold State.gallery; rw [hgal]
  rw [State.gallery_modGallery_self, hu] at hleave
  exact ⟨⟨b, hleave⟩, hfaults.trans (congrArg Gals.galFaults hgal)⟩

theorem exec_galleryReturn {s : State} {g : Fin 12} (h : (s.gallery g).faultOut = true) :
    exec (.galleryReturn g) s
      = .next (s.modGallery g (fun x => { x with faultOut := false, coefLoaded := s.loadedSets })).noteMask :=
  congrArg Host.Outcome.next (if_pos h)

/-- Settles O15: a tile that passes and one that fails, a transient and a recurring fault of a shared part, and a return. -/
theorem galleriesWriteAndFail : Obligations.GalleriesWriteAndFail := by
  intro s g e y
  refine ⟨fun j b hjob hband hkept => ?passes, fun j hjob hfirst => ?fails, fun hretired hexcluded hlast => ?transient,
    fun l hretired hexcluded hl hnow => ?recurs, fun hout => ?returns⟩
  case passes =>
    obtain ⟨t, n, fin, hexec, hgallery, hheads⟩ := exec_tileWrite_passes hjob hband hkept
    obtain ⟨b', hfind, hdone, hdecs⟩ := State.band?_putTile hband hheads
    have hclock := State.clocks_putTile hheads
    exact ⟨t, b', hexec, congrArg Gal.tilesDone hgallery, congrArg Gal.jobs hgallery, hfind, hdone, hdecs,
      Kept.mem_eq ((execTileWrite_kept (.refl s)).out _ hexec),
      fun i => ⟨congrArg Clock.frame (hclock i), congrArg Clock.state (hclock i)⟩⟩
  case fails =>
    have hexec := exec_tileWrite_fails hjob
    have hre := s.reissue_gallery g j
    obtain ⟨t, ht, hfaults, hgallery⟩ := State.engineFault_first (s := s.reissue g j) (g := g) (e := e) (by rw [hre]; exact hfirst)
    rw [hre] at hgallery
    have hgal : ((s.reissue g j).engineFault g e).gal = t.gal := ht ▸ State.raise_gal t _
    have hg := (State.gallery_of_gal hgal g).trans hgallery
    exact ⟨_, hexec, (congrArg Gals.engineFaults hgal).trans hfaults, congrArg Gal.faults hg,
      (congrArg Gal.retiredEng hg).trans rfl, congrArg Gal.jobs hg, Kept.mem_eq ((execTileWrite_kept (.refl s)).out _ hexec)⟩
  case transient =>
    have hexec := exec_galleryFault_transient hretired hexcluded hlast
    obtain ⟨⟨b, hg⟩, hfaults⟩ := (s.noteShared g).faultShared_gallery g
    rw [s.noteShared_gallery] at hg
    exact ⟨_, hexec, congrArg Gal.faultOut hg, (congrArg Gal.retired hg).trans hretired, congrArg Gal.jobs hg, hfaults,
      Kept.mem_eq ((execGalleryFault_kept (.refl s)).out _ hexec)⟩
  case recurs =>
    have hexec := exec_galleryFault_recurs hretired hexcluded hl hnow
    obtain ⟨hgone, hjobs⟩ := State.retireGallery_gallery (s := s.noteShared g) (g := g) (by rw [s.noteShared_gallery]; exact hretired)
    exact ⟨_, hexec, hgone, hjobs, Kept.mem_eq ((execGalleryFault_kept (.refl s)).out _ hexec)⟩
  case returns =>
    have hg (j : Nat) := State.gallery_of_gal
      (State.noteMask_gal (s.modGallery g (fun x => { x with faultOut := false, coefLoaded := s.loadedSets }))) j
    have hself := (hg g).trans (State.gallery_modGallery_self s g _)
    exact ⟨_, exec_galleryReturn hout, congrArg Gal.faultOut hself, congrArg Gal.coefLoaded hself,
      (congrArg Gal.retired hself).trans rfl, fun j hj => (hg j).trans (State.gallery_modGallery_ne s _ hj), State.noteMask_mem _⟩

end Sys2Proof.Machine
end

section
/-!
PROOFS. Scaling and colour: the dictionary's stores, begun on demand and automatically, and their read-back (R378, R380), and a
coefficient set that reaches the galleries (R137), with the response that completes its write.
-/

namespace Sys2Proof.Machine

/-! ## The two banks -/

theorem State.bank_setBank_self (s : State) (n : Nat) (b : List Byte) : (s.setBank n b).bank n = b := by
  unfold State.bank State.setBank
  by_cases h : n = 0
  · simp only [h, ↓reduceIte]
  · simp only [h, ↓reduceIte]

/-- A bank that is set changes nothing of the dictionary but the banks. -/
theorem State.setBank_dict (s : State) (n : Nat) (b : List Byte) :
    ∃ x y, (s.setBank n b).dict = { s.dict with bankA := x, bankB := y } := by
  unfold State.setBank
  split
  · exact ⟨b, s.dict.bankB, rfl⟩
  · exact ⟨s.dict.bankA, b, rfl⟩

theorem State.bank_of_banks {s t : State} (ha : t.dict.bankA = s.dict.bankA) (hb : t.dict.bankB = s.dict.bankB) (n : Nat) :
    t.bank n = s.bank n := by
  unfold State.bank; rw [ha, hb]

/-! ## A store begins (R380) -/

/-- A store that begins holds the image of the base; its bank is empty, and the base and the current bank stay. -/
theorem State.beginStore_begins (s : State) :
    s.beginStore.dict.storing = some (s.storePlace.1, bankImage s.storePlace.2 s.now s.persistent)
      ∧ s.beginStore.bank s.storePlace.1 = [] ∧ s.beginStore.dict.beganAt = some s.now ∧ s.beginStore.dict.base = s.dict.base
      ∧ s.beginStore.dict.active = s.dict.active ∧ s.beginStore.mem = s.mem := by
  have hset : (s.setBank s.storePlace.1 []).sys = s.sys := (State.setBank_kept (.refl s)).sys_eq
  have hnow : (s.setBank s.storePlace.1 []).now = s.now := by unfold State.now; rw [hset]
  obtain ⟨x, y, hdict⟩ := s.setBank_dict s.storePlace.1 []
  exact ⟨rfl, s.bank_setBank_self s.storePlace.1 [], congrArg some hnow, (congrArg Dict.base hdict).trans rfl,
    (congrArg Dict.active hdict).trans rfl, (State.beginStore_kept (.refl s)).mem_eq⟩

theorem exec_storeNow_begins {s : State} (hlop : s.lopFree = true) (hfree : s.storeFree = true) :
    exec .storeNow s = .next s.beginStore := by
  show execStoreNow s = _
  unfold execStoreNow State.askStore
  rw [if_pos hlop, if_pos hfree]

theorem exec_storeNow_waits {s : State} (hlop : s.lopFree = true) (hfree : s.storeFree = false) :
    exec .storeNow s = .next { s with dict := { s.dict with storeWaits := true } } := by
  show execStoreNow s = _
  unfold execStoreNow State.askStore
  rw [if_pos hlop, if_neg (ne_true_of_eq_false hfree)]

theorem exec_autoStore_begins {s : State} (hcore : s.coreUp 1 = true) (hfree : s.storeFree = true) (hdue : s.autoDue = true) :
    exec .autoStore s = .next s.beginStore := by
  show execAutoStore s = _
  unfold execAutoStore
  rw [if_pos (by simp [hcore, hfree, hdue])]

/-! ## The read-back of a store (R380) -/

/-- Counting a store changes nothing of the dictionary but the counts. -/
theorem State.countStore_dict (s : State) (n : Nat) :
    ∃ x y, (s.countStore n).dict = { s.dict with countA := x, countB := y } := by
  have hraise (t : State) (c : Prop) [Decidable c] : (if c then t.raise .dictBankWear else t).dict = t.dict := by
    split
    · exact t.raise_dict _
    · rfl
  unfold State.countStore
  dsimp only
  rw [hraise]
  split
  · exact ⟨_, s.dict.countB, rfl⟩
  · exact ⟨s.dict.countA, _, rfl⟩

/-- A store that is complete: its bank holds the image and is current, and the base stays. -/
theorem State.completeStore_completes (s : State) (n : Nat) (b : List Byte) :
    (s.completeStore n b).bank n = b ∧ (s.completeStore n b).dict.active = n ∧ (s.completeStore n b).dict.storing = none
      ∧ (s.completeStore n b).dict.seqN = bankSequence b ∧ (s.completeStore n b).dict.base = s.dict.base := by
  unfold State.completeStore
  extract_lets written was current
  obtain ⟨x, y, hwritten⟩ : ∃ x y, written.dict = { s.dict with bankA := x, bankB := y } := s.setBank_dict n b
  have hbase : written.dict.base = s.dict.base := (congrArg Dict.base hwritten).trans rfl
  obtain ⟨c, d, hcount⟩ := current.countStore_dict n
  have hdict : ((current.countStore n).raise .dictStoreDone).dict = { current.dict with countA := c, countB := d } :=
    (State.raise_dict _ _).trans hcount
  have hbanks : ((current.countStore n).raise .dictStoreDone).bank n = written.bank n :=
    State.bank_of_banks ((congrArg Dict.bankA hdict).trans rfl) ((congrArg Dict.bankB hdict).trans rfl) n
  exact ⟨hbanks.trans (s.bank_setBank_self n b), congrArg Dict.active hdict, congrArg Dict.storing hdict, congrArg Dict.seqN hdict,
    (congrArg Dict.base hdict).trans hbase⟩

section
variable {s : State} {n : Nat} {b : List Byte} (hstoring : s.dict.storing = some (n, b)) (hcore : s.coreUp 1 = true)
include hstoring hcore

theorem exec_storeDone_agrees : exec (.storeDone true) s = .next (s.completeStore n b) := by
  show execStoreDone true s = _
  simp only [execStoreDone, hstoring, hcore, Bool.not_true, Bool.false_eq_true, ↓reduceIte]

theorem exec_storeDone_repeats (hretry : s.dict.storeRetry = false) :
    exec (.storeDone false) s = .next { s with dict := { s.dict with storeRetry := true } } := by
  show execStoreDone false s = _
  simp only [execStoreDone, hstoring, hcore, hretry, Bool.not_true, Bool.false_eq_true, ↓reduceIte]

theorem exec_storeDone_fails (hretry : s.dict.storeRetry = true) : exec (.storeDone false) s = .next s.failStore := by
  show execStoreDone false s = _
  simp only [execStoreDone, hstoring, hcore, hretry, Bool.not_true, Bool.false_eq_true, ↓reduceIte]

end

theorem State.failStore_dict (s : State) : s.failStore.dict = { s.dict with storing := none, storeRetry := false } :=
  State.raise_dict _ _

/-! ## The response to a request (R362, R363) -/

theorem State.windowAnswer_lastResp (s : State) (r : List Byte) (st : Status) :
    (s.windowAnswer r st).lop.lastResp = s.lop.lastResp := by
  unfold State.windowAnswer
  split
  · rfl
  · exact (congrArg Lop.lastResp (State.raise_lop _ _)).trans rfl

/-- Whatever its way out, a response is the latest one. -/
theorem State.answerVia_lastResp (s : State) (c : LopCtx) (r : List Byte) : (s.answerVia c r).lop.lastResp = r := by
  unfold State.answerVia
  dsimp only
  split
  case h_1 => exact State.windowAnswer_lastResp _ r .ok
  case h_2 => exact congrArg Lop.lastResp (State.exchangeAnswer_kept (.refl _)).lop_eq
  case h_3 => rfl
  case h_4 => exact congrArg Lop.lastResp (State.sendLop_kept (.refl _)).lop_eq

theorem State.reply_answered (s : State) (c : LopCtx) (code abort : Nat) (p : List Byte) :
    (s.reply c code abort p).answered c code abort p :=
  State.answerVia_lastResp _ c _

/-! ## A coefficient set reaches the galleries (R137) -/

/-- What a change makes true of any gallery holds, after the change to each of several, of each of these. -/
theorem State.forEach_modGallery {P : Gal → Prop} {f : Gal → Gal} (hf : ∀ x, P (f x)) {g : Nat} {l : List Nat} {s : State}
    (h : g ∈ l ∨ P (s.gallery g)) : P ((s.forEach l (fun s g => s.modGallery g f)).gallery g) := by
  unfold State.forEach
  induction l generalizing s with
  | nil => exact h.resolve_left List.not_mem_nil
  | cons a l ih =>
    refine ih ?_
    by_cases hg : g = a
    · subst hg
      exact .inr (s.gallery_modGallery_self g f ▸ hf _)
    · rw [s.gallery_modGallery_ne f hg]
      exact h.imp_left (fun hmem => (List.mem_cons.1 hmem).resolve_left hg)

/-- Every gallery in service shows the coefficient sets that the dictionary holds. -/
def State.loadGalleries (s : State) : State :=
  s.forEach s.galsInService (fun t g => t.modGallery g (fun x => { x with coefLoaded := s.loadedSets }))

theorem State.loadGalleries_coefLoaded (s : State) {g : Nat} (h : g ∈ s.galsInService) :
    (s.loadGalleries.gallery g).coefLoaded = s.loadedSets :=
  State.forEach_modGallery (P := fun x => x.coefLoaded = s.loadedSets) (fun _ => rfl) (.inl h)

theorem exec_coefficientSetLoaded {s : State} {k : Nat} {r : Reply} {rest : List (Nat × Reply)}
    (hpending : s.gal.coefPending = (k, r) :: rest) (hcore : s.coreUp 1 = true) :
    exec .coefficientSetLoaded s
      = .next (State.complete { s.loadGalleries with gal := { s.loadGalleries.gal with coefPending := rest } } r abOk) := by
  show execCoefficientSetLoaded s = _
  simp only [execCoefficientSetLoaded, hpending, hcore, Bool.not_true, Bool.false_eq_true, ↓reduceIte]
  rfl

/-! ## The obligation -/

/-- Settles O41, command by command: a store begun and one that waits, an automatic one, the three outcomes of a read-back, and a
coefficient set. -/
theorem storesAndSets : Obligations.StoresAndSets := by
  intro s begun
  refine ⟨fun hlop hfree => ⟨_, exec_storeNow_begins hlop hfree, s.beginStore_begins⟩,
    fun hlop hfree => ⟨_, exec_storeNow_waits hlop hfree, rfl⟩,
    fun hcore hfree hdue => ⟨_, exec_autoStore_begins hcore hfree hdue, s.beginStore_begins⟩,
    fun n b hstoring hcore => ⟨?agrees, fun hretry => ⟨_, exec_storeDone_repeats hstoring hcore hretry, rfl, rfl⟩, fun hretry => ?fails⟩,
    fun k r rest hpending hcore => ?set⟩
  case agrees =>
    obtain ⟨hbank, hactive, hnone, hseq, hbase⟩ := s.completeStore_completes n b
    exact ⟨_, exec_storeDone_agrees hstoring hcore, hbank, hactive, hnone, hseq, hbase, (State.completeStore_kept (.refl s)).mem_eq⟩
  case fails =>
    have hdict := s.failStore_dict
    exact ⟨_, exec_storeDone_fails hstoring hcore hretry, congrArg Dict.storing hdict, (congrArg Dict.active hdict).trans rfl,
      (congrArg Dict.base hdict).trans rfl, (State.failStore_kept (.refl s)).mem_eq⟩
  case set =>
    have hexec := exec_coefficientSetLoaded hpending hcore
    have hgal := (State.complete_kept (a1 := r) (a2 := abOk)
      (.refl { s.loadGalleries with gal := { s.loadGalleries.gal with coefPending := rest } })).gal_eq
    refine ⟨_, hexec, congrArg Gals.coefPending hgal, State.reply_answered _ _ _ _ _, fun g hg => ?_,
      Kept.dict_eq ((execCoefficientSetLoaded_kept (.refl s)).out _ hexec)⟩
    exact (congrArg Gal.coefLoaded (State.gallery_of_gal hgal g)).trans (s.loadGalleries_coefLoaded hg)

end Sys2Proof.Machine
end

section
/-!
PROOFS. Scan heads and their outputs: the plug and the loss of a sink (R165 to R167), SYNC_IN (R157, R158), line 0 (R155, R168, R173 to
R176), HeadResume (R176), the signature log (R196, R200 to R202), and the end of a captured frame (R179 to R182).
-/

namespace Sys2Proof.Machine

/-! ## One link changes -/

/-- `t` holds `l` as the link of head `h`, and every other link and every head as `s` does. -/
def State.setsLink (s t : State) (h : Nat) (l : DpLink) : Prop :=
  t.link h = l ∧ (∀ j, j ≠ h → t.link j = s.link j) ∧ ∀ j, t.head j = s.head j

theorem State.setLink_setsLink (s : State) (h : Nat) (l : DpLink) : s.setsLink (s.setLink h l) h l :=
  ⟨s.link_setLink_self h l, fun _ hj => s.link_setLink_ne l hj, fun _ => rfl⟩

theorem State.setsLink_trans {s t u : State} {h : Nat} {x y : DpLink} (k : s.setsLink t h x) (l : t.setsLink u h y) :
    s.setsLink u h y := by
  obtain ⟨-, hlink, hhead⟩ := k
  obtain ⟨hself, hlink', hhead'⟩ := l
  exact ⟨hself, fun j hj => (hlink' j hj).trans (hlink j hj), fun j => (hhead' j).trans (hhead j)⟩

theorem State.setsLink_congr {s t u : State} {h : Nat} {l : DpLink} (k : s.setsLink t h l) (e : u.heads = t.heads) :
    s.setsLink u h l := by
  obtain ⟨hself, hlink, hhead⟩ := k
  exact ⟨(State.link_of_heads e h).trans hself, fun j hj => (State.link_of_heads e j).trans (hlink j hj),
    fun j => (State.head_of_heads e j).trans (hhead j)⟩

/-! ## Attempts and failures of a link (R165, R166) -/

theorem State.linkLevel_dict (s : State) (h : Nat) : (s.linkLevel h).dict = s.dict := State.levelHead_dict _ _ _ _

theorem State.wantsLink_of_head {s t : State} {h : Nat} (hhead : t.head h = s.head h) (hdict : t.dict = s.dict) :
    t.wantsLink h = s.wantsLink h := by
  unfold State.wantsLink
  rw [hhead, State.bondedOdd_of_dict hdict]

/-- A link that begins an attempt; without a configuration that fits its sink it is INSUFFICIENT. -/
def DpLink.attempting (l : DpLink) (configs : List Trained) (now : Nat) : DpLink :=
  { l with state := if configs.isEmpty then .insufficient else .training, attemptAt := now, retryAt := none, carrying := false,
           lanes := 0, auxOn := true, sinkD3 := false }

theorem State.beginTraining_setsLink {s : State} {h : Nat} {c : SinkCaps} (hsink : (s.link h).sink = some c) :
    s.setsLink (s.beginTraining h) h ((s.link h).attempting (s.linkConfigs h c) s.now) := by
  unfold State.beginTraining
  simp only [hsink]
  exact State.setsLink_congr (s.setLink_setsLink h _) (State.linkLevel_heads _ h)

/-- A failure or loss counts on its head. -/
def State.noteLoss (s : State) (h : Nat) : State := s.modHead h (fun x => { x with lossRc := satInc 16 x.lossRc })

/-- A loss counts, and the link is retired or tries again at once. -/
theorem State.linkFailure_setsLink {s : State} {h : Nat} (hsink : (s.link h).sink.isSome = true) :
    ∃ l, (s.noteLoss h).setsLink (s.linkFailure h false) h l ∧ l.events = satInc 32 (s.link h).events ∧ l.carrying = false
      ∧ l.state ≠ .up := by
  obtain ⟨c, hc⟩ := Option.isSome_iff_exists.1 hsink
  unfold State.linkFailure
  extract_lets l0 times u l1
  have hset (l : DpLink) : (s.noteLoss h).setsLink (u.setLink h l) h l := State.setLink_setsLink _ h l
  split
  case isTrue => exact ⟨_, State.setsLink_congr (hset _) (State.raiseHead_heads _ _ _), rfl, rfl, nofun⟩
  case isFalse =>
    rw [if_neg Bool.false_ne_true]
    have hself := State.link_setLink_self u h l1
    have htry := State.beginTraining_setsLink (h := h) ((congrArg DpLink.sink hself).trans hc)
    rw [hself] at htry
    refine ⟨_, State.setsLink_trans (hset l1) htry, rfl, rfl, ?_⟩
    unfold DpLink.attempting
    dsimp only
    split <;> nofun

/-! ## The sink goes away, appears, and asks (R167) -/

/-- The link of a sink that went away. -/
def DpLink.unplugged (l : DpLink) : DpLink :=
  { l with state := .noSink, carrying := false, lanes := 0, retryAt := none, irqWaits := none, auxOn := false, sink := none }

/-- The link of a sink that appeared; D3 is set where its head is IDLE. -/
def DpLink.plugged (l : DpLink) (caps : SinkCaps) (idle : Bool) : DpLink :=
  { l with state := .down, sink := some caps, failTimes := [], retryAt := none, auxOn := true, sinkD3 := idle }

theorem exec_hpdUnplug {s : State} {h : Fin 16} (hread : s.hpdRead h = true) (hsink : (s.link h).state ≠ .noSink) :
    exec (.hpdUnplug h) s = .next (((s.modLink h DpLink.unplugged).linkLevel h).raiseHead h .sinkDetached) :=
  congrArg Host.Outcome.next (if_neg (by simp [hread, hsink]))

/-- The state in which a sink that appeared has been read. -/
def State.readSink (s : State) (h : Nat) (caps : SinkCaps) : State :=
  ((s.modLink h (fun l => l.plugged caps ((s.head h).state == .idle))).linkLevel h).raiseHead h .sinkAttached

theorem exec_hpdPlug {s : State} {h : Fin 16} (caps : SinkCaps) (hread : s.hpdRead h = true) (hsink : (s.link h).sink = none) :
    exec (.hpdPlug h caps) s = .next (if (s.readSink h caps).wantsLink h then (s.readSink h caps).beginTraining h
      else s.readSink h caps) :=
  congrArg Host.Outcome.next (if_neg (by simp [hread, hsink]))

theorem State.readSink_setsLink (s : State) (h : Nat) (caps : SinkCaps) :
    s.setsLink (s.readSink h caps) h ((s.link h).plugged caps ((s.head h).state == .idle)) :=
  State.setsLink_congr (s.setLink_setsLink h _) ((State.raiseHead_heads _ _ _).trans (State.linkLevel_heads _ h))

theorem State.readSink_dict (s : State) (h : Nat) (caps : SinkCaps) : (s.readSink h caps).dict = s.dict :=
  (State.raiseHead_dict _ _ _).trans (State.linkLevel_dict _ h)

section
variable {s : State} {h : Fin 16} (hread : s.hpdRead h = true) (haux : (s.link h).auxOn = true)
  (hsink : (s.link h).sink.isSome = true)
include hread haux hsink

theorem exec_irqHpd_waits (lost : Bool) (htrain : (s.link h).state = .training) : exec (.irqHpd h lost) s
    = .next (s.modLink h (fun l => { l with irqWaits := some (lost || l.irqWaits.getD false) })) :=
  congrArg Host.Outcome.next ((if_neg (by simp [hread, haux, Option.isSome_iff_ne_none.1 hsink])).trans (if_pos htrain))

theorem exec_irqHpd_handled (lost : Bool) (htrain : (s.link h).state ≠ .training) :
    exec (.irqHpd h lost) s = .next (s.handleIrq h lost) :=
  congrArg Host.Outcome.next ((if_neg (by simp [hread, haux, Option.isSome_iff_ne_none.1 hsink])).trans (if_neg htrain))

end

theorem State.handleIrq_of_not_lost {s : State} {h : Nat} {lost : Bool} (hkept : lost = false ∨ (s.link h).state ≠ .up) :
    s.handleIrq h lost = s.raiseHead h .sinkIrq := by
  refine if_neg ?_
  rw [State.link_of_heads (State.raiseHead_heads s h .sinkIrq)]
  rcases hkept with hlost | hup
  · simp [hlost]
  · simp [hup]

theorem State.handleIrq_lost {s : State} {h : Nat} (hup : (s.link h).state = .up) :
    s.handleIrq h true = ((s.raiseHead h .sinkIrq).raiseHead h .linkDown).linkFailure h false := by
  refine if_pos ?_
  rw [State.link_of_heads (State.raiseHead_heads s h .sinkIrq), hup]
  rfl

/-- Settles O11: a sink goes away, one appears, and an IRQ_HPD waits, changes nothing, or finds the link lost. -/
theorem sinkPlugging : Obligations.SinkPlugging := by
  intro s h caps lost hread
  refine ⟨fun hstate => ?unplug, fun hsink => ?plug,
    fun haux hsink => ⟨fun htrain => ?waits, fun htrain hkeeps => ?keeps, fun hup hlost => ?lost⟩⟩
  case unplug =>
    have hexec := exec_hpdUnplug hread hstate
    obtain ⟨hself, hlink, hhead⟩ := State.setsLink_congr (s.setLink_setsLink h (s.link h).unplugged)
      ((State.raiseHead_heads ((s.modLink h DpLink.unplugged).linkLevel h) h .sinkDetached).trans (State.linkLevel_heads _ h))
    exact ⟨_, hexec, hself ▸ rfl, hself ▸ rfl, hself ▸ rfl, hself ▸ rfl, hself ▸ rfl, hself ▸ rfl, hlink, hhead,
      Kept.mem_eq ((execHpdUnplug_kept (.refl s)).out _ hexec)⟩
  case plug =>
    have hexec := exec_hpdPlug caps hread hsink
    obtain ⟨hself, hlink, hhead⟩ := s.readSink_setsLink h caps
    have hmem := Kept.mem_eq ((execHpdPlug_kept (.refl s)).out _ hexec)
    rw [State.wantsLink_of_head (hhead h) (s.readSink_dict h caps)] at hexec hmem
    refine ⟨_, hexec, ?_⟩
    cases hwant : s.wantsLink h with
    | false =>
      rw [hwant] at hmem
      exact ⟨hself ▸ rfl, hself ▸ rfl, hself ▸ rfl, hself ▸ rfl, hlink, hhead, hmem⟩
    | true =>
      rw [hwant] at hmem
      obtain ⟨hself', hlink', hhead'⟩ := State.setsLink_trans (s.readSink_setsLink h caps)
        (State.beginTraining_setsLink (congrArg DpLink.sink hself))
      rw [hself, State.linkConfigs_of_dict (s.readSink_dict h caps)] at hself'
      exact ⟨hself' ▸ rfl, hself' ▸ rfl, hself' ▸ rfl, hself' ▸ rfl, hlink', hhead', hmem⟩
  case waits =>
    have hexec := exec_irqHpd_waits hread haux hsink lost htrain
    obtain ⟨hself, hlink, hhead⟩ := s.setLink_setsLink h
      { s.link h with irqWaits := some (lost || (s.link h).irqWaits.getD false) }
    exact ⟨_, hexec, hself, hlink, hhead, rfl⟩
  case keeps =>
    have hraise := State.handleIrq_of_not_lost hkeeps
    exact ⟨_, exec_irqHpd_handled hread haux hsink lost htrain, hraise, hraise ▸ State.raiseHead_heads s h .sinkIrq,
      hraise ▸ State.raiseHead_mem s h .sinkIrq⟩
  case lost =>
    subst hlost
    have hexec := exec_irqHpd_handled hread haux hsink true (by simp [hup])
    have hmem := Kept.mem_eq ((execIrqHpd_kept (.refl s)).out _ hexec)
    rw [State.handleIrq_lost hup] at hexec hmem
    generalize hu : (s.raiseHead h .sinkIrq).raiseHead h .linkDown = u at hexec hmem
    have hheads : u.heads = s.heads := hu ▸ (State.raiseHead_heads _ _ _).trans (State.raiseHead_heads _ _ _)
    have hlinkU := State.link_of_heads hheads
    obtain ⟨l, ⟨rfl, hlink, hhead⟩, hevents, hcarrying, hstate⟩ :=
      State.linkFailure_setsLink (s := u) (h := h) (by rw [hlinkU]; exact hsink)
    obtain ⟨hcount, hother⟩ := State.setsHead_trans (State.setsHead_of_heads hheads h)
      (u.modHead_setsHead h (fun x => { x with lossRc := satInc 16 x.lossRc }))
    rw [State.head_of_heads hheads] at hcount
    refine ⟨_, hexec, ?_, hcarrying, ?_, hstate, fun j hj => (hlink j hj).trans (hlinkU j), fun j hj => (hhead j).trans (hother j hj),
      hmem⟩
    · rw [hevents, hlinkU]
    · exact (congrArg Head.lossRc ((hhead h).trans hcount)).trans rfl

/-! ## Each head in its turn -/

/-- What a head's part of a SYNC_IN event turns on: the head, the mode and the wall time, the configuration, and the latest edge. -/
def State.agreesAt (s t : State) (h : Nat) : Prop :=
  t.head h = s.head h ∧ t.sys = s.sys ∧ t.dict = s.dict ∧ t.heads.syncLast = s.heads.syncLast

theorem State.agreesAt_refl (s : State) (h : Nat) : s.agreesAt s h := ⟨rfl, rfl, rfl, rfl⟩

theorem State.agreesAt_trans {s t u : State} {h : Nat} (k : s.agreesAt t h) (l : t.agreesAt u h) : s.agreesAt u h := by
  obtain ⟨hhead, hsys, hdict, hlast⟩ := k
  obtain ⟨hhead', hsys', hdict', hlast'⟩ := l
  exact ⟨hhead'.trans hhead, hsys'.trans hsys, hdict'.trans hdict, hlast'.trans hlast⟩

theorem State.agreesAt_of_setHead {s t : State} {j h : Nat} {y : Head} (hj : j ≠ h) (hheads : t.heads = (s.setHead j y).heads)
    (hsys : t.sys = s.sys) (hdict : t.dict = s.dict) : s.agreesAt t h :=
  ⟨(State.head_of_heads hheads h).trans (s.head_setHead_ne y hj.symm), hsys, hdict, (congrArg Heads.syncLast hheads).trans rfl⟩

section
variable {f : State → Nat → State} {h : Nat} (hne : ∀ t j, j ≠ h → State.agreesAt t (f t j) h)
include hne

theorem State.forEach_agreesAt {l : List Nat} (s : State) (hh : h ∉ l) : s.agreesAt (s.forEach l f) h := by
  unfold State.forEach
  induction l generalizing s with
  | nil => exact s.agreesAt_refl h
  | cons j l ih =>
    exact State.agreesAt_trans (hne s j (List.ne_of_not_mem_cons hh).symm) (ih _ (List.not_mem_of_not_mem_cons hh))

/-- A head is, after the parts of all heads, what its own part makes of it. -/
theorem State.forEach_headwise {s : State} {P : Head → Prop} {l : List Nat} (hl : l.Nodup) (hh : h ∈ l)
    (hself : ∀ t, s.agreesAt t h → P ((f t h).head h)) : P ((s.forEach l f).head h) := by
  suffices ∀ t, s.agreesAt t h → P ((t.forEach l f).head h) from this s (s.agreesAt_refl h)
  induction l with
  | nil => cases hh
  | cons j l ih =>
    intro t ht
    obtain ⟨hj, hl⟩ := List.nodup_cons.1 hl
    by_cases e : h = j
    · subst e
      obtain ⟨hhead, -⟩ := State.forEach_agreesAt hne (f t h) hj
      exact hhead.symm ▸ hself t ht
    · exact ih hl ((List.mem_cons.1 hh).resolve_left e) _ (State.agreesAt_trans ht (hne t j (Ne.symm e)))

end

/-! ## SYNC_IN (R157, R158) -/

/-- A head in HOLDOVER. -/
def Head.held (x : Head) : Head := { x with lock := .holdover, goodFrames := 0, syncEdges := 0 }

theorem State.enterHoldover_heads (s : State) (h : Nat) : (s.enterHoldover h).heads = (s.setHead h (s.head h).held).heads := by
  unfold State.enterHoldover
  dsimp only
  split
  · rfl
  · exact (State.raiseHead_heads _ _ _).trans (State.levelHead_heads _ _ _ _)

theorem State.enterHoldover_agreesAt (s : State) {j h : Nat} (hj : j ≠ h) : s.agreesAt (s.enterHoldover j) h :=
  State.agreesAt_of_setHead hj (s.enterHoldover_heads j) (State.enterHoldover_kept (.refl s)).sys_eq
    (State.enterHoldover_kept (.refl s)).dict_eq

theorem State.syncEdge_of_off {s : State} {h : Nat} (last : Option Nat) (hoff : (s.head h).onSyncIn = false) : s.syncEdge last h = s :=
  if_pos (by simp [hoff])

/-- A head's target moment at a SYNC_IN edge. -/
def State.edgeTarget (s : State) (h : Nat) : Nat := ((s.now : Int) + s.syncInOffset h).toNat

/-- The part of a head that locks to SYNC_IN: an edge that is not valid puts it into HOLDOVER, a valid one gives its target moment. -/
theorem State.syncEdge_heads {s : State} {h : Nat} (last : Option Nat) (hon : (s.head h).onSyncIn = true) :
    (last.isSome = true ∧ (s.syncEdge last h).heads = (s.setHead h (s.head h).held).heads)
      ∨ ∃ n l g, (s.syncEdge last h).heads
          = (s.setHead h { s.head h with syncTarget := some (s.edgeTarget h), syncEdges := n, lock := l, goodFrames := g }).heads := by
  unfold State.syncEdge
  extract_lets x t nominal ok target n back u
  rw [if_neg (by simp [x, hon])]
  split
  case isTrue hbad =>
    refine .inl ⟨?_, s.enterHoldover_heads h⟩
    cases last with
    | none => cases hbad
    | some e => rfl
  case isFalse =>
    have hset : (if back then u.levelHead h .genlockLost false else u).heads = u.heads := by
      split
      · exact State.levelHead_heads _ _ _ _
      · rfl
    exact .inr ⟨n, _, _, hset⟩

theorem State.syncEdge_agreesAt (last : Option Nat) (s : State) (j : Nat) {h : Nat} (hj : j ≠ h) : s.agreesAt (s.syncEdge last j) h := by
  have hsys := (State.syncEdge_kept (a1 := last) (a2 := j) (.refl s)).sys_eq
  have hdict := (State.syncEdge_kept (a1 := last) (a2 := j) (.refl s)).dict_eq
  cases hon : (s.head j).onSyncIn with
  | false => rw [State.syncEdge_of_off last hon]; exact s.agreesAt_refl h
  | true =>
    rcases State.syncEdge_heads last hon with ⟨-, hheads⟩ | ⟨_, _, _, hheads⟩
    · exact State.agreesAt_of_setHead hj hheads hsys hdict
    · exact State.agreesAt_of_setHead hj hheads hsys hdict

theorem State.edgeTarget_of_agreesAt {s t : State} {h : Nat} (k : s.agreesAt t h) : t.edgeTarget h = s.edgeTarget h := by
  obtain ⟨-, hsys, hdict, -⟩ := k
  unfold State.edgeTarget State.syncInOffset State.now
  rw [hsys, State.timeHead_of_dict hdict, State.hcfg_of_dict hdict]

/-- The first edge gives a head that locks to SYNC_IN its target moment. -/
theorem State.syncEdge_first {s t : State} {h : Nat} (k : s.agreesAt t h) (hon : (s.head h).onSyncIn = true) :
    ((t.syncEdge none h).head h).syncTarget = some (s.edgeTarget h) ∧ ((t.syncEdge none h).head h).frame = (s.head h).frame
      ∧ ((t.syncEdge none h).head h).state = (s.head h).state := by
  have htarget := State.edgeTarget_of_agreesAt k
  obtain ⟨hhead, -⟩ := k
  rcases State.syncEdge_heads none (hhead ▸ hon) with ⟨hnone, -⟩ | ⟨_, _, _, hheads⟩
  · cases hnone
  · rw [State.head_of_heads hheads, State.head_setHead_self, htarget, hhead]
    exact ⟨rfl, rfl, rfl⟩

/-- The parts of all heads in a SYNC_IN edge. -/
def State.syncEdges (s : State) : State := s.forEach (List.range 16) (fun t h => t.syncEdge s.heads.syncLast h)

/-- The moment of a SYNC_IN edge is noted. -/
def State.noteEdge (s : State) : State := { s with heads := { s.heads with syncLast := some s.now } }

theorem exec_syncInEdge (s : State) : exec .syncInEdge s = .next s.syncEdges.noteEdge := by
  show execSyncInEdge s = _
  unfold execSyncInEdge State.syncEdges State.noteEdge
  rfl

theorem State.noteEdge_head (s : State) (h : Nat) : s.noteEdge.head h = s.head h := rfl

theorem State.syncEdges_headwise {s : State} {h : Fin 16} {P : Head → Prop}
    (hself : ∀ t : State, s.agreesAt t h → P ((t.syncEdge s.heads.syncLast h).head h)) : P (s.syncEdges.head h) :=
  State.forEach_headwise (fun t j hj => State.syncEdge_agreesAt _ t j hj) List.nodup_range (List.mem_range.2 h.isLt) hself

theorem State.syncEdges_now (s : State) : s.syncEdges.now = s.now :=
  congrArg Sys.wall (Kept.sys_eq (State.forEach_kept (.refl s) (fun _ _ => State.syncEdge_kept)))

/-- A head's part of SYNC_IN_LOST. -/
def State.loseSync (s : State) (h : Nat) : State :=
  if (s.head h).onSyncIn && decide (2 * (s.head h).timing.den * 1000000000
    ≤ (s.now - s.heads.syncLast.getD (s.head h).startAt) * (s.head h).timing.num) then s.enterHoldover h else s

theorem exec_syncInLost (s : State) : exec .syncInLost s = .next (s.forEach (List.range 16) State.loseSync) := rfl

theorem State.loseSync_agreesAt (s : State) (j : Nat) {h : Nat} (hj : j ≠ h) : s.agreesAt (s.loseSync j) h := by
  unfold State.loseSync
  split
  · exact s.enterHoldover_agreesAt hj
  · exact s.agreesAt_refl h

theorem State.forEach_loseSync {s : State} {h : Fin 16} {P : Head → Prop} (hself : ∀ t, s.agreesAt t h → P ((t.loseSync h).head h)) :
    P ((s.forEach (List.range 16) State.loseSync).head h) :=
  State.forEach_headwise (fun t j hj => t.loseSync_agreesAt j hj) List.nodup_range (List.mem_range.2 h.isLt) hself

theorem State.loseSync_of_off {s : State} {h : Nat} (hoff : (s.head h).onSyncIn = false) : s.loseSync h = s :=
  if_neg (by simp [hoff])

/-- A head that locks to SYNC_IN and has had no edge for two frame periods goes into HOLDOVER. -/
theorem State.loseSync_due {s t : State} {h : Nat} (k : s.agreesAt t h) (hon : (s.head h).onSyncIn = true)
    (hdue : 2 * (s.head h).timing.den * 1000000000
      ≤ (s.now - s.heads.syncLast.getD (s.head h).startAt) * (s.head h).timing.num) :
    (t.loseSync h).head h = (s.head h).held := by
  obtain ⟨hhead, hsys, -, hlast⟩ := k
  have hnow : t.now = s.now := congrArg Sys.wall hsys
  unfold State.loseSync
  rw [hhead, hnow, hlast, if_pos (by simp [hon, hdue]), State.head_of_heads (t.enterHoldover_heads h), State.head_setHead_self, hhead]

/-! ## Line 0 (R155, R168, R173 to R176) -/

/-- A head whose frame begins in a state, at a moment. -/
def Head.begun (x : Head) (st : HState) (now : Nat) : Head :=
  { x with state := st, next := none, starting := false, wantSafe := false, wantHalt := false, resume := false, frame := x.nextFrame,
           counted := true, f := now, latched := false, nextDrain := 0, missInFrame := false,
           nextBand := if x.latched then x.nextBand else 0, bands := x.bands.filter (fun b => b.frame == x.nextFrame) }

/-- A frame that begins changes its head's clock to that of the new frame, and no other head's. -/
theorem State.lineZero_clock (s : State) (h : Nat) (c : Calls) (sink : SinkCrc) :
    ((s.lineZero h c sink).head h).clock = ((s.head h).begun (s.stateAt h c) s.now).clock
      ∧ ∀ j, j ≠ h → ((s.lineZero h c sink).head j).clock = (s.head j).clock := by
  unfold State.lineZero
  extract_lets x old was new n f sent y begun steered composed signed held cleared levels shown judged linked source synced
  have hsent : s.clocks sent := State.clocks_trans (s.clocks_wbAtLineZero h) (State.clocks_compareSink _ h _ sink)
  have hcomposed : begun.clocks composed := State.clocks_trans (begun.clocks_steer h f)
    (State.clocks_ite (State.clocks_refl _) (State.clocks_recompose _ _ _ _ _))
  have hcleared : composed.clocks cleared := State.clocks_trans (State.clocks_of_heads (State.mapRegions_kept (.refl _)).heads_eq)
    (State.clocks_ite (State.clocks_of_heads (State.clearRefs_kept (.refl _)).heads_eq) (State.clocks_refl _))
  have hlevels : cleared.clocks levels := State.clocks_trans (State.clocks_levelHead _ _ _ _) (State.clocks_levelHead _ _ _ _)
  have hjudged : levels.clocks judged := State.clocks_trans (levels.clocks_showFrame h)
    (State.clocks_ite (State.clocks_judgeMisfit _ _ _) (State.clocks_refl _))
  have hsynced : judged.clocks synced := State.clocks_trans (judged.clocks_linkLineZero h old)
    (State.clocks_ite (State.clocks_of_list rfl) (State.clocks_refl _))
  have hends : begun.clocks (synced.forEach [0, 1, 2, 3] (fun s w => s.wbLineZero w h)) :=
    State.clocks_trans (State.clocks_trans hcomposed (State.clocks_trans hcleared hlevels))
      (State.clocks_trans (State.clocks_trans hjudged hsynced)
        (State.clocks_forEach _ (fun s w => s.clocks_wbLineZero w h) _ _))
  refine ⟨(hends h).trans ?_, fun j hj => (hends j).trans ((congrArg Head.clock (sent.head_setHead_ne _ hj)).trans (hsent j))⟩
  have hsame := hsent h
  rw [State.head_setHead_self]
  simp only [Head.clock, Clock.mk.injEq, Prod.mk.injEq] at hsame
  simp [Head.clock, Head.begun, hsame, y, x, n, f, new]

theorem exec_frameStart_runs {s : State} {h : Fin 16} (sink : SinkCrc) (hruns : (s.head h).runs = true)
    (hbond : (s.head h).timing.bond = false) (hnext : (s.head h).next ≠ some .off) (hrestart : (s.head h).restart = false) :
    exec (.frameStart h sink) s = .next (s.lineZero h (s.head h).calls sink) := by
  refine congrArg Host.Outcome.next ((if_pos (by simp [hbond])).trans ?_)
  unfold State.frameStart
  simp [hruns, hnext, hrestart]

theorem exec_frameStart_off {s : State} {h : Fin 16} (sink : SinkCrc) (hruns : (s.head h).runs = false)
    (hbond : (s.head h).timing.bond = false) : exec (.frameStart h sink) s = .next s :=
  congrArg Host.Outcome.next ((if_pos (by simp [hbond])).trans (if_pos (by simp [hruns])))

/-- Settles O13: an edge of SYNC_IN and the lack of one, head by head; a line 0; and HeadResume. -/
theorem headsFollowTheirClocks : Obligations.HeadsFollowTheirClocks := by
  refine ⟨fun s h => ⟨?edge, ?lost⟩, fun s h sink => ⟨fun hruns hbond hnext hrestart => ?begins,
    fun hruns hbond => ⟨s, exec_frameStart_off sink hruns hbond, rfl⟩, ?resume⟩⟩
  case edge =>
    have hexec := exec_syncInEdge s
    refine ⟨_, hexec, congrArg some s.syncEdges_now, Kept.mem_eq ((execSyncInEdge_kept (.refl s)).out _ hexec), ?_⟩
    rw [State.noteEdge_head]
    refine ⟨fun hoff => State.syncEdges_headwise (P := fun y => y = s.head h) fun t ht => ?_, fun hon hfirst => ?_⟩
    · obtain ⟨hhead, -⟩ := ht
      rw [State.syncEdge_of_off _ (hhead.symm ▸ hoff), hhead]
    · refine State.syncEdges_headwise (P := fun y => y.syncTarget = some (s.edgeTarget h) ∧ y.frame = (s.head h).frame
        ∧ y.state = (s.head h).state) fun t ht => ?_
      rw [hfirst]
      exact State.syncEdge_first ht hon
  case lost =>
    have hexec := exec_syncInLost s
    refine ⟨_, hexec, Kept.mem_eq ((execSyncInLost_kept (.refl s)).out _ hexec),
      fun hoff => State.forEach_loseSync (P := fun y => y = s.head h) fun t ht => ?_, fun hon hdue => ?_⟩
    · obtain ⟨hhead, -⟩ := ht
      rw [State.loseSync_of_off (hhead.symm ▸ hoff), hhead]
    · have hheld := State.forEach_loseSync (s := s) (h := h) (P := fun y => y = (s.head h).held)
        fun t ht => State.loseSync_due ht hon hdue
      rw [hheld]
      exact ⟨rfl, rfl, rfl⟩
  case begins =>
    obtain ⟨hself, hother⟩ := s.lineZero_clock h (s.head h).calls sink
    have hexec := exec_frameStart_runs sink hruns hbond hnext hrestart
    generalize s.lineZero h (s.head h).calls sink = t at hexec hself hother
    exact ⟨t, hexec, congrArg Clock.state hself, congrArg Clock.frame hself,
      congrArg Clock.counted hself, congrArg Clock.f hself, congrArg Clock.starting hself, congrArg Clock.latched hself,
      congrArg Clock.nextDrain hself, congrArg Clock.cur hself, congrArg Clock.pend hself,
      fun j hj => ⟨congrArg Clock.frame (hother j hj), congrArg Clock.state (hother j hj), congrArg Clock.cur (hother j hj),
        congrArg Clock.pend (hother j hj)⟩⟩
  case resume =>
    obtain ⟨hself, hother⟩ := s.callHead_clock h (fun x => { x with resume := x.runs })
    have hexec : exec (.headResume h) s = .next (s.callHead h (fun x => { x with resume := x.runs })) := rfl
    generalize s.callHead h (fun x => { x with resume := x.runs }) = t at hexec hself hother
    exact ⟨t, hexec, congrArg (fun k => k.calls.2.2.1) hself, congrArg Clock.state hself, congrArg Clock.frame hself,
      fun j hj => ⟨congrArg Clock.frame (hother j hj), congrArg Clock.state (hother j hj)⟩⟩

/-! ## The signature log (R196, R200 to R202) -/

theorem State.devWrite_mem_of_lant (s : State) (l : Lant) (a : Nat) (b : List Byte) :
    (State.devWrite { s with lant := l } a b).mem = (s.devWrite a b).mem := by
  unfold State.devWrite
  split <;> rfl

/-- The place of the log's next record in its ring. -/
def State.logPlace (s : State) : Nat := s.logBase + 32 * (s.lant.writeIdx % Nat.max 1 s.logRecords)

/-- The log's oldest record leaves the queue, and the write index counts it. -/
def State.takeRecord (s : State) (rest : List LogRec) : State :=
  { s with lant := { s.lant with fifo := rest, writeIdx := wrapInc 32 s.lant.writeIdx } }

/-- Logging stops, and the queue is empty. -/
def State.stopLog (s : State) : State :=
  State.raise { s.countBounds with lant := { s.lant with fifo := [], stopped := true } } .logBounds

section
variable {s : State} {x : LogRec} {rest : List LogRec} (hfifo : s.lant.fifo = x :: rest) (hring : s.logRecords ≠ 0)
include hfifo hring

theorem exec_logWriteDone_granted (h : (s.granted .heads true s.logPlace 32 && isDevAddr s.logPlace) = true) :
    exec .logWriteDone s = .next (((s.takeRecord rest).devWrite s.logPlace x.bytes).recordEvent x) := by
  show execLogWriteDone s = _
  simp only [execLogWriteDone, hfifo]
  exact congrArg _ ((if_neg hring).trans (if_pos h))

theorem exec_logWriteDone_refused (h : (s.granted .heads true s.logPlace 32 && isDevAddr s.logPlace) = false) :
    exec .logWriteDone s = .next (s.stopLog.forEach (x :: rest) (fun s x => s.dropRecord x)) := by
  show execLogWriteDone s = _
  simp only [execLogWriteDone, hfifo]
  exact congrArg _ ((if_neg hring).trans (if_neg (ne_true_of_eq_false h)))

end

theorem State.recordEvent_lant (s : State) (x : LogRec) : (s.recordEvent x).lant = s.lant := (State.recordEvent_kept (.refl s)).lant_eq

theorem State.recordEvent_mem (s : State) (x : LogRec) : (s.recordEvent x).mem = s.mem := (State.recordEvent_kept (.refl s)).mem_eq

/-- The part of the log that dropping a record leaves alone. -/
structure Log where
  writeIdx : Nat
  fifo : List LogRec
  stopped : Bool

def State.log (s : State) : Log := { writeIdx := s.lant.writeIdx, fifo := s.lant.fifo, stopped := s.lant.stopped }

theorem State.log_of_lant {s t : State} (e : t.lant = s.lant) : t.log = s.log := by
  unfold State.log; rw [e]

theorem State.dropRecord_log (s : State) (x : LogRec) : (s.dropRecord x).log = s.log :=
  (State.log_of_lant ((State.recordEvent_lant _ x).trans (State.raise_lant _ _))).trans rfl

theorem State.dropRecord_mem (s : State) (x : LogRec) : (s.dropRecord x).mem = s.mem :=
  Kept.mem_eq (State.dropRecord_kept (.refl s))

theorem State.stopLog_mem (s : State) : s.stopLog.mem = s.countBounds.mem := State.raise_mem _ _

theorem State.stopLog_log (s : State) : s.stopLog.log = { writeIdx := s.lant.writeIdx, fifo := [], stopped := true } :=
  (State.log_of_lant (State.raise_lant _ _)).trans rfl

/-! ## Events leave a stream's frame alone (R182) -/

/-- `y` is stream `x`, but for whether it is triggered and the frames it captures after that. -/
def Wb.SameFrame (x y : Wb) : Prop := ∃ b n, y = { x with triggered := b, postLeft := n }

theorem Wb.SameFrame.refl (x : Wb) : x.SameFrame x := ⟨_, _, rfl⟩

theorem Wb.SameFrame.trans {x y z : Wb} (h : x.SameFrame y) (k : y.SameFrame z) : x.SameFrame z := by
  obtain ⟨_, _, rfl⟩ := h
  obtain ⟨_, _, rfl⟩ := k
  exact ⟨_, _, rfl⟩

theorem State.wbWatch_stream (s : State) (i j : Nat) : (s.stream j).SameFrame ((s.wbWatch i).stream j) := by
  unfold State.wbWatch State.stream
  rw [Tbl.get_mapVals _ _ _ rfl]
  split
  · exact ⟨_, _, rfl⟩
  · exact .refl _

theorem State.occur_stream (s : State) (i j : Nat) : (s.stream j).SameFrame ((s.occur i).stream j) := by
  unfold State.occur
  extract_lets e old pended watched counted
  have hcount : counted.wb = watched.wb := by
    unfold counted
    split
    · exact (State.countGroup_kept (.refl _)).wb_eq
    · rfl
  have hwatch : (s.stream j).SameFrame (watched.stream j) := by
    unfold watched State.wbWatchNew State.forEach
    simp only [List.foldl]
    split
    · exact pended.wbWatch_stream i j
    · exact .refl _
  exact (State.stream_of_wb (t := counted.reorder) hcount j) ▸ hwatch

/-- Raising an event may trigger a stream that watches it, and changes no stream otherwise. -/
theorem State.raiseNum_stream (s : State) (i j : Nat) : (s.stream j).SameFrame ((s.raiseNum i).stream j) := by
  unfold State.raiseNum
  split
  · exact .refl _
  · split
    · exact s.occur_stream i j
    · exact .refl _

/-! ## The end of a captured frame (R181) -/

/-- A stream whose frame ends: the sequence number and the count of frames go on. -/
def Wb.finished (x : Wb) : Wb :=
  { x with capturing := false, finishing := false, sequence := wrapInc 32 x.sequence, written := wrapInc 32 x.written,
           incompleteN := if x.incomplete then satInc 32 x.incompleteN else x.incompleteN,
           lastBuffer := if x.incomplete then x.lastBuffer else x.buffer }

/-- The trailer of a stream's frame is written at the end of its buffer. -/
def State.writeTrailer (s : State) (w : Nat) : State :=
  s.devWrite ((s.stream w).cfg.bases.getD (s.stream w).buffer 0 + ((s.stream w).cfg.y1 - (s.stream w).cfg.y0) * (s.stream w).cfg.stride)
    (s.trailer w (s.stream w))

theorem State.wbFinish_eq (s : State) (w : Nat) : s.wbFinish w
    = State.raiseNum (if (s.stream w).incomplete then ((s.writeTrailer w).setStream w (s.stream w).finished).raiseNum (evWb w 1)
        else (s.writeTrailer w).setStream w (s.stream w).finished) (evWb w 0) := rfl

theorem State.wbFinish_mem (s : State) (w : Nat) : (s.wbFinish w).mem = (s.writeTrailer w).mem := by
  rw [State.wbFinish_eq, State.raiseNum_mem]
  split
  · exact State.raiseNum_mem _ _
  · rfl

theorem State.wbFinish_stream (s : State) (w j : Nat) :
    Wb.SameFrame (if j = w then (s.stream w).finished else s.stream j) ((s.wbFinish w).stream j) := by
  have hwb : (s.writeTrailer w).wb = s.wb := (State.devWrite_kept (.refl s)).wb_eq
  have hset : ((s.writeTrailer w).setStream w (s.stream w).finished).stream j
      = if j = w then (s.stream w).finished else s.stream j := by
    split
    next e => rw [e]; exact State.stream_setStream_self _ _ _
    next e => exact (State.stream_setStream_ne _ _ e).trans (State.stream_of_wb hwb j)
  rw [State.wbFinish_eq, ← hset]
  refine .trans ?_ (State.raiseNum_stream _ _ j)
  split
  · exact State.raiseNum_stream _ _ j
  · exact .refl _

theorem exec_wbFrameDone {s : State} {w : Fin 4} (hcap : (s.stream w).capturing = true) (hfin : (s.stream w).finishing = true)
    (hjudged : (s.regionsOf (s.stream w).cfg.head).length ≤ (s.recordsOf (s.stream w).cfg.head (s.stream w).frame).length) :
    exec (.wbFrameDone w) s = .next (s.wbFinish w) :=
  congrArg Host.Outcome.next (if_pos (by simp [hcap, hfin, hjudged]))

/-- Settles O17: a record that a window grants, one that none grants, a stream that is armed, and a frame that ends. -/
theorem logAndWriteback : Obligations.LogAndWriteback := by
  intro s w x rest n a y
  refine ⟨fun hfifo hring hgrant => ?granted, fun hfifo hring hgrant => ?refused, ?arms, fun hcap hfin hjudged => ?ends⟩
  case granted =>
    have hexec := exec_logWriteDone_granted hfifo hring hgrant
    have hlant : (((s.takeRecord rest).devWrite a x.bytes).recordEvent x).lant = (s.takeRecord rest).lant :=
      (State.recordEvent_lant _ x).trans (State.devWrite_kept (.refl _)).lant_eq
    exact ⟨_, hexec, (State.recordEvent_mem _ x).trans (s.devWrite_mem_of_lant _ a x.bytes), congrArg Lant.writeIdx hlant,
      congrArg Lant.fifo hlant, (congrArg Lant.stopped hlant).trans rfl, Kept.heads_eq ((execLogWriteDone_kept (.refl s)).out _ hexec)⟩
  case refused =>
    have hexec := exec_logWriteDone_refused hfifo hring hgrant
    have hlog := State.forEach_reading State.log (fun t x => t.dropRecord_log x) (x :: rest) s.stopLog
    have hmem := State.forEach_reading State.mem (fun t x => t.dropRecord_mem x) (x :: rest) s.stopLog
    rw [s.stopLog_log] at hlog
    rw [s.stopLog_mem] at hmem
    exact ⟨_, hexec, (congrArg Mem.dev hmem).trans rfl, (congrArg Mem.host hmem).trans rfl,
      congrArg Log.writeIdx hlog, congrArg Log.fifo hlog, congrArg Log.stopped hlog,
      Kept.heads_eq ((execLogWriteDone_kept (.refl s)).out _ hexec)⟩
  case arms =>
    exact ⟨_, rfl, s.stream_modStream_self w _, fun j hj => s.stream_modStream_ne _ hj, rfl⟩
  case ends =>
    obtain ⟨b, n, hself⟩ := s.wbFinish_stream w w
    rw [if_pos rfl] at hself
    refine ⟨_, exec_wbFrameDone hcap hfin hjudged, hself ▸ rfl, hself ▸ rfl, hself ▸ rfl, s.wbFinish_mem w, fun j hj => ?_,
      (State.wbFinish_kept (.refl s)).heads_eq⟩
    obtain ⟨b, n, hother⟩ := s.wbFinish_stream w j
    rw [if_neg hj] at hother
    exact hother ▸ rfl

end Sys2Proof.Machine
end

section
/-!
PROOFS. Lantern and Echo: the verdict of a region (R194 to R197) and a part of Echo's work that ends (R191).
-/

namespace Sys2Proof.Machine

/-! ## The verdicts that Lantern keeps (R194, R206) -/

/-- A region's latest verdict with its CRC, and whether another is due. -/
structure Judgement where
  verdict : Nat
  crc : Nat
  due : Bool

def RegSt.judgement (x : RegSt) : Judgement := { verdict := x.verdict, crc := x.crc, due := x.final }

/-- What Lantern keeps of its verdicts: the count of mismatches of every head, and the judgement of every region by its key. -/
structure Verdicts where
  mismatches : Tbl Nat
  judgement : Nat → Judgement

def Lant.verdicts (l : Lant) : Verdicts :=
  { mismatches := l.mismatches, judgement := fun k => (Tbl.get RegSt.reset l.regs k).judgement }

theorem regionKey_ne {h h' r r' : Nat} (hr : r < 64) (hr' : r' < 64) (hne : h' ≠ h ∨ r' ≠ r) : regionKey h' r' ≠ regionKey h r := by
  unfold regionKey
  omega

/-! ## A head's state is called for (R176, R197) -/

/-- Echo's work and the stored references are no part of a verdict. -/
theorem State.mapRegions_verdicts (s : State) (h : Nat) {f : RegSt → RegSt} (hreset : f RegSt.reset = RegSt.reset)
    (hf : ∀ x, (f x).judgement = x.judgement) : (s.mapRegions h f).lant.verdicts = s.lant.verdicts := by
  refine congrArg (Verdicts.mk s.lant.mismatches) (funext fun k => ?_)
  show (Tbl.get RegSt.reset (Tbl.mapVals s.lant.regs (fun k x => if k / 64 = h then f x else x)) k).judgement = _
  rw [Tbl.get_mapVals _ _ _ (by rw [hreset, ite_self])]
  split
  · exact hf _
  · rfl

theorem State.composeBand_verdicts (s : State) (h frame b start : Nat) (st : HState) (again : Bool) :
    (s.composeBand h frame b start st again).lant.verdicts = s.lant.verdicts := by
  have hprepared : (s.prepareBand h frame b start st).1.lant = s.lant := (State.prepareBand_kept (.refl s)).lant_eq
  unfold State.composeBand
  generalize s.prepareBand h frame b start st = p at hprepared
  obtain ⟨t, y⟩ := p
  rw [← hprepared]
  refine (congrArg Lant.verdicts (State.assignBand_kept (.refl _)).lant_eq).trans ?_
  show Lant.verdicts { (if y.twoTap then _ else t : State).lant with parts := _ } = _
  split <;> rfl

theorem State.recompose_verdicts (s : State) (h frame start : Nat) (new : HState) :
    (s.recompose h frame start new).lant.verdicts = s.lant.verdicts := by
  unfold State.recompose
  extract_lets n _ _ dropped cleared
  have hcleared : cleared.lant.verdicts = s.lant.verdicts := State.mapRegions_verdicts _ h rfl (fun _ => rfl)
  split
  · exact hcleared
  · exact (State.forEach_reading (fun t => t.lant.verdicts) (fun t b => t.composeBand_verdicts h frame b start new true) _ _).trans hcleared

theorem State.followCall_verdicts (s : State) (h : Nat) : (s.followCall h).lant.verdicts = s.lant.verdicts := by
  unfold State.followCall
  extract_lets x new
  split
  · rfl
  · exact s.recompose_verdicts h _ _ new

theorem State.callHead_verdicts (s : State) (h : Nat) (f : Head → Head) : (s.callHead h f).lant.verdicts = s.lant.verdicts := by
  unfold State.callHead
  extract_lets t
  split
  · exact (State.followCall_verdicts _ _).trans (t.followCall_verdicts _)
  · exact t.followCall_verdicts h

theorem State.applyPolicy_verdicts (s : State) (h policy : Nat) : (s.applyPolicy h policy).lant.verdicts = s.lant.verdicts := by
  unfold State.applyPolicy
  split
  · rfl
  · split
    · exact s.callHead_verdicts h _
    · exact s.callHead_verdicts h _
    · rfl

/-! ## What follows a verdict (R192, R196, R200 to R204) -/

/-- A mismatch counts on its head, whatever the region's policy. -/
theorem State.countMismatch_verdicts (s : State) (h frame : Nat) (r : Region) :
    (s.countMismatch h frame r).lant.verdicts
      = { s.lant.verdicts with mismatches := Tbl.set s.lant.mismatches h (satInc 32 (Tbl.get 0 s.lant.mismatches h)) } :=
  State.applyPolicy_verdicts _ h r.policy

theorem State.countUnchecked_lant (s : State) :
    s.countUnchecked.lant = { s.lant with unchecked := satInc 32 s.lant.unchecked, uncheckedRc := satInc 16 s.lant.uncheckedRc } :=
  State.raise_lant _ _

/-- A record moves the log's FIFO and the counts of dropped records. -/
theorem State.logRecord_lant (s : State) (x : LogRec) :
    ∃ fifo dropped droppedRc gap,
      (s.logRecord x).lant = { s.lant with fifo := fifo, dropped := dropped, droppedRc := droppedRc, gap := gap } := by
  unfold State.logRecord
  split
  · exact ⟨_, _, _, _, s.recordEvent_lant x⟩
  · split
    · exact ⟨_, _, _, _, (State.recordEvent_lant _ x).trans (State.raise_lant _ _)⟩
    · exact ⟨_, _, _, _, rfl⟩

theorem State.endAnalysis_verdicts (s : State) (code g e : Nat) : (s.endAnalysis code g e).lant.verdicts = s.lant.verdicts := by
  unfold State.endAnalysis
  extract_lets _ t
  split
  · rw [State.raise_lant, (State.retireEngine_kept (.refl t)).lant_eq]
    rfl
  · rw [State.raise_lant]
    rfl

theorem State.evaluateFrame_verdicts (s : State) (a : Analysis) (frame verdict : Nat) :
    (s.evaluateFrame a frame verdict).lant.verdicts = s.lant.verdicts := by
  unfold State.evaluateFrame
  extract_lets
  split
  · exact s.endAnalysis_verdicts _ _ _
  · split
    · exact s.endAnalysis_verdicts _ _ _
    · split
      · exact s.endAnalysis_verdicts _ _ _
      · rfl

theorem State.localise_verdicts (s : State) (h : Nat) (r : Region) (frame verdict : Nat) :
    (s.localise h r frame verdict).lant.verdicts = s.lant.verdicts := by
  unfold State.localise
  split
  · split
    · exact s.evaluateFrame_verdicts _ _ _
    · rfl
  · split <;> rfl

/-- Without a mismatch no analysis starts. -/
theorem State.localise_idle {s : State} {verdict : Nat} (hidle : s.lant.analysis = none) (hv : verdict ≠ 2) (h : Nat) (r : Region)
    (frame : Nat) : s.localise h r frame verdict = s := by
  unfold State.localise
  rw [hidle]
  exact if_neg fun hstart => hv hstart.2.1

/-! ## REGION_VERDICT (R194 to R197) -/

/-- A region's state with the verdict `v` of its final CRC. -/
def RegSt.judged (x : RegSt) (r : Region) (v : Nat × Nat × Nat) : RegSt :=
  { x with final := false, crc := crcFinal x.crcReg, verdict := v.1, run := v.2.1, frame := x.finalFrame,
           refs := if r.expect == 3 && v.1 != 5 && v.1 != 6 then ((x.finalFrame, crcFinal x.crcReg) :: x.refs).take 16 else x.refs }

/-- The counts of a verdict `v`: of regions unchecked, and of mismatches with the region's policy. -/
def State.countVerdict (s : State) (h frame : Nat) (r : Region) (v : Nat) : State :=
  let s := if v = 4 then s.countUnchecked else s
  if v = 2 then s.countMismatch h frame r else s

/-- The record of a verdict is kept for the frame's trailers. -/
def State.noteRecord (s : State) (x : LogRec) : State := { s with lant := { s.lant with frameRecs := s.lant.frameRecs ++ [x] } }

/-- A region of head `h` is judged: its verdict is kept, counted and recorded. -/
def State.judgeRegion (s : State) (h rid : Nat) (r : Region) : State :=
  let x := s.region h rid
  let v := s.verdict h r x
  let rec_ := s.verdictRecord h r x v.1 v.2.2
  (((s.setRegion h rid (x.judged r v)).countVerdict h x.finalFrame r v.1).noteRecord rec_).logRecord rec_

theorem exec_regionVerdict {s : State} {h : Fin 16} {rid : Fin 64} {r : Region} (hfinal : (s.region h rid).final = true)
    (hlisted : (s.regionsOf h).find? (fun r => r.id == rid.val) = some r) :
    exec (.regionVerdict h rid) s = .next ((s.judgeRegion h rid r).localise h r (s.region h rid).finalFrame
      (s.verdict h r (s.region h rid)).1) := by
  show execRegionVerdict h rid s = _
  simp only [execRegionVerdict, hlisted, hfinal]
  rfl

theorem State.countVerdict_verdicts (s : State) (h frame : Nat) (r : Region) (v : Nat) :
    (s.countVerdict h frame r v).lant.verdicts = { s.lant.verdicts with
      mismatches := if v = 2 then Tbl.set s.lant.mismatches h (satInc 32 (Tbl.get 0 s.lant.mismatches h)) else s.lant.mismatches } := by
  unfold State.countVerdict
  by_cases hmismatch : v = 2
  · subst hmismatch
    exact s.countMismatch_verdicts h frame r
  · rw [if_neg hmismatch, if_neg hmismatch]
    split
    · rw [State.countUnchecked_lant]; rfl
    · rfl

/-- A verdict other than a mismatch leaves the heads and the analysis under way. -/
theorem State.countVerdict_frame (s : State) (h frame : Nat) (r : Region) {v : Nat} (hv : v ≠ 2) :
    (s.countVerdict h frame r v).heads = s.heads ∧ (s.countVerdict h frame r v).lant.analysis = s.lant.analysis := by
  unfold State.countVerdict
  rw [if_neg hv]
  split
  · exact ⟨(State.countUnchecked_kept (.refl s)).heads_eq, (congrArg Lant.analysis s.countUnchecked_lant).trans rfl⟩
  · exact ⟨rfl, rfl⟩

theorem State.logRecord_verdicts (s : State) (x : LogRec) : (s.logRecord x).lant.verdicts = s.lant.verdicts := by
  obtain ⟨_, _, _, _, e⟩ := s.logRecord_lant x
  rw [e]; rfl

theorem State.logRecord_analysis (s : State) (x : LogRec) : (s.logRecord x).lant.analysis = s.lant.analysis := by
  obtain ⟨_, _, _, _, e⟩ := s.logRecord_lant x
  rw [e]

/-- The verdicts after a region is judged: its own is the new one, the other regions keep theirs, and a mismatch counts. -/
theorem State.judgeRegion_verdicts (s : State) (h rid : Nat) (r : Region) :
    (s.judgeRegion h rid r).lant.verdicts =
      { mismatches := if (s.verdict h r (s.region h rid)).1 = 2 then
          Tbl.set s.lant.mismatches h (satInc 32 (Tbl.get 0 s.lant.mismatches h)) else s.lant.mismatches
        judgement := (s.setRegion h rid ((s.region h rid).judged r (s.verdict h r (s.region h rid)))).lant.verdicts.judgement } :=
  (State.logRecord_verdicts _ _).trans (State.countVerdict_verdicts _ h _ r _)

theorem State.judgeRegion_frame {s : State} {h rid : Nat} {r : Region} (hv : (s.verdict h r (s.region h rid)).1 ≠ 2) :
    (s.judgeRegion h rid r).heads = s.heads ∧ (s.judgeRegion h rid r).lant.analysis = s.lant.analysis := by
  have hcount := (s.setRegion h rid ((s.region h rid).judged r (s.verdict h r (s.region h rid)))).countVerdict_frame h
    (s.region h rid).finalFrame r hv
  exact ⟨(Kept.heads_eq (State.logRecord_kept (.refl _))).trans hcount.1, (State.logRecord_analysis _ _).trans hcount.2⟩

/-! ## ECHO_PART_DONE (R191) -/

/-- A part of Echo's work on head `h` is no longer outstanding. -/
def State.dropPart (s : State) (h : Nat) (p : EchoPart) : State :=
  { s with lant := { s.lant with parts := s.lant.parts.filter (fun (q : Nat × EchoPart × Band) => !(q.1 == h && decide (q.2.1 = p))) } }

/-- What Echo reads does not turn on its parts outstanding. -/
theorem State.echoReads_dropPart (s : State) (h h' : Nat) (p : EchoPart) (r : Region) (b : Band) :
    (s.dropPart h p).echoReads h' r b = s.echoReads h' r b := by
  have hgranted : (s.dropPart h p).granted = s.granted := by
    funext c wr a n
    exact State.granted_congr (s := s) (t := s.dropPart h p) rfl rfl c wr a n
  unfold State.echoReads
  rw [hgranted]
  rfl

section
variable {s : State} {h : Fin 16} {rid : Fin 64} {i : Nat} {p : EchoPart} {b : Band} (hpart : s.echoPart h rid = some (i, p, b))
include hpart

/-- A part whose scene no longer holds the region ends without a trace. -/
theorem exec_echoPartDone_unlisted (out : EchoOutcome)
    (hgone : b.scene.bind (fun sc => sc.regions.find? (fun r => r.head == h.val && r.id == rid.val)) = none) :
    exec (.echoPartDone h rid out) s = .next (s.dropPart h p) := by
  show execEchoPartDone h rid out s = _
  simp only [execEchoPartDone, hpart, hgone]
  rfl

theorem exec_echoPartDone_done {r : Region}
    (hlisted : b.scene.bind (fun sc => sc.regions.find? (fun r => r.head == h.val && r.id == rid.val)) = some r)
    (hreads : s.echoReads h r b = .ok) :
    exec (.echoPartDone h rid .done) s = .next ((s.dropPart h p).echoDone h r p.frame b) := by
  have hdropped := (s.echoReads_dropPart h h p r b).trans hreads
  unfold State.dropPart at hdropped ⊢
  show execEchoPartDone h rid .done s = _
  simp only [execEchoPartDone, hpart, hlisted, hdropped]

end

/-- Sub-signatures belong to the analysis under way. -/
theorem State.noteSubs_lant (s : State) (h rid frame : Nat) (echo : Bool) (l : List (Nat × Nat)) :
    ∃ a, (s.noteSubs h rid frame echo l).lant = { s.lant with analysis := a } := by
  unfold State.noteSubs
  split
  · split <;> exact ⟨_, rfl⟩
  · exact ⟨_, rfl⟩

/-- A part that Echo completes counts, and changes no part outstanding. -/
theorem State.echoDone_parts (s : State) (h : Nat) (r : Region) (frame : Nat) (b : Band) :
    (s.echoDone h r frame b).lant.parts = s.lant.parts ∧ (s.echoDone h r frame b).lant.partsDone = wrapInc 64 s.lant.partsDone := by
  unfold State.echoDone
  extract_lets x n lines bytes added _ counted
  obtain ⟨a, e⟩ := counted.noteSubs_lant h r.id frame true (subSignatures n frame b.band r lines)
  rw [e]
  exact ⟨rfl, rfl⟩

/-! ## The obligation -/

/-- Settles O16: a region whose CRC is final is judged, a part of Echo whose scene no longer holds its region ends, and so does one
that Echo completes. -/
theorem lanternJudges : Obligations.LanternJudges := by
  intro s h rid r x
  refine ⟨fun hfinal hlisted => ?judged, fun p b i hpart => ⟨fun out hgone => ?gone, fun hlisted hreads => ?done⟩⟩
  case judged =>
    have hexec := exec_regionVerdict hfinal hlisted
    have hverdicts := (State.localise_verdicts _ h r x.finalFrame (s.verdict h r x).1).trans (s.judgeRegion_verdicts h rid r)
    have hself : ((s.setRegion h rid (x.judged r (s.verdict h r x))).region h rid).judgement
        = { verdict := (s.verdict h r x).1, crc := crcFinal x.crcReg, due := false } :=
      congrArg RegSt.judgement (Tbl.get_set_self _ _ _ _)
    have hown := (congrArg (fun v => v.judgement (regionKey h rid)) hverdicts).trans hself
    refine ⟨_, hexec, congrArg Judgement.verdict hown, congrArg Judgement.crc hown, congrArg Judgement.due hown,
      Kept.dev_eq ((execRegionVerdict_kept (.refl s)).out _ hexec), Kept.host_eq ((execRegionVerdict_kept (.refl s)).out _ hexec),
      fun h' r' _ hr' hne => ?other, fun hmismatch => ?counts, fun hmatch hidle => ?quiet⟩
    case other =>
      have hother := congrArg RegSt.judgement
        (Tbl.get_set_ne RegSt.reset s.lant.regs (x.judged r (s.verdict h r x)) (regionKey_ne rid.isLt hr' hne))
      exact congrArg Judgement.verdict ((congrArg (fun v => v.judgement (regionKey h' r')) hverdicts).trans hother)
    case counts =>
      have hcount := (congrArg Verdicts.mismatches hverdicts).trans (if_pos hmismatch)
      exact (congrArg (fun m => Tbl.get 0 m h) hcount).trans (Tbl.get_set_self _ _ _ _)
    case quiet =>
      obtain ⟨hheads, hanalysis⟩ := State.judgeRegion_frame hmatch
      refine ⟨(congrArg Verdicts.mismatches hverdicts).trans (if_neg hmatch), ?_⟩
      rw [State.localise_idle (hanalysis.trans hidle) hmatch]
      exact hheads
  case gone => exact ⟨_, exec_echoPartDone_unlisted hpart out hgone, rfl, rfl, rfl⟩
  case done =>
    obtain ⟨hparts, hcount⟩ := (s.dropPart h p).echoDone_parts h r p.frame b
    exact ⟨_, exec_echoPartDone_done hpart hlisted hreads, hcount, Kept.heads_eq (s := s.dropPart h p) (State.echoDone_kept (.refl _)),
      Kept.mem_eq (s := s.dropPart h p) (State.echoDone_kept (.refl _)), hparts⟩

end Sys2Proof.Machine
end

section
/-!
PROOFS. Memory: the invariant and the reset state (R208, R209, R217), the window check with what a write leaves (R208 to R213, R226),
the writes of windows (R217, R218), the aperture (R215, R229), and errors of device memory (R227 to R230).
-/

namespace Sys2Proof.Machine

/-! ## The invariant (R208, R209, R217) -/

/-- With a command waiting a step is that command's meaning. -/
theorem step_of_waiting {s : State} {c : Instr} {rest : List Instr} (h : s.pending = c :: rest) :
    step s = exec c { s with pending := rest } := by
  unfold step; rw [h]

/-- Settles O55: a step is a tick or a command, and each keeps the invariant. -/
theorem stepKeepsTheInvariant : Obligations.StepKeepsTheInvariant := by
  intro s t hinv hstep
  cases hp : s.pending with
  | nil =>
    rw [step_of_empty hp] at hstep
    cases hstep
    have htick : Kept .coresAndMode s s.tick := State.tick_kept (.refl s)
    exact htick.inv hinv
  | cons c rest =>
    rw [step_of_waiting hp] at hstep
    exact ((exec_kept _ c).out t hstep).inv hinv

/-! ## The window check (R213) -/

/-- One window grants every byte from `a` up to `b`. -/
def State.grantsUpTo (s : State) (c : Cls) (wr host : Bool) (a b : Nat) : Prop :=
  ∃ p ∈ s.mem.wins, ∀ x, a ≤ x → x < b → s.grantedBy c wr host p.1 p.2 x

/-- One round of the check reaches the end of a window that grants every byte up to there. -/
theorem State.coverEnd_grants {s : State} {c : Cls} {wr host : Bool} {a b : Nat} (h : s.coverEnd c wr host a = some b) :
    s.grantsUpTo c wr host a b := by
  suffices hfold : ∀ b, s.coverEnd c wr host a = some b → s.grantsUpTo c wr host a b from hfold b h
  unfold State.coverEnd
  refine List.foldlRecOn s.mem.wins _ (motive := fun best => ∀ b, best = some b → s.grantsUpTo c wr host a b) ?none ?window
  case none => exact fun _ h => by cases h
  case window =>
    intro best ih p hp b h
    extract_lets w lo hi at h
    split at h
    case isFalse => exact ih b h
    case isTrue hgrants =>
      simp only [Bool.and_eq_true, beq_iff_eq, decide_eq_true_eq] at hgrants
      obtain ⟨⟨⟨hon, hhost⟩, hright⟩, hlo, -⟩ := hgrants
      have hself : s.grantsUpTo c wr host a hi :=
        ⟨p, hp, fun x ha hx => ⟨hon, hhost, hright, hlo.trans ha, by rw [Nat.add_mul]; exact hx⟩⟩
      cases best with
      | none => exact Option.some.inj h ▸ hself
      | some old =>
        rw [← Option.some.inj h]
        have hmax : old.max hi = old ∨ old.max hi = hi := max_choice old hi
        rcases hmax with hmax | hmax <;> rw [hmax]
        · exact ih old rfl
        · exact hself

/-- A range that is covered is granted byte by byte. -/
theorem State.covered_grants {s : State} {c : Cls} {wr host : Bool} {a hi fuel x : Nat} (h : s.covered c wr host a hi fuel = true)
    (ha : a ≤ x) (hx : x < hi) : ∃ p ∈ s.mem.wins, s.grantedBy c wr host p.1 p.2 x := by
  induction fuel generalizing a with
  | zero => simp only [State.covered, decide_eq_true_eq] at h; omega
  | succ fuel ih =>
    rw [State.covered, if_neg (by omega)] at h
    split at h
    case h_1 => cases h
    case h_2 b hb =>
      rcases Nat.lt_or_ge x b with hlt | hge
      · obtain ⟨p, hp, hgrants⟩ := State.coverEnd_grants hb
        exact ⟨p, hp, hgrants x ha hlt⟩
      · exact ih h hge

/-- What the check grants in device memory is granted byte by byte. -/
theorem State.granted_device {s : State} {c : Cls} {wr : Bool} {a n x : Nat} (hdev : isHostAddr a = false) (h : s.granted c wr a n = true)
    (hx : x < n) : a < 2 ^ 35 ∧ ∃ p ∈ s.mem.wins, s.grantedBy c wr false p.1 p.2 (a + x) := by
  unfold State.granted at h
  rw [hdev, if_neg Bool.false_ne_true, Bool.and_eq_true] at h
  exact ⟨of_decide_eq_true h.1, State.covered_grants h.2 (by omega) (by omega)⟩

/-- What the check grants in host memory is granted byte by byte. -/
theorem State.granted_host {s : State} {c : Cls} {wr : Bool} {a n x : Nat} (hhost : isHostAddr a = true) (h : s.granted c wr a n = true)
    (hx : x < n) : ∃ p ∈ s.mem.wins, s.grantedBy c wr true p.1 p.2 (a % 2 ^ 63 + x) := by
  unfold State.granted at h
  rw [if_pos hhost] at h
  exact State.covered_grants h (by omega) (by omega)

/-- No sound window grants a device address of the spare pool (R209, R217). -/
theorem State.grantedBy_below_spares {s : State} (hs : s.winsSound) {p : Nat × Win} (hp : p ∈ s.mem.wins) {c : Cls} {wr : Bool} {x : Nat}
    (h : s.grantedBy c wr false p.1 p.2 x) : x < spareBase := by
  obtain ⟨hon, hspace, -, -, hx⟩ := h
  unfold State.winGrants at hon
  have hsound := (hs p hp (Bool.and_eq_true_iff.1 hon).1).2
  rw [hspace, if_neg Bool.false_ne_true] at hsound
  omega

/-- Without windows nothing is granted. -/
theorem State.granted_of_no_window {s : State} (h : s.mem.wins = []) (c : Cls) (wr : Bool) (a : Nat) {n : Nat} (hn : 0 < n) :
    s.granted c wr a n = false := by
  refine Bool.eq_false_iff.2 fun hgranted => ?_
  cases hspace : isHostAddr a with
  | false =>
    obtain ⟨-, p, hp, -⟩ := State.granted_device hspace hgranted hn
    rw [h] at hp; cases hp
  | true =>
    obtain ⟨p, hp, -⟩ := State.granted_host hspace hgranted hn
    rw [h] at hp; cases hp

/-! ## Memory of either space (R208 to R210, R226) -/

theorem State.devWrite_host (s : State) (a : Nat) (l : List Byte) : (s.devWrite a l).mem.host = s.mem.host :=
  (State.devWrite_kept (.refl s)).host_eq

/-- Where every granule is usable a write stores its bytes. -/
theorem State.devWrite_usable {s : State} (h : s.health.unusable = []) (a : Nat) (l : List Byte) :
    (s.devWrite a l).mem.dev = Memory.write s.mem.dev a l := by
  unfold State.devWrite
  cases l with
  | nil => rfl
  | cons b r => simp [h]

theorem State.busWrite_of_host {s : State} {a : Nat} (h : isHostAddr a = true) (l : List Byte) : s.busWrite a l = s.hostWrite a l :=
  if_pos h

theorem State.busWrite_of_device {s : State} {a : Nat} (h : isHostAddr a = false) (l : List Byte) : s.busWrite a l = s.devWrite a l :=
  if_neg (h ▸ Bool.false_ne_true)

theorem State.busRead_of_host {s : State} {a : Nat} (h : isHostAddr a = true) (n : Nat) :
    s.busRead a n = Memory.read s.mem.host (a % 2 ^ 63) n :=
  if_pos h

theorem State.busRead_of_device {s : State} {a : Nat} (h : isHostAddr a = false) (n : Nat) : s.busRead a n = Memory.read s.mem.dev a n :=
  if_neg (h ▸ Bool.false_ne_true)

/-- Settles O21: the check by its rounds, the spare pool by the soundness of windows, and a write in either space. -/
theorem windowsGrantByteByByte : Obligations.WindowsGrantByteByByte := by
  refine ⟨fun s c wr a n x hgranted hx => ?_, fun s c wr a n hinv hdev hgranted hn => ?_, fun s a l hcanon husable => ?_⟩
  · split
    case isTrue hhost => exact State.granted_host hhost hgranted hx
    case isFalse hdev => exact State.granted_device (Bool.eq_false_iff.2 hdev) hgranted hx
  · obtain ⟨-, p, hp, hlast⟩ := State.granted_device (x := n - 1) hdev hgranted (by omega)
    have := State.grantedBy_below_spares hinv.2 hp hlast
    omega
  · obtain ⟨hdev, hhost, -⟩ := hcanon
    cases hspace : isHostAddr a with
    | true =>
      rw [State.busWrite_of_host hspace, State.busRead_of_host hspace]
      refine ⟨Memory.read_write _ l hhost, fun _ _ h => ?_, fun b hb _ => Memory.get_write_outside _ l hb, fun _ => rfl,
        fun h => ?_⟩ <;> cases h
    | false =>
      rw [State.busWrite_of_device hspace, State.busRead_of_device hspace, State.devWrite_usable husable]
      refine ⟨Memory.read_write _ l hdev, fun b hb _ => Memory.get_write_outside _ l hb, fun _ _ h => ?_, fun h => ?_,
        fun _ => s.devWrite_host a l⟩ <;> cases h

/-! ## Reset (R211, R217, R253, R339, R416, R439) -/

theorem State.reset_inv : State.reset.Inv := ⟨⟨rfl, rfl, rfl, rfl⟩, fun _ h => nomatch h⟩

/-- Settles O54, part by part of the reset state. -/
theorem resetIsAsStated : Obligations.ResetIsAsStated :=
  ⟨rfl, rfl, rfl, rfl, fun _ => ⟨rfl, rfl, rfl, rfl, rfl, rfl⟩, fun _ => rfl,
    fun c wr a _ hn => State.granted_of_no_window rfl c wr a hn, fun _ => rfl, fun _ => ⟨rfl, rfl⟩,
    fun _ => ⟨rfl, rfl, rfl⟩, rfl, fun _ => rfl, State.reset_inv⟩

/-! ## Windows are written (R217, R218) -/

/-- A window with its base and size in force as they are staged, and its rights as a write of +0x10 gives them. -/
def Win.taken (w : Win) (v : Nat) : Win :=
  { w with rights := v % 4096, hostF := w.hostspace, baseF := w.base, sizeF := w.size }

/-- The window that a write of +0x10 leaves: in force, or disabled with a code. -/
def Win.decided (w : Win) (v code : Nat) : Win := { w with enable := bit v 31 && code == 0, reject := code }

/-- The memory block after a write of a window's +0x10 register. -/
theorem State.writeWindow_mem {s : State} {n v code : Nat}
    (hcode : (if bit v 31 then s.rejectCode ((s.win n).taken v) else 0) = code) :
    (s.writeWindow n v).mem = { s.mem with
      winFlight := s.checkedElements, wins := Tbl.set s.mem.wins n (((s.win n).taken v).decided v code) } := by
  subst hcode
  unfold State.writeWindow
  extract_lets _ _ _ code _ _ set
  have hset : set.mem = { s.mem with
    winFlight := s.checkedElements, wins := Tbl.set s.mem.wins n (((s.win n).taken v).decided v code) } := rfl
  split
  · exact hset
  · exact (State.raise_mem _ _).trans hset

/-- PF0's write of a window's +0x10 register puts that window into force or disables it, and changes no other window, no byte of
memory, no ring and no head. -/
theorem exec_memWinControlWrite {s : State} {n : Fin 512} {v code : Nat} (hup : s.hostUp .pf0 = true)
    (hcode : (if bit v 31 then s.rejectCode ((s.win n).taken v) else 0) = code) :
    ∃ t, exec (.memWinControlWrite .pf0 n v) s = .next t ∧ t.win n = ((s.win n).taken v).decided v code
      ∧ (∀ j : Nat, j ≠ n.val → t.win j = s.win j) ∧ t.mem.dev = s.mem.dev ∧ t.mem.host = s.mem.host ∧ t.que = s.que
      ∧ t.heads = s.heads := by
  have hmem := State.writeWindow_mem hcode
  have hexec : exec (.memWinControlWrite .pf0 n v) s = .next (s.writeWindow n v) := by
    show execMemWinControlWrite .pf0 n v s = _
    simp [execMemWinControlWrite, hup]
  have hwin : ∀ j : Nat, (s.writeWindow n v).win j = Tbl.get Win.reset (Tbl.set s.mem.wins n (((s.win n).taken v).decided v code)) j :=
    fun j => congrArg (fun m : Mem => Tbl.get Win.reset m.wins j) hmem
  exact ⟨_, hexec, (hwin n).trans (Tbl.get_set_self _ _ _ _), fun j hj => (hwin j).trans (Tbl.get_set_ne _ _ _ hj),
    (State.writeWindow_kept (.refl s)).dev_eq, (State.writeWindow_kept (.refl s)).host_eq, (State.writeWindow_kept (.refl s)).que_eq,
    (State.writeWindow_kept (.refl s)).heads_eq⟩

/-- PF1's write of a window counts, and is noted, as ignored. -/
theorem exec_memWinControlWrite_pf1 {s : State} (n : Fin 512) (v : Nat) (hup : s.hostUp .pf1 = true) :
    exec (.memWinControlWrite .pf1 n v) s = .next (s.privIgnore (winOffset n + 0x10)) := by
  show execMemWinControlWrite .pf1 n v s = _
  simp [execMemWinControlWrite, hup]

/-- The offset of a window's register is within PRIVLASTADDR. -/
theorem wrap_winOffset (n : Fin 512) : wrap 26 (winOffset n + 0x10) = winOffset n + 0x10 := by
  unfold wrap winOffset
  omega

/-- MEM_WINSYNC answers whether an element that the latest window write found in flight still is. -/
theorem exec_memWinsync {s : State} (hup : s.hostUp .pf0 = true) :
    exec (.memWinsync .pf0) s = .next (State.answer
      { s with mem := { s.mem with winFlight := s.mem.winFlight.filter (fun e => s.checkedElements.contains e) } }
      (leBytes 4 (if s.mem.winFlight.any (fun e => s.checkedElements.contains e) then 1 else 0))) := by
  have hleft : (!(s.mem.winFlight.filter (fun e => s.checkedElements.contains e)).isEmpty)
      = s.mem.winFlight.any (fun e => s.checkedElements.contains e) := by
    rw [Bool.eq_iff_iff]; simp
  show execMemWinsync .pf0 s = _
  simp only [execMemWinsync, hup, hleft]
  rfl

/-- Settles O18: PF0's write that is taken, one that is rejected, one without ENABLE, PF1's write, and MEM_WINSYNC. -/
theorem windowWritesApply : Obligations.WindowWritesApply := by
  intro s n v w
  refine ⟨fun hup hen hok => ?taken, fun hup hen hbad => ?rejected, fun hup hen => ?disabled, fun hup => ?ignored, fun hup => ?sync⟩
  case taken =>
    obtain ⟨t, hexec, hwin, hrest⟩ := exec_memWinControlWrite (n := n) (v := v) hup ((if_pos hen).trans hok)
    exact ⟨t, hexec, hwin.trans (by simp [Win.decided, Win.taken, bit, hen, w]), hrest⟩
  case rejected =>
    obtain ⟨t, hexec, hwin, hrest⟩ := exec_memWinControlWrite (n := n) (v := v) hup (if_pos hen)
    exact ⟨t, hexec, hwin.trans (by simp [Win.decided, Win.taken, bit, hbad, w]), hrest⟩
  case disabled =>
    obtain ⟨t, hexec, hwin, hother, -⟩ := exec_memWinControlWrite (n := n) (v := v) hup (if_neg (Bool.eq_false_iff.1 hen))
    exact ⟨t, hexec, hwin.trans (by simp [Win.decided, Win.taken, bit, hen, w]), hother⟩
  case ignored => exact ⟨_, exec_memWinControlWrite_pf1 n v hup, rfl, rfl, wrap_winOffset n⟩
  case sync => exact ⟨_, exec_memWinsync hup, rfl, rfl, rfl, rfl, rfl, rfl⟩

/-! ## The aperture (R215, R229) -/

/-- The check of a BAR2 request. -/
theorem State.aperture_eq (s : State) (wr : Bool) (off n : Nat) : s.aperture wr off n
    = if (decide (s.apertureBase + off + n ≤ s.fwBase) && s.granted .priv wr (s.apertureBase + off) n) = true
      then some (s.apertureBase + off) else none := by
  simp [State.aperture]

theorem State.hostBounds_mem (s : State) : s.hostBounds.mem = { s.mem with boundsCnt := satInc 32 s.mem.boundsCnt } :=
  State.raise_mem _ _

/-- What a write stores in device memory rests on the bytes there and on the granules that are unusable. -/
theorem State.devWrite_dev_congr {s t : State} (hdev : t.mem.dev = s.mem.dev) (hhealth : t.health = s.health) (a : Nat) (l : List Byte) :
    (t.devWrite a l).mem.dev = (s.devWrite a l).mem.dev := by
  unfold State.devWrite
  rw [hhealth]
  split
  · exact hdev
  · dsimp only
    rw [hdev]

/-- The reads that a partial write makes first leave what it writes, and the write leaves what is not device memory. -/
theorem State.apertureWrite_frame (s : State) (a : Nat) (l : List Byte) :
    ((s.partialReads a l.length).devWrite a l).mem.dev = (s.devWrite a l).mem.dev
    ∧ ((s.partialReads a l.length).devWrite a l).mem.host = s.mem.host
    ∧ ((s.partialReads a l.length).devWrite a l).mem.wins = s.mem.wins
    ∧ ((s.partialReads a l.length).devWrite a l).que = s.que ∧ ((s.partialReads a l.length).devWrite a l).heads = s.heads
    ∧ ((s.partialReads a l.length).devWrite a l).sys = s.sys :=
  ⟨State.devWrite_dev_congr (State.partialReads_kept (.refl s)).dev_eq (State.partialReads_kept (.refl s)).health_eq a l,
    (State.devWrite_kept (State.partialReads_kept (.refl s))).host_eq, (State.devWrite_kept (State.partialReads_kept (.refl s))).wins_eq,
    (State.devWrite_kept (State.partialReads_kept (.refl s))).que_eq, (State.devWrite_kept (State.partialReads_kept (.refl s))).heads_eq,
    (State.devWrite_kept (State.partialReads_kept (.refl s))).sys_eq⟩

section
variable {s : State} {off a : Nat} (hup : s.hostUp .pf0 = true)
include hup

theorem exec_bar2Write_granted {data : List Byte} (hbar : off + data.length ≤ 2 ^ s.evc.bar2Log2)
    (hin : s.aperture true off data.length = some a) :
    exec (.bar2Write off data) s = .next ((s.partialReads a data.length).devWrite a data) := by
  show execBar2Write off data s = _
  unfold execBar2Write
  rw [if_neg (by simp [hup, hbar]), hin]

theorem exec_bar2Write_refused {data : List Byte} (hbar : off + data.length ≤ 2 ^ s.evc.bar2Log2)
    (hout : s.aperture true off data.length = none) : exec (.bar2Write off data) s = .next s.hostBounds := by
  show execBar2Write off data s = _
  unfold execBar2Write
  rw [if_neg (by simp [hup, hbar]), hout]

theorem exec_bar2Read_granted {len : Nat} (hbar : off + len ≤ 2 ^ s.evc.bar2Log2) (hin : s.aperture false off len = some a)
    (hgood : s.badRead a len = none) : exec (.bar2Read off len) s = .next (s.answer (s.devRead a len)) := by
  show execBar2Read off len s = _
  unfold execBar2Read
  rw [if_neg (by simp [hup, hbar]), hin]
  dsimp only
  rw [hgood]

theorem exec_bar2Read_poisoned {len x : Nat} (hbar : off + len ≤ 2 ^ s.evc.bar2Log2) (hin : s.aperture false off len = some a)
    (hbad : s.badRead a len = some x) :
    exec (.bar2Read off len) s = .next { s.countUncorrectable x with bus := [], busEp := true } := by
  show execBar2Read off len s = _
  unfold execBar2Read
  rw [if_neg (by simp [hup, hbar]), hin]
  dsimp only
  rw [hbad]

theorem exec_bar2Read_refused {len : Nat} (hbar : off + len ≤ 2 ^ s.evc.bar2Log2) (hout : s.aperture false off len = none) :
    exec (.bar2Read off len) s = .next (s.hostBounds.answer (List.replicate len 0xFF#8)) := by
  show execBar2Read off len s = _
  unfold execBar2Read
  rw [if_neg (by simp [hup, hbar]), hout]
end

theorem State.countUncorrectable_mem (s : State) (a : Nat) :
    (s.countUncorrectable a).mem = { s.mem with uncorr := satInc 32 s.mem.uncorr, lastError := a } :=
  State.raise_mem _ _

/-- Settles O19: writes and reads that the check grants, reads that meet an uncorrectable block, and requests that fail the check. -/
theorem apertureIsChecked : Obligations.ApertureIsChecked := by
  intro s off a ok hup
  have hin : ∀ {wr n}, ok wr n = true → s.aperture wr off n = some a := fun h => (s.aperture_eq _ _ _).trans (if_pos h)
  have hout : ∀ {wr n}, ok wr n = false → s.aperture wr off n = none :=
    fun h => (s.aperture_eq _ _ _).trans (if_neg (Bool.eq_false_iff.1 h))
  refine ⟨fun data hbar hok => ?written, fun data hbar hok => ?refused, fun len hbar hok hgood => ?read,
    fun len x hbar hok hbad => ?poisoned, fun len hbar hok => ?unread⟩
  case written =>
    exact ⟨_, exec_bar2Write_granted hup hbar (hin hok), s.apertureWrite_frame a data⟩
  case refused =>
    exact ⟨_, exec_bar2Write_refused hup hbar (hout hok), s.hostBounds_mem, State.raise_que _ _, State.raise_heads _ _,
      State.raise_sys _ _⟩
  case read => exact ⟨_, exec_bar2Read_granted hup hbar (hin hok) hgood, rfl⟩
  case poisoned =>
    have hmem := s.countUncorrectable_mem x
    exact ⟨_, exec_bar2Read_poisoned hup hbar (hin hok) hbad, rfl, congrArg Mem.uncorr hmem, congrArg Mem.lastError hmem,
      s.countUncorrectable_dev x, s.countUncorrectable_host x⟩
  case unread => exact ⟨_, exec_bar2Read_refused hup hbar (hout hok), rfl, rfl, s.hostBounds_mem⟩

/-! ## Memory errors (R227 to R230) -/

theorem mem_insertSorted {x y : Nat} {l : List Nat} : y ∈ insertSorted x l ↔ y = x ∨ y ∈ l := by
  induction l with
  | nil => simp [insertSorted]
  | cons z r ih =>
    unfold insertSorted
    split
    case isTrue => exact List.mem_cons
    case isFalse =>
      split
      case isTrue heq => simp [heq]
      case isFalse => rw [List.mem_cons, ih, List.mem_cons, or_left_comm]

/-- Retiring a granule may begin a copy, and changes nothing else of the memory block. -/
theorem State.retireGranule_mem (s : State) (g : Nat) : ∃ copies, (s.retireGranule g).mem = { s.mem with copying := copies } := by
  unfold State.retireGranule
  split
  case isTrue => exact ⟨_, rfl⟩
  case isFalse =>
    split
    · exact ⟨_, (State.noteReplacement_mem _).trans (State.sparesLevel_mem _)⟩
    · exact ⟨_, State.loseGranule_mem _ _⟩

/-- An error that a reader meets counts, is the last error, and poisons a block of a usable granule whose repeat fails too. -/
theorem State.meetError_mem (s : State) (a : Nat) :
    (s.meetError a false).mem.uncorr = satInc 32 s.mem.uncorr ∧ (s.meetError a false).mem.lastError = a
    ∧ (s.health.unusable.contains (granuleOf a) = false → (s.meetError a false).mem.poisoned.contains (blockOf a) = true) := by
  unfold State.meetError
  extract_lets counted _ poisoned
  have hmem : counted.mem = { s.mem with uncorr := satInc 32 s.mem.uncorr, lastError := a } := s.countUncorrectable_mem a
  have hhealth : counted.health = s.health := s.countUncorrectable_health a
  split
  case isTrue hknown =>
    refine ⟨by rw [hmem], by rw [hmem], fun husable => ?_⟩
    rw [hhealth, husable, Bool.or_false] at hknown
    exact hknown
  case isFalse =>
    obtain ⟨copies, hcopies⟩ := State.retireGranule_mem poisoned (granuleOf a)
    have hpoisoned : poisoned.mem = { counted.mem with poisoned := insertSorted (blockOf a) counted.mem.poisoned } := rfl
    rw [hcopies, hpoisoned, hmem]
    exact ⟨rfl, rfl, fun _ => List.contains_iff_mem.2 (mem_insertSorted.2 (.inl rfl))⟩

/-- A corrected read counts and marks its block for rewrite. -/
theorem State.correctedRead_mem (s : State) (a : Nat) :
    (s.correctedRead a).mem.corrected = wrapInc 64 s.mem.corrected
    ∧ (s.correctedRead a).mem.rewrite = insertSorted (blockOf a) s.mem.rewrite := by
  unfold State.correctedRead
  extract_lets _ _ _ marked raised
  have hmem : raised.mem = marked.mem := State.raise_mem _ _
  split
  · obtain ⟨copies, hcopies⟩ := State.retireGranule_mem raised (granuleOf a)
    rw [hcopies, hmem]
    exact ⟨rfl, rfl⟩
  · rw [hmem]
    exact ⟨rfl, rfl⟩

/-- Firmware, the scrubber and a partial write only meet the error. -/
theorem exec_uncorrectableRead {s : State} {a : Nat} (ha : a < devSize) {who : Reader}
    (hwho : who = .firmware ∨ who = .scrubber ∨ who = .partialWrite) :
    exec (.uncorrectableRead who a false) s = .next (s.meetError a false) := by
  have hin : ¬devSize ≤ a := Nat.not_le.2 ha
  rcases hwho with rfl | rfl | rfl <;> exact congrArg Host.Outcome.next (if_neg hin)

theorem exec_uncorrectableRead_bar2 {s : State} {a : Nat} (ha : a < devSize) :
    exec (.uncorrectableRead .bar2 a false) s = .next { s.meetError a false with bus := [], busEp := true } :=
  congrArg Host.Outcome.next (if_neg (Nat.not_le.2 ha))

theorem exec_scrubPass_corrected {s : State} {a : Nat} (ha : a < devSize) :
    exec (.scrubPass [.corrected a]) s = .next (s.correctedRead a) :=
  congrArg Host.Outcome.next (if_pos ha)

theorem exec_scrubPass_uncorrectable {s : State} {a : Nat} (ha : a < devSize) :
    exec (.scrubPass [.uncorrectable a]) s = .next (s.meetError a false) :=
  congrArg Host.Outcome.next (if_pos ha)

/-- A marked block is written back: its mark goes, and the time of the rewrite is noted. -/
def State.rewriteBlock (s : State) (b : Nat) : State :=
  { s with mem := { s.mem with
    rewrite := s.mem.rewrite.filter (fun x => x != b), rewritten := s.mem.rewritten.filter (fun p => p.1 != b) ++ [(b, s.now)] } }

theorem exec_correctedRewrite {s : State} {a : Nat} (ha : a < devSize) (hmarked : s.mem.rewrite.contains (blockOf a) = true) :
    exec (.correctedRewrite a) s = .next (s.rewriteBlock (blockOf a)) := by
  show Host.Outcome.next (if devSize ≤ a then s
    else (if s.mem.rewrite.contains (blockOf a) = true then s else s.correctedRead a).rewriteBlock (blockOf a)) = _
  rw [if_neg (Nat.not_le.2 ha), if_pos hmarked]

theorem State.rewriteBlock_contains (s : State) (b c : Nat) :
    (s.rewriteBlock b).mem.rewrite.contains c = (s.mem.rewrite.contains c && c != b) := by
  rw [Bool.eq_iff_iff]
  simp [State.rewriteBlock]

theorem State.rewriteBlock_rewrittenAt (s : State) (b : Nat) : (s.rewriteBlock b).rewrittenAt b = some s.now := by
  have hnone : (s.mem.rewritten.filter (fun p => p.1 != b)).find? (fun p => p.1 == b) = none := by simp
  simp [State.rewrittenAt, State.rewriteBlock, List.find?_append, hnone]

/-- The state in which the oldest copy has ended: its granule is in the remap table under its spare, and in the list of retired
granules. -/
def State.endCopy (s : State) (c : Copying) (rest : List Copying) : State :=
  { s with mem := { s.mem with copying := rest },
           health := { s.health with remap := Tbl.set s.health.remap c.spare c.granule, retiredSeq := s.health.retiredSeq ++ [c.granule] } }

theorem exec_granuleRemap {s : State} {c : Copying} {rest : List Copying} (hcopy : s.mem.copying = c :: rest) (hup : s.coreUp 1 = true) :
    exec .granuleRemap s = .next ((((s.endCopy c rest).raise .memGranuleRetired).noteReplacement).healthDue) := by
  show execGranuleRemap s = _
  unfold execGranuleRemap
  rw [hcopy]
  dsimp only
  rw [hup]
  rfl

/-- Settles O20: an error by its reader, a pass of the scrubber by what it finds, a rewrite, and the end of a copy. -/
theorem memoryErrorsAreKept : Obligations.MemoryErrorsAreKept := by
  intro s a
  obtain ⟨huncorr, hlast, hpoisoned⟩ := s.meetError_mem a
  have hdev := s.meetError_dev a false
  have hhost := s.meetError_host a false
  refine ⟨fun ha who hwho => ?reader, fun ha => ?bar2, ⟨s, rfl, rfl⟩, fun ha => ?corrected, fun ha => ?uncorrectable,
    fun ha hmarked => ?rewrite, fun c rest hcopy hup => ?remap⟩
  case reader => exact ⟨_, exec_uncorrectableRead ha hwho, huncorr, hlast, hpoisoned, hdev, hhost⟩
  case bar2 => exact ⟨_, exec_uncorrectableRead_bar2 ha, rfl, rfl, huncorr, hlast, hdev, hhost⟩
  case corrected =>
    obtain ⟨hcount, hmark⟩ := s.correctedRead_mem a
    exact ⟨_, exec_scrubPass_corrected ha, hcount, hmark ▸ List.contains_iff_mem.2 (mem_insertSorted.2 (.inl rfl)),
      (State.correctedRead_kept (.refl s)).dev_eq, (State.correctedRead_kept (.refl s)).host_eq⟩
  case uncorrectable => exact ⟨_, exec_scrubPass_uncorrectable ha, huncorr, hlast, hdev, hhost⟩
  case rewrite =>
    refine ⟨_, exec_correctedRewrite ha hmarked, ?_, s.rewriteBlock_rewrittenAt _, fun b hb => ?_, rfl, rfl⟩
    · rw [State.rewriteBlock_contains, bne_self_eq_false, Bool.and_false]
    · rw [State.rewriteBlock_contains, bne_iff_ne.2 hb, Bool.and_true]
  case remap =>
    have hmem : ((((s.endCopy c rest).raise .memGranuleRetired).noteReplacement).healthDue).mem = (s.endCopy c rest).mem :=
      (State.noteReplacement_mem _).trans (State.raise_mem _ _)
    have hhealth : (((s.endCopy c rest).raise .memGranuleRetired).noteReplacement).health = (s.endCopy c rest).health :=
      (State.noteReplacement_health _).trans (State.raise_health _ _)
    have hexec := exec_granuleRemap hcopy hup
    exact ⟨_, hexec, congrArg Mem.copying hmem, (congrArg (fun h => Tbl.find? h.remap c.spare) hhealth).trans (Tbl.find?_set_self _ _ _),
      congrArg Health.retiredSeq hhealth, Kept.dev_eq ((execGranuleRemap_kept (.refl s)).out _ hexec),
      Kept.host_eq ((execGranuleRemap_kept (.refl s)).out _ hexec)⟩

end Sys2Proof.Machine
end

section
/-!
PROOFS. The reference clock (R437), configuration writes (R211, R383, R411), and the faults and restarts of the management cores (R24).
-/

namespace Sys2Proof.Machine

/-! ## REF25 and the configuration space (R211, R383, R411, R437) -/

theorem exec_refClockLost {s : State} (h : s.sys.refLost = false) :
    exec .refClockLost s = .next (State.raise { s with sys := { s.sys with refLost := true } } .refClockLost) :=
  congrArg Host.Outcome.next (if_neg (Bool.eq_false_iff.1 h))

theorem exec_refClockRestored {s : State} (h : s.sys.refLost = true) :
    exec .refClockRestored s = .next (State.raise { s with sys := { s.sys with refLost := false } } .refClockRestored) :=
  congrArg Host.Outcome.next (if_pos h)

/-- The state after a configuration write that reaches the device. -/
def State.configured (s : State) (f : Fn) (w : CfgWrite) : State :=
  match w with
  | .msixEnable b => s.setFnCfg f { s.fnCfg f with msixEnable := b }
  | .functionMask b => s.setFnCfg f { s.fnCfg f with fnMask := b }
  | .busMaster b => s.setFnCfg f { s.fnCfg f with busMaster := b }
  | .relaxedOrdering b => s.setFnCfg f { s.fnCfg f with relaxed := b }
  | .power b => s.setFnCfg f { s.fnCfg f with d0 := b }
  | .bar2Size n => if f = .pf0 ∧ 28 ≤ n ∧ n ≤ 35 then { s with evc := { s.evc with bar2Log2 := n } } else s

theorem exec_configurationWrite {s : State} (hmode : s.sys.mode ≠ .reset) (hpcie : s.sys.pcieReset = false) (hfw : s.sys.fwReady = true)
    (f : Fn) (w : CfgWrite) : exec (.configurationWrite f w) s = .next (s.configured f w) := by
  have hup : ¬(!(s.sys.mode != .reset && !s.sys.pcieReset && (s.sys.fwReady || (f == .pf0 && s.boot.bootFault != 0)))) = true := by
    simp [hmode, hpcie, hfw]
  cases w <;> exact congrArg Host.Outcome.next (if_neg hup)

theorem State.configured_bar2Size (s : State) {n : Nat} (hlo : 28 ≤ n) (hhi : n ≤ 35) :
    s.configured .pf0 (.bar2Size n) = { s with evc := { s.evc with bar2Log2 := n } } :=
  if_pos ⟨rfl, hlo, hhi⟩

/-! ## Faults and restarts of the management cores (R24) -/

theorem State.core_setCore_self (s : State) (c : Fin 2) (x : Core) : (s.setCore c x).core c = x := by
  match c with
  | 0 => rfl
  | 1 => rfl

theorem State.core_setCore_other (s : State) (c : Fin 2) (x : Core) : (s.setCore c x).core (1 - c.val) = s.core (1 - c.val) := by
  match c with
  | 0 => rfl
  | 1 => rfl

/-- Both cores are retired when one is and the other is. -/
theorem State.bothCoresRetired_eq (s : State) (c : Fin 2) :
    s.bothCoresRetired = ((s.core c).retired && (s.core (1 - c.val)).retired) := by
  match c with
  | 0 => rfl
  | 1 => exact Bool.and_comm _ _

theorem Core.noteFault_first {x : Core} (h : x.faults = []) (now : Nat) : x.noteFault now = [now] := by
  unfold Core.noteFault; rw [h]

/-- A third fault within 10 s of the first joins the window of the two. -/
theorem Core.noteFault_third {x : Core} {a b now : Nat} (h : x.faults = [a, b]) (hnow : now ≤ a + 10000000000) :
    x.noteFault now = [a, b, now] := by
  unfold Core.noteFault
  rw [h]
  exact if_pos hnow

/-- The state in which a fault has been counted: the pair is held in reset, and MGMT_CORE_FAULT is raised. -/
def State.faultCore (s : State) (c : Nat) (l : List Nat) (gone : Bool) : State :=
  (s.setCore c { inReset := true, retired := gone, faults := l }).raise .mgmtCoreFault

theorem State.faultCore_core (s : State) (c : Fin 2) (l : List Nat) (gone : Bool) :
    (s.faultCore c l gone).core c = { inReset := true, retired := gone, faults := l }
    ∧ (s.faultCore c l gone).core (1 - c.val) = s.core (1 - c.val) := by
  have hcores : ∀ j, (s.faultCore c l gone).core j = (s.setCore c { inReset := true, retired := gone, faults := l }).core j :=
    State.core_of_cores (Kept.cores_eq (State.raise_kept (.refl _)))
  exact ⟨(hcores c).trans (s.core_setCore_self c _), (hcores _).trans (s.core_setCore_other c _)⟩

section
variable {s : State} {c : Fin 2} (hmode : s.sys.mode ≠ .reset) (hret : (s.core c).retired = false) (hreset : (s.core c).inReset = false)
include hmode hret hreset

/-- A fault of a pair in service: the third in its window retires it, and then the other pair takes up the work or the firmware ends. -/
theorem exec_lockstepFault {l : List Nat} {gone : Bool} (hl : (s.core c).noteFault s.now = l) (hgone : decide (3 ≤ l.length) = gone) :
    exec (.lockstepFault c) s = .next (if (!gone) = true then s.faultCore c l gone
      else if (s.faultCore c l gone).noteConditions.bothCoresRetired = true then (s.faultCore c l gone).noteConditions.closeFirmware
      else (s.faultCore c l gone).noteConditions.rerun c) := by
  subst hl hgone
  exact congrArg Host.Outcome.next (if_neg (by simp [hmode, hret, hreset]))

/-- The third fault in its window, with the other pair in service. -/
theorem exec_lockstepFault_retires {l : List Nat} (hl : (s.core c).noteFault s.now = l) (hmany : decide (3 ≤ l.length) = true)
    (hother : (s.core (1 - c.val)).retired = false) :
    exec (.lockstepFault c) s = .next ((s.faultCore c l true).noteConditions.rerun c) := by
  have hboth : (s.faultCore c l true).noteConditions.bothCoresRetired = false := by
    have hcores := State.core_of_cores (Kept.cores_eq (State.noteConditions_kept (.refl (s.faultCore c l true))))
    rw [State.bothCoresRetired_eq _ c, hcores, hcores, (s.faultCore_core c l true).2, hother, Bool.and_false]
  exact (exec_lockstepFault hmode hret hreset hl hmany).trans (congrArg Host.Outcome.next (if_neg (Bool.eq_false_iff.1 hboth)))
end

theorem exec_coreRestartDone {s : State} {c : Fin 2} (hret : (s.core c).retired = false) (hreset : (s.core c).inReset = true) :
    exec (.coreRestartDone c) s = .next ((s.setCore c { s.core c with inReset := false }).rerun c) :=
  congrArg Host.Outcome.next (if_neg (by simp [hret, hreset]))

/-- Settles O27: REF25 lost and restored, a configuration write by its field, and a pair's faults and restart. -/
theorem clocksCoresAndConfiguration : Obligations.ClocksCoresAndConfiguration := by
  refine ⟨fun s => ⟨fun h => ?lost, fun h => ?restored, fun f b hmode hpcie hfw => ?config⟩, fun s c => ?cores⟩
  case lost => exact ⟨_, exec_refClockLost h, State.raise_sys _ _, State.raise_mem _ _, State.raise_que _ _⟩
  case restored => exact ⟨_, exec_refClockRestored h, State.raise_sys _ _, State.raise_mem _ _, State.raise_que _ _⟩
  case config =>
    have hexec := exec_configurationWrite hmode hpcie hfw
    refine ⟨⟨_, hexec f _, rfl⟩, ⟨_, hexec f _, rfl⟩, ⟨_, hexec f _, rfl⟩, ⟨_, hexec f _, rfl⟩,
      fun n hlo hhi => ⟨_, hexec .pf0 _, ?_⟩⟩
    rw [s.configured_bar2Size hlo hhi]
    exact ⟨rfl, rfl⟩
  case cores =>
    refine ⟨fun hmode hret hreset hfaults => ?first, fun a b hmode hret hreset hfaults hnow hother => ?third,
      fun hret hreset => ?restart⟩
    case first =>
      obtain ⟨hself, hother⟩ := s.faultCore_core c [s.now] false
      exact ⟨s.faultCore c [s.now] false, exec_lockstepFault hmode hret hreset (Core.noteFault_first hfaults _) rfl, hself, hother,
        State.raise_mem _ _, State.raise_que _ _, State.raise_heads _ _⟩
    case third =>
      obtain ⟨hself, hrest⟩ := s.faultCore_core c [a, b, s.now] true
      have hcores := State.core_of_cores (Kept.cores_eq
        (State.rerun_kept (a1 := c) (State.noteConditions_kept (.refl (s.faultCore c [a, b, s.now] true)))))
      exact ⟨_, exec_lockstepFault_retires hmode hret hreset (Core.noteFault_third hfaults hnow) rfl hother,
        (hcores c).trans hself, (hcores _).trans hrest,
        (State.rerun_kept (State.noteConditions_kept (State.raise_kept (.refl _)))).heads_eq⟩
    case restart =>
      have hcores := State.core_of_cores (Kept.cores_eq
        (State.rerun_kept (a1 := c) (.refl (s.setCore c { s.core c with inReset := false }))))
      exact ⟨_, exec_coreRestartDone hret hreset, (hcores c).trans (s.core_setCore_self c _), (hcores _).trans (s.core_setCore_other c _),
        (State.rerun_kept (.refl _)).mem_eq, (State.rerun_kept (.refl _)).heads_eq⟩

end Sys2Proof.Machine
end

section
/-!
PROOFS. Queues: the common opcodes and retirement (R236, R244 to R248), the doorbell page (R241 to R243, R246), enabling, stopping,
restarting, the halting fields and the reset of a function (R234, R249 to R251, R387), and the read of an entry (R237, R240, R241).
-/

namespace Sys2Proof.Machine

/-! ## A ring is changed and its state brought up to date -/

/-- After a change of ring `q` that settles: the ring has settled, and no other ring and no byte of memory changed. -/
theorem State.modRing_settleRing (s : State) (q : Nat) (f : Ring → Ring) :
    ((s.modRing q f).settleRing q).ring q = (f (s.ring q)).settle ∧ s.otherRings ((s.modRing q f).settleRing q) q
      ∧ ((s.modRing q f).settleRing q).mem = s.mem :=
  ⟨by simp, State.otherRings_trans (s.otherRings_modRing q f) (State.otherRings_settleRing _ q), State.mem_settleRing _ q⟩

theorem State.otherRings_queueLevels (s : State) (q : Nat) : s.otherRings s.queueLevels q :=
  State.otherRings_of_que s.queueLevels_que

theorem State.otherRings_modRing_queueLevels (s : State) (q : Nat) (f : Ring → Ring) : s.otherRings (s.modRing q f).queueLevels q :=
  State.otherRings_trans (s.otherRings_modRing q f) (State.otherRings_queueLevels _ q)

/-- After a change of ring `q` whose state is what the change says. -/
theorem State.modRing_queueLevels (s : State) (q : Nat) (f : Ring → Ring) :
    (s.modRing q f).queueLevels.ring q = f (s.ring q) ∧ s.otherRings (s.modRing q f).queueLevels q
      ∧ (s.modRing q f).queueLevels.mem = s.mem :=
  ⟨by simp, s.otherRings_modRing_queueLevels q f, State.mem_queueLevels _⟩

theorem Ring.settle_head (r : Ring) : r.settle.head = r.head := by simp [Ring.settle_fields]

/-- A ring that is not enabled and has nothing in hand is DISABLED. -/
theorem Ring.settle_disabled {r : Ring} (henable : r.enable = false) (hinflight : r.inflight = []) (hsump : r.sump = []) :
    r.settle.state = .disabled := by
  unfold Ring.settle
  rw [if_neg (by simp [henable, hinflight, hsump]), if_pos (by simp [henable, hinflight, hsump])]

/-! ## PAD and NOP (R236) -/

theorem exec_pad {s : State} {q : Fin 256} {e : Exec} (h : s.running? q 0x00 = some e) :
    exec (.pad q) s = .next (s.finishAt q e.pos .ok 0) := by
  show execPad q s = _
  unfold execPad
  rw [h]

theorem exec_nop {s : State} {q : Fin 256} {e : Exec} (h : s.running? q 0x01 = some e) :
    exec (.nop q) s = .next (s.finishAt q e.pos .ok 0) := by
  show execNop q s = _
  unfold execNop
  rw [h]

/-! ## Retirement and the Sump (R244, R245, R247, R248) -/

/-- The registers of a ring after a completion record: the producer index has moved on, and RETIRED has counted. -/
def Ring.recorded (r : Ring) : Ring :=
  { r with prodIdx := if r.prodIdx + 1 = r.cqSize then 0 else r.prodIdx + 1,
           prodWrap := if r.prodIdx + 1 = r.cqSize then !r.prodWrap else r.prodWrap,
           retiredN := wrapInc 32 r.retiredN }

/-- What a write leaves in memory does not depend on the rings. -/
theorem State.busWrite_modRing_mem (s : State) (q : Nat) (f : Ring → Ring) (a : Nat) (l : List Byte) :
    ((s.modRing q f).busWrite a l).mem = (s.busWrite a l).mem :=
  State.busWrite_mem_congr (s := s) (t := s.modRing q f) rfl rfl a l

theorem State.busWrite_busWrite_modRing_mem (s : State) (q : Nat) (f : Ring → Ring) (a b : Nat) (l m : List Byte) :
    (((s.modRing q f).busWrite a l).busWrite b m).mem = ((s.busWrite a l).busWrite b m).mem := by
  have hhealth : ∀ t : State, (t.busWrite a l).health = t.health := fun t => (State.busWrite_kept (.refl t)).health_eq
  exact State.busWrite_mem_congr (s.busWrite_modRing_mem q f a l) ((hhealth _).trans (hhealth s).symm) b m

/-- The oldest entry of a ring whose records all have space retires. -/
theorem exec_entryRetire {s : State} {q : Fin 256} {e : Exec} {rest : List Exec} {st : Status} {res : Nat} (wr : RetireWrites)
    (hcls : (s.ring q).force.cls ≠ ringSiphon) (hfull : (s.ring q).cqFull = false) (hinflight : (s.ring q).inflight = e :: rest)
    (hphase : e.phase = .finished st res) (hsump : (s.ring q).sump = []) :
    exec (.entryRetire q wr) s = .next ((((s.modRing q (fun r => { r with inflight := rest })).retireRecord q (e.record st res) false
      wr).1).settleRing q) := by
  show execEntryRetire q wr s = _
  simp only [execEntryRetire, hcls, hfull, hinflight, hphase, hsump, List.isEmpty_nil, Bool.not_true, Bool.false_and, Bool.or_self,
    Bool.false_eq_true, ↓reduceIte]

/-- A finished entry whose header and record are written leaves its ring. -/
theorem exec_entryRetire_ok {s : State} {q : Fin 256} {e : Exec} {rest : List Exec} {st : Status} {res : Nat}
    (hcls : (s.ring q).force.cls ≠ ringSiphon) (hfull : (s.ring q).cqFull = false) (hinflight : (s.ring q).inflight = e :: rest)
    (hphase : e.phase = .finished st res) (hop : e.opcode ≠ 0) (hsump : (s.ring q).sump = [])
    (hhdr : s.granted (fnCls (s.ring q).force.owner) true ((s.ring q).force.sqBase + 16 * e.pos) 4 = true)
    (hrec : s.granted (fnCls (s.ring q).force.owner) true ((s.ring q).force.cqBase + 16 * (s.ring q).prodIdx) 16 = true) :
    ∃ t, exec (.entryRetire q .ok) s = .next t ∧
      t.ring q = Ring.settle { (s.ring q).recorded with inflight := rest }
      ∧ t.mem = ((s.busWrite ((s.ring q).force.sqBase + 16 * e.pos) (leBytes 4 (withBit (getLE e.body 0 4) 31 false))).busWrite
          ((s.ring q).force.cqBase + 16 * (s.ring q).prodIdx) ((e.record st res).bytes (!(s.ring q).prodWrap) false)).mem
      ∧ s.otherRings t q := by
  have hnoRec : (e.record st res).noRec = false := beq_false_of_ne hop
  obtain ⟨t, hretire, hring, hmem, hother⟩ := State.retireRecord_ok (s := s.modRing q (fun r => { r with inflight := rest }))
    (q := q) (x := e.record st res) (sumped := false) hnoRec (.inr (by simpa [Exec.record] using hhdr)) (by simpa using hrec)
  refine ⟨t.settleRing q, ?exec, ?ring, ?mem, ?other⟩
  case exec => rw [exec_entryRetire .ok hcls hfull hinflight hphase hsump, hretire]
  case ring => rw [State.ring_settleRing_self, hring, State.ring_modRing_self]; rfl
  case mem =>
    rw [State.mem_settleRing, hmem, State.ring_modRing_self, if_neg (show ¬(e.record st res).hdrDone = true from Bool.false_ne_true)]
    exact s.busWrite_busWrite_modRing_mem q _ _ _ _ _
  case other =>
    exact State.otherRings_trans (State.otherRings_trans (s.otherRings_modRing q _) hother) (State.otherRings_settleRing t q)

/-- The Sump of a ring that is not HALTED drains, and what it held back enters it. -/
theorem exec_sumpDrain {s : State} {q : Fin 256} (hsump : (s.ring q).sump ≠ []) (hstate : (s.ring q).state ≠ .halted) :
    exec (.sumpDrain q) s
      = .next (((s.drainSump q 64).modRing q (fun r => if r.sump.isEmpty then r else r.fillSump 17)).settleRing q) := by
  show execSumpDrain q s = _
  unfold execSumpDrain
  exact congrArg Host.Outcome.next (if_neg (by simp [hsump, hstate]))

/-- The only record of a Sump retires when the completion ring has space. -/
theorem State.drainSump_single {s : State} {q : Nat} {x : Record} (hsump : (s.ring q).sump = [x]) (hhdr : x.hdrDone = true)
    (hnoRec : x.noRec = false) (hfull : (s.ring q).cqFull = false)
    (hrec : s.granted (fnCls (s.ring q).force.owner) true ((s.ring q).force.cqBase + 16 * (s.ring q).prodIdx) 16 = true) (n : Nat) :
    (s.drainSump q (n + 1)).ring q = { (s.ring q).recorded with sump := [] }
      ∧ (s.drainSump q (n + 1)).mem
        = (s.busWrite ((s.ring q).force.cqBase + 16 * (s.ring q).prodIdx) (x.bytes (!(s.ring q).prodWrap) true)).mem
      ∧ s.otherRings (s.drainSump q (n + 1)) q := by
  obtain ⟨t, hretire, hring, hmem, hother⟩ := State.retireRecord_ok (s := s.modRing q (fun r => { r with sump := [] })) (q := q)
    (sumped := true) hnoRec (.inl hhdr) (by simpa using hrec)
  rw [State.ring_modRing_self] at hring hmem
  have hstep : s.drainSump q (n + 1) = t := by
    rw [State.drainSump]
    simp only [hsump, hfull, Bool.false_and, Bool.false_eq_true, ↓reduceIte, hretire]
    exact State.drainSump_nil (by rw [hring]) n
  rw [hstep]
  refine ⟨hring, ?_, State.otherRings_trans (s.otherRings_modRing q _) hother⟩
  rw [hmem, if_pos hhdr]
  exact s.busWrite_modRing_mem q _ _ _

/-- Settles O1: PAD and NOP finish; a finished entry retires; the record of the Sump is written. -/
theorem entriesFinishAndRetire : Obligations.EntriesFinishAndRetire := by
  refine ⟨fun s q e => ⟨fun h => ?pad, fun h => ?nop⟩, fun s q => ?retire⟩
  case pad =>
    obtain ⟨hfinished, hother⟩ := State.finishAt_running h .ok
    exact ⟨_, exec_pad h, hfinished, rfl, hother⟩
  case nop =>
    obtain ⟨hfinished, hother⟩ := State.finishAt_running h .ok
    exact ⟨_, exec_nop h, hfinished, rfl, hother⟩
  case retire =>
    intro r o c hcls hfull
    refine ⟨fun e rest st res hinflight hphase hop hsump hhdr hrec => ?entry, fun x hsump hinflight hhdr hnoRec hstate hrec => ?sump⟩
    case entry =>
      obtain ⟨t, hexec, hring, hmem, hother⟩ := exec_entryRetire_ok hcls hfull hinflight hphase hop hsump hhdr hrec
      refine ⟨t, hexec, ?_, ?_, ?_, ?_, hmem, hother⟩ <;> rw [hring] <;> simp [Ring.settle_fields, Ring.recorded, r]
    case sump =>
      obtain ⟨hring, hmem, hother⟩ := State.drainSump_single hsump hhdr hnoRec hfull hrec 63
      have hsumpNe : (s.ring q).sump ≠ [] := by rw [hsump]; exact List.cons_ne_nil _ _
      obtain ⟨hsettled, hotherSettled, hmemSettled⟩ :=
        (s.drainSump q 64).modRing_settleRing q (fun r => if r.sump.isEmpty then r else r.fillSump 17)
      rw [hring] at hsettled
      refine ⟨_, exec_sumpDrain hsumpNe hstate, ?_, ?_, ?_, hmemSettled.trans hmem, State.otherRings_trans hother hotherSettled⟩ <;>
        rw [hsettled] <;> simp [Ring.settle_fields, Ring.recorded, r]

/-! ## The doorbell page (R241 to R243, R246) -/

section
variable {s : State} {fn : Fn} {q : Fin 256} (hup : s.hostUp fn = true)
include hup

/-- A doorbell that is taken sets doorbell-pending and makes an IDLE ring run; beside these it moves only the inline units. -/
theorem exec_doorbell (inl pos : Nat) (win : List Byte) (howner : (s.ring q).cfg.owner = fn) (hstate : (s.ring q).state ≠ .disabled) :
    ∃ units reread, exec (.doorbell fn q inl pos win) s = .next (s.setRing q { s.ring q with
      dbPending := true, inline := units, reread := reread,
      state := if (s.ring q).state = .idle then .running else (s.ring q).state }) := by
  show ∃ units reread, execDoorbell fn q inl pos win s = _
  simp only [execDoorbell, hup, howner, bne_self_eq_false, beq_eq_false_iff_ne.2 hstate, Bool.or_self, Bool.not_true,
    Bool.false_eq_true, ↓reduceIte, State.modRing, beq_iff_eq]
  exact ⟨_, _, rfl⟩

/-- The counted and otherwise ignored write of the doorbell page. -/
def State.ignoreDoorbell (s : State) (q : Nat) : State := s.modRing q (fun r => { r with dbIgnored := satInc 16 r.dbIgnored })

theorem exec_doorbell_ignored (inl pos : Nat) (win : List Byte) (h : (s.ring q).cfg.owner ≠ fn ∨ (s.ring q).state = .disabled) :
    exec (.doorbell fn q inl pos win) s = .next (s.ignoreDoorbell q) := by
  show execDoorbell fn q inl pos win s = _
  unfold execDoorbell
  exact congrArg Host.Outcome.next ((if_neg (by simp [hup])).trans (if_pos (by simpa using h)))

theorem exec_cqconsWrite_ignored (i : Nat) (w : Bool) (h : (s.ring q).cfg.owner ≠ fn ∨ (s.ring q).state = .disabled) :
    exec (.cqconsWrite fn q i w) s = .next (s.ignoreDoorbell q) := by
  show execCqconsWrite fn q i w s = _
  unfold execCqconsWrite
  exact congrArg Host.Outcome.next ((if_neg (by simp [hup])).trans (if_pos (by simpa using h)))

/-- A CQCONS that lies between the consumer and the producer is taken. -/
theorem exec_cqconsWrite {i : Nat} {w : Bool} (howner : (s.ring q).cfg.owner = fn) (hstate : (s.ring q).state ≠ .disabled)
    (hsize : i < (s.ring q).cqSize) (hwidth : i < 2 ^ 16) (hsame : (s.ring q).prodWrap = w → i ≤ (s.ring q).prodIdx)
    (hother : (s.ring q).prodWrap ≠ w → (s.ring q).prodIdx ≤ i)
    (hused : cqUsed (s.ring q).cqSize (s.ring q).prodIdx i (s.ring q).prodWrap w ≤ (s.ring q).used) :
    exec (.cqconsWrite fn q i w) s = .next (s.modRing q (fun r => { r with consIdx := i, consWrap := w })) := by
  show execCqconsWrite fn q i w s = _
  unfold execCqconsWrite
  rw [Nat.mod_eq_of_lt hwidth]
  refine congrArg Host.Outcome.next ((if_neg (by simp [hup])).trans ((if_neg (by simp [howner, hstate])).trans (if_neg ?good)))
  case good =>
    simp only [Bool.or_eq_true, Bool.and_eq_true, decide_eq_true_eq, beq_iff_eq, bne_iff_ne, not_or, not_and, Nat.not_le, Nat.not_lt]
    exact ⟨⟨⟨hsize, hsame⟩, hother⟩, hused⟩
end

/-- Settles O2: the owner's doorbell, its CQCONS, and what is ignored. -/
theorem doorbellPage : Obligations.DoorbellPage := by
  intro s fn q inl pos i win w hup
  refine ⟨fun howner hstate => ?doorbell, fun howner hstate hsize hwidth hsame hother hused => ?cqcons, fun h => ?ignored⟩
  case doorbell =>
    obtain ⟨units, reread, hexec⟩ := exec_doorbell hup inl pos win howner hstate
    refine ⟨_, hexec, ?_, ?_, ?_, ?_, rfl, fun j hj => s.ring_setRing_ne _ hj⟩ <;> rw [State.ring_setRing_self]
  case cqcons =>
    exact ⟨_, exec_cqconsWrite hup howner hstate hsize hwidth hsame hother hused, s.ring_modRing_self q _, rfl,
      s.otherRings_modRing q _⟩
  case ignored =>
    exact ⟨_, exec_doorbell_ignored hup inl pos win h, exec_cqconsWrite_ignored hup i w h, s.ring_modRing_self q _, rfl,
      s.otherRings_modRing q _⟩

/-! ## Enabling, disabling and stopping a ring (R234, R250) -/

/-- The registers of a ring that an enable has taken into force. -/
def Ring.enabled (r : Ring) : Ring :=
  { r with enFault := false, enable := true, force := r.cfg, head := 0, prodIdx := 0, prodWrap := false, consIdx := 0,
           consWrap := false, state := if r.stop then .stopped else .idle, byField := false, reread := false, inline := [],
           dbPending := false, sump := [], inflight := [] }

/-- The registers of a ring whose configuration fails at the enable. -/
def Ring.enableFailed (r : Ring) (st : Status) : Ring := { r with haltCode := st.code, enFault := true }

/-- The configuration of a DISABLED ring passes. -/
theorem State.enableRing_passes {s : State} {q : Nat} (henable : (s.ring q).enable = false) (hstate : (s.ring q).state = .disabled)
    (hcheck : s.enableCheck (s.ring q).cfg = none) :
    (s.enableRing q).ring q = (s.ring q).enabled ∧ s.otherRings (s.enableRing q) q ∧ (s.enableRing q).mem = s.mem := by
  unfold State.enableRing
  simp only [henable, hstate, State.enableCheck_modRing, hcheck, bne_self_eq_false, Bool.false_eq_true, ↓reduceIte]
  refine ⟨?_, State.otherRings_trans (s.otherRings_modRing q _) (State.otherRings_modRing_queueLevels _ q _), ?_⟩
  · simp [Ring.enabled]
  · simp

/-- The configuration of a DISABLED ring fails. -/
theorem State.enableRing_fails {s : State} {q : Nat} {st : Status} (henable : (s.ring q).enable = false)
    (hstate : (s.ring q).state = .disabled) (hcheck : s.enableCheck (s.ring q).cfg = some st) :
    (s.enableRing q).ring q = (s.ring q).enableFailed st ∧ s.otherRings (s.enableRing q) q := by
  unfold State.enableRing
  simp only [henable, hstate, State.enableCheck_modRing, hcheck, bne_self_eq_false, Bool.false_eq_true, ↓reduceIte]
  have hcounted : ∀ t : State, t.otherRings (if st = .bounds then t.countBounds else t) q := fun t j _ => by split <;> rfl
  refine ⟨?_, State.otherRings_trans (State.otherRings_trans (s.otherRings_modRing q _) (hcounted _)) (State.otherRings_modRing_queueLevels _ q _)⟩
  split <;> simp [Ring.enableFailed]

section
variable {s : State} {fn : Fn} {q : Fin 256} (hup : s.hostUp fn = true) (hreach : s.ringReach fn q = true)
include hup hreach

theorem exec_ringEnable : exec (.ringEnable fn q) s = .next (s.ringEnable q) :=
  congrArg Host.Outcome.next ((if_neg (by simp [hup])).trans (if_neg (by simp [hreach])))

variable (hparity : s.sys.parityBad = [])
include hparity

theorem exec_ringDisable :
    exec (.ringDisable fn q) s = .next ((s.modRing q (fun r => { r with enable := false, enFault := false })).settleRing q) := by
  show execRingDisable fn q s = _
  simp [execRingDisable, hup, hreach, State.fixParity_of_nil hparity]

theorem exec_ringStop (hstate : (s.ring q).state ≠ .disabled) :
    exec (.ringStop fn q) s = .next ((s.modRing q (fun r => { r with stop := true })).settleRing q) := by
  show execRingStop fn q s = _
  simp [execRingStop, hup, hreach, State.fixParity_of_nil hparity, hstate]

theorem exec_ringResume (hstop : (s.ring q).stop = true) (hstate : (s.ring q).state ≠ .disabled) :
    exec (.ringResume fn q) s = .next (((s.modRing q (fun r => { r with stop := false })).modRing q
      (fun r => { r with dbPending := true, reread := true, inline := [] })).settleRing q) := by
  show execRingResume fn q s = _
  simp [execRingResume, hup, hreach, State.fixParity_of_nil hparity, hstop, hstate]

theorem exec_restart : exec (.restart fn q) s = .next (s.ringRestart q) := by
  show execRestart fn q s = _
  simp [execRestart, hup, hreach, State.fixParity_of_nil hparity]

theorem exec_haltingFieldWrite_ringSqBase (v : Nat) :
    exec (.haltingFieldWrite fn (.ringSqBase q) v) s
      = .next ((s.haltByField q).modRing q (fun r => { r with cfg := { r.cfg with sqBase := v % 2 ^ 64 }, enFault := false })).queueLevels := by
  show execHaltingFieldWrite fn (.ringSqBase q) v s = _
  simp [execHaltingFieldWrite, hup, hreach, State.writeRingField, State.fixParity_of_nil hparity]
end

/-- A ring that an enable has taken into force: its channel starts with it, which no ring shows. -/
theorem State.ringEnable_passes {s : State} {q : Nat} (hparity : s.sys.parityBad = []) (hchan : s.refusedChannel q = false)
    (henable : (s.ring q).enable = false) (hstate : (s.ring q).state = .disabled) (hcheck : s.enableCheck (s.ring q).cfg = none) :
    (s.ringEnable q).ring q = (s.ring q).enabled ∧ s.otherRings (s.ringEnable q) q ∧ (s.ringEnable q).mem = s.mem := by
  obtain ⟨hring, hother, hmem⟩ := State.enableRing_passes henable hstate hcheck
  have heq : s.ringEnable q = (s.enableRing q).startChannel q := by
    unfold State.ringEnable
    rw [State.fixParity_of_nil hparity]
    simp [hchan, hstate, hring, Ring.enabled]
  obtain ⟨hque, hmemStart⟩ := (s.enableRing q).startChannel_frame q
  rw [heq]
  exact ⟨(State.ring_of_que hque q).trans hring, State.otherRings_trans hother (State.otherRings_of_que hque), hmemStart.trans hmem⟩

theorem State.ringEnable_fails {s : State} {q : Nat} {st : Status} (hparity : s.sys.parityBad = []) (hchan : s.refusedChannel q = false)
    (henable : (s.ring q).enable = false) (hstate : (s.ring q).state = .disabled) (hcheck : s.enableCheck (s.ring q).cfg = some st) :
    (s.ringEnable q).ring q = (s.ring q).enableFailed st ∧ s.otherRings (s.ringEnable q) q := by
  obtain ⟨hring, hother⟩ := State.enableRing_fails henable hstate hcheck
  have heq : s.ringEnable q = s.enableRing q := by
    unfold State.ringEnable
    rw [State.fixParity_of_nil hparity]
    simp [hchan, hring, Ring.enableFailed, henable]
  rw [heq]
  exact ⟨hring, hother⟩

/-! ## RESTART and the halting fields (R249, R250, R387) -/

/-- RESTART of a HALTED ring of a class other than SIPHON. -/
theorem State.ringRestart_eq {s : State} {q : Nat} (hparity : s.sys.parityBad = []) (hchan : s.refusedChannel q = false)
    (hstate : (s.ring q).state = .halted) (hfield : (s.ring q).byField = false) (hcls : (s.ring q).force.cls ≠ ringSiphon) :
    s.ringRestart q = s.restartRing q := by
  unfold State.ringRestart State.ringParity
  simp [hparity, hchan, hstate, hfield, hcls]

/-- With no record waiting a ring that resumes reads HEAD again. -/
theorem State.restartRing_of_no_record {s : State} {q : Nat} (hsump : (s.ring q).sump = []) :
    (s.restartRing q).ring q
        = Ring.settle { s.ring q with state := .running, inline := [], dbPending := true, reread := true }
      ∧ s.otherRings (s.restartRing q) q ∧ (s.restartRing q).mem = s.mem := by
  unfold State.restartRing
  dsimp only
  rw [State.drainSump_nil (by simpa using hsump), if_neg (by simp)]
  obtain ⟨hring, hother, hmem⟩ := State.modRing_settleRing
    (s.modRing q (fun r => { r with state := .running, inline := [], dbPending := true, reread := true })) q
    (fun r => if r.sump.isEmpty then r else r.fillSump 17)
  refine ⟨hring.trans ?_, State.otherRings_trans (s.otherRings_modRing q _) hother, hmem⟩
  rw [State.ring_modRing_self, if_pos (by simp [hsump])]

/-- A write of a halting field leaves what is in force, and halts an enabled ring that was not HALTED with STATE at its HEAD. -/
theorem State.haltByField_ring (s : State) (q : Nat) :
    (s.haltByField q).ring q = (if (s.ring q).enable = true ∧ (s.ring q).state ≠ .halted then
      { s.ring q with state := .halted, haltCode := Status.state.code, haltPos := (s.ring q).head, inline := [], reread := true,
                      byField := true } else s.ring q) := by
  unfold State.haltByField State.haltRing
  dsimp only
  by_cases h : (s.ring q).enable = true ∧ (s.ring q).state ≠ .halted
  · rw [if_pos h, if_pos (by simp [h])]; simp
  · rw [if_neg h, if_neg (by simpa using h)]

theorem State.haltByField_frame (s : State) (q : Nat) : s.otherRings (s.haltByField q) q ∧ (s.haltByField q).mem = s.mem := by
  unfold State.haltByField State.haltRing
  dsimp only
  split
  · obtain ⟨-, hother, hmem⟩ := s.modRing_queueLevels q (fun r => { r with
      state := .halted, haltCode := Status.state.code, haltPos := (s.ring q).head, inline := [], reread := true })
    exact ⟨State.otherRings_trans hother (State.otherRings_modRing _ q _), hmem⟩
  · exact ⟨fun _ _ => rfl, rfl⟩

/-! ## The reset of a function (R251) -/

theorem exec_functionLevelReset {s : State} (fn : Fn) (hmode : s.sys.mode ≠ .reset) (hpcie : s.sys.pcieReset = false)
    (hfw : s.sys.fwReady = true) : exec (.functionLevelReset fn) s = .next (s.resetFunction fn) :=
  congrArg Host.Outcome.next (if_neg (by simp [hmode, hpcie, hfw]))

/-- The ring is DISABLED with nothing in hand. -/
def Ring.Cleared (r : Ring) : Prop := r.state = .disabled ∧ r.enable = false ∧ r.inflight = [] ∧ r.sump = []

theorem Ring.cleared_reset (q : Nat) : (Ring.reset q).Cleared := ⟨rfl, rfl, rfl, rfl⟩

theorem Ring.cleared_resetKeeping (r : Ring) (q : Nat) : (r.resetKeeping q).Cleared := ⟨rfl, rfl, rfl, rfl⟩

/-- The reset of one listed ring: its work stops and its registers return to their reset values. -/
def State.clearRing (s : State) (p : Nat × Ring) : State := (s.stopRing p.1).setRing p.1 (p.2.resetKeeping p.1)

theorem State.cleared_clearRing (s : State) (p : Nat × Ring) {q : Nat} (h : q = p.1 ∨ (s.ring q).Cleared) :
    ((s.clearRing p).ring q).Cleared := by
  unfold State.clearRing
  by_cases hq : q = p.1
  · subst hq; rw [State.ring_setRing_self]; exact Ring.cleared_resetKeeping _ _
  · rw [State.ring_setRing_ne _ _ hq, State.ring_of_que (State.stopRing_kept (.refl s)).que_eq]
    exact h.resolve_left hq

/-- Every listed ring is cleared, and one that was cleared stays so. -/
theorem State.cleared_forEach_clearRing {q : Nat} {l : List (Nat × Ring)} {s : State} (h : (∃ p ∈ l, q = p.1) ∨ (s.ring q).Cleared) :
    ((s.forEach l State.clearRing).ring q).Cleared := by
  unfold State.forEach
  induction l generalizing s with
  | nil => exact h.resolve_left (fun ⟨_, hp, _⟩ => List.not_mem_nil hp)
  | cons a l ih =>
    refine ih ?_
    rcases h with ⟨p, hp, hq⟩ | h
    · rcases List.mem_cons.1 hp with rfl | hp
      · exact .inr (s.cleared_clearRing p (.inl hq))
      · exact .inl ⟨p, hp, hq⟩
    · exact .inr (s.cleared_clearRing a (.inr h))

/-- A ring is listed, or it reads as its reset value. -/
theorem State.ring_listed_or_reset (s : State) (q : Nat) : (q, s.ring q) ∈ s.que.rings ∨ s.ring q = Ring.reset q := by
  unfold State.ring Tbl.get
  induction s.que.rings with
  | nil => exact .inr rfl
  | cons p l ih =>
    obtain ⟨j, r⟩ := p
    unfold Tbl.find?
    split
    · next hj => subst hj; exact .inl List.mem_cons_self
    · exact ih.imp_left (List.mem_cons_of_mem _)

/-- The rings after the reset of a function are those after the clearing of each ring it owns. -/
theorem State.resetFunction_que (s : State) (fn : Fn) :
    (s.resetFunction fn).que = (s.forEach (s.que.rings.filter (fun p => p.2.cfg.owner == fn)) State.clearRing).que := by
  unfold State.resetFunction
  dsimp only
  refine (State.reorder_kept (.refl _)).que_eq.trans ((State.queueLevels_que _).trans ?_)
  cases fn <;> rfl

theorem State.resetFunction_cleared {s : State} {fn : Fn} {q : Nat} (h : (s.ring q).cfg.owner = fn) :
    ((s.resetFunction fn).ring q).Cleared := by
  rw [State.ring_of_que (s.resetFunction_que fn)]
  refine State.cleared_forEach_clearRing ?_
  rcases s.ring_listed_or_reset q with hlisted | hreset
  · exact .inl ⟨_, List.mem_filter.2 ⟨hlisted, by simp [h]⟩, rfl⟩
  · exact .inr (hreset ▸ Ring.cleared_reset q)

theorem State.fnCfg_setFnCfg_self (s : State) (fn : Fn) (x : FnCfg) : (s.setFnCfg fn x).fnCfg fn = x := by
  cases fn <;> rfl

/-- The event path leaves the configuration spaces. -/
theorem State.fnCfg_of_evRest {s t : State} (h : s.evRest t) (fn : Fn) : t.fnCfg fn = s.fnCfg fn := by
  obtain ⟨hpf0, hpf1, -⟩ := h
  cases fn
  · exact hpf0
  · exact hpf1

theorem State.resetFunction_fnCfg (s : State) (fn : Fn) : (s.resetFunction fn).fnCfg fn = FnCfg.reset := by
  unfold State.resetFunction
  dsimp only
  refine (State.fnCfg_of_evRest (State.evRest_reorder _) fn).trans ((State.fnCfg_of_evRest (State.queueLevels_evRest _) fn).trans ?_)
  cases fn <;> rfl

/-- Settles O3, command by command: an enable that passes and one that fails, a disable, a stop and its clearing; RESTART and a write of
SQBASE; and the reset of a function. -/
theorem ringsAreControlled : Obligations.RingsAreControlled := by
  refine ⟨fun s fn q hup hreach hparity => ?control, fun s fn q v hup hreach hparity => ?halted, fun s fn hmode hpcie hfw => ?reset⟩
  case control =>
    refine ⟨fun hchan henable hstate hcheck => ?enable, fun hchan henable hstate st hcheck => ?fails,
      fun hinflight hsump => ?disable, fun hinflight hsump henable hfull hdisabled hhalted => ?stop,
      fun hsump henable hfull hstop hdisabled hhalted => ?resume⟩
    case enable =>
      obtain ⟨hring, hother, hmem⟩ := State.ringEnable_passes hparity hchan henable hstate hcheck
      refine ⟨_, exec_ringEnable hup hreach, ?_⟩
      rw [hring]
      exact ⟨rfl, rfl, rfl, rfl, rfl, rfl, rfl, rfl, hother, hmem⟩
    case fails =>
      obtain ⟨hring, hother⟩ := State.ringEnable_fails hparity hchan henable hstate hcheck
      refine ⟨_, exec_ringEnable hup hreach, ?_⟩
      rw [hring]
      exact ⟨henable, hstate, rfl, rfl, hother⟩
    case disable =>
      obtain ⟨hring, hother, hmem⟩ := s.modRing_settleRing q (fun r => { r with enable := false, enFault := false })
      refine ⟨_, exec_ringDisable hup hreach hparity, ?_⟩
      rw [hring]
      exact ⟨by simp [Ring.settle_fields], Ring.settle_disabled rfl hinflight hsump, hother, hmem⟩
    case stop =>
      obtain ⟨hring, hother, hmem⟩ := s.modRing_settleRing q (fun r => { r with stop := true })
      have hstopped := Ring.settle_quiet (r := { s.ring q with stop := true }) hhalted henable hsump hfull hinflight
      refine ⟨_, exec_ringStop hup hreach hparity hdisabled, ?_⟩
      rw [hring]
      exact ⟨by simp [Ring.settle_fields], hstopped.trans (if_pos rfl), hother, hmem⟩
    case resume =>
      obtain ⟨hring, hother, hmem⟩ := (s.modRing q (fun r => { r with stop := false })).modRing_settleRing q
        (fun r => { r with dbPending := true, reread := true, inline := [] })
      rw [State.ring_modRing_self] at hring
      obtain ⟨hrunning, hpending, -⟩ := Ring.settle_go (r := { s.ring q with stop := false, dbPending := true, reread := true, inline := [] })
        hhalted henable hsump hfull rfl rfl
      refine ⟨_, exec_ringResume hup hreach hparity hstop hdisabled, ?_⟩
      rw [hring]
      exact ⟨by simp [Ring.settle_fields], hrunning, hpending, State.otherRings_trans (s.otherRings_modRing q _) hother, hmem⟩
  case halted =>
    refine ⟨fun hchan hstate hfield hcls hsump hinflight henable hstop hfull => ?restart, ?field⟩
    case restart =>
      obtain ⟨hring, hother, hmem⟩ := State.restartRing_of_no_record hsump
      obtain ⟨hrunning, hpending, hinline⟩ := Ring.settle_go
        (r := { s.ring q with state := .running, inline := [], dbPending := true, reread := true })
        RState.noConfusion henable hsump hfull hstop rfl
      refine ⟨_, exec_restart hup hreach hparity, ?_⟩
      rw [State.ringRestart_eq hparity hchan hstate hfield hcls, hring]
      exact ⟨hrunning, hpending, hinline, by simp [Ring.settle_fields], hother, hmem⟩
    case field =>
      obtain ⟨hring, hother, hmem⟩ := (s.haltByField q).modRing_queueLevels q
        (fun r => { r with cfg := { r.cfg with sqBase := v % 2 ^ 64 }, enFault := false })
      obtain ⟨hotherHalt, hmemHalt⟩ := s.haltByField_frame q
      refine ⟨_, exec_haltingFieldWrite_ringSqBase hup hreach hparity v, ?_⟩
      rw [hring, s.haltByField_ring]
      refine ⟨?_, ?_, fun henable hhalted => ?_, fun henable => ?_, State.otherRings_trans hotherHalt hother, hmem.trans hmemHalt⟩
      · split <;> rfl
      · split <;> rfl
      · rw [if_pos ⟨henable, hhalted⟩]; exact ⟨rfl, rfl, rfl⟩
      · rw [if_neg (by simp [henable])]
  case reset =>
    exact ⟨_, exec_functionLevelReset fn hmode hpcie hfw, fun q hq => State.resetFunction_cleared hq, s.resetFunction_fnCfg fn,
      (State.resetFunction_kept (.refl s)).mem_eq⟩

/-! ## The read of an entry (R237, R240, R241) -/

/-- The state in which the read of an entry begins: doorbell-pending clears, and inline units that a repeat made void are gone. -/
def State.beginRead (s : State) (q : Nat) : State :=
  s.modRing q (fun r => { r with dbPending := false, inline := if r.reread then [] else r.inline })

section
variable {s : State} {q a : Nat} (haddr : (s.ring q).force.sqBase + 16 * (s.ring q).head = a)
include haddr

/-- A read at HEAD that the window check grants and that meets no bad block gives the bytes of the ring. -/
theorem State.readHead_ok {n : Nat} (hinline : (s.ring q).inline = [])
    (hgranted : s.granted (fnCls (s.ring q).force.owner) false a n = true) (hgood : s.busBad a n = none) :
    s.readHead q n .ok = (s, .bytes (s.busRead a n)) := by
  subst haddr
  unfold State.readHead
  simp [hinline, hgranted, hgood]

/-- The same read in the state in which the read of an entry begins. -/
theorem State.readHead_beginRead {n : Nat} (hinline : (s.ring q).inline = [] ∨ (s.ring q).reread = true)
    (hgranted : s.granted (fnCls (s.ring q).force.owner) false a n = true) (hgood : s.busBad a n = none) :
    (s.beginRead q).readHead q n .ok = (s.beginRead q, .bytes (s.busRead a n)) := by
  have hring : (s.beginRead q).ring q = { s.ring q with dbPending := false, inline := [] } := by
    unfold State.beginRead
    rw [State.ring_modRing_self]
    rcases hinline with h | h <;> simp [h]
  have h := State.readHead_ok (s := s.beginRead q) (q := q) (a := a) (n := n)
  rw [hring] at h
  exact h haddr rfl ((s.granted_modRing q _ _ _ _ _).trans hgranted) hgood
end

section
variable {s : State} {q : Fin 256} {a w : Nat} {header : List Byte} (haddr : (s.ring q).force.sqBase + 16 * (s.ring q).head = a)
  (hheader : s.busRead a 16 = header) (hword : getLE header 0 4 = w)
  (hread : s.mayRead q = true) (hinline : (s.ring q).inline = [] ∨ (s.ring q).reread = true)
  (hgranted : s.granted (fnCls (s.ring q).force.owner) false a 16 = true) (hgood : s.busBad a 16 = none)
include haddr hheader hword hread hinline hgranted hgood

/-- A header whose OWN is clear. -/
theorem exec_entryRead_empty (hown : hdrOwn w = false) :
    exec (.entryRead q .ok) s
      = .next ((s.beginRead q).modRing q (fun r => { r with state := .idle, reread := false })).queueLevels := by
  subst hheader hword
  have hfirst := State.readHead_beginRead haddr hinline hgranted hgood
  unfold State.beginRead at hfirst
  show execEntryRead q .ok s = _
  simp [execEntryRead, hread, hfirst, hown, State.beginRead]

variable (hown : hdrOwn w = true)
include hown

/-- A header that is not well formed. -/
theorem exec_entryRead_malformed (hbad : headerOk (s.ring q).force.cls (s.ring q).head (s.ring q).size w header = false) :
    exec (.entryRead q .ok) s = .next ((s.beginRead q).haltRing q Status.format.code (s.ring q).head) := by
  subst hheader hword
  have hfirst := State.readHead_beginRead haddr hinline hgranted hgood
  unfold State.beginRead at hfirst
  show execEntryRead q .ok s = _
  simp [execEntryRead, hread, hfirst, hown, hbad, State.beginRead]

/-- A good entry without FENCE. -/
theorem exec_entryRead_good {body : List Byte} (hok : headerOk (s.ring q).force.cls (s.ring q).head (s.ring q).size w header = true)
    (hbody : s.busRead a (16 * hdrLen w) = body) (hfence : bit (getLE body 0 4) 30 = false)
    (hbodyGranted : s.granted (fnCls (s.ring q).force.owner) false a (16 * hdrLen w) = true)
    (hbodyGood : s.busBad a (16 * hdrLen w) = none) :
    exec (.entryRead q .ok) s
      = .next (((s.beginRead q).modRing q (fun r => { r with reread := false })).beginEntry q ((s.ring q).entryOf body s.now)) := by
  subst hheader hword hbody
  have hfirst := State.readHead_beginRead haddr hinline hgranted hgood
  have hwhole := State.readHead_beginRead haddr hinline hbodyGranted hbodyGood
  unfold State.beginRead at hfirst hwhole
  show execEntryRead q .ok s = _
  simp [execEntryRead, hread, hfirst, hwhole, hown, hok, State.beginRead, Ring.entryOf, hfence]
end

/-- An entry that begins on a ring of a class other than BLIT is in execution, and HEAD has passed it. -/
theorem State.beginEntry_ring {s : State} {q : Nat} (e : Exec) (hcls : (s.ring q).force.cls ≠ ringBlit) :
    (s.beginEntry q e).ring q = Ring.settle { s.ring q with
        head := ((s.ring q).head + e.len) % (s.ring q).size, inflight := (s.ring q).inflight ++ [e],
        inline := (s.ring q).inline.drop (16 * e.len) }
      ∧ s.otherRings (s.beginEntry q e) q ∧ (s.beginEntry q e).mem = s.mem := by
  have heq : s.beginEntry q e = (s.modRing q (fun r => { r with
      head := (r.head + e.len) % r.size, inflight := r.inflight ++ [e], inline := r.inline.drop (16 * e.len) })).settleRing q := by
    unfold State.beginEntry
    simp [hcls]
  rw [heq]
  exact s.modRing_settleRing q _

/-- Settles O4: an empty place, a malformed header, and an entry that is taken. -/
theorem entryReadTakes : Obligations.EntryReadTakes := by
  intro s q r a w hread hinline hgranted hgood
  have hbegin : (s.beginRead q).ring q = { r with dbPending := false, inline := if r.reread then [] else r.inline } :=
    s.ring_modRing_self q _
  have hbeginOther : s.otherRings (s.beginRead q) q := s.otherRings_modRing q _
  refine ⟨fun hown => ?empty, fun hown hbad => ?malformed, fun hown hok hfence hcls hbodyGranted hbodyGood => ?taken⟩
  case empty =>
    obtain ⟨hring, hother, hmem⟩ := (s.beginRead q).modRing_queueLevels q (fun r => { r with state := .idle, reread := false })
    refine ⟨_, exec_entryRead_empty rfl rfl rfl hread hinline hgranted hgood hown, ?_⟩
    rw [hring, hbegin]
    exact ⟨rfl, rfl, rfl, rfl, State.otherRings_trans hbeginOther hother, hmem⟩
  case malformed =>
    obtain ⟨hring, hother, hmem⟩ := (s.beginRead q).modRing_queueLevels q (fun x => { x with
      state := .halted, haltCode := Status.format.code, haltPos := r.head, inline := [], reread := true })
    refine ⟨_, exec_entryRead_malformed rfl rfl rfl hread hinline hgranted hgood hown hbad, ?_⟩
    unfold State.haltRing
    rw [hring, hbegin]
    exact ⟨rfl, rfl, rfl, rfl, rfl, State.otherRings_trans hbeginOther hother, hmem⟩
  case taken =>
    obtain ⟨hring, hother, hmem⟩ := State.beginEntry_ring (s := (s.beginRead q).modRing q (fun r => { r with reread := false }))
      (r.entryOf (s.busRead a (16 * hdrLen w)) s.now) (by rw [State.ring_modRing_self, hbegin]; exact hcls)
    rw [State.ring_modRing_self, hbegin] at hring
    refine ⟨_, exec_entryRead_good rfl rfl rfl hread hinline hgranted hgood hown hok rfl hfence hbodyGranted hbodyGood, ?_⟩
    rw [hring]
    exact ⟨Ring.settle_head _, by simp [Ring.settle_fields],
      State.otherRings_trans (State.otherRings_trans hbeginOther (State.otherRings_modRing _ q _)) hother, hmem⟩

end Sys2Proof.Machine
end

section
/-!
PROOFS. Where LOP_EXCHANGE falls short of R236: a ring that holds two entries of one position.
-/

namespace Sys2Proof.Machine

/-- A LOP_EXCHANGE at position 0 whose request, 17 bytes at 0, may be answered with 16 bytes at 0. -/
def waitingExchange : Exec :=
  { pos := 0, len := 2, tag := 0, opcode := 0x40, flags := 0, fence := false, notify := false,
    body := leBytes 8 0 ++ leBytes 4 17 ++ leBytes 4 16 ++ leBytes 8 0 ++ leBytes 8 0, phase := .waiting, began := 0, aux := [] }

/-- A device in service, with one window that grants everything, whose MGMT ring 70 holds `waitingExchange` behind a NOP that has
finished at the same position. Memory reads 0, so that the request's LENGTH of 0 does not match its one byte of payload. -/
def State.sharedPosition : State :=
  { State.reset with
    sys := { State.reset.sys with mode := .operate, fwReady := true },
    mem := { State.reset.mem with wins := [(0, { Win.reset with rights := 4095, enable := true, sizeF := 1 })] },
    que := { State.reset.que with rings := [(70, { Ring.reset 70 with
      force := { RingCfg.reset 70 with cls := ringMgmt },
      inflight := [{ waitingExchange with len := 1, opcode := 0x01, body := leBytes 16 1, phase := .finished .ok 0 }, waitingExchange] })] } }

/-- Firmware serves the exchange, whose checks pass and whose header is malformed. -/
theorem State.sharedPosition_serves :
    State.sharedPosition.lopFree = true ∧ State.sharedPosition.bothCoresRetired = false
      ∧ State.sharedPosition.exchange? 70 = some waitingExchange ∧ State.sharedPosition.mgmtTurn = some 70
      ∧ State.sharedPosition.exchangeCheck 70 waitingExchange.body = none ∧ State.sharedPosition.busBad 0 17 = none
      ∧ headerGood (State.sharedPosition.busRead 0 17) = false := by
  decide +kernel

/-- The exchange begins to run, and with it the NOP at its position, which has finished: the ring's entry in execution is now the NOP,
so that the response finds no LOP_EXCHANGE to finish. -/
theorem State.sharedPosition_unanswered : (State.sharedPosition.serveExchange 70).hasFinished 70 0 .ok 16 = false := by
  decide +kernel

theorem exec_lopExchange_sharedPosition :
    exec (.lopExchange 70) State.sharedPosition = .next (State.sharedPosition.serveExchange 70) := by
  obtain ⟨hfree, hcores, -⟩ := State.sharedPosition_serves
  exact congrArg Host.Outcome.next ((if_neg (by simp [hcores])).trans (if_pos hfree))

/-- Refutes O40: on a ring that holds a finished entry at the position of the exchange, the malformed request is not answered. -/
theorem not_lopTransportsAnswer : ¬ Obligations.LopTransportsAnswer := by
  intro h
  obtain ⟨hfree, hcores, hexchange, hturn, hcheck, hgood, hheader⟩ := State.sharedPosition_serves
  obtain ⟨-, -, -, -, hserved, -, -⟩ := h State.sharedPosition
  obtain ⟨-, hmalformed⟩ := hserved 70 waitingExchange hfree hcores hexchange rfl hturn
  obtain ⟨t, hexec, hfinished, -⟩ := hmalformed hcheck hgood hheader
  rw [exec_lopExchange_sharedPosition] at hexec
  cases hexec
  exact Bool.false_ne_true (State.sharedPosition_unanswered.symm.trans hfinished)

end Sys2Proof.Machine
end

section
/-!
PROOFS. Siphon's descriptors: SG_COPY and FILL by the outcome of their checks (R257 to R260, R266), the record of CRC (R261), FENCE
(R265), and the bytes that a FILL writes (R259).
-/

namespace Sys2Proof.Machine

/-! ## A descriptor finishes (R257, R266) -/

/-- The oldest descriptor in execution stands in its ring and carries the opcode asked for. -/
theorem State.descriptor?_mem {s : State} {c op : Nat} {e : Exec} (h : s.descriptor? c op = some e) :
    e ∈ (s.ring c).inflight ∧ e.opcode = op := by
  unfold State.descriptor? at h
  dsimp only at h
  split at h
  case isTrue => cases h
  case isFalse =>
    split at h
    case h_2 => cases h
    case h_1 y hhead =>
      split at h
      case h_1 => cases h
      case h_2 =>
        split at h
        case isFalse => cases h
        case isTrue hop =>
          cases h
          exact ⟨List.mem_of_mem_head? hhead, hop⟩

section
variable {s : State} {c op : Nat} {e : Exec} (h : s.descriptor? c op = some e)
include h

/-- A descriptor that finishes in a state whose rings are still those in which it was found. -/
theorem State.finishAt_descriptor {u : State} (hu : u.que = s.que) (st : Status) :
    (u.finishAt c e.pos st 0).hasFinished c e.pos st 0 = true ∧ s.otherRings (u.finishAt c e.pos st 0) c := by
  have hmem : e ∈ (u.ring c).inflight := State.ring_of_que hu c ▸ (State.descriptor?_mem h).1
  exact ⟨State.hasFinished_finishAt hmem, State.otherRings_trans (State.otherRings_of_que hu) (u.otherRings_finishAt c _ _ _)⟩

/-- A descriptor that fails a check moves nothing. -/
theorem State.failDesc_descriptor (st : Status) :
    (s.failDesc c e st).hasFinished c e.pos st 0 = true ∧ (s.failDesc c e st).mem.dev = s.mem.dev
      ∧ (s.failDesc c e st).mem.host = s.mem.host ∧ (s.failDesc c e st).siph = s.siph ∧ s.otherRings (s.failDesc c e st) c := by
  have hcount : (if st = .bounds then s.countBounds else s).que = s.que := by split <;> rfl
  obtain ⟨hfinished, hother⟩ := State.finishAt_descriptor h hcount st
  exact ⟨hfinished, (State.failDesc_kept (.refl s)).dev_eq, (State.failDesc_kept (.refl s)).host_eq,
    (State.failDesc_kept (.refl s)).siph_eq, hother⟩

end

theorem State.failDesc_format (s : State) (c : Nat) (e : Exec) : s.failDesc c e .format = s.finishAt c e.pos .format 0 :=
  congrArg (State.finishAt · c e.pos .format 0) (if_neg nofun)

/-! ## A stream is written (R257, R260) -/

theorem State.moveBytes_frame (s : State) (c : Nat) (dst : List (Nat × Nat)) (b : List Byte) :
    (s.moveBytes c dst b).que = s.que ∧ (s.moveBytes c dst b).heads = s.heads ∧ (s.moveBytes c dst b).src = s.src :=
  ⟨(State.moveBytes_kept (.refl s)).que_eq, (State.moveBytes_kept (.refl s)).heads_eq, (State.moveBytes_kept (.refl s)).src_eq⟩

theorem State.moveBytes_acc (s : State) (c : Nat) (dst : List (Nat × Nat)) (b : List Byte) :
    ((s.moveBytes c dst b).chan c).acc = (s.chan c).acc.add b := by
  have hscatter : (s.scatter dst b).chan c = s.chan c := State.chan_of_siph (State.scatter_kept (.refl s)).siph_eq c
  exact (congrArg Chan.acc (State.chan_modChan_self _ c _)).trans (congrArg (fun x => x.acc.add b) hscatter)

/-- A descriptor that writes its stream and finishes. -/
theorem State.moveBytes_finishAt {s : State} {c op : Nat} {e : Exec} (h : s.descriptor? c op = some e) (dst : List (Nat × Nat))
    (b : List Byte) :
    let t := (s.moveBytes c dst b).finishAt c e.pos .ok 0
    t.hasFinished c e.pos .ok 0 = true ∧ t.mem = (s.scatter dst b).mem ∧ (t.chan c).acc = (s.chan c).acc.add b ∧ s.otherRings t c := by
  obtain ⟨hque, -⟩ := s.moveBytes_frame c dst b
  obtain ⟨hfinished, hother⟩ := State.finishAt_descriptor h hque .ok
  exact ⟨hfinished, rfl, s.moveBytes_acc c dst b, hother⟩

theorem State.runMove_move {s : State} (c : Nat) (e : Exec) {src : List (Nat × Nat)} (dst : List (Nat × Nat))
    (hread : src.findSome? (fun p => s.busBad p.1 p.2) = none) :
    s.runMove c e (.move src dst) = (s.moveBytes c dst (s.descStream e src dst)).finishAt c e.pos .ok 0 := by
  unfold State.runMove
  dsimp only
  rw [hread]

/-! ## SG_COPY (R257, R258) -/

theorem State.descStream_sgCopy (s : State) {e : Exec} (hop : e.opcode = 0x10) (src dst : List (Nat × Nat)) :
    s.descStream e src dst = s.gather src :=
  if_neg (by simp [hop])

section
variable {s : State} {c : Fin 64} {e : Exec} (h : s.descriptor? c 0x10 = some e)
include h

theorem exec_sgCopy : exec (.sgCopy c) s = .next (s.runMove c e (s.sgCheck c e)) := by
  show execSgCopy c s = _
  unfold execSgCopy
  rw [h]

theorem exec_sgCopy_moves {src dst : List (Nat × Nat)} (hcheck : s.sgCheck c e = .move src dst)
    (hread : src.findSome? (fun p => s.busBad p.1 p.2) = none) :
    exec (.sgCopy c) s = .next ((s.moveBytes c dst (s.gather src)).finishAt c e.pos .ok 0) := by
  rw [exec_sgCopy h, hcheck, State.runMove_move c e dst hread, s.descStream_sgCopy (State.descriptor?_mem h).2]

theorem exec_sgCopy_fails {st : Status} (hcheck : s.sgCheck c e = .fail st) : exec (.sgCopy c) s = .next (s.failDesc c e st) := by
  rw [exec_sgCopy h, hcheck]
  rfl

end

/-! ## FILL (R258, R259) -/

/-- The pattern of a FILL. -/
def Exec.pattern (e : Exec) : List Byte := (e.body.drop 8).take 8

theorem State.descStream_fill (s : State) {e : Exec} (hop : e.opcode = 0x11) (src dst : List (Nat × Nat)) :
    s.descStream e src dst = patternBytes e.pattern (pairsTotal dst) :=
  if_pos hop

/-- A FILL reads nothing. -/
theorem State.fillCheck_src {s : State} {c : Nat} {e : Exec} {src dst : List (Nat × Nat)} (hcheck : s.fillCheck c e = .move src dst) :
    src = [] := by
  unfold State.fillCheck at hcheck
  dsimp only at hcheck
  split at hcheck
  case isTrue => cases hcheck
  case isFalse =>
    split at hcheck
    case isTrue => cases hcheck
    case isFalse =>
      injection hcheck with hsrc
      exact hsrc.symm

theorem State.fillCheck_reserved (s : State) (c : Nat) {e : Exec} (hreserved : getLE e.body 28 4 ≠ 0) : s.fillCheck c e = .fail .format :=
  if_pos (bne_iff_ne.2 hreserved)

theorem State.fillCheck_empty (s : State) (c : Nat) {e : Exec} (hreserved : getLE e.body 28 4 = 0) (hlength : getLE e.body 24 4 = 0) :
    s.fillCheck c e = .move [] [] := by
  simp [State.fillCheck, hreserved, hlength]

theorem State.fillCheck_granted {s : State} {c : Nat} {e : Exec} (hreserved : getLE e.body 28 4 = 0) (hlength : 0 < getLE e.body 24 4)
    (hgranted : s.siphGranted c true (getLE e.body 16 8) (getLE e.body 24 4) = true) :
    s.fillCheck c e = .move [] [(getLE e.body 16 8, getLE e.body 24 4)] := by
  simp [State.fillCheck, hreserved, hgranted, Nat.ne_of_gt hlength]

section
variable {s : State} {c : Fin 64} {e : Exec} (h : s.descriptor? c 0x11 = some e)
include h

theorem exec_siphonFill : exec (.siphonFill c) s = .next (s.runMove c e (s.fillCheck c e)) := by
  show execSiphonFill c s = _
  unfold execSiphonFill
  rw [h]

theorem exec_siphonFill_moves {src dst : List (Nat × Nat)} (hcheck : s.fillCheck c e = .move src dst) :
    exec (.siphonFill c) s = .next ((s.moveBytes c dst (patternBytes e.pattern (pairsTotal dst))).finishAt c e.pos .ok 0) := by
  have hread : src.findSome? (fun p => s.busBad p.1 p.2) = none := by rw [State.fillCheck_src hcheck]; rfl
  rw [exec_siphonFill h, hcheck, State.runMove_move c e dst hread, s.descStream_fill (State.descriptor?_mem h).2]

theorem exec_siphonFill_fails {st : Status} (hcheck : s.fillCheck c e = .fail st) :
    exec (.siphonFill c) s = .next (s.failDesc c e st) := by
  rw [exec_siphonFill h, hcheck]
  rfl

end

/-! ## CRC and FENCE (R261, R265) -/

/-- The record that a CRC descriptor stores. -/
def Accs.crcRecord (x : Accs) (flags : Nat) : List Byte :=
  leBytes 8 (if bit flags 0 then fletcherValue (x.sum1, x.sum2) x.tail else crcFinal x.sum32c) ++ leBytes 8 x.bytes

/-- The accumulators of a channel after a CRC descriptor, which restarts the checksum unless its flags keep it. -/
def State.afterCrc (s : State) (c flags : Nat) : State :=
  if bit flags 1 then s else s.modChan c (fun y => { y with acc := y.acc.restartSum })

theorem State.afterCrc_que (s : State) (c flags : Nat) : (s.afterCrc c flags).que = s.que := by
  unfold State.afterCrc; split <;> rfl

theorem State.afterCrc_mem (s : State) (c flags : Nat) : (s.afterCrc c flags).mem = s.mem := by
  unfold State.afterCrc; split <;> rfl

theorem State.afterCrc_acc (s : State) (c flags : Nat) :
    ((s.afterCrc c flags).chan c).acc = if bit flags 1 then (s.chan c).acc else (s.chan c).acc.restartSum := by
  unfold State.afterCrc
  split
  · rfl
  · exact congrArg Chan.acc (s.chan_modChan_self c _)

theorem exec_crc {s : State} {c : Fin 64} {e : Exec} (h : s.descriptor? c 0x12 = some e) (haligned : getLE e.body 8 8 % 16 = 0)
    (hgranted : s.siphGranted c true (getLE e.body 8 8) 16 = true) :
    exec (.crc c) s
      = .next (((s.busWrite (getLE e.body 8 8) ((s.chan c).acc.crcRecord e.flags)).afterCrc c e.flags).finishAt c e.pos .ok 0) := by
  show execCrc c s = _
  unfold execCrc
  rw [h]
  exact congrArg Host.Outcome.next ((if_neg (by simp [haligned])).trans (if_neg (by simp [hgranted])))

theorem exec_fence {s : State} {c : Fin 64} {e : Exec} (h : s.descriptor? c 0x16 = some e) (hnone : getLE e.body 8 8 = 0) :
    exec (.fence c) s = .next (s.finishAt c e.pos .ok 0) := by
  show execFence c s = _
  unfold execFence
  rw [h]
  exact congrArg Host.Outcome.next (if_pos hnone)

theorem exec_fence_device {s : State} {c : Fin 64} {e : Exec} (h : s.descriptor? c 0x16 = some e) (haddr : getLE e.body 8 8 ≠ 0)
    (hdevice : isHostAddr (getLE e.body 8 8) = false) : exec (.fence c) s = .next (s.finishAt c e.pos .format 0) := by
  rw [← s.failDesc_format]
  show execFence c s = _
  unfold execFence
  rw [h]
  exact congrArg Host.Outcome.next ((if_neg haddr).trans (if_pos (by simp [hdevice])))

/-- Settles O44, opcode by opcode: an SG_COPY and a FILL by the outcome of their checks, the record of a CRC, and the two FENCEs. -/
theorem descriptorsMove : Obligations.DescriptorsMove := by
  intro s c e
  refine ⟨fun h => ⟨fun src dst hcheck hread => ?copies, fun st hcheck => ?copyFails⟩,
    fun h => ⟨fun src dst hcheck => ?fills, fun st hcheck => ?fillFails⟩, fun h haligned hgranted => ?crc,
    fun h => ⟨fun hnone => ?fence, fun haddr hdevice => ?device⟩⟩
  case copies =>
    obtain ⟨hfinished, hmem, hacc, hother⟩ := State.moveBytes_finishAt h dst (s.gather src)
    obtain ⟨-, hheads, hsrc⟩ := s.moveBytes_frame c dst (s.gather src)
    exact ⟨_, exec_sgCopy_moves h hcheck hread, hfinished, hmem, hacc, hother, hheads, hsrc⟩
  case copyFails =>
    obtain ⟨hfinished, hdev, hhost, hsiph, hother⟩ := State.failDesc_descriptor h st
    exact ⟨_, exec_sgCopy_fails h hcheck, hfinished, hdev, hhost, congrArg Chan.acc (State.chan_of_siph hsiph c), hother⟩
  case fills =>
    obtain ⟨hfinished, hmem, hacc, hother⟩ := State.moveBytes_finishAt h dst (patternBytes e.pattern (pairsTotal dst))
    exact ⟨_, exec_siphonFill_moves h hcheck, hfinished, hmem, hacc, hother⟩
  case fillFails =>
    obtain ⟨hfinished, hdev, hhost, hsiph, hother⟩ := State.failDesc_descriptor h st
    exact ⟨_, exec_siphonFill_fails h hcheck, hfinished, hdev, hhost, congrArg Chan.acc (State.chan_of_siph hsiph c), hother⟩
  case crc =>
    obtain ⟨hfinished, hother⟩ :=
      State.finishAt_descriptor h ((State.afterCrc_que _ c e.flags).trans (State.busWrite_kept (.refl s)).que_eq) .ok
    have hacc := State.afterCrc_acc (s.busWrite (getLE e.body 8 8) ((s.chan c).acc.crcRecord e.flags)) c e.flags
    rw [State.chan_of_siph (State.busWrite_kept (.refl s)).siph_eq] at hacc
    exact ⟨_, exec_crc h haligned hgranted, hfinished, State.afterCrc_mem _ c e.flags, hacc, hother⟩
  case fence =>
    obtain ⟨hfinished, hother⟩ := State.finishAt_descriptor h rfl .ok
    exact ⟨_, exec_fence h hnone, hfinished, rfl, hother⟩
  case device =>
    obtain ⟨hfinished, hother⟩ := State.finishAt_descriptor h rfl .format
    exact ⟨_, exec_fence_device h haddr hdevice, hfinished, rfl, hother⟩

/-! ## The bytes of a FILL (R210, R259) -/

theorem patternBytes_length (p : List Byte) (n : Nat) : (patternBytes p n).length = n := by
  simp [patternBytes]

theorem patternBytes_getElem? (p : List Byte) {n i : Nat} (hi : i < n) : (patternBytes p n)[i]? = some (p.getD (i % 8) 0#8) := by
  simp [patternBytes, hi]

/-- Where every granule is usable a write of either space stores its bytes at its address and leaves every byte outside them. -/
theorem State.busWrite_bytes {s : State} (hcanon : s.memCanonical) (husable : s.health.unusable = []) (a : Nat) (l : List Byte) :
    (s.busWrite a l).busRead a l.length = l
      ∧ (∀ b, (b < a ∨ a + l.length ≤ b) → isHostAddr a = false →
          Memory.get (s.busWrite a l).mem.dev b = Memory.get s.mem.dev b)
      ∧ (∀ b, (b < a % 2 ^ 63 ∨ a % 2 ^ 63 + l.length ≤ b) → isHostAddr a = true →
          Memory.get (s.busWrite a l).mem.host b = Memory.get s.mem.host b) := by
  obtain ⟨hdev, hhost, -, -⟩ := hcanon
  by_cases ha : isHostAddr a = true
  · rw [State.busWrite_of_host ha, State.busRead_of_host ha]
    exact ⟨Memory.read_write _ l hhost, fun _ _ hnot => absurd (ha.symm.trans hnot) nofun, fun _ hb _ => Memory.get_write_outside _ l hb⟩
  · have ha := Bool.eq_false_of_not_eq_true ha
    rw [State.busWrite_of_device ha, State.busRead_of_device ha, State.devWrite_usable husable]
    exact ⟨Memory.read_write _ l hdev, fun _ hb _ => Memory.get_write_outside _ l hb, fun _ _ hnot => absurd (ha.symm.trans hnot) nofun⟩

theorem State.scatter_single (s : State) (a n : Nat) {b : List Byte} (hb : b.length = n) : s.scatter [(a, n)] b = s.busWrite a b :=
  congrArg (s.busWrite a) (List.take_of_length_le (Nat.le_of_eq hb))

theorem State.busRead_of_mem {s t : State} (h : t.mem = s.mem) (a n : Nat) : t.busRead a n = s.busRead a n := by
  unfold State.busRead State.devRead
  rw [h]

/-- Settles O60: a FILL that is granted, one of no bytes, and one whose reserved field is not zero. -/
theorem fillWritesThePattern : Obligations.FillWritesThePattern := by
  intro s c e hcanon husable h pattern a n
  refine ⟨fun hreserved hlength hgranted => ?fills, fun hreserved hlength => ?empty, fun hreserved => ?reserved⟩
  case fills =>
    have hwhole : (patternBytes pattern n).length = n := patternBytes_length pattern n
    obtain ⟨hfinished, hmem, -, -⟩ := State.moveBytes_finishAt h [(a, n)] (patternBytes pattern n)
    obtain ⟨hread, hdev, hhost⟩ := State.busWrite_bytes hcanon husable a (patternBytes pattern n)
    rw [s.scatter_single a n hwhole] at hmem
    rw [hwhole] at hread hdev hhost
    refine ⟨_, exec_siphonFill_moves h (State.fillCheck_granted hreserved hlength hgranted), hfinished, fun i hi => ?_, hmem ▸ hdev,
      hmem ▸ hhost⟩
    exact (congrArg (·[i]?) ((State.busRead_of_mem hmem a n).trans hread)).trans (patternBytes_getElem? pattern hi)
  case empty =>
    obtain ⟨hfinished, hmem, -, -⟩ := State.moveBytes_finishAt h [] (patternBytes e.pattern (pairsTotal []))
    exact ⟨_, exec_siphonFill_moves h (s.fillCheck_empty c hreserved hlength), hfinished, hmem⟩
  case reserved =>
    obtain ⟨hfinished, -⟩ := State.finishAt_descriptor h rfl .format
    refine ⟨_, exec_siphonFill_fails h (s.fillCheck_reserved c hreserved), ?_⟩
    rw [s.failDesc_format]
    exact ⟨hfinished, rfl⟩

end Sys2Proof.Machine
end

section
/-!
PROOFS. Siphon's channels: the halt of the engine and its restart (R269 to R271), REENABLE (R272), and the retirement of descriptors
(R266, R267).
-/

namespace Sys2Proof.Machine

/-! ## A loop in which every channel has its turn -/

section
variable {β : Type} {f : State → Nat → State} {c : Nat} (p : State → β) (hne : ∀ t j, j ≠ c → p (f t j) = p t)
include hne

/-- A reading that only the turn of `c` changes is left by the turns of others. -/
theorem State.forEach_reading_of_not_mem {l : List Nat} (hc : c ∉ l) (s : State) : p (s.forEach l f) = p s := by
  unfold State.forEach
  induction l generalizing s with
  | nil => rfl
  | cons j l ih => exact (ih (List.not_mem_of_not_mem_cons hc) _).trans (hne s j (List.ne_of_not_mem_cons hc).symm)

/-- A reading that only the turn of `c` changes is, after all turns, what that turn makes of it. -/
theorem State.forEach_reading_of_mem {g : β → β} (hself : ∀ t, p (f t c) = g (p t)) {l : List Nat} (hl : l.Nodup) (hc : c ∈ l)
    (s : State) : p (s.forEach l f) = g (p s) := by
  induction l generalizing s with
  | nil => cases hc
  | cons j l ih =>
    obtain ⟨hj, hl⟩ := List.nodup_cons.1 hl
    by_cases e : c = j
    · subst e
      exact (State.forEach_reading_of_not_mem p hne hj (f s c)).trans (hself s)
    · exact (ih hl ((List.mem_cons.1 hc).resolve_left e) (f s j)).trans (congrArg g (hne s j (Ne.symm e)))

end

/-! ## The parts of a retirement (R244, R245) -/

/-- A record whose header or record write fails waits at the head of the Sump, and the ring halts. -/
def State.failRecord (s : State) (q : Nat) (x : Record) (st : Status) : State :=
  (s.modRing q (fun r => { r with sump := x :: r.sump })).haltRing q st.code x.pos

/-- The header write of a record, where it is still due. -/
def State.headerDone (s : State) (q : Nat) (x : Record) (busFails : Bool) : State × Option Status :=
  if x.hdrDone then (s, none) else s.writeHeader q x busFails

/-- A record that is written counts in RETIRED, and one of a 2D command in COMMANDS. -/
def State.countRetired (s : State) (q : Nat) (x : Record) : State :=
  let t := s.modRing q (fun r => { r with retiredN := wrapInc 32 r.retiredN })
  if (t.ring q).force.cls = ringBlit ∧ 0x50 ≤ field x.hdr 7 0 then
    { t with blit := { t.blit with commands := wrapInc 64 t.blit.commands } }
  else t

/-- QUEUE_NOTIFY follows a record that asks for it or reports a failure. -/
def State.noteRetired (s : State) (q : Nat) (x : Record) : State :=
  if x.notify || x.status != .ok then (s.countRetired q x).raiseNum q else s.countRetired q x

/-- A retirement fails with its header, fails with its record, or is counted. -/
theorem State.retireRecord_cases (s : State) (q : Nat) (x : Record) (sumped : Bool) (wr : RetireWrites) :
    let header := s.headerDone q x (wr == .headerFails)
    let y := { x with hdrDone := true }
    let record := header.1.writeRecord q y sumped (wr == .recordFails)
    (∃ st, (s.retireRecord q x sumped wr).1 = header.1.failRecord q x st)
      ∨ (∃ st, (s.retireRecord q x sumped wr).1 = record.1.failRecord q y st)
      ∨ (s.retireRecord q x sumped wr).1 = record.1.noteRetired q x := by
  intro header y record
  have heq : s.retireRecord q x sumped wr = (match header.2 with
      | some st => (header.1.failRecord q x st, false)
      | none => match record.2 with
        | some st => (record.1.failRecord q y st, false)
        | none => (record.1.noteRetired q x, true)) := rfl
  rw [heq]
  split
  next st _ => exact .inl ⟨st, rfl⟩
  next =>
    split
    next st _ => exact .inr (.inl ⟨st, rfl⟩)
    next => exact .inr (.inr rfl)

/-! ## What a retirement leaves of the rings -/

/-- From `s` to `t` ring `q` holds the same entries in execution, and every other ring is the same. -/
def State.keepsInflight (s t : State) (q : Nat) : Prop := (t.ring q).inflight = (s.ring q).inflight ∧ s.otherRings t q

namespace State.keepsInflight

theorem trans {s t u : State} {q : Nat} (h : s.keepsInflight t q) (k : t.keepsInflight u q) : s.keepsInflight u q := by
  obtain ⟨hself, hother⟩ := h
  obtain ⟨kself, kother⟩ := k
  exact ⟨kself.trans hself, State.otherRings_trans hother kother⟩

theorem of_que {s t : State} {q : Nat} (h : t.que = s.que) : s.keepsInflight t q :=
  ⟨congrArg Ring.inflight (State.ring_of_que h q), State.otherRings_of_que h⟩

theorem modRing (s : State) (q : Nat) {f : Ring → Ring} (hf : (f (s.ring q)).inflight = (s.ring q).inflight) :
    s.keepsInflight (s.modRing q f) q :=
  ⟨(congrArg Ring.inflight (s.ring_modRing_self q f)).trans hf, s.otherRings_modRing q f⟩

theorem haltRing (s : State) (q code pos : Nat) : s.keepsInflight (s.haltRing q code pos) q :=
  trans (modRing s q rfl) (of_que (State.queueLevels_que _))

theorem settleRing (s : State) (q : Nat) : s.keepsInflight (s.settleRing q) q :=
  ⟨by simp [Ring.settle_fields], State.otherRings_settleRing s q⟩

theorem writeRecord (s : State) (q : Nat) (x : Record) (sumped busFails : Bool) :
    s.keepsInflight (s.writeRecord q x sumped busFails).1 q := by
  unfold State.writeRecord
  dsimp only
  split
  · exact of_que rfl
  · split
    · exact of_que rfl
    · split
      · exact of_que rfl
      · exact trans (of_que (State.busWrite_kept (.refl s)).que_eq) (modRing _ q rfl)

theorem failRecord (s : State) (q : Nat) (x : Record) (st : Status) : s.keepsInflight (s.failRecord q x st) q :=
  trans (modRing s q (f := fun r => { r with sump := x :: r.sump }) rfl) (haltRing _ q _ _)

theorem headerDone (s : State) (q : Nat) (x : Record) (busFails : Bool) : s.keepsInflight (s.headerDone q x busFails).1 q := by
  unfold State.headerDone
  split
  · exact of_que rfl
  · exact of_que (State.writeHeader_kept (.refl s)).que_eq

theorem noteRetired (s : State) (q : Nat) (x : Record) : s.keepsInflight (s.noteRetired q x) q := by
  have hcount : s.keepsInflight (s.countRetired q x) q := by
    have hring := modRing s q (f := fun r => { r with retiredN := wrapInc 32 r.retiredN }) rfl
    unfold State.countRetired
    dsimp only
    split
    · exact trans hring (of_que rfl)
    · exact hring
  unfold State.noteRetired
  split
  · exact trans hcount (of_que (State.raiseNum_que _ q))
  · exact hcount

theorem retireRecord (s : State) (q : Nat) (x : Record) (sumped : Bool) (wr : RetireWrites) :
    s.keepsInflight (s.retireRecord q x sumped wr).1 q := by
  have hheader := headerDone s q x (wr == .headerFails)
  have hrecord := trans hheader (writeRecord _ q { x with hdrDone := true } sumped (wr == .recordFails))
  rcases s.retireRecord_cases q x sumped wr with ⟨st, h⟩ | ⟨st, h⟩ | h <;> rw [h]
  · exact trans hheader (failRecord _ q x st)
  · exact trans hrecord (failRecord _ q _ st)
  · exact trans hrecord (noteRetired _ q x)

theorem drainSump (s : State) (q n : Nat) : s.keepsInflight (s.drainSump q n) q := by
  induction n generalizing s with
  | zero => exact of_que rfl
  | succ n ih =>
    unfold State.drainSump
    dsimp only
    split
    next => exact of_que rfl
    next x rest _ =>
      split
      · exact of_que rfl
      · have hretire := trans (modRing s q rfl) (retireRecord (s.modRing q (fun r => { r with sump := rest })) q x true .ok)
        split
        · exact trans hretire (ih _)
        · exact hretire

end State.keepsInflight

/-! ## The engine halts (R269) -/

/-- What the descriptors of every channel had written when the engine halted. -/
def State.partialMoves (s : State) : State := s.forEach (List.range 64) (fun s c => if s.halts c then s.partialMove c else s)

theorem State.partialMoves_frame (s : State) : s.partialMoves.que = s.que ∧ s.partialMoves.siph = s.siph := by
  have hmove : ∀ (t : State) c, (if t.halts c then t.partialMove c else t).que = t.que
      ∧ (if t.halts c then t.partialMove c else t).siph = t.siph := by
    intro t c
    split
    · exact ⟨(State.partialMove_kept (.refl t)).que_eq, (State.partialMove_kept (.refl t)).siph_eq⟩
    · exact ⟨rfl, rfl⟩
  exact ⟨State.forEach_reading State.que (fun t c => (hmove t c).1) _ s,
    State.forEach_reading State.siph (fun t c => (hmove t c).2) _ s⟩

/-- The registers of the engine record a bus error. -/
def State.noteBusError (s : State) (kind : BusErrKind) (addr : Nat) (cands : List Nat) : State :=
  let mask := maskOf (cands.filter (fun c => s.halts c))
  State.openWindow { s with siph := { s.siph with halted := true, errKind := errKindCode kind, errAddr := addr, candMask := mask,
                                                  halts := satInc 32 s.siph.halts, haltsTotal := satInc 32 s.siph.haltsTotal } } mask

/-- The halt of one channel's ring. -/
def State.haltChannel (s : State) (c : Nat) : State :=
  if s.halts c then s.haltRing c Status.busError.code (s.chan c).restartPos else s

theorem State.busError_of_halted {s : State} (h : s.siph.halted = true) (kind : BusErrKind) (addr : Nat) (cands : List Nat) :
    s.busError kind addr cands = s :=
  if_pos h

theorem State.busError_of_running {s : State} (h : s.siph.halted = false) (kind : BusErrKind) (addr : Nat) (cands : List Nat) :
    s.busError kind addr cands
      = ((s.partialMoves.noteBusError kind addr cands).forEach (List.range 64) State.haltChannel).level .siphonHalt true := by
  have hmoves : s.forEach (List.range 64) (fun s c => if s.halts c then s.partialMove c else s) = s.partialMoves := rfl
  unfold State.busError
  rw [if_neg (h ▸ Bool.false_ne_true), hmoves]
  generalize s.partialMoves = t
  rfl

/-- Of the engine's registers the window of R271 moves only its own. -/
theorem State.openWindow_siph (s : State) (mask : Nat) : ∃ o w l a, (s.openWindow mask).siph
    = { s.siph with windowOpen := o, windowStart := w, windowMasks := l, attempts := a } := by
  unfold State.openWindow
  dsimp only
  split
  · exact ⟨_, _, _, _, rfl⟩
  · exact ⟨_, _, _, _, rfl⟩

theorem State.noteBusError_que (s : State) (kind : BusErrKind) (addr : Nat) (cands : List Nat) :
    (s.noteBusError kind addr cands).que = s.que :=
  (State.openWindow_kept (.refl _)).que_eq

theorem State.noteBusError_siph (s : State) (kind : BusErrKind) (addr : Nat) (cands : List Nat) :
    let y := (s.noteBusError kind addr cands).siph
    y.halted = true ∧ y.errKind = errKindCode kind ∧ y.errAddr = addr ∧ y.halts = satInc 32 s.siph.halts ∧ y.chans = s.siph.chans := by
  unfold State.noteBusError
  dsimp only
  obtain ⟨o, w, l, a, hwindow⟩ := State.openWindow_siph _ _
  rw [hwindow]
  exact ⟨rfl, rfl, rfl, rfl, rfl⟩

/-- Whether the halt of the engine halts a ring, its channel being `x`. -/
def Ring.haltsWith (r : Ring) (x : Chan) : Bool :=
  r.enable && r.force.cls == ringSiphon && !x.retired && !(r.state == .halted && r.haltCode == 2)

theorem State.halts_eq (s : State) (c : Nat) : s.halts c = (s.ring c).haltsWith (s.chan c) := rfl

/-- The ring of a channel after the halt of the engine. -/
def Ring.engineHalted (r : Ring) (x : Chan) : Ring :=
  if r.haltsWith x then
    { r with state := .halted, haltCode := Status.busError.code, haltPos := x.restartPos, inline := [], reread := true }
  else r

theorem Ring.engineHalted_fields {r : Ring} {x : Chan} (h : r.haltsWith x = true) :
    (r.engineHalted x).state = .halted ∧ (r.engineHalted x).haltCode = Status.busError.code
      ∧ (r.engineHalted x).haltPos = x.restartPos := by
  rw [Ring.engineHalted, if_pos h]
  exact ⟨rfl, rfl, rfl⟩

theorem Ring.engineHalted_of_stays {r : Ring} {x : Chan} (h : r.haltsWith x = false) : r.engineHalted x = r :=
  if_neg (h ▸ Bool.false_ne_true)

theorem State.haltRing_ring (s : State) (q code pos : Nat) :
    (s.haltRing q code pos).ring q = { s.ring q with state := .halted, haltCode := code, haltPos := pos, inline := [], reread := true } := by
  simp [State.haltRing]

theorem State.haltRing_siph (s : State) (q code pos : Nat) : (s.haltRing q code pos).siph = s.siph :=
  (State.haltRing_kept (.refl s)).siph_eq

theorem State.haltChannel_siph (s : State) (c : Nat) : (s.haltChannel c).siph = s.siph := by
  unfold State.haltChannel
  split
  · exact s.haltRing_siph _ _ _
  · rfl

theorem State.haltChannel_ring (s : State) (c : Nat) : (s.haltChannel c).ring c = (s.ring c).engineHalted (s.chan c) := by
  unfold State.haltChannel Ring.engineHalted
  rw [s.halts_eq]
  split
  · exact s.haltRing_ring _ _ _
  · rfl

theorem State.otherRings_haltChannel (s : State) (c : Nat) : s.otherRings (s.haltChannel c) c := by
  unfold State.haltChannel
  split
  · exact (State.keepsInflight.haltRing s c _ _).2
  · exact fun _ _ => rfl

/-- After the turns of several channels the ring of each has halted, if the halt of the engine halts it. -/
theorem State.forEach_haltChannel_ring {l : List Nat} {c : Nat} (hl : l.Nodup) (hc : c ∈ l) (s : State) :
    (s.forEach l State.haltChannel).ring c = (s.ring c).engineHalted (s.chan c) := by
  have hloop := State.forEach_reading_of_mem (f := State.haltChannel) (c := c) (fun u => (u.ring c, u.chan c))
    (g := fun x => (x.1.engineHalted x.2, x.2))
    (fun u j hj => Prod.ext (u.otherRings_haltChannel j c hj.symm) (State.chan_of_siph (u.haltChannel_siph j) c))
    (fun u => Prod.ext (u.haltChannel_ring c) (State.chan_of_siph (u.haltChannel_siph c) c)) hl hc s
  exact congrArg Prod.fst hloop

/-- A bus error of a running engine: its registers, and the ring of every channel. -/
theorem State.busError_spec {s : State} (h : s.siph.halted = false) (kind : BusErrKind) (addr : Nat) (cands : List Nat) :
    let t := s.busError kind addr cands
    t.siph.halted = true ∧ t.siph.errKind = errKindCode kind ∧ t.siph.errAddr = addr ∧ t.siph.halts = satInc 32 s.siph.halts
      ∧ ∀ c : Fin 64, t.ring c = (s.ring c).engineHalted (s.chan c) := by
  obtain ⟨hque, hsiph⟩ := s.partialMoves_frame
  obtain ⟨hhalted, hkind, haddr, hhalts, hchans⟩ := s.partialMoves.noteBusError_siph kind addr cands
  have hrings := s.partialMoves.noteBusError_que kind addr cands
  rw [State.busError_of_running h]
  generalize s.partialMoves.noteBusError kind addr cands = u at *
  dsimp only
  rw [State.level_siph, State.forEach_reading State.siph State.haltChannel_siph]
  refine ⟨hhalted, hkind, haddr, hsiph ▸ hhalts, fun c => ?_⟩
  have hchan : u.chan c = s.chan c := congrArg (fun l => Tbl.get Chan.reset l c) (hchans.trans (congrArg Siph.chans hsiph))
  have hmem : c.val ∈ List.range 64 := List.mem_range.2 c.isLt
  rw [State.ring_of_que (State.level_que _ _ _), State.forEach_haltChannel_ring List.nodup_range hmem, hchan,
    State.ring_of_que (hrings.trans hque)]

theorem exec_siphonBusError_of_halted {s : State} (h : s.siph.halted = true) (kind : BusErrKind) (addr : Nat) (cands : List (Fin 64)) :
    exec (.siphonBusError kind addr cands) s = .next s := by
  show execSiphonBusError kind addr cands s = _
  unfold execSiphonBusError
  rw [if_neg (by simp [h]), State.busError_of_halted h]

/-- A bus error of a running engine, which counts one of device memory, in a state whose rings and channels are those of `s`. -/
theorem exec_siphonBusError {s : State} (h : s.siph.halted = false) (kind : BusErrKind) (addr : Nat) (cands : List (Fin 64)) :
    ∃ u : State, u.que = s.que ∧ u.siph = s.siph
      ∧ exec (.siphonBusError kind addr cands) s = .next (u.busError kind addr (cands.map (fun c => c.val))) := by
  by_cases hkind : kind = .memory
  · exact ⟨_, State.countUncorrectable_que s addr, State.countUncorrectable_siph s addr,
      congrArg Host.Outcome.next (if_pos (by simp [h, hkind]))⟩
  · exact ⟨s, rfl, rfl, congrArg Host.Outcome.next (if_neg (by simp [hkind]))⟩

/-! ## The engine restarts (R270, R271) -/

/-- The channels that a restart retires: the candidates of a fourth error. -/
def Siph.dead (y : Siph) : List Nat := if decide (4 ≤ y.windowMasks.length) then candidateSet y.windowMasks else []

theorem candidateSet_nodup (l : List Nat) : (candidateSet l).Nodup := List.Nodup.filter _ List.nodup_range

theorem Siph.dead_of_spent {y : Siph} (h : 4 ≤ y.windowMasks.length) : y.dead = candidateSet y.windowMasks := if_pos (by simpa using h)

theorem Siph.dead_of_budget {y : Siph} (h : y.windowMasks.length < 4) : y.dead = [] := if_neg (by simpa using h)

theorem Siph.dead_nodup (y : Siph) : y.dead.Nodup := by
  unfold Siph.dead
  split
  · exact candidateSet_nodup _
  · exact List.nodup_nil

/-- A candidate is retired, and its ring stays HALTED with RETIRED. -/
def State.retireCandidate (s : State) (c : Nat) : State :=
  (s.modChan c (fun x => { x with retired := true })).haltRing c Status.retired.code (s.chan c).restartPos

/-- The retirement of the candidates of a fourth error. -/
def State.retireCandidates (s : State) : State :=
  let t := s.forEach s.siph.dead State.retireCandidate
  if s.siph.dead.isEmpty then t else t.raise .siphonChannelRetired

/-- The registers `y` of the engine after a restart, which uses up an attempt or closes the window, beside what is left of `z`. -/
def Siph.restarted (y z : Siph) : Siph :=
  let spent := decide (4 ≤ y.windowMasks.length)
  { z with halted := false, restarts := satInc 32 y.restarts, attempts := if spent then 0 else y.attempts + 1,
           windowOpen := !spent, windowMasks := if spent then [] else y.windowMasks }

theorem Siph.restarted_of_budget {y : Siph} (h : y.windowMasks.length < 4) (z : Siph) : y.restarted z = { z with
    halted := false, restarts := satInc 32 y.restarts, attempts := y.attempts + 1, windowOpen := true, windowMasks := y.windowMasks } := by
  simp [Siph.restarted, h]

theorem Siph.restarted_of_spent {y : Siph} (h : 4 ≤ y.windowMasks.length) (z : Siph) : y.restarted z = { z with
    halted := false, restarts := satInc 32 y.restarts, attempts := 0, windowOpen := false, windowMasks := [] } := by
  simp [Siph.restarted, h]

/-- The engine runs again, before its channels do. -/
def State.engineRuns (s : State) : State :=
  State.raise (State.level { s.retireCandidates with siph := s.siph.restarted s.retireCandidates.siph } .siphonHalt false)
    .siphonRestarted

/-- A channel that a restart resumes: the engine's halt had halted it, and it is not retired. -/
def State.resumes (s : State) (c : Nat) : Bool :=
  (s.ring c).force.cls == ringSiphon && (s.ring c).state == .halted && (s.ring c).haltCode == Status.busError.code && !(s.chan c).retired

/-- The channels run again. -/
def State.resumeChannels (s : State) : State := s.forEach ((List.range 64).filter s.resumes) State.restartChannel

theorem exec_siphonRestart {s : State} (hhalted : s.siph.halted = true) (hcore : s.coreUp 1 = true) (hnone : s.siph.reenables = []) :
    exec .siphonRestart s
      = .next { s.engineRuns.resumeChannels with siph := { s.engineRuns.resumeChannels.siph with reenables := [] } } := by
  refine congrArg Host.Outcome.next ((if_neg (by simp [hhalted, hcore])).trans ?_)
  extract_lets _ _ retired _ _ engine channels reenabled
  have hretired : retired = s.retireCandidates := rfl
  have hengine : engine = s.engineRuns := by
    unfold State.engineRuns
    rw [← hretired]
    rfl
  have hchannels : channels = s.engineRuns.resumeChannels := by
    rw [← hengine]
    rfl
  have hreenabled : reenabled = channels := by
    show channels.forEach s.siph.reenables _ = channels
    rw [hnone]
    rfl
  exact congrArg (fun t : State => { t with siph := { t.siph with reenables := [] } }) (hreenabled.trans hchannels)

/-! ### The candidates -/

theorem State.retireCandidate_siph (s : State) (c : Nat) :
    (s.retireCandidate c).siph = (s.modChan c (fun x => { x with retired := true })).siph :=
  State.haltRing_siph _ _ _ _

theorem State.retireCandidates_siph (s : State) : s.retireCandidates.siph = (s.forEach s.siph.dead State.retireCandidate).siph := by
  unfold State.retireCandidates
  dsimp only
  split
  · rfl
  · exact State.raise_siph _ _

theorem State.retireCandidates_of_budget {s : State} (h : s.siph.windowMasks.length < 4) : s.retireCandidates = s := by
  unfold State.retireCandidates
  rw [Siph.dead_of_budget h]
  rfl

/-- The candidates are retired, and the channels that were. -/
theorem State.retireCandidates_retired (s : State) (c : Nat) :
    (s.retireCandidates.chan c).retired = ((s.chan c).retired || s.siph.dead.contains c) := by
  have hturn : ∀ (t : State) j, (t.retireCandidate j).chan c = (t.modChan j (fun x => { x with retired := true })).chan c :=
    fun t j => State.chan_of_siph (t.retireCandidate_siph j) c
  have hne : ∀ (t : State) j, j ≠ c → ((t.retireCandidate j).chan c).retired = (t.chan c).retired := fun t j hj =>
    congrArg Chan.retired ((hturn t j).trans (t.chan_modChan_ne _ hj.symm))
  rw [State.chan_of_siph s.retireCandidates_siph c]
  by_cases hc : c ∈ s.siph.dead
  · have hself : ∀ t : State, ((t.retireCandidate c).chan c).retired = true := fun t =>
      congrArg Chan.retired ((hturn t c).trans (t.chan_modChan_self c _))
    rw [State.forEach_reading_of_mem (fun t => (t.chan c).retired) hne (g := fun _ => true) hself s.siph.dead_nodup hc s]
    simp [hc]
  · rw [State.forEach_reading_of_not_mem (fun t => (t.chan c).retired) hne hc s]
    simp [hc]

/-! ### The engine -/

theorem State.engineRuns_siph (s : State) : s.engineRuns.siph = s.siph.restarted s.retireCandidates.siph :=
  (State.raise_siph _ _).trans (State.level_siph _ _ _)

theorem State.engineRuns_que (s : State) : s.engineRuns.que = s.retireCandidates.que :=
  (State.raise_que _ _).trans (State.level_que _ _ _)

theorem State.engineRuns_chan (s : State) (c : Nat) : s.engineRuns.chan c = s.retireCandidates.chan c := by
  unfold State.chan
  rw [s.engineRuns_siph]
  rfl

/-! ### The channels -/

theorem Ring.fillSump_of_empty {r : Ring} (h : r.inflight = []) (n : Nat) : r.fillSump n = r := by
  cases n with
  | zero => rfl
  | succ n => simp only [Ring.fillSump, h]

/-- A ring with nothing in hand that resumes still has nothing in hand. -/
theorem State.restartRing_empty {s : State} {q : Nat} (h : (s.ring q).inflight = []) : s.keepsInflight (s.restartRing q) q := by
  unfold State.restartRing
  dsimp only
  have hdrain := State.keepsInflight.trans
    (State.keepsInflight.modRing s q (f := fun r => { r with state := .running, inline := [], dbPending := true, reread := true }) rfl)
    (State.keepsInflight.drainSump _ q 64)
  refine State.keepsInflight.trans hdrain (State.keepsInflight.trans ?_ (State.keepsInflight.settleRing _ q))
  split
  · exact State.keepsInflight.of_que rfl
  · refine State.keepsInflight.modRing _ q ?_
    split
    · rfl
    · rw [Ring.fillSump_of_empty (hdrain.1.trans h)]

/-- A channel stands again after its last retired descriptor: its descriptors in execution are abandoned. -/
def State.rewindChannel (s : State) (c : Nat) : State :=
  let t := s.modChan c (fun x => { x with acc := x.saved })
  t.modRing c (fun r => { r with inflight := [], head := (t.chan c).restartPos })

theorem State.restartChannel_siph (s : State) (c : Nat) :
    (s.restartChannel c).siph = (s.modChan c (fun x => { x with acc := x.saved })).siph :=
  (State.restartRing_kept (.refl (s.rewindChannel c))).siph_eq

theorem State.restartChannel_chan_self (s : State) (c : Nat) : (s.restartChannel c).chan c = { s.chan c with acc := (s.chan c).saved } :=
  (State.chan_of_siph (s.restartChannel_siph c) c).trans (s.chan_modChan_self c _)

theorem State.restartChannel_chan_ne (s : State) {c j : Nat} (h : j ≠ c) : (s.restartChannel c).chan j = s.chan j :=
  (State.chan_of_siph (s.restartChannel_siph c) j).trans (s.chan_modChan_ne _ h)

/-- A channel that restarts has no descriptor in execution, and no other ring changes. -/
theorem State.restartChannel_ring (s : State) (c : Nat) :
    ((s.restartChannel c).ring c).inflight = [] ∧ s.otherRings (s.restartChannel c) c := by
  have hempty : ((s.rewindChannel c).ring c).inflight = [] := congrArg Ring.inflight (State.ring_modRing_self _ c _)
  obtain ⟨hself, hother⟩ := State.restartRing_empty hempty
  exact ⟨hself.trans hempty, fun j hj => (hother j hj).trans (State.ring_modRing_ne _ _ hj)⟩

/-- Of the engine's registers the channels that run again change only the channels, and none is retired by it. -/
theorem State.resumeChannels_frame (s : State) (c : Nat) :
    { s.resumeChannels.siph with chans := [] } = { s.siph with chans := [] }
      ∧ (s.resumeChannels.chan c).retired = (s.chan c).retired := by
  refine ⟨State.forEach_reading (fun t => { t.siph with chans := [] }) (fun t j => ?_) _ s,
    State.forEach_reading (fun t => (t.chan c).retired) (fun t j => ?_) _ s⟩
  · dsimp only
    rw [t.restartChannel_siph j]
    rfl
  · by_cases hj : c = j
    · subst hj
      rw [t.restartChannel_chan_self c]
    · rw [t.restartChannel_chan_ne hj]

/-- Each of several channels that restart has the accumulators of its last retirement and no descriptor in execution. -/
theorem State.forEach_restartChannel {l : List Nat} {c : Nat} (hl : l.Nodup) (hc : c ∈ l) (s : State) :
    ((s.forEach l State.restartChannel).chan c).acc = (s.chan c).saved
      ∧ ((s.forEach l State.restartChannel).ring c).inflight = [] := by
  have hchan := State.forEach_reading_of_mem (f := State.restartChannel) (fun t => t.chan c)
    (fun t _ hj => t.restartChannel_chan_ne hj.symm) (g := fun x => { x with acc := x.saved }) (fun t => t.restartChannel_chan_self c) hl hc s
  have hother : ∀ (t : State) j, j ≠ c → ((t.restartChannel j).ring c).inflight = (t.ring c).inflight := fun t j hj =>
    congrArg Ring.inflight ((t.restartChannel_ring j).2 c hj.symm)
  have hself : ∀ t : State, ((t.restartChannel c).ring c).inflight = [] := fun t => (t.restartChannel_ring c).1
  exact ⟨congrArg Chan.acc hchan, State.forEach_reading_of_mem (fun t => (t.ring c).inflight) hother (g := fun _ => []) hself hl hc s⟩

theorem State.resumeChannels_resumed {s : State} {c : Fin 64} (h : s.resumes c = true) :
    (s.resumeChannels.chan c).acc = (s.chan c).saved ∧ (s.resumeChannels.ring c).inflight = [] := by
  have hmem : c.val ∈ (List.range 64).filter s.resumes := List.mem_filter.2 ⟨List.mem_range.2 c.isLt, h⟩
  exact State.forEach_restartChannel (List.nodup_range.filter _) hmem s

/-- After a restart with no REENABLE waiting: the engine's registers, and one channel. -/
theorem exec_siphonRestart_spec {s : State} (hhalted : s.siph.halted = true) (hcore : s.coreUp 1 = true) (hnone : s.siph.reenables = [])
    (c : Fin 64) : ∃ t, exec .siphonRestart s = .next t
      ∧ { t.siph with chans := [], reenables := [] } = { s.siph.restarted s.retireCandidates.siph with chans := [], reenables := [] }
      ∧ (t.chan c).retired = (s.retireCandidates.chan c).retired
      ∧ (s.engineRuns.resumes c = true → (t.chan c).acc = (s.retireCandidates.chan c).saved ∧ (t.ring c).inflight = []) := by
  have hexec := exec_siphonRestart hhalted hcore hnone
  obtain ⟨hsiph, hretired⟩ := s.engineRuns.resumeChannels_frame c
  have hresumed := State.resumeChannels_resumed (s := s.engineRuns) (c := c)
  rw [s.engineRuns_siph] at hsiph
  rw [s.engineRuns_chan] at hretired hresumed
  generalize s.engineRuns.resumeChannels = u at *
  exact ⟨_, hexec, congrArg (fun y : Siph => { y with reenables := [] }) hsiph, hretired, hresumed⟩

/-! ## REENABLE (R272) -/

section
variable {s : State} {fn : Fn} {c : Fin 64} (hup : s.hostUp fn = true) (hreach : s.ringReach fn c = true)
include hup hreach

theorem exec_reenable (hretired : (s.chan c).retired = true) (hrun : s.siph.halted = false) :
    exec (.reenable fn c) s
      = .next (s.modChan c (fun x => { x with retired := false, acc := Accs.reset, saved := Accs.reset })) := by
  show execReenable fn c s = _
  simp [execReenable, State.reenable, State.reenableNow, hup, hreach, hretired, hrun]

/-- While the engine is halted a REENABLE waits for its restart. -/
theorem exec_reenable_waits (hhalted : s.siph.halted = true) :
    exec (.reenable fn c) s = .next { s with siph := { s.siph with reenables := insertSorted c s.siph.reenables } } := by
  show execReenable fn c s = _
  simp [execReenable, State.reenable, hup, hreach, hhalted]

end

/-! ## DESCRIPTOR_RETIRE (R266, R267) -/

/-- A descriptor that failed is counted. -/
def State.countFailed (s : State) (c : Nat) (st : Status) : State := if st = .ok then s else s.descFailed c st

theorem State.countFailed_que (s : State) (c : Nat) (st : Status) : (s.countFailed c st).que = s.que := by
  unfold State.countFailed
  split
  · rfl
  · exact (State.descFailed_kept (.refl s)).que_eq

theorem State.countFailed_ok (s : State) (c : Nat) : s.countFailed c .ok = s := if_pos rfl

theorem State.countFailed_chan (s : State) (c : Nat) {st : Status} (h : st ≠ .ok) :
    (s.countFailed c st).chan c = { s.chan c with
      lastStatus := st.code, failed := satInc 16 (s.chan c).failed, acc := { (s.chan c).acc with pubFail := true } } := by
  unfold State.countFailed
  rw [if_neg h]
  exact (State.chan_of_siph (State.raise_siph _ _) c).trans (s.chan_modChan_self c _)

/-- The channel after a descriptor that ended with a status: its accumulators are kept for a restart behind the descriptor. -/
def State.retiredBehind (s : State) (c : Nat) (st : Status) (pos : Nat) : Chan :=
  let x := (s.countFailed c st).chan c
  { x with saved := x.acc, restartPos := pos }

/-- The oldest descriptor leaves its ring with a status, before its header is written. -/
def State.leaveRing (s : State) (c : Nat) (rest : List Exec) (st : Status) (pos : Nat) : State :=
  ((s.countFailed c st).modRing c (fun r => { r with inflight := rest })).modChan c
    (fun x => { x with saved := x.acc, restartPos := pos })

theorem State.leaveRing_chan (s : State) (c : Nat) (rest : List Exec) (st : Status) (pos : Nat) :
    (s.leaveRing c rest st pos).chan c = s.retiredBehind c st pos :=
  State.chan_modChan_self _ c _

theorem State.otherRings_leaveRing (s : State) (c : Nat) (rest : List Exec) (st : Status) (pos : Nat) :
    s.otherRings (s.leaveRing c rest st pos) c :=
  fun j hj => ((s.countFailed c st).ring_modRing_ne (fun r => { r with inflight := rest }) hj).trans
    (State.ring_of_que (s.countFailed_que c st) j)

theorem State.retireDescriptor_eq {s : State} {c : Nat} {e : Exec} {rest : List Exec} {st : Status} {res : Nat}
    (hinflight : (s.ring c).inflight = e :: rest) (hphase : e.phase = .finished st res) (wr : RetireWrites) :
    s.retireDescriptor c wr = ((s.leaveRing c rest st ((e.pos + e.len) % (s.ring c).size)).retireRecord c
      { e.record st res with noRec := true } false wr).1.settleRing c := by
  unfold State.retireDescriptor
  simp only [hinflight, hphase]
  rfl

/-- The oldest descriptor of a channel, once finished, retires. -/
theorem State.retireDescriptor_finished {s : State} {c : Nat} {e : Exec} {rest : List Exec} {st : Status} {res : Nat}
    (hinflight : (s.ring c).inflight = e :: rest) (hphase : e.phase = .finished st res) (wr : RetireWrites) :
    (s.retireDescriptor c wr).chan c = s.retiredBehind c st ((e.pos + e.len) % (s.ring c).size)
      ∧ s.otherRings (s.retireDescriptor c wr) c := by
  rw [State.retireDescriptor_eq hinflight hphase]
  have hleft := s.otherRings_leaveRing c rest st ((e.pos + e.len) % (s.ring c).size)
  have hchan := s.leaveRing_chan c rest st ((e.pos + e.len) % (s.ring c).size)
  generalize s.leaveRing c rest st ((e.pos + e.len) % (s.ring c).size) = u at *
  obtain ⟨-, hretire⟩ := State.keepsInflight.trans (.retireRecord u c { e.record st res with noRec := true } false wr) (.settleRing _ c)
  refine ⟨(State.chan_of_siph ?_ c).trans hchan, State.otherRings_trans hleft hretire⟩
  exact (State.settleRing_kept (.refl _)).siph_eq.trans (State.retireRecord_kept (.refl _)).siph_eq

theorem exec_descriptorRetire {s : State} {c : Fin 64} (hrun : s.siph.halted = false) (hcls : (s.ring c).force.cls = ringSiphon)
    (hretired : (s.chan c).retired = false) : exec (.descriptorRetire c) s = .next (s.retireDescriptor c .ok) :=
  congrArg Host.Outcome.next (if_neg (by simp [hrun, hcls, hretired]))

/-- Settles O46, command by command: a bus error of an engine that runs and of one that has halted, a restart within the budget and
one beyond it, a REENABLE at once and one that waits, and the retirement of a descriptor. -/
theorem channelsHaltAndRestart : Obligations.ChannelsHaltAndRestart := by
  intro s c
  refine ⟨fun k addr l hrun => ?error, fun k addr l hhalted => ⟨_, exec_siphonBusError_of_halted hhalted k addr l, rfl⟩,
    fun hhalted hcore hnone => ⟨fun hbudget => ?restart, fun hspent => ?spent⟩,
    fun f hup hreach hretired => ⟨fun hrun => ?reenable, fun hhalted => ?waits⟩,
    fun e rest st res hrun hcls hretired hinflight hphase => ?retire⟩
  case error =>
    obtain ⟨u, hque, hsiph, hexec⟩ := exec_siphonBusError hrun k addr l
    obtain ⟨hhalted, hkind, haddr, hhalts, hring⟩ := State.busError_spec (hsiph ▸ hrun) k addr (l.map (fun c => c.val))
    have hring := hring c
    rw [State.ring_of_que hque, State.chan_of_siph hsiph] at hring
    refine ⟨_, hexec, hhalted, hkind, haddr, hsiph ▸ hhalts, fun hhalts => ?_,
      fun hstays => hring.trans (Ring.engineHalted_of_stays hstays), heads_of_exec hexec rfl⟩
    rw [hring]
    exact Ring.engineHalted_fields hhalts
  case restart =>
    obtain ⟨t, hexec, hsiph, hretired, hresumed⟩ := exec_siphonRestart_spec hhalted hcore hnone c
    have hsame := State.retireCandidates_of_budget hbudget
    have hring : s.engineRuns.ring c = s.ring c := State.ring_of_que (s.engineRuns_que.trans (congrArg State.que hsame)) c
    have hchan : s.engineRuns.chan c = s.chan c := (s.engineRuns_chan c).trans (congrArg (State.chan · c) hsame)
    rw [Siph.restarted_of_budget hbudget] at hsiph
    rw [hsame] at hretired hresumed
    refine ⟨t, hexec, congrArg Siph.halted hsiph, congrArg Siph.restarts hsiph, congrArg Siph.attempts hsiph, hretired,
      fun hcls hstate hcode hkept => hresumed ?_⟩
    simp [State.resumes, hring, hchan, hcls, hstate, hcode, hkept]
  case spent =>
    obtain ⟨t, hexec, hsiph, hretired, -⟩ := exec_siphonRestart_spec hhalted hcore hnone c
    rw [Siph.restarted_of_spent hspent] at hsiph
    rw [s.retireCandidates_retired, Siph.dead_of_spent hspent] at hretired
    exact ⟨t, hexec, congrArg Siph.halted hsiph, congrArg Siph.windowMasks hsiph, congrArg Siph.attempts hsiph, hretired⟩
  case reenable =>
    exact ⟨_, exec_reenable hup hreach hretired hrun, s.chan_modChan_self c _, fun j hj => s.chan_modChan_ne _ hj, rfl, rfl⟩
  case waits =>
    exact ⟨_, exec_reenable_waits hup hreach hhalted, List.contains_iff_mem.2 (mem_insertSorted.2 (.inl rfl)), rfl, rfl, rfl⟩
  case retire =>
    obtain ⟨hchan, hother⟩ := State.retireDescriptor_finished hinflight hphase .ok
    have hexec := exec_descriptorRetire hrun hcls hretired
    refine ⟨_, hexec, congrArg Chan.restartPos hchan, fun hok => ?_, fun hfailed => ?_, hother, heads_of_exec hexec rfl⟩
    · subst hok
      rw [hchan, State.retiredBehind, s.countFailed_ok]
      exact ⟨rfl, rfl⟩
    · rw [hchan, State.retiredBehind, s.countFailed_chan c hfailed]
      exact ⟨rfl, rfl, rfl⟩

end Sys2Proof.Machine
end

section
/-!
PROOFS. The 2D engine: a unit takes an entry or stays free (R278, R294), and a command that meets no fault runs to its end (R283 to R290).
-/

namespace Sys2Proof.Machine

/-! ## A unit takes a command (R278, R294) -/

/-- The entry `e` of ring `q` runs, and unit `u` has it in hand. -/
def State.takeEntry (s : State) (u q : Nat) (e : Exec) : State :=
  (s.modRing q (fun r => r.setExec e.pos (fun y => { y with phase := .running }))).setUnit u
    { s.unit u with state := .running, ring := q, position := e.pos, linesDone := e.aux.headD 0 }

theorem State.otherRings_takeEntry (s : State) (u q : Nat) (e : Exec) : s.otherRings (s.takeEntry u q e) q :=
  State.otherRings_trans (s.otherRings_modRing q (fun r => r.setExec e.pos (fun y => { y with phase := .running })))
    (State.otherRings_of_que rfl)

/-- A free unit takes the next entry that waits, of a command that is not staged. -/
theorem exec_blitUnitTake_takes {s : State} {u : Fin 4} {q : Nat} {e : Exec} (hidle : (s.unit u).state = .idle)
    (hshed : s.sheds 4 = false) (hnext : s.nextBlit = some (q, e)) (hstaged : (blitCmd e).staged = false) :
    exec (.blitUnitTake u) s = .next { s.takeEntry u q e with blit := { (s.takeEntry u q e).blit with
      lastRing := if e.aux.isEmpty then q else s.blit.lastRing } } := by
  show execBlitUnitTake u s = _
  simp [execBlitUnitTake, State.unitHolds, State.takeEntry, State.modRing, hidle, hshed, hnext, hstaged]

/-- A free unit stays as it is while BULK work is shed or nothing waits. -/
theorem exec_blitUnitTake_stays {s : State} {u : Fin 4} (hidle : (s.unit u).state = .idle)
    (hnone : s.sheds 4 = true ∨ s.nextBlit = none) : exec (.blitUnitTake u) s = .next (s.setUnit u (s.unit u)) := by
  have hsame : ({ s.unit u with state := .idle } : Unit2D) = s.unit u := by rw [← hidle]
  show execBlitUnitTake u s = _
  by_cases hshed : s.sheds 4 = true
  · simp [execBlitUnitTake, State.unitHolds, hidle, hshed, hsame]
  · simp [execBlitUnitTake, State.unitHolds, hidle, hshed, hnone.resolve_left hshed, hsame]

/-! ## The end of a command (R248, R290) -/

/-- A ring that can take no further record, not even in its Sump. -/
def Ring.keepsRecords (r : Ring) : Bool := (r.cqFull || !r.sump.isEmpty) && decide (8 ≤ r.sumpCount)

/-- Passing on the staging store changes no unit but in its state. -/
theorem State.unit_freeStaging (s : State) (u j : Nat) :
    (s.freeStaging u).unit j = { s.unit j with state := ((s.freeStaging u).unit j).state } := by
  unfold State.freeStaging
  split
  · rfl
  · split
    · rfl
    next v rest _ =>
      by_cases hj : j = v
      · subst hj
        rw [State.unit_modUnit_self]
        rfl
      · rw [State.unit_modUnit_ne _ _ hj]
        rfl

theorem State.freeStaging_que (s : State) (u : Nat) : (s.freeStaging u).que = s.que := (State.freeStaging_kept (.refl s)).que_eq

theorem State.settleRing_blit (s : State) (q : Nat) : (s.settleRing q).blit = s.blit := (State.settleRing_kept (.refl s)).blit_eq

theorem State.endBlit_mem (s : State) (u q : Nat) (e : Exec) (st : Status) (res : Nat) : (s.endBlit u q e st res).mem = s.mem :=
  (State.endBlit_kept (.refl s)).mem_eq

/-- A command that ends without a bus error leaves its unit free, or holding the entry while its ring can take no record. -/
theorem State.endBlit_unit (s : State) (u q : Nat) (e : Exec) {st : Status} (h : st ≠ .busError) (res : Nat) :
    (s.endBlit u q e st res).unit u = { s.unit u with state := if (s.ring q).keepsRecords then .held else .idle } := by
  unfold State.endBlit
  dsimp only
  rw [if_neg h, State.unit_of_blit (State.settleRing_blit _ q), State.unit_modUnit_self, State.unit_freeStaging]
  rfl

theorem State.hasFinished_of_keepsInflight {s t : State} {q : Nat} (h : s.keepsInflight t q) (pos : Nat) (st : Status) (res : Nat) :
    t.hasFinished q pos st res = s.hasFinished q pos st res := by
  obtain ⟨hself, -⟩ := h
  unfold State.hasFinished
  rw [hself]

/-- What follows the finish of an entry leaves the entries in execution, and the other rings. -/
theorem State.endBlit_keepsInflight (s : State) (u q : Nat) (e : Exec) {st : Status} (h : st ≠ .busError) (res : Nat) :
    (s.finishAt q e.pos st res).keepsInflight (s.endBlit u q e st res) q := by
  unfold State.endBlit
  dsimp only
  rw [if_neg h]
  refine State.keepsInflight.trans (State.keepsInflight.trans (.of_que (State.freeStaging_que _ u)) ?_) (.settleRing _ q)
  exact .of_que rfl

/-! ## A command runs to its end (R283 to R289) -/

theorem State.blitLines_que (s : State) (u : Nat) (c : BlitCmd) (m : List Host.Cell) (k0 k1 : Nat) :
    (s.blitLines u c m k0 k1).que = s.que := (State.blitLines_kept (.refl s)).que_eq

theorem State.blitLines_linesDone (s : State) (u : Nat) (c : BlitCmd) (m : List Host.Cell) (k0 k1 : Nat) :
    ((s.blitLines u c m k0 k1).unit u).linesDone = k1 := by
  unfold State.blitLines
  dsimp only
  rw [State.unit_modUnit_self]

/-- The command in hand of a unit is an entry in execution on its ring. -/
theorem State.unitEntry_mem {s : State} {u q : Nat} {e : Exec} (h : s.unitEntry u = some (q, e)) : e ∈ (s.ring q).inflight := by
  unfold State.unitEntry at h
  dsimp only at h
  split at h
  · cases h
  · obtain ⟨x, hfound, hx⟩ := Option.map_eq_some_iff.1 h
    cases hx
    exact List.mem_of_find?_eq_some hfound

/-- A command without a fault, not staged, writes its lines from the first that is left, and ends OK. -/
theorem State.blitRun_of_noFault {s : State} {u q op : Nat} {e : Exec} (hentry : s.unitEntry u = some (q, e)) (hop : e.opcode = op)
    (hstaged : (blitCmd e).staged = false) (hstop : s.readStop (blitCmd e) (e.aux.headD 0) .none = none) :
    s.blitRun u op .none = (s.blitLines u (blitCmd e) (s.sourceCopy (blitCmd e)) (e.aux.headD 0) (blitCmd e).dh).endBlit u q e .ok
      ((blitCmd e).result (blitCmd e).dh) := by
  simp [State.blitRun, State.stage, State.blitFinish, -List.headD_eq_head?_getD, hentry, hop, hstaged, hstop]

/-- The lines are written and the command ends OK: its entry has finished, its unit is done, and memory is as the lines leave it. -/
theorem State.blitLines_endBlit {s : State} {u q : Nat} {e : Exec} (he : e ∈ (s.ring q).inflight) (c : BlitCmd) (m : List Host.Cell)
    (k0 k1 res : Nat) :
    let t := (s.blitLines u c m k0 k1).endBlit u q e .ok res
    t.hasFinished q e.pos .ok res = true ∧ t.mem = (s.blitLines u c m k0 k1).mem ∧ (t.unit u).linesDone = k1
      ∧ ((t.unit u).state = .idle ∨ (t.unit u).state = .held) ∧ s.otherRings t q := by
  have hque := s.blitLines_que u c m k0 k1
  have hlines := s.blitLines_linesDone u c m k0 k1
  generalize s.blitLines u c m k0 k1 = w at *
  have hkeeps := w.endBlit_keepsInflight u q e (st := .ok) nofun res
  have hunit := w.endBlit_unit u q e (st := .ok) nofun res
  refine ⟨?finished, w.endBlit_mem u q e .ok res, (congrArg Unit2D.linesDone hunit).trans hlines, ?free, ?others⟩
  case finished =>
    rw [State.hasFinished_of_keepsInflight hkeeps]
    exact State.hasFinished_finishAt (State.ring_of_que hque q ▸ he)
  case free =>
    rw [hunit]
    dsimp only
    split
    · exact .inr rfl
    · exact .inl rfl
  case others =>
    obtain ⟨-, hother⟩ := hkeeps
    exact State.otherRings_trans (State.otherRings_of_que hque) (State.otherRings_trans (w.otherRings_finishAt q _ _ _) hother)

/-- Each of the four commands runs on its unit the entry of its opcode. -/
theorem exec_blit {u : Fin 4} {op : Nat} {i : Instr}
    (h : (op, i) ∈ [(opCopy, Instr.copy u .none), (opFill, Instr.fill u .none), (opConvert, Instr.convert u .none),
      (opTransform, Instr.transform u .none)]) (s : State) : exec i s = .next (s.blitRun u op .none) := by
  simp only [List.mem_cons, List.not_mem_nil, or_false, Prod.mk.injEq] at h
  rcases h with ⟨rfl, rfl⟩ | ⟨rfl, rfl⟩ | ⟨rfl, rfl⟩ | ⟨rfl, rfl⟩ <;> rfl

/-- Settles O47: a unit that takes an entry, one that stays free, and the run of each of the four commands. -/
theorem unitsRunCommands : Obligations.UnitsRunCommands := by
  intro s u q e x free
  refine ⟨fun hidle hshed hnext hstaged => ?takes, fun hidle hnone => ?stays, fun op i hi hentry hop hstaged hstop => ?runs⟩
  case takes =>
    exact ⟨_, exec_blitUnitTake_takes hidle hshed hnext hstaged, State.unit_setUnit_self _ u _,
      fun j hj => State.unit_setUnit_ne _ _ hj, rfl, s.otherRings_takeEntry u q e⟩
  case stays =>
    exact ⟨_, exec_blitUnitTake_stays hidle hnone, s.unit_setUnit_self u _, rfl, rfl⟩
  case runs =>
    have hrun := State.blitRun_of_noFault hentry hop hstaged hstop
    have hheads : (s.blitRun u op .none).heads = s.heads := (State.blitRun_kept (.refl s)).heads_eq
    obtain ⟨hfinished, hmem, hlines, hstate, hother⟩ := State.blitLines_endBlit (u := u) (State.unitEntry_mem hentry) (blitCmd e)
      (s.sourceCopy (blitCmd e)) (e.aux.headD 0) (blitCmd e).dh ((blitCmd e).result (blitCmd e).dh)
    rw [← hrun] at hfinished hmem hlines hstate hother
    exact ⟨_, exec_blit hi s, hfinished, hmem, hlines, hstate, hother, hheads⟩

end Sys2Proof.Machine
end

section
/-!
PROOFS. What holds of every command (95_what_each_step_holds.md): a step runs the front of the queue, every command answers, and
every command leaves the parts of the state that are not its own.
-/

namespace Sys2Proof.Machine

/-! ## The frame -/

/-- Settles O57: each part that a command's frame names is as it was. -/
theorem commandsLeaveTheRest : Obligations.CommandsLeaveTheRest := by
  intro c s t e
  obtain ⟨-, -, hhealth, hdev, hhost, hwins, -, hque, hsiph, hblit, -, hsrc, hscn, -, hheads, -, -, -, -, hdict, hlop, -, -, hcores, hmode⟩ :=
    ((exec_kept s c).out t e).same
  have flag {b : Bool} (h : b = false) : (!b) = true := by rw [h]; rfl
  exact ⟨fun h => hmode (flag h), fun h => hcores (flag h), fun h => hwins (flag h), fun h => ⟨hdev h, hhost h⟩, hque, hheads,
    fun h => hhealth (flag h), fun h => hsiph (flag h), fun h => hblit (flag h), fun h => hsrc (flag h), fun h => hscn (flag h),
    fun h => hdict (flag h), fun h => hlop (flag h)⟩

/-! ## Every command answers -/

/-- An outcome is a next state. -/
def answers (o : Host.Outcome State Fault Refusal) : Prop := ∃ t, o = .next t

theorem answers_next (t : State) : answers (.next t) := ⟨t, rfl⟩

theorem answers_ite {c : Prop} [Decidable c] {a b : Host.Outcome State Fault Refusal} (ha : answers a) (hb : answers b) :
    answers (if c then a else b) := by split <;> assumption

theorem execPad_answers (q : Fin 256) (s : State) : answers (execPad q s) := by
  unfold execPad; split <;> exact answers_next _

theorem execNop_answers (q : Fin 256) (s : State) : answers (execNop q s) := by
  unfold execNop; split <;> exact answers_next _

theorem execAdmission_answers (s : State) : answers (execAdmission s) := by
  unfold execAdmission; split <;> exact answers_next _

theorem execLogWriteDone_answers (s : State) : answers (execLogWriteDone s) := by
  unfold execLogWriteDone; split <;> exact answers_next _

theorem execMessageIssue_answers (s : State) : answers (execMessageIssue s) := by
  unfold execMessageIssue; split <;> exact answers_next _

/-- Every command has a next state: most are written as one, the others as a choice of them. -/
theorem exec_answers (s : State) (c : Instr) : answers (exec c s) := by
  cases c with
  | pad q => exact execPad_answers q s
  | nop q => exact execNop_answers q s
  | admission => exact execAdmission_answers s
  | logWriteDone => exact execLogWriteDone_answers s
  | messageIssue => exact execMessageIssue_answers s
  | pendingSet fn w v => exact answers_ite (answers_next _) (answers_next _)
  | pendingClear fn w v => exact answers_ite (answers_next _) (answers_next _)
  | eventEnableWrite fn w al v => exact answers_ite (answers_next _) (answers_next _)
  | eoi fn w v => exact answers_ite (answers_next _) (answers_next _)
  | evcSourceWrite fn i v => exact answers_ite (answers_next _) (answers_ite (answers_next _) (answers_next _))
  | _ => exact answers_next _

/-- Settles O56: the next state exists, and the commands that wait are kept with the frame. -/
theorem everyCommandAnswers : Obligations.EveryCommandAnswers := by
  intro c s
  obtain ⟨t, e⟩ := exec_answers s c
  exact ⟨t, e, ((exec_kept s c).out t e).pending⟩

/-! ## A step with a command waiting -/

theorem step_of_cons {s : State} {c : Instr} {rest : List Instr} (h : s.pending = c :: rest) :
    step s = exec c { s with pending := rest } := by
  unfold step; rw [h]

/-- Settles O52: both queues have the command at their front. -/
theorem stepRunsTheFront : Obligations.StepRunsTheFront := fun _ _ _ h => ⟨step_of_cons h, step_of_cons rfl⟩

end Sys2Proof.Machine
end

section
/-!
PROOFS. Events (16_events.md): occurrences and levels (R403 to R406), the bitmaps of pending, enable and EOI (R404, R406), and the
sources' configuration, groups, messages and cores (R407, R408, R410 to R413).
-/

namespace Sys2Proof.Machine

/-! ## What leaves the sources, and what leaves the rest -/

@[simp] theorem State.ev_fixParity (s : State) (o j : Nat) : (s.fixParity o).ev j = s.ev j := rfl
@[simp] theorem State.ev_wbWatchNew (s old : State) (l : List Nat) (j : Nat) : (s.wbWatchNew old l).ev j = s.ev j :=
  State.ev_of_srcs (congrArg Evc.srcs (State.wbWatchNew_kept (.refl s)).evc_eq) j
@[simp] theorem State.reorder_mem (s : State) : s.reorder.mem = s.mem := rfl
@[simp] theorem State.wbWatchNew_mem (s old : State) (l : List Nat) : (s.wbWatchNew old l).mem = s.mem :=
  (State.wbWatchNew_kept (.refl s)).mem_eq

/-! ## Occurrences and levels (R405, R406) -/

/-- A pulse after FWREADY is an occurrence. -/
theorem State.raiseNum_of_ready {s : State} {i : Nat} (hr : evReserved i = false) (hf : s.sys.fwReady = true) :
    s.raiseNum i = s.occur i := by
  unfold State.raiseNum; simp [hr, hf]

/-- A pulse before FWREADY is kept for it (R441). -/
theorem State.raiseNum_of_boot {s : State} {i : Nat} (hr : evReserved i = false) (hf : s.sys.fwReady = false) :
    s.raiseNum i = { s with boot := { s.boot with pendingEvents := s.boot.pendingEvents ++ [i] } } := by
  unfold State.raiseNum; simp [hr, hf]

/-- The fall of a level: an EDGE source's pending bit stays, that of a LEVEL source that is not claimed falls too. -/
theorem State.levelTo_false_pending (s : State) (i : Nat) :
    ((s.ev i).raw = true → (s.ev i).level = true → (s.ev i).active = false → ((s.levelTo i false).ev i).pending = false)
    ∧ ((s.ev i).level = false → ((s.levelTo i false).ev i).pending = (s.ev i).pending) := by
  unfold State.levelTo
  cases hraw : (s.ev i).raw with
  | false => exact ⟨fun h => absurd h (by decide), fun _ => rfl⟩
  | true =>
    rw [if_neg (by decide), if_neg (by decide), State.ev_reorder, State.ev_modEv_self]
    exact ⟨fun _ hl ha => by simp [EvSrc.follow, hl, ha], fun hl => by simp [EvSrc.follow, hl]⟩

theorem exec_eventOccurrence_reserved {s : State} {i : Fin 1536} (h : evReserved i = true ∨ evSoftware i = true) :
    exec (.eventOccurrence i) s = .next s := by
  show execEventOccurrence i s = _
  unfold execEventOccurrence
  rcases h with h | h <;> simp [h]

section
variable {s : State} {i : Fin 1536} (hr : evReserved i = false) (hs : evSoftware i = false)
  (hpin : (decide (944 ≤ i.val ∧ i.val < 960) && bit (s.cfg 0x5801 1) (i - 944)) = false)
include hr hs hpin

/-- Outside the pins that are Siphon outputs, a condition's occurrence is a rise and every other one a pulse. -/
theorem exec_eventOccurrence_eq :
    exec (.eventOccurrence i) s = .next (if evCondition i then s.levelTo i true else s.raiseNum i) := by
  have hpin : ¬ (944 ≤ i.val ∧ i.val < 960 ∧ bit (s.cfg 0x5801 1) (i - 944) = true) := by
    rintro ⟨hlow, hhigh, hbit⟩
    simp [hlow, hhigh, hbit] at hpin
  show execEventOccurrence i s = _
  unfold execEventOccurrence
  rw [if_neg (by simp [hr, hs]), if_neg hpin]

theorem exec_eventOccurrence_pulse (hc : evCondition i = false) : exec (.eventOccurrence i) s = .next (s.raiseNum i) := by
  rw [exec_eventOccurrence_eq hr hs hpin, hc]; rfl

theorem exec_eventOccurrence_condition (hc : evCondition i = true) : exec (.eventOccurrence i) s = .next (s.levelTo i true) := by
  rw [exec_eventOccurrence_eq hr hs hpin, hc]; rfl

end

theorem exec_levelFall {s : State} {i : Fin 1536} (hc : evCondition i = true) : exec (.levelFall i) s = .next (s.levelTo i false) := by
  show execLevelFall i s = _
  unfold execLevelFall; rw [if_pos hc]

/-- Settles O48: a pulse is an occurrence from FWREADY on and is kept before it; a condition's level rises and falls. -/
theorem sourcesAssert : Obligations.SourcesAssert := by
  intro s i pin
  refine ⟨?pulse, exec_eventOccurrence_reserved, ?rise, ?fall, ?noFall⟩
  case pulse =>
    intro hr hs hc hpin
    have e := exec_eventOccurrence_pulse hr hs hpin hc
    refine ⟨fun hf hclaim => ?_, fun hf => ?_⟩
    · rw [State.raiseNum_of_ready hr hf] at e
      obtain ⟨-, hself, hother⟩ := s.occur_frame i
      rw [hclaim] at hself
      exact ⟨_, e, hself, hother, (State.occur_kept (.refl s)).mem_eq, (State.occur_kept (.refl s)).que_eq, (State.occur_kept (.refl s)).heads_eq⟩
    · rw [State.raiseNum_of_boot hr hf] at e
      exact ⟨_, e, rfl, rfl⟩
  case rise =>
    intro hr hs hc hpin
    obtain ⟨-, hraw, hother⟩ := s.levelTo_frame i true
    exact ⟨_, exec_eventOccurrence_condition hr hs hpin hc, hraw, hother, State.levelTo_mem s i true⟩
  case fall =>
    intro hc
    obtain ⟨-, hraw, hother⟩ := s.levelTo_frame i false
    obtain ⟨hlevel, hedge⟩ := s.levelTo_false_pending i
    exact ⟨_, exec_levelFall hc, hraw, hother, State.levelTo_mem s i false, hlevel, hedge⟩
  case noFall =>
    intro hc
    show execLevelFall i s = _
    unfold execLevelFall; rw [hc]; rfl

/-! ## The sources of a bitmap word -/

theorem mem_bitsOf {w n i : Nat} : i ∈ bitsOf w n ↔ i < w ∧ n.testBit i = true := by
  unfold bitsOf; rw [List.mem_filter, List.mem_range]

/-- The sources of a word are those whose bit is written 1. -/
theorem mem_wordSources {w v i : Nat} : i ∈ wordSources w v ↔ i / 32 = w ∧ v.testBit (i % 32) = true := by
  unfold wordSources
  simp only [List.mem_map, mem_bitsOf]
  constructor
  · rintro ⟨k, ⟨hk, hbit⟩, rfl⟩
    have hdiv : (32 * w + k) / 32 = w := by omega
    have hmod : (32 * w + k) % 32 = k := by omega
    exact ⟨hdiv, by rw [hmod]; exact hbit⟩
  · rintro ⟨hw, hbit⟩
    exact ⟨i % 32, ⟨Nat.mod_lt _ (by decide), hbit⟩, by omega⟩

/-- The word of all bits names its 32 sources. -/
theorem mem_wordSources_all {w i : Nat} : i ∈ wordSources w 0xFFFF_FFFF ↔ i / 32 = w := by
  rw [mem_wordSources]
  have hbit : Nat.testBit (2 ^ 32 - 1) (i % 32) = true := by
    rw [Nat.testBit_two_pow_sub_one]; exact decide_eq_true (Nat.mod_lt _ (by decide))
  exact ⟨fun h => h.1, fun h => ⟨h, hbit⟩⟩

/-! ## A loop in which every source has its turn -/

/-- The turn of a source: it changes no other source, and no register of the system or of a ring. -/
structure TurnOfSource (f : State → Nat → State) : Prop where
  sys : ∀ t i, (f t i).sys = t.sys
  que : ∀ t i, (f t i).que = t.que
  mem : ∀ t i, (f t i).mem = t.mem
  other : ∀ t i j, j ≠ i → (f t i).ev j = t.ev j

theorem TurnOfSource.modEv (g : State → EvSrc → EvSrc) : TurnOfSource (fun s i => s.modEv i (g s)) :=
  ⟨fun _ _ => rfl, fun _ _ => rfl, fun _ _ => rfl, fun t _ _ h => State.ev_modEv_ne t _ h⟩

section
variable {f : State → Nat → State} (hf : TurnOfSource f)
include hf

theorem TurnOfSource.forEach_sys (l : List Nat) (s : State) : (s.forEach l f).sys = s.sys := State.forEach_reading (·.sys) hf.sys l s
theorem TurnOfSource.forEach_que (l : List Nat) (s : State) : (s.forEach l f).que = s.que := State.forEach_reading (·.que) hf.que l s
theorem TurnOfSource.forEach_mem (l : List Nat) (s : State) : (s.forEach l f).mem = s.mem := State.forEach_reading (·.mem) hf.mem l s

theorem TurnOfSource.forEach_ev_of_not_mem {l : List Nat} {j : Nat} (hj : j ∉ l) (s : State) : (s.forEach l f).ev j = s.ev j :=
  State.forEach_reading_of_not_mem (State.ev · j) (fun t i h => hf.other t i j (Ne.symm h)) hj s

/-- A source whose turn makes it `y`, whether it has had a turn before or not, is `y` after all turns. -/
theorem TurnOfSource.forEach_ev_of_mem {l : List Nat} {j : Nat} {y : EvSrc} (hj : j ∈ l) (s : State)
    (hself : ∀ t : State, t.sys = s.sys → t.que = s.que → t.ev j = s.ev j ∨ t.ev j = y → (f t j).ev j = y) :
    (s.forEach l f).ev j = y := by
  suffices ∀ t : State, t.sys = s.sys → t.que = s.que → (t.ev j = s.ev j ∧ j ∈ l ∨ t.ev j = y) → (t.forEach l f).ev j = y from
    this s rfl rfl (.inl ⟨rfl, hj⟩)
  clear hj
  unfold State.forEach
  induction l with
  | nil =>
    rintro t - - (⟨-, h⟩ | h)
    · cases h
    · exact h
  | cons i l ih =>
    intro t hsys hque h
    refine ih _ ((hf.sys t i).trans hsys) ((hf.que t i).trans hque) ?_
    by_cases e : j = i
    · subst e
      exact .inr (hself t hsys hque (h.imp_left And.left))
    · rw [hf.other t i j e]
      exact h.imp_left (fun h => ⟨h.1, (List.mem_cons.1 h.2).resolve_left e⟩)

end

/-! ## A source in effect -/

theorem State.parityWrong_of_sys {s t : State} (e : t.sys = s.sys) (o : Nat) : t.parityWrong o = s.parityWrong o := by
  unfold State.parityWrong; rw [e]

theorem State.evOwner_of_que {s t : State} {i : Nat} (hq : t.que = s.que) (he : t.ev i = s.ev i) : t.evOwner i = s.evOwner i := by
  unfold State.evOwner State.ring; rw [hq, he]

/-- A source in effect depends on its own registers, its ring's owner and the parity found wrong. -/
theorem State.evEff_of {s t : State} {i : Nat} (hs : t.sys = s.sys) (hq : t.que = s.que) (he : t.ev i = s.ev i) : t.evEff i = s.evEff i := by
  unfold State.evEff
  rw [State.evOwner_of_que hq he, State.parityWrong_of_sys hs, State.parityWrong_of_sys hs, he]

/-- A source acts as LEVEL where it is one and its configuration is not found wrong. -/
theorem State.evEff_level (s : State) (i : Nat) : (s.evEff i).level =
    (!(s.parityWrong (0x10_0000 + 8 * i) || s.parityWrong (0x10_4000 + 4 * (i / 32))) && (s.ev i).level) := by
  unfold State.evEff
  dsimp only
  cases (s.parityWrong (0x10_0000 + 8 * i) || s.parityWrong (0x10_4000 + 4 * (i / 32))) <;> rfl

theorem State.evEff_level_of {s t : State} {i : Nat} (hs : t.sys = s.sys) (he : (t.ev i).level = (s.ev i).level) :
    (t.evEff i).level = (s.evEff i).level := by
  rw [State.evEff_level, State.evEff_level, he, State.parityWrong_of_sys hs, State.parityWrong_of_sys hs]

theorem State.evEff_pending (s : State) (i : Nat) : (s.evEff i).pending = (s.ev i).pending := by
  unfold State.evEff; dsimp only; split <;> rfl

/-! ## Who may write -/

theorem State.filter_evMine_pf0 (s : State) (l : List Nat) : l.filter (fun i => s.evMine .pf0 i) = l :=
  List.filter_eq_self.2 (fun _ _ => rfl)

theorem State.countForeign_pf0 (s : State) (b : Bool) (o : Nat) : s.countForeign .pf0 b o = s := rfl

/-- A source that is not PF1's own is not PF1's to write. -/
theorem State.evMine_pf1 {s : State} {i : Nat} (h : s.evOwner i = .pf0) : s.evMine .pf1 i = false := by
  unfold State.evMine; rw [h]; rfl

theorem State.filter_evMine_pf1 {s : State} {l : List Nat} (h : ∀ i ∈ l, s.evOwner i = .pf0) : l.filter (fun i => s.evMine .pf1 i) = [] :=
  List.filter_eq_nil_iff.2 (fun i hi => by rw [State.evMine_pf1 (h i hi)]; decide)

/-! ## The bitmaps (R404, R406) -/

/-- The turn of a source written 1 in PENDING_SET. -/
def State.setPendingBit (s : State) (i : Nat) : State :=
  (s.occur i).modEv i (fun x => if (s.evEff i).level then x.follow else x)

/-- The turn of a source written 1 in EOI. -/
def State.endClaim (s : State) (i : Nat) : State :=
  if (s.evEff i).level && (s.ev i).active then s.modEv i (fun x => { x with active := false, pending := x.raw }) else s

theorem turnOfSource_setPendingBit : TurnOfSource State.setPendingBit where
  sys t i := (State.modEv_kept (State.occur_kept (.refl t))).sys_eq
  que t i := (State.modEv_kept (State.occur_kept (.refl t))).que_eq
  mem t i := (State.modEv_kept (State.occur_kept (.refl t))).mem_eq
  other t i j h := by
    obtain ⟨-, -, hother⟩ := t.occur_frame i
    exact (State.ev_modEv_ne _ _ h).trans (hother j h)

theorem turnOfSource_endClaim : TurnOfSource State.endClaim where
  sys t i := (Kept.ite (State.modEv_kept (.refl t)) (.refl t)).sys_eq
  que t i := (Kept.ite (State.modEv_kept (.refl t)) (.refl t)).que_eq
  mem t i := (Kept.ite (State.modEv_kept (.refl t)) (.refl t)).mem_eq
  other t i j h := by
    unfold State.endClaim
    split
    · exact State.ev_modEv_ne _ _ h
    · rfl

/-- A source that acts as EDGE is pending after its bit is set. -/
theorem State.setPendingBit_ev {s : State} {i : Nat} (h : (s.evEff i).level = false) :
    (s.setPendingBit i).ev i = { s.ev i with pending := true } := by
  obtain ⟨-, hself, -⟩ := s.occur_frame i
  rw [h] at hself
  unfold State.setPendingBit
  rw [State.ev_modEv_self, hself, h]
  rfl

/-- A PF0 write of a bitmap gives each of its sources its turn. -/
theorem exec_pendingSet_pf0 {s : State} (w : Fin 48) (v : Nat) (hup : s.hostUp .pf0 = true) :
    exec (.pendingSet .pf0 w v) s = .next (s.forEach (wordSources w v) State.setPendingBit).reorder := by
  have hall : (wordSources w v).filter (fun i => evSoftware i || s.evMine .pf0 i) = wordSources w v :=
    List.filter_eq_self.2 (fun i _ => Bool.or_true _)
  show execPendingSet .pf0 w v s = _
  unfold execPendingSet
  simp only [hup, hall, State.countForeign_pf0]
  rfl

theorem exec_eoi_pf0 {s : State} (w : Fin 48) (v : Nat) (hup : s.hostUp .pf0 = true) :
    exec (.eoi .pf0 w v) s =
      .next ((s.forEach (wordSources w v) State.endClaim).wbWatchNew s (wordSources w v)).reorder := by
  show execEoi .pf0 w v s = _
  unfold execEoi
  simp only [hup, State.filter_evMine_pf0, State.countForeign_pf0]
  rfl

/-- The turn of a source written 1 in PENDING_CLEAR, first: its pending bit clears. -/
def State.clearPendingBit (s : State) (i : Nat) : State := s.modEv i (fun x => { x with pending := false })

/-- Its turn on the next clock: the pending bit of a LEVEL source follows its level. -/
def State.followLevel (s : State) (i : Nat) : State := s.modEv i (fun x => if (s.evEff i).level then x.follow else x)

theorem turnOfSource_clearPendingBit : TurnOfSource State.clearPendingBit := .modEv _
theorem turnOfSource_followLevel : TurnOfSource State.followLevel :=
  ⟨fun _ _ => rfl, fun _ _ => rfl, fun _ _ => rfl, fun t _ _ h => State.ev_modEv_ne t _ h⟩

theorem State.clearPendingBit_ev (s : State) (i : Nat) : (s.clearPendingBit i).ev i = { s.ev i with pending := false } :=
  State.ev_modEv_self s i _

theorem State.followLevel_ev (s : State) (i : Nat) :
    (s.followLevel i).ev i = if (s.evEff i).level then (s.ev i).follow else s.ev i := State.ev_modEv_self s i _

theorem EvSrc.follow_level (e : EvSrc) : e.follow.level = e.level := by unfold EvSrc.follow; split <;> rfl

/-- Following the level twice is following it once. -/
theorem EvSrc.follow_follow (e : EvSrc) : e.follow.follow = e.follow := by
  unfold EvSrc.follow; cases h : (e.level && !e.active) <;> simp [h]

theorem exec_pendingClear_pf0 {s : State} (w : Fin 48) (v : Nat) (hup : s.hostUp .pf0 = true) :
    exec (.pendingClear .pf0 w v) s =
      let cleared := (s.forEach (wordSources w v) State.clearPendingBit).reorder
      .next ((cleared.forEach (wordSources w v) State.followLevel).wbWatchNew cleared (wordSources w v)).reorder := by
  show execPendingClear .pf0 w v s = _
  unfold execPendingClear
  simp only [hup, State.filter_evMine_pf0, State.countForeign_pf0]
  rfl

theorem exec_pendingClear_spec {s : State} (w : Fin 48) (v : Nat) (hup : s.hostUp .pf0 = true) :
    ∃ t, exec (.pendingClear .pf0 w v) s = .next t ∧ t.mem = s.mem ∧ (∀ i, i ∉ wordSources w v → t.ev i = s.ev i)
      ∧ ∀ i ∈ wordSources w v, t.ev i = if (s.evEff i).level then { s.ev i with pending := false }.follow else { s.ev i with pending := false } := by
  set l := wordSources w v
  have e := exec_pendingClear_pf0 w v hup
  extract_lets cleared at e
  have hsys : cleared.sys = s.sys := turnOfSource_clearPendingBit.forEach_sys l s
  refine ⟨_, e, ?mem, fun i hi => ?out, fun i hi => ?inside⟩
  case mem =>
    rw [State.reorder_mem, State.wbWatchNew_mem, turnOfSource_followLevel.forEach_mem]
    exact turnOfSource_clearPendingBit.forEach_mem l s
  case out =>
    rw [State.ev_reorder, State.ev_wbWatchNew, turnOfSource_followLevel.forEach_ev_of_not_mem hi]
    exact turnOfSource_clearPendingBit.forEach_ev_of_not_mem hi s
  case inside =>
    have hcleared : cleared.ev i = { s.ev i with pending := false } :=
      turnOfSource_clearPendingBit.forEach_ev_of_mem hi s (fun t _ _ h => by
        rw [State.clearPendingBit_ev]; rcases h with h | h <;> rw [h])
    rw [State.ev_reorder, State.ev_wbWatchNew]
    refine turnOfSource_followLevel.forEach_ev_of_mem hi cleared (fun t ht _ h => ?_)
    rw [State.followLevel_ev]
    have hlevel : (t.evEff i).level = (s.evEff i).level := by
      refine State.evEff_level_of (ht.trans hsys) ?_
      rcases h with h | h <;> rw [h]
      · rw [hcleared]
      · split
        · exact EvSrc.follow_level _
        · rfl
    rw [hlevel]
    rcases h with h | h <;> rw [h]
    · rw [hcleared]
    · split
      · exact EvSrc.follow_follow _
      · rfl

/-- The mask of the sources that a write of the enable bits covers: all 32 of a plain one, those written 1 on its pages of set and clear. -/
def coveredBits (al : Alias) (v : Nat) : Nat :=
  match al with
  | .plain => 0xFFFF_FFFF
  | _ => v

/-- The ENABLE bit that a write gives a source it covers. -/
def writtenEnable (al : Alias) (v i : Nat) : Bool :=
  match al with
  | .plain => v.testBit (i % 32)
  | .set => true
  | .clear => false

/-- The turn of a source in a write of the enable bits. -/
def State.writeEnable (al : Alias) (v : Nat) (s : State) (i : Nat) : State := s.modEv i (fun x => { x with enabled := writtenEnable al v i })

theorem turnOfSource_writeEnable (al : Alias) (v : Nat) : TurnOfSource (State.writeEnable al v) :=
  ⟨fun _ _ => rfl, fun _ _ => rfl, fun _ _ => rfl, fun t _ _ h => State.ev_modEv_ne t _ h⟩

theorem exec_eventEnableWrite_pf0 {s : State} (w : Fin 48) (al : Alias) (v : Nat) (hup : s.hostUp .pf0 = true) :
    exec (.eventEnableWrite .pf0 w al v) s =
      .next ((s.forEach (wordSources w (coveredBits al v)) (State.writeEnable al v)).fixParity (0x10_4000 + 4 * w.val)).reorder := by
  show execEventEnableWrite .pf0 w al v s = _
  unfold execEventEnableWrite
  simp only [hup, State.filter_evMine_pf0, State.countForeign_pf0]
  cases al <;> rfl

/-- A write of the enable bits gives the sources it covers their ENABLE bits. -/
theorem exec_eventEnableWrite_spec {s : State} (w : Fin 48) (al : Alias) (v : Nat) (hup : s.hostUp .pf0 = true) :
    ∃ t, exec (.eventEnableWrite .pf0 w al v) s = .next t ∧ t.mem = s.mem ∧ (∀ i, i ∉ wordSources w (coveredBits al v) → t.ev i = s.ev i)
      ∧ ∀ i ∈ wordSources w (coveredBits al v), t.ev i = { s.ev i with enabled := writtenEnable al v i } := by
  have hturn := turnOfSource_writeEnable al v
  refine ⟨_, exec_eventEnableWrite_pf0 w al v hup, hturn.forEach_mem _ s, fun i hi => hturn.forEach_ev_of_not_mem hi s, fun i hi => ?_⟩
  refine hturn.forEach_ev_of_mem hi s (fun t _ _ h => (State.ev_modEv_self t i _).trans ?_)
  rcases h with h | h <;> rw [h]

theorem exec_pendingSet_spec {s : State} (w : Fin 48) (v : Nat) (hup : s.hostUp .pf0 = true) :
    ∃ t, exec (.pendingSet .pf0 w v) s = .next t ∧ t.mem = s.mem ∧ (∀ i, i ∉ wordSources w v → t.ev i = s.ev i)
      ∧ ∀ i ∈ wordSources w v, (s.evEff i).level = false → t.ev i = { s.ev i with pending := true } := by
  have hturn := turnOfSource_setPendingBit
  refine ⟨_, exec_pendingSet_pf0 w v hup, hturn.forEach_mem _ s, fun i hi => hturn.forEach_ev_of_not_mem hi s, fun i hi hedge => ?_⟩
  refine hturn.forEach_ev_of_mem hi s (fun t hsys _ h => ?_)
  have hlevel : (t.ev i).level = (s.ev i).level := by rcases h with h | h <;> rw [h]
  rw [State.setPendingBit_ev ((State.evEff_level_of hsys hlevel).trans hedge)]
  rcases h with h | h <;> rw [h]

theorem exec_eoi_spec {s : State} (w : Fin 48) (v : Nat) (hup : s.hostUp .pf0 = true) :
    ∃ t, exec (.eoi .pf0 w v) s = .next t ∧ t.mem = s.mem ∧ (∀ i, i ∉ wordSources w v → t.ev i = s.ev i)
      ∧ (∀ i ∈ wordSources w v, ((s.evEff i).level && (s.ev i).active) = true → t.ev i = { s.ev i with active := false, pending := (s.ev i).raw })
      ∧ (∀ i ∈ wordSources w v, ((s.evEff i).level && (s.ev i).active) = false → t.ev i = s.ev i) := by
  have hturn := turnOfSource_endClaim
  refine ⟨_, exec_eoi_pf0 w v hup, ?mem, fun i hi => ?out, fun i hi hclaimed => ?claimed, fun i hi hfree => ?free⟩
  case mem =>
    rw [State.reorder_mem, State.wbWatchNew_mem]
    exact hturn.forEach_mem _ s
  case out =>
    rw [State.ev_reorder, State.ev_wbWatchNew]
    exact hturn.forEach_ev_of_not_mem hi s
  case claimed =>
    rw [State.ev_reorder, State.ev_wbWatchNew]
    refine hturn.forEach_ev_of_mem hi s (fun t hsys hque h => ?_)
    unfold State.endClaim
    rcases h with h | h
    · rw [State.evEff_of hsys hque h, h, if_pos hclaimed, State.ev_modEv_self, h]
    · rw [h, if_neg (by simp)]; exact h
  case free =>
    rw [State.ev_reorder, State.ev_wbWatchNew]
    refine hturn.forEach_ev_of_mem hi s (fun t hsys hque h => ?_)
    have h : t.ev i = s.ev i := h.elim id id
    unfold State.endClaim
    rw [State.evEff_of hsys hque h, h, if_neg (by simp [hfree]), h]

/-! ## PF1's writes of sources that are not its own (R388) -/

section
variable {s : State} {w : Fin 48} {v : Nat} (hup : s.hostUp .pf1 = true) (hown : ∀ i ∈ wordSources w v, s.evOwner i = .pf0)
  (hsome : wordSources w v ≠ [])
include hup hown hsome

theorem exec_pendingClear_pf1 : ∃ t, exec (.pendingClear .pf1 w v) s = .next t ∧ (∀ i, t.ev i = s.ev i)
    ∧ t.sys.privIgnored = satInc 16 s.sys.privIgnored ∧ t.mem = s.mem := by
  have hlen : (wordSources w v).length ≠ 0 := fun h => hsome (List.eq_nil_of_length_eq_zero h)
  have e : exec (.pendingClear .pf1 w v) s = .next (s.privIgnore (0x10_5200 + 4 * w)).reorder.reorder := by
    show execPendingClear .pf1 w v s = _
    unfold execPendingClear
    simp [hup, State.filter_evMine_pf1 hown, State.countForeign, Ne.symm hlen, State.forEach, State.wbWatchNew]
  exact ⟨_, e, fun _ => rfl, rfl, rfl⟩

theorem exec_eoi_pf1 : ∃ t, exec (.eoi .pf1 w v) s = .next t ∧ (∀ i, t.ev i = s.ev i)
    ∧ t.sys.privIgnored = satInc 16 s.sys.privIgnored ∧ t.mem = s.mem := by
  have hlen : (wordSources w v).length ≠ 0 := fun h => hsome (List.eq_nil_of_length_eq_zero h)
  have e : exec (.eoi .pf1 w v) s = .next (s.privIgnore (0x10_6000 + 4 * w)).reorder := by
    show execEoi .pf1 w v s = _
    unfold execEoi
    simp [hup, State.filter_evMine_pf1 hown, State.countForeign, Ne.symm hlen, State.forEach, State.wbWatchNew]
  exact ⟨_, e, fun _ => rfl, rfl, rfl⟩

theorem exec_eventEnableWrite_pf1 : ∃ t, exec (.eventEnableWrite .pf1 w .set v) s = .next t ∧ (∀ i, t.ev i = s.ev i)
    ∧ t.sys.privIgnored = satInc 16 s.sys.privIgnored ∧ t.mem = s.mem := by
  obtain ⟨i, hi⟩ := List.exists_mem_of_ne_nil _ hsome
  have hany : (wordSources w v).any (fun i => !s.evMine .pf1 i) = true :=
    List.any_eq_true.2 ⟨i, hi, by rw [State.evMine_pf1 (hown i hi)]; rfl⟩
  have e : exec (.eventEnableWrite .pf1 w .set v) s =
      .next ((s.privIgnore (0x10_4000 + 4 * w + 0x100)).fixParity (0x10_4000 + 4 * w)).reorder := by
    show execEventEnableWrite .pf1 w .set v s = _
    unfold execEventEnableWrite
    simp [hup, State.filter_evMine_pf1 hown, State.countForeign, hany, State.forEach]
  exact ⟨_, e, fun _ => rfl, rfl, rfl⟩

end

/-- Settles O49: a bit of a word is its source's turn, and PF1 has no turn at the sources of PF0. -/
theorem sourceBitsAreWritten : Obligations.SourceBitsAreWritten := by
  intro s w v hit
  have hmem : ∀ i, hit i ↔ i ∈ wordSources w v := fun i => mem_wordSources.symm
  simp only [hmem]
  refine ⟨fun hup => ⟨exec_pendingSet_spec w v hup, ?clear, ?plain, ?set, ?clearAlias, exec_eoi_spec w v hup⟩,
    fun hup hown ⟨i, hi⟩ => ?pf1⟩
  case clear =>
    obtain ⟨t, e, htmem, hout, hin⟩ := exec_pendingClear_spec w v hup
    refine ⟨t, e, htmem, hout, fun i hi hl => ?_, fun i hi hl hlevel hactive => ?_⟩
    · rw [hin i hi, hl]; rfl
    · rw [hin i hi, if_pos hl]; unfold EvSrc.follow; simp [hlevel, hactive]
  case plain =>
    obtain ⟨t, e, htmem, hout, hin⟩ := exec_eventEnableWrite_spec w .plain v hup
    exact ⟨t, e, htmem, fun i hi => hout i (fun k => hi (mem_wordSources_all.1 k)), fun i hi => hin i (mem_wordSources_all.2 hi)⟩
  case set =>
    obtain ⟨t, e, -, hout, hin⟩ := exec_eventEnableWrite_spec w .set v hup
    exact ⟨t, e, hout, hin⟩
  case clearAlias =>
    obtain ⟨t, e, -, hout, hin⟩ := exec_eventEnableWrite_spec w .clear v hup
    exact ⟨t, e, hout, hin⟩
  case pf1 =>
    have hsome := List.ne_nil_of_mem hi
    exact ⟨exec_pendingClear_pf1 hup hown hsome, exec_eventEnableWrite_pf1 hup hown hsome, exec_eoi_pf1 hup hown hsome⟩

end Sys2Proof.Machine
end

section
/-!
PROOFS. The configuration of the sources (R408), the release of groups (R410), and the messages to vectors and to the management
cores (R407, R411 to R413).
-/

namespace Sys2Proof.Machine

/-! ## Configuration and groups -/

/-- The configuration that a PF0 write of PF0's own source leaves, but for the pending bit that follows its level. -/
def EvSrc.configured (e : EvSrc) (i v : Nat) : EvSrc :=
  { e with
    level := evCondition i && bit v 0
    target := if field v 3 2 = 3 then e.target else field v 3 2
    coalesce := bit v 4
    group := field v 10 5
    vector := if field v 26 16 < 2048 then field v 26 16 else e.vector
    active := e.active && (evCondition i && bit v 0) }

/-- Following the level moves the pending bit alone. -/
theorem EvSrc.follow_frame (e : EvSrc) : e.follow = { e with pending := e.follow.pending } := by
  unfold EvSrc.follow; split <;> rfl

theorem exec_evcSourceWrite_pf0 {s : State} {i : Fin 1536} {v : Nat} (hup : s.hostUp .pf0 = true) (hown : s.evOwner i = .pf0)
    (hkeep : field v 1 1 = 0) :
    exec (.evcSourceWrite .pf0 i v) s =
      .next ((s.setEv i ((s.ev i).configured i v).follow).fixParity (0x10_0000 + 8 * i.val)).reorder := by
  have hmine : s.evMine .pf0 i = true := rfl
  have hpf1 : (Fn.pf0 == Fn.pf1) = false := rfl
  show execEvcSourceWrite .pf0 i v s = _
  unfold execEvcSourceWrite
  simp only [hup, hmine, hpf1, hkeep, Bool.false_eq_true, ↓reduceIte, hown, fnOfCode, vectorsOf, EvSrc.configured]
  simp

theorem exec_evcSourceWrite_pf1 {s : State} {i : Fin 1536} {v : Nat} (hup : s.hostUp .pf1 = true) (hown : s.evOwner i = .pf0) :
    exec (.evcSourceWrite .pf1 i v) s = .next (s.privIgnore (0x10_0000 + 8 * i.val)) := by
  show execEvcSourceWrite .pf1 i v s = _
  unfold execEvcSourceWrite
  simp only [hup, State.evMine_pf1 hown]
  rfl

theorem exec_groupRelease_due {s : State} {g : Fin 64}
    (h : ((s.group g).timerDone s.now || ((s.group g).holding && decide ((s.group g).count + 1 ≤ (s.group g).counted))) = true) :
    exec (.groupRelease g) s = .next (s.releaseGroup g).reorder := by
  show execGroupRelease g s = _
  unfold execGroupRelease
  dsimp only
  rw [if_pos h]

theorem exec_groupRelease_early {s : State} {g : Fin 64}
    (h : ((s.group g).timerDone s.now || ((s.group g).holding && decide ((s.group g).count + 1 ≤ (s.group g).counted))) = false) :
    exec (.groupRelease g) s = .next s := by
  show execGroupRelease g s = _
  unfold execGroupRelease
  dsimp only
  rw [if_neg (by rw [h]; decide)]

/-! ## The sources a message claims (R407) -/

/-- A source that has never been written presents nothing, so those that present are among the listed ones. -/
theorem State.mem_presenting {s : State} {i : Nat} : i ∈ s.presenting ↔ s.presentable i = true := by
  unfold State.presenting
  rw [List.mem_filter]
  refine ⟨fun h => h.2, fun h => ⟨?_, h⟩⟩
  have hpending : (s.ev i).pending = true := by
    rw [← State.evEff_pending]
    unfold State.presentable at h
    simp only [Bool.and_eq_true] at h
    exact h.1.1.2
  by_contra hne
  have hreset : s.ev i = EvSrc.reset := by
    unfold State.ev Tbl.get
    cases hfind : Tbl.find? s.evc.srcs i with
    | none => rfl
    | some e => exact absurd (Tbl.mem_keys_of_find? hfind) hne
  rw [hreset] at hpending
  cases hpending

theorem State.mem_claimed {s : State} {i : Nat} {x : Target} : i ∈ s.claimed x ↔ s.presentable i = true ∧ (s.evEff i).targetOf = x := by
  unfold State.claimed
  rw [List.mem_filter, State.mem_presenting, decide_eq_true_iff]

/-- The turn of a claimed source: its pending bit clears, and a LEVEL source becomes ACTIVE. -/
def State.claimSource (s : State) (i : Nat) : State :=
  s.modEv i (fun x => { x with pending := false, active := x.active || (s.evEff i).level })

theorem State.claim_eq (s : State) (x : Target) : s.claim x = s.forEach (s.claimed x) State.claimSource := rfl

theorem turnOfSource_claimSource : TurnOfSource State.claimSource :=
  ⟨fun _ _ => rfl, fun _ _ => rfl, fun _ _ => rfl, fun t _ _ h => State.ev_modEv_ne t _ h⟩

theorem State.claim_ev_of_not_mem {s : State} {x : Target} {i : Nat} (h : i ∉ s.claimed x) : (s.claim x).ev i = s.ev i :=
  turnOfSource_claimSource.forEach_ev_of_not_mem h s

theorem State.claim_ev_of_mem {s : State} {x : Target} {i : Nat} (h : i ∈ s.claimed x) :
    (s.claim x).ev i = { s.ev i with pending := false, active := (s.ev i).active || (s.evEff i).level } := by
  rw [State.claim_eq]
  refine turnOfSource_claimSource.forEach_ev_of_mem h s (fun t hsys _ k => (State.ev_modEv_self t i _).trans ?_)
  have hlevel : (t.evEff i).level = (s.evEff i).level := State.evEff_level_of hsys (by rcases k with k | k <;> rw [k])
  rw [hlevel]
  rcases k with k | k <;> rw [k]
  simp

@[simp] theorem State.claim_sys (s : State) (x : Target) : (s.claim x).sys = s.sys := (State.claim_kept (.refl s)).sys_eq
@[simp] theorem State.claim_que (s : State) (x : Target) : (s.claim x).que = s.que := (State.claim_kept (.refl s)).que_eq
@[simp] theorem State.claim_mem (s : State) (x : Target) : (s.claim x).mem = s.mem := (State.claim_kept (.refl s)).mem_eq

/-- A claim moves the sources alone. -/
theorem State.claim_evc (s : State) (x : Target) : (s.claim x).evc = { s.evc with srcs := (s.claim x).evc.srcs } := by
  have h := State.forEach_reading (fun t : State => { t.evc with srcs := [] }) (f := State.claimSource) (fun _ _ => rfl) (s.claimed x) s
  rw [← State.claim_eq] at h
  generalize (s.claim x).evc = a at h
  generalize s.evc = b at h
  cases a; cases b
  simp_all

theorem State.claim_fnCfg (s : State) (x : Target) (fn : Fn) : (s.claim x).fnCfg fn = s.fnCfg fn := by
  cases fn <;> (unfold State.fnCfg; rw [State.claim_evc])

theorem State.claim_issued (s : State) (x : Target) : (s.claim x).evc.issued0 = s.evc.issued0 ∧ (s.claim x).evc.issued1 = s.evc.issued1 := by
  rw [State.claim_evc]; exact ⟨rfl, rfl⟩

/-! ## Messages to vectors (R411, R412) -/

theorem State.sendMessage_ev (s : State) (fn : Fn) (v i : Nat) : (s.sendMessage fn v).ev i = s.ev i := by cases fn <;> rfl

theorem State.sendMessage_mem (s : State) (fn : Fn) (v : Nat) : (s.sendMessage fn v).mem =
    (s.hostWrite (Tbl.get MsixEntry.reset (s.fnCfg fn).msix v).addr (leBytes 4 (Tbl.get MsixEntry.reset (s.fnCfg fn).msix v).data)).mem := by
  cases fn <;> rfl

theorem exec_messageIssue_some {s : State} {fn : Fn} {v : Nat}
    (h : (s.evc.order.map (fun p => p.2)).find? (fun t => s.deliverable t) = some (.vector fn v)) :
    exec .messageIssue s = .next (((s.claim (.vector fn v)).sendMessage fn v).reorder) := by
  show execMessageIssue s = _
  unfold execMessageIssue; rw [h]

theorem exec_messageIssue_none {s : State}
    (h : (s.evc.order.map (fun p => p.2)).find? (fun t => s.deliverable t) = none) : exec .messageIssue s = .next s := by
  show execMessageIssue s = _
  unfold execMessageIssue; rw [h]

/-! ## Messages to the management cores (R413) -/

/-- The record of an accepted source in EventLog. -/
def State.logAccepted (s : State) (i : Nat) : State :=
  let log := s.evc.log ++ [(i, s.now)]
  { s with evc := { s.evc with log := log.drop (log.length - 1024), logN := wrapInc 32 s.evc.logN } }

theorem State.logAccepted_sys (s : State) (i : Nat) : (s.logAccepted i).sys = s.sys := by unfold State.logAccepted; dsimp only
theorem State.logAccepted_que (s : State) (i : Nat) : (s.logAccepted i).que = s.que := by unfold State.logAccepted; dsimp only
theorem State.logAccepted_mem (s : State) (i : Nat) : (s.logAccepted i).mem = s.mem := by unfold State.logAccepted; dsimp only
theorem State.logAccepted_groups (s : State) (i : Nat) : (s.logAccepted i).evc.groups = s.evc.groups := by
  unfold State.logAccepted; dsimp only
theorem State.logAccepted_ev (s : State) (i j : Nat) : (s.logAccepted i).ev j = s.ev j :=
  State.ev_of_srcs (by unfold State.logAccepted; dsimp only) j

/-- The firmware's turn at one source it has accepted. -/
def State.recordSource (s : State) (i : Nat) : State :=
  let s := s.logAccepted i
  s.modEv i (fun x => { x with active := false, coreClr := (s.evEff i).level && x.raw })

theorem State.coreRecord_eq (s : State) (l : List Nat) : s.coreRecord l = s.forEach l State.recordSource := rfl

theorem State.recordSource_ev (s : State) (i : Nat) :
    (s.recordSource i).ev i = { s.ev i with active := false, coreClr := (s.evEff i).level && (s.ev i).raw } := by
  unfold State.recordSource
  dsimp only
  rw [State.ev_modEv_self, State.logAccepted_ev, State.evEff_level_of (s.logAccepted_sys i) (by rw [State.logAccepted_ev])]

theorem turnOfSource_recordSource : TurnOfSource State.recordSource where
  sys t i := by simp [State.recordSource, State.modEv, State.logAccepted_sys]
  que t i := by simp [State.recordSource, State.modEv, State.logAccepted_que]
  mem t i := by simp [State.recordSource, State.modEv, State.logAccepted_mem]
  other t i j h := (State.ev_modEv_ne (t.logAccepted i) _ h).trans (t.logAccepted_ev i j)

/-- The acceptance of the message to one target: a claim, and the firmware's records. -/
def State.acceptTarget (s : State) (x : Target) : State := (s.claim x).coreRecord (s.claimed x)

@[simp] theorem State.acceptTarget_sys (s : State) (x : Target) : (s.acceptTarget x).sys = s.sys :=
  (turnOfSource_recordSource.forEach_sys _ _).trans (s.claim_sys x)
@[simp] theorem State.acceptTarget_que (s : State) (x : Target) : (s.acceptTarget x).que = s.que :=
  (turnOfSource_recordSource.forEach_que _ _).trans (s.claim_que x)
@[simp] theorem State.acceptTarget_mem (s : State) (x : Target) : (s.acceptTarget x).mem = s.mem :=
  (turnOfSource_recordSource.forEach_mem _ _).trans (s.claim_mem x)
theorem State.acceptTarget_groups (s : State) (x : Target) : (s.acceptTarget x).evc.groups = s.evc.groups := by
  have h := State.forEach_reading (·.evc.groups) (f := State.recordSource)
    (fun t i => by simp [State.recordSource, State.modEv, State.logAccepted_groups]) (s.claimed x) (s.claim x)
  exact h.trans (by rw [State.claim_evc])

theorem State.acceptTarget_ev_of_not_mem {s : State} {x : Target} {i : Nat} (h : i ∉ s.claimed x) : (s.acceptTarget x).ev i = s.ev i :=
  (turnOfSource_recordSource.forEach_ev_of_not_mem h _).trans (State.claim_ev_of_not_mem h)

/-- A source that is accepted is neither pending nor ACTIVE. -/
theorem State.acceptTarget_ev_of_mem {s : State} {x : Target} {i : Nat} (h : i ∈ s.claimed x) :
    ((s.acceptTarget x).ev i).pending = false ∧ ((s.acceptTarget x).ev i).active = false := by
  have hclaim := State.claim_ev_of_mem h
  have hself : (s.acceptTarget x).ev i =
      { (s.claim x).ev i with active := false, coreClr := ((s.claim x).evEff i).level && ((s.claim x).ev i).raw } := by
    refine turnOfSource_recordSource.forEach_ev_of_mem h _ (fun t hsys _ k => (t.recordSource_ev i).trans ?_)
    have hlevel : (t.evEff i).level = ((s.claim x).evEff i).level := State.evEff_level_of hsys (by rcases k with k | k <;> rw [k])
    rw [hlevel]
    rcases k with k | k <;> rw [k]
  rw [hself, hclaim]
  exact ⟨rfl, rfl⟩

/-- Whether a source presents depends on its registers, its ring's owner, the parity found wrong and the groups. -/
theorem State.presentable_of {s t : State} {i : Nat} (hs : t.sys = s.sys) (hq : t.que = s.que) (hg : t.evc.groups = s.evc.groups)
    (he : t.ev i = s.ev i) : t.presentable i = s.presentable i := by
  unfold State.presentable State.group
  rw [State.evEff_of hs hq he, hg]

theorem State.mem_claimed_of {s t : State} {i : Nat} {x : Target} (hs : t.sys = s.sys) (hq : t.que = s.que)
    (hg : t.evc.groups = s.evc.groups) (he : t.ev i = s.ev i) : i ∈ t.claimed x ↔ i ∈ s.claimed x := by
  rw [State.mem_claimed, State.mem_claimed, State.presentable_of hs hq hg he, State.evEff_of hs hq he]

/-- A source that is not pending is in no claim. -/
theorem State.not_mem_claimed {s : State} {i : Nat} {x : Target} (h : (s.ev i).pending = false) : i ∉ s.claimed x := by
  rw [State.mem_claimed]
  rintro ⟨hp, -⟩
  unfold State.presentable at hp
  simp [State.evEff_pending, h] at hp

section
variable {s : State} {i : Nat}

/-- The states that the acceptance of several targets passes through, but for the sources. -/
structure AcceptsFrom (s t : State) : Prop where
  sys : t.sys = s.sys
  que : t.que = s.que
  groups : t.evc.groups = s.evc.groups

theorem AcceptsFrom.refl : AcceptsFrom s s := ⟨rfl, rfl, rfl⟩

theorem AcceptsFrom.acceptTarget {t : State} (h : AcceptsFrom s t) (x : Target) : AcceptsFrom s (t.acceptTarget x) :=
  ⟨(t.acceptTarget_sys x).trans h.sys, (t.acceptTarget_que x).trans h.que, (t.acceptTarget_groups x).trans h.groups⟩

/-- A source that no accepted target claims is as it was. -/
theorem State.forEach_acceptTarget_other {l : List Target} (hl : ∀ x ∈ l, i ∉ s.claimed x) {t : State} (h : AcceptsFrom s t)
    (ht : t.ev i = s.ev i) : (t.forEach l State.acceptTarget).ev i = s.ev i := by
  unfold State.forEach
  induction l generalizing t with
  | nil => exact ht
  | cons x l ih =>
    have hx : i ∉ t.claimed x := (State.mem_claimed_of h.sys h.que h.groups ht).not.2 (hl x (List.mem_cons_self ..))
    exact ih (fun y hy => hl y (List.mem_cons_of_mem _ hy)) (h.acceptTarget x) ((State.acceptTarget_ev_of_not_mem hx).trans ht)

/-- A source that has been accepted stays neither pending nor ACTIVE. -/
theorem State.forEach_acceptTarget_done (l : List Target) {t : State} (h : (t.ev i).pending = false ∧ (t.ev i).active = false) :
    ((t.forEach l State.acceptTarget).ev i).pending = false ∧ ((t.forEach l State.acceptTarget).ev i).active = false := by
  unfold State.forEach
  induction l generalizing t with
  | nil => exact h
  | cons x l ih => exact ih ((State.acceptTarget_ev_of_not_mem (x := x) (State.not_mem_claimed h.1)).symm ▸ h)

/-- A source that an accepted target claims is accepted at that target's turn. -/
theorem State.forEach_acceptTarget_claimed {l : List Target} {x : Target} (hx : x ∈ l) (hi : i ∈ s.claimed x) {t : State}
    (h : AcceptsFrom s t) (ht : t.ev i = s.ev i) :
    ((t.forEach l State.acceptTarget).ev i).pending = false ∧ ((t.forEach l State.acceptTarget).ev i).active = false := by
  induction l generalizing t with
  | nil => cases hx
  | cons y l ih =>
    by_cases hy : i ∈ t.claimed y
    · exact State.forEach_acceptTarget_done l (State.acceptTarget_ev_of_mem hy)
    · have hne : x ≠ y := by
        rintro rfl
        exact hy ((State.mem_claimed_of h.sys h.que h.groups ht).2 hi)
      exact ih ((List.mem_cons.1 hx).resolve_left hne) (h.acceptTarget y) ((State.acceptTarget_ev_of_not_mem hy).trans ht)

end

/-- A target that a core serves. -/
def State.coreTakes (s : State) (core : Nat) (x : Target) : Bool :=
  match x with
  | .core c => s.coreServes core c
  | .vector _ _ => false

/-- The targets whose messages a core accepts. -/
def State.acceptedTargets (s : State) (core : Nat) : List Target := (s.evc.order.map (fun p => p.2)).filter (s.coreTakes core)

theorem exec_coreAccept_eq (s : State) (core : Fin 2) :
    exec (.coreAccept core) s = .next (s.forEach (s.acceptedTargets core) State.acceptTarget).reorder := by
  show execCoreAccept core s = _
  unfold execCoreAccept State.acceptedTargets State.coreTakes
  rfl

theorem State.mem_acceptedTargets {s : State} {core c : Nat} (hserves : s.coreServes core c = true)
    (horder : s.evc.order.any (fun p => decide (p.2 = Target.core c)) = true) : Target.core c ∈ s.acceptedTargets core := by
  obtain ⟨p, hp, e⟩ := List.any_eq_true.1 horder
  exact List.mem_filter.2 ⟨List.mem_map.2 ⟨p, hp, of_decide_eq_true e⟩, hserves⟩

theorem State.core_of_mem_acceptedTargets {s : State} {core : Nat} {x : Target} (h : x ∈ s.acceptedTargets core) :
    ∃ c, x = .core c ∧ s.coreServes core c = true := by
  obtain ⟨-, hx⟩ := List.mem_filter.1 h
  cases x with
  | core c => exact ⟨c, rfl, hx⟩
  | vector fn v => cases hx

theorem exec_coreAccept (s : State) (core : Fin 2) : ∃ t, exec (.coreAccept core) s = .next t ∧ t.mem = s.mem
    ∧ (∀ c : Nat, s.coreServes core c = true → (s.evc.order.any (fun p => decide (p.2 = Target.core c))) = true →
        ∀ i ∈ s.claimed (.core c), (t.ev i).pending = false ∧ (t.ev i).active = false)
    ∧ (∀ i, (∀ c : Nat, s.coreServes core c = true → i ∉ s.claimed (.core c)) → t.ev i = s.ev i) := by
  refine ⟨_, exec_coreAccept_eq s core, ?mem, fun c hserves horder i hi => ?accepted, fun i hi => ?other⟩
  case mem => exact State.forEach_reading (·.mem) State.acceptTarget_mem _ s
  case accepted => exact State.forEach_acceptTarget_claimed (State.mem_acceptedTargets hserves horder) hi .refl rfl
  case other =>
    refine State.forEach_acceptTarget_other (fun x hx => ?_) .refl rfl
    obtain ⟨c, rfl, hserves⟩ := State.core_of_mem_acceptedTargets hx
    exact hi c hserves

/-- Settles O50: the configuration, the groups, the vectors and the cores in turn. -/
theorem messagesAreIssued : Obligations.MessagesAreIssued := by
  intro s
  refine ⟨?configure, ?foreign, ?group, ?issue, exec_coreAccept s⟩
  case configure =>
    intro i v hup hown hkeep
    refine ⟨_, exec_evcSourceWrite_pf0 hup hown hkeep, rfl, fun j hj => State.ev_setEv_ne s _ hj, ?_⟩
    rw [State.ev_reorder, State.ev_fixParity, State.ev_setEv_self, EvSrc.follow_frame]
    exact ⟨rfl, rfl, rfl, fun h => if_neg h, fun h => if_pos h, rfl, rfl⟩
  case foreign => exact fun i v hup hown => ⟨_, exec_evcSourceWrite_pf1 hup hown, rfl, rfl, rfl⟩
  case group =>
    intro g x due
    refine ⟨fun h => ⟨_, exec_groupRelease_due h, ?_, fun j hj => ?_, fun i => rfl, rfl⟩, exec_groupRelease_early⟩
    · exact State.group_modGroup_self s g (fun x => { x with counted := 0, holding := false, releases := satInc 32 x.releases })
    · exact State.group_modGroup_ne s (fun x => { x with counted := 0, holding := false, releases := satInc 32 x.releases }) hj
  case issue =>
    intro first hfirst
    refine ⟨fun fn v hv => ?_, fun hv => exec_messageIssue_none (hfirst ▸ hv)⟩
    refine ⟨_, exec_messageIssue_some (hfirst ▸ hv), ?mem, fun i hi => ?claimed, fun i hi => ?other, ?pf0, ?pf1⟩
    case mem =>
      rw [State.reorder_mem, State.sendMessage_mem, State.claim_fnCfg]
      unfold State.hostWrite
      rw [State.claim_mem]
    case claimed =>
      rw [State.ev_reorder, State.sendMessage_ev, State.claim_ev_of_mem hi]
      exact ⟨rfl, rfl⟩
    case other =>
      rw [State.ev_reorder, State.sendMessage_ev]
      exact State.claim_ev_of_not_mem hi
    case pf0 =>
      rintro rfl
      exact ⟨congrArg (satInc 32) (s.claim_issued _).1, (s.claim_issued _).2⟩
    case pf1 =>
      rintro rfl
      exact ⟨congrArg (satInc 32) (s.claim_issued _).2, (s.claim_issued _).1⟩

end Sys2Proof.Machine
end

section
/-!
PROOFS. The Ilelle fabric's links (12_ilelle_fabric.md): bring-up (R302 to R305), and what a link carries, loses and learns (R301,
R302, R306, R310).
-/

namespace Sys2Proof.Machine

/-! ## What sending leaves of a port -/

/-- `y` is the port `x` but for what sending and its acknowledgement move: the replay buffer, the flits that wait, the sequence
number of the next flit, the counts of flits sent and replayed, and the time of the latest status. -/
def Port.SameButSent (x y : Port) : Prop :=
  ∃ r w n o k a, y = { x with replayBuf := r, waiting := w, txSeq := n, flitsOut := o, replays := k, statusAt := a }

theorem Port.SameButSent.refl (x : Port) : x.SameButSent x := ⟨_, _, _, _, _, _, rfl⟩

theorem Port.SameButSent.trans {x y z : Port} (h : x.SameButSent y) (k : y.SameButSent z) : x.SameButSent z := by
  obtain ⟨_, _, _, _, _, _, rfl⟩ := h
  obtain ⟨_, _, _, _, _, _, rfl⟩ := k
  exact ⟨_, _, _, _, _, _, rfl⟩

theorem State.sendFlit_sameButSent (s : State) (p : Nat) (b : List Byte) : (s.port p).SameButSent ((s.sendFlit p b).port p) := by
  unfold State.sendFlit
  extract_lets x
  split
  · rw [State.port_setPort_self]; exact ⟨_, _, _, _, _, _, rfl⟩
  split
  · exact .refl _
  split
  · rw [State.port_setPort_self]; exact ⟨_, _, _, _, _, _, rfl⟩
  · rw [State.port_setPort_self]; exact ⟨_, _, _, _, _, _, rfl⟩

theorem State.sendStatus_sameButSent (s : State) (p : Nat) : (s.port p).SameButSent ((s.sendStatus p).port p) := by
  unfold State.sendStatus
  split
  · exact .refl _
  · obtain ⟨_, _, _, _, _, _, h⟩ := s.sendFlit_sameButSent p
      (flitBody routeNeighbour s.ownAddress msgLinkStatus vcMaint ((s.port p).statusBytes p))
    rw [State.port_modPort_self, State.sendNeighbour, h]
    exact ⟨_, _, _, _, _, _, rfl⟩

theorem State.sendStatus_port_ne (s : State) {p j : Nat} (e : j ≠ p) : (s.sendStatus p).port j = s.port j := by
  unfold State.sendStatus
  split
  · rfl
  · exact (State.port_modPort_ne _ _ e).trans (s.sendFlit_port_ne _ e)

/-- A status that is sent notes its time. -/
theorem State.sendStatus_statusAt {s : State} {p : Nat} (h : (s.port p).talks = true) : ((s.sendStatus p).port p).statusAt = s.now := by
  unfold State.sendStatus
  rw [if_neg (by simp [h]), State.port_modPort_self]
  have hsys : ∀ b, (s.sendFlit p b).sys = s.sys := fun b => (State.sendFlit_kept (.refl s)).sys_eq
  exact congrArg Sys.wall (hsys _)

theorem State.sendWaiting_sameButSent (s : State) (p : Nat) : (s.port p).SameButSent ((s.sendWaiting p).port p) := by
  have hloop : ∀ (l : List (List Byte)) (t : State), (t.port p).SameButSent ((t.forEach l (fun t f => t.sendFlit p f)).port p) := by
    intro l
    unfold State.forEach
    induction l with
    | nil => exact fun t => .refl _
    | cons f l ih => exact fun t => (t.sendFlit_sameButSent p f).trans (ih _)
  unfold State.sendWaiting
  refine Port.SameButSent.trans ?_ (hloop _ _)
  rw [State.port_modPort_self]
  exact ⟨_, _, _, _, _, _, rfl⟩

/-- Events and the domain's state leave the ports. -/
theorem State.port_raiseNum (s : State) (i j : Nat) : (s.raiseNum i).port j = s.port j := State.port_of_fab (s.raiseNum_fab i) j
theorem State.port_raise (s : State) (e : DevEvent) (j : Nat) : (s.raise e).port j = s.port j := State.port_of_fab (s.raise_fab e) j

/-! ## News of a link (R310) -/

/-- Flits leave the links that are known to have failed. -/
theorem State.sendFlit_failed (s : State) (p : Nat) (b : List Byte) : (s.sendFlit p b).fab.failed = s.fab.failed := by
  obtain e | ⟨x, -, e⟩ := s.sendFlit_cases p b <;> rw [e]
  rfl

/-- The list of failed links after news of one. -/
theorem State.noteRoute_failed (s : State) (a p : Nat) (restored : Bool) (except : Option Nat) :
    (s.noteRoute a p restored except).fab.failed =
      let known := s.fab.failed.contains (a, p) || s.fab.failed.contains (neighbourOf s.torusX s.torusY a p, portBack p)
      let rest := s.fab.failed.filter (fun x => x != (a, p) && x != (neighbourOf s.torusX s.torusY a p, portBack p))
      if known != restored then s.fab.failed else if restored then rest else (a, p) :: rest := by
  unfold State.noteRoute
  extract_lets b q known rest failed fab noted raised
  split
  · rfl
  · refine (State.forEach_reading (·.fab.failed) (fun t n => t.sendFlit_failed n _) _ raised).trans ?_
    rw [show raised.fab = noted.fab from State.raise_fab _ _]

/-- After news of a link its route fails, unless the news is that the link came back. -/
theorem State.noteRoute_linkFailed (s : State) (a p : Nat) (restored : Bool) (except : Option Nat) :
    linkFailed (s.noteRoute a p restored except).fab.failed s.torusX s.torusY a p = !restored := by
  rw [State.noteRoute_failed]
  unfold linkFailed
  extract_lets known rest
  cases restored with
  | false =>
    split
    case isTrue h => simpa [known] using h
    case isFalse h => simp
  | true =>
    split
    case isTrue h => simpa [known] using h
    case isFalse h =>
      simp [rest]

/-- The news goes out on the links that are UP: a port that is not keeps what it had. -/
theorem State.noteRoute_port_of_not_up {s : State} {j : Nat} (hj : (s.port j).state ≠ .up) (a p : Nat) (restored : Bool)
    (except : Option Nat) : (s.noteRoute a p restored except).port j = s.port j := by
  unfold State.noteRoute
  extract_lets b q known rest failed fab noted raised
  split
  · rfl
  · have hraised : raised.port j = s.port j := State.port_raise _ _ j
    refine (State.forEach_reading_of_not_mem (State.port · j) (fun t n hn => t.sendFlit_port_ne _ (Ne.symm hn)) ?_ raised).trans hraised
    rw [List.mem_filter, hraised]
    simp [hj]

/-! ## A link that is lost (R301, R310) -/

/-- The port of a link that is lost: at rest, one retrain more, and down from now where it was UP. -/
def Port.lost (x : Port) (now : Nat) : Port :=
  { x.rest with retrains := satInc 16 x.retrains, downAt := if x.state == .up || (x.step == 7 && x.gen != 0) then now else x.downAt }

theorem State.loseLink_port_self (s : State) (p : Nat) : (s.loseLink p).port p = (s.port p).lost s.now := by
  unfold State.loseLink
  extract_lets x wasUp rest lost
  have hlost : lost.port p = x.lost s.now := State.port_setPort_self s p _
  have hdown : ((lost.raiseNum (evIll p 1)).port p).state ≠ .up := by
    rw [State.port_raiseNum, hlost]
    exact PState.noConfusion
  split
  · exact hlost
  · exact (State.noteRoute_port_of_not_up hdown _ _ _ _).trans ((State.port_raiseNum lost _ p).trans hlost)

/-- The route over a link that was UP fails when it is lost. -/
theorem State.loseLink_linkFailed {s : State} {p : Nat} (h : (s.port p).state = .up) :
    linkFailed (s.loseLink p).fab.failed s.torusX s.torusY s.ownAddress p = true := by
  unfold State.loseLink
  extract_lets x wasUp rest lost
  have hup : wasUp = true := by simp [wasUp, x, h]
  have hdict : (lost.raiseNum (evIll p 1)).dict = s.dict := State.raiseNum_dict lost _
  have hx : (lost.raiseNum (evIll p 1)).torusX = s.torusX := State.cfg_of_dict hdict _ _
  have hy : (lost.raiseNum (evIll p 1)).torusY = s.torusY := State.cfg_of_dict hdict _ _
  have hown : lost.ownAddress = s.ownAddress := rfl
  rw [hup, if_neg (by decide)]
  exact hown ▸ hx ▸ hy ▸ State.noteRoute_linkFailed (lost.raiseNum (evIll p 1)) lost.ownAddress p false none

theorem State.failBringUp_port_self (s : State) (p : Nat) : (s.failBringUp p).port p =
    { (s.port p).rest with retrains := satInc 16 (s.port p).retrains, retryAt := some (s.now + 100000000) } := State.port_modPort_self s p _

theorem State.failBringUp_port_ne (s : State) {p j : Nat} (h : j ≠ p) : (s.failBringUp p).port j = s.port j := State.port_modPort_ne s _ h

/-! ## Bring-up (R302 to R305) -/

/-- Sorting keeps the elements of a list. -/
theorem mem_sortDedup {y : Nat} {l : List Nat} : y ∈ sortDedup l ↔ y ∈ l := by
  have hloop : ∀ (l acc : List Nat), y ∈ l.foldl (fun a x => insertSorted x a) acc ↔ y ∈ l ∨ y ∈ acc := by
    intro l
    induction l with
    | nil => simp
    | cons x l ih => intro acc; rw [List.foldl_cons, ih, mem_insertSorted, List.mem_cons]; tauto
  unfold sortDedup
  rw [hloop]
  simp

/-- A step that begins trains on the lanes in service on which receivers were found. -/
theorem State.startBringUp_eq {s : State} {p : Nat} {l : List Nat} (h : l.any (fun y => !(s.port p).laneRet.contains y) = true) :
    s.startBringUp p l = s.setPort p { s.port p with
      state := .training, step := 2, stepAt := s.now, retryAt := none,
      inService := sortDedup (l.filter (fun k => !(s.port p).laneRet.contains k)), burstsUp := 0 } := by
  unfold State.startBringUp
  obtain ⟨y, hy, hin⟩ := List.any_eq_true.1 h
  have hne : sortDedup (l.filter (fun k => !(s.port p).laneRet.contains k)) ≠ [] :=
    List.ne_nil_of_mem (mem_sortDedup.2 (List.mem_filter.2 ⟨hy, hin⟩))
  dsimp only
  rw [if_neg (by simpa [List.isEmpty_iff] using hne)]

theorem contains_sortDedup_filter (l : List (Fin 4)) (out : List Nat) (k : Nat) :
    (sortDedup ((l.map (fun y => y.val)).filter (fun y => !out.contains y))).contains k =
      (l.any (fun y => y.val == k) && !out.contains k) := by
  rw [Bool.eq_iff_iff]
  simp only [List.contains_iff_mem, mem_sortDedup, List.mem_filter, List.mem_map, Bool.and_eq_true, List.any_eq_true, beq_iff_eq]

section
variable {s : State} {p : Fin 4} {l : List (Fin 4)}

theorem any_lane_map (hl : l.any (fun y => !(s.port p).laneRet.contains y.val) = true) :
    (l.map (fun y => y.val)).any (fun y => !(s.port p).laneRet.contains y) = true := by
  rw [List.any_map]; exact hl

theorem exec_bringUpStart (hmay : s.mayBringUp p = true) (hl : l.any (fun y => !(s.port p).laneRet.contains y.val) = true)
    (hretry : (s.port p).retryAt = none) :
    exec (.bringUpStart p l) s = .next (s.setPort p { s.port p with
      state := .training, step := 2, stepAt := s.now, retryAt := none,
      inService := sortDedup ((l.map (fun y => y.val)).filter (fun k => !(s.port p).laneRet.contains k)), burstsUp := 0 }) := by
  show execBringUpStart p l s = _
  unfold execBringUpStart
  rw [if_pos (by simp [hmay, hretry]), State.startBringUp_eq (any_lane_map hl)]

theorem exec_bringUpRetry {r : Nat} (hmay : s.mayBringUp p = true) (hl : l.any (fun y => !(s.port p).laneRet.contains y.val) = true)
    (hretry : (s.port p).retryAt = some r) (hdue : r ≤ s.now) :
    exec (.bringUpRetry p l) s = .next ((s.modPort p (fun x => { x with retryAt := none })).setPort p { s.port p with
      state := .training, step := 2, stepAt := s.now, retryAt := none,
      inService := sortDedup ((l.map (fun y => y.val)).filter (fun k => !(s.port p).laneRet.contains k)), burstsUp := 0 }) := by
  have hport : (s.modPort p (fun x => { x with retryAt := none })).port p = { s.port p with retryAt := none } := State.port_modPort_self s p _
  show execBringUpRetry p l s = _
  unfold execBringUpRetry
  rw [if_pos (by simp [hmay, hretry, hdue]), State.startBringUp_eq (by rw [hport]; exact any_lane_map hl), hport]
  rfl

theorem exec_blockAlignment_aligned (hstep : (s.port p).step = 2)
    (hgot : 2 ≤ ((s.port p).inService.filter (fun n => (l.map (fun y => y.val)).contains n)).length) :
    exec (.blockAlignment p l) s =
      let t := s.setPort p { s.port p with step := 4, stepAt := s.now, inService := (s.port p).inService.filter (fun n => (l.map (fun y => y.val)).contains n) }
      .next (t.sendNeighbour p msgIdent vcMaint (t.identBytes p)) := by
  show execBlockAlignment p l s = _
  unfold execBlockAlignment
  dsimp only
  rw [if_neg (by omega), if_neg (by omega), if_neg (by omega)]

theorem exec_blockAlignment_failed (hstep : (s.port p).step = 2)
    (hgot : ((s.port p).inService.filter (fun n => (l.map (fun y => y.val)).contains n)).length < 2) :
    exec (.blockAlignment p l) s = .next (s.failBringUp p) := by
  show execBlockAlignment p l s = _
  unfold execBlockAlignment
  dsimp only
  rw [if_neg (by omega), if_neg (by omega), if_pos hgot]

theorem exec_bringUpTimeout_step (hlow : 2 ≤ (s.port p).step) (hstep : (s.port p).step ≠ 7)
    (hdue : (s.port p).stepAt + stepLimit (s.port p).step ≤ s.now) : exec (.bringUpTimeout p) s = .next (s.failBringUp p) := by
  show execBringUpTimeout p s = _
  unfold execBringUpTimeout
  dsimp only
  rw [if_neg (by simp; omega), if_neg hstep]

theorem exec_bringUpTimeout_retrain (hstep : (s.port p).step = 7) (hdue : (s.port p).stepAt + 2000000 ≤ s.now) :
    exec (.bringUpTimeout p) s = .next (s.loseLink p) := by
  have hlimit : stepLimit 7 = 2000000 := rfl
  show execBringUpTimeout p s = _
  unfold execBringUpTimeout
  dsimp only
  rw [if_neg (by rw [hstep, hlimit]; simp; omega), if_pos hstep]

end

/-- The port after the neighbour's IDENT, but for what its status moves: held at generation 0, or at the last step. -/
def Port.identified (x : Port) (r : Nat × Nat) (neighbour now : Nat) : Port :=
  if r.1 = 0 then { x with neighbour := neighbour, hold := r.1, gen := r.2, step := 6, stepAt := now }
  else { x with neighbour := neighbour, hold := r.1, gen := r.2, state := .genZero, step := 0 }

theorem exec_ident {s : State} {m : Msg} (hf : s.fabricUp = true) (hstep : (s.port m.port).step = 4) :
    ∃ t, exec (.ident m) s = .next t
      ∧ ((s.port m.port).identified (s.judgeIdent m.port m.payload) (getLE m.payload 4 2 % 4096) s.now).SameButSent (t.port m.port)
      ∧ ∀ j : Nat, j ≠ m.port.val → t.port j = s.port j := by
  refine ⟨_, rfl, ?_⟩
  rw [if_neg (by simp [hf, hstep])]
  dsimp only
  split
  case isTrue hheld =>
    set held : State := s.setPort m.port _ with hheld_def
    set told : State := if (s.judgeIdent m.port m.payload).1 = 1 then held.raise .fabricForeign
      else if (s.judgeIdent m.port m.payload).1 = 2 then held.raise .fabricMiscabled else held with htold
    have hport : ∀ j, told.port j = held.port j := by
      intro j
      rw [htold]
      split
      · exact State.port_raise _ _ j
      · split
        · exact State.port_raise _ _ j
        · rfl
    refine ⟨?_, fun j hj => ?_⟩
    · have hself := told.sendStatus_sameButSent m.port
      rw [hport, hheld_def, State.port_setPort_self] at hself
      rw [Port.identified, if_neg hheld]
      exact hself
    · rw [State.sendStatus_port_ne _ hj, hport]
      exact State.port_setPort_ne s _ hj
  case isFalse hfree =>
    have hfree : (s.judgeIdent m.port m.payload).1 = 0 := not_not.1 hfree
    refine ⟨?_, fun j hj => ?_⟩
    · refine Port.SameButSent.trans ?_ (State.sendStatus_sameButSent _ _)
      rw [State.port_setPort_self, Port.identified, if_pos hfree]
      exact .refl _
    · rw [State.sendStatus_port_ne _ hj]
      exact State.port_setPort_ne s _ hj

/-- Settles O28, step by step of the bring-up. -/
theorem portsBringUp : Obligations.PortsBringUp := by
  intro s p l x begun failed got
  refine ⟨fun hmay hl => ⟨?start, ?retry⟩, ?aligned, ?tooFew, ?ident, ?timeout, ?retrain⟩
  case start =>
    intro hretry
    refine ⟨_, exec_bringUpStart hmay hl hretry, ?_⟩
    dsimp only [begun]
    rw [State.port_setPort_self]
    exact ⟨rfl, rfl, rfl, rfl, contains_sortDedup_filter l x.laneRet, fun j hj => State.port_setPort_ne s _ hj, rfl, rfl, rfl⟩
  case retry =>
    intro r hretry hdue
    refine ⟨_, exec_bringUpRetry hmay hl hretry hdue, ?_⟩
    dsimp only [begun]
    rw [State.port_setPort_self]
    exact ⟨rfl, rfl, rfl, rfl, contains_sortDedup_filter l x.laneRet,
      fun j hj => (State.port_setPort_ne _ _ hj).trans (State.port_modPort_ne s _ hj), rfl, rfl, rfl⟩
  case aligned =>
    intro hstep hgot
    have e := exec_blockAlignment_aligned hstep hgot
    extract_lets t at e
    obtain ⟨_, _, _, _, _, _, hsent⟩ := t.sendFlit_sameButSent p (flitBody routeNeighbour t.ownAddress msgIdent vcMaint (t.identBytes p))
    refine ⟨_, e, ?_⟩
    unfold State.sendNeighbour
    rw [hsent, show t.port p = _ from State.port_setPort_self s p _]
    refine ⟨rfl, rfl, rfl, fun j hj => ?_, ?_, ?_⟩
    · exact (t.sendFlit_port_ne _ hj).trans (State.port_setPort_ne s _ hj)
    · exact (State.sendFlit_kept (.refl t)).mem_eq
    · exact (State.sendFlit_kept (.refl t)).que_eq
  case tooFew =>
    intro hstep hgot
    refine ⟨_, exec_blockAlignment_failed hstep hgot, ?_⟩
    dsimp only [failed]
    rw [State.failBringUp_port_self]
    exact ⟨rfl, rfl, rfl, rfl, fun j hj => s.failBringUp_port_ne hj, rfl, rfl⟩
  case ident =>
    rintro m rfl hf hstep
    obtain ⟨t, e, ⟨_, _, _, _, _, _, hself⟩, hother⟩ := exec_ident hf hstep
    have hmem := Kept.mem_eq ((execIdent_kept (.refl s)).out _ e)
    have hque := Kept.que_eq ((execIdent_kept (.refl s)).out _ e)
    refine ⟨t, e, ?_⟩
    by_cases h : (s.judgeIdent m.port m.payload).1 = 0
    · rw [hself, Port.identified, if_pos h]
      exact ⟨rfl, rfl, rfl, (if_pos h).symm, fun k => absurd h k, hother, hmem, hque⟩
    · rw [hself, Port.identified, if_neg h]
      exact ⟨rfl, rfl, rfl, (if_neg h).symm, fun _ => rfl, hother, hmem, hque⟩
  case timeout =>
    intro hlow hstep hdue
    refine ⟨_, exec_bringUpTimeout_step hlow hstep hdue, ?_⟩
    dsimp only [failed]
    rw [State.failBringUp_port_self]
    exact ⟨rfl, rfl, rfl, rfl, fun j hj => s.failBringUp_port_ne hj, rfl, rfl⟩
  case retrain =>
    intro hstep hdue
    refine ⟨_, exec_bringUpTimeout_retrain hstep hdue, ?_⟩
    rw [State.loseLink_port_self]
    exact ⟨rfl, rfl, (State.loseLink_kept (.refl s)).mem_eq, (State.loseLink_kept (.refl s)).que_eq⟩

end Sys2Proof.Machine
end

section
/-!
PROOFS. What a link of the Ilelle fabric carries, loses and learns (12_ilelle_fabric.md, R301, R302, R306, R310).
-/

namespace Sys2Proof.Machine

/-! ## A loop in which every port has its turn -/

section
variable {f : State → Nat → State} {p : Nat} (hne : ∀ t q, p ≠ q → (f t q).port p = t.port p)
include hne

/-- What a port's own turn makes of it stands after the turns of all ports, where no turn moves the device's own state. -/
theorem State.forEach_port {s : State} (hsys : ∀ t q, (f t q).sys = t.sys) {P : Port → Prop} {l : List Nat} (hl : l.Nodup) (hp : p ∈ l)
    (h : ∀ t : State, t.port p = s.port p → t.sys = s.sys → P ((f t p).port p)) : P ((s.forEach l f).port p) := by
  suffices ∀ t : State, t.port p = s.port p → t.sys = s.sys → P ((t.forEach l f).port p) from this s rfl rfl
  induction l with
  | nil => cases hp
  | cons q l ih =>
    intro t hport ht
    obtain ⟨hq, hl⟩ := List.nodup_cons.1 hl
    by_cases e : p = q
    · subst e
      exact (State.forEach_reading_of_not_mem (State.port · p) (fun t j hj => hne t j hj.symm) hq (f t p)).symm ▸ h t hport ht
    · exact ih hl ((List.mem_cons.1 hp).resolve_left e) _ ((hne t q e).trans hport) ((hsys t q).trans ht)

end

/-! ## The tick of LINK_STATUS (R306) -/

/-- The turn of a port at the tick. -/
def State.tickStatus (s : State) (p : Nat) : State :=
  if s.fabricUp && decide ((s.port p).statusAt + 100000000 ≤ s.now) then s.sendStatus p else s

theorem execLinkStatusTick_eq (s : State) : execLinkStatusTick s = .next (s.forEach (List.range 4) State.tickStatus) := rfl

theorem State.tickStatus_sys (s : State) (p : Nat) : (s.tickStatus p).sys = s.sys :=
  Kept.sys_eq (.ite (State.sendStatus_kept (.refl s)) (.refl s))

theorem State.tickStatus_port_ne (s : State) {p q : Nat} (e : p ≠ q) : (s.tickStatus q).port p = s.port p := by
  unfold State.tickStatus
  split
  · exact s.sendStatus_port_ne e
  · rfl

/-- What a port's own turn makes of it stands after the tick. -/
theorem State.forEach_tickStatus {s : State} (p : Fin 4) {P : Port → Prop}
    (h : ∀ t : State, t.port p = s.port p → t.sys = s.sys → P ((t.tickStatus p).port p)) :
    P ((s.forEach (List.range 4) State.tickStatus).port p) :=
  State.forEach_port (fun t _ e => t.tickStatus_port_ne e) State.tickStatus_sys List.nodup_range (List.mem_range.2 p.isLt) h

theorem State.now_of_sys {s t : State} (e : t.sys = s.sys) : t.now = s.now := congrArg Sys.wall e

/-- A status that is due is sent. -/
theorem State.tickStatus_due {s : State} {p : Nat} (hf : s.fabricUp = true) (ht : (s.port p).talks = true)
    (hdue : (s.port p).statusAt + 100000000 ≤ s.now) : ((s.tickStatus p).port p).statusAt = s.now := by
  unfold State.tickStatus
  rw [if_pos (by simp [hf, hdue])]
  exact State.sendStatus_statusAt ht

/-- A status that is not due is not sent. -/
theorem State.tickStatus_idle {s : State} {p : Nat} (h : s.fabricUp = false ∨ s.now < (s.port p).statusAt + 100000000) :
    s.tickStatus p = s := by
  unfold State.tickStatus
  refine if_neg ?_
  obtain h | h := h
  · simp [h]
  · simp [Nat.not_le.2 h]

/-! ## A flit that fails (R301, R302) -/

theorem State.loseLink_flitsIn (s : State) (p : Nat) : ((s.loseLink p).port p).flitsIn = (s.port p).flitsIn := by
  rw [State.loseLink_port_self]; rfl

theorem State.failBringUp_flitsIn (s : State) (p : Nat) : ((s.failBringUp p).port p).flitsIn = (s.port p).flitsIn := by
  rw [State.failBringUp_port_self]; rfl

theorem State.retirePort_flitsIn (s : State) (p : Nat) : ((s.retirePort p).port p).flitsIn = (s.port p).flitsIn := by
  unfold State.retirePort
  rw [State.port_raiseNum, State.port_modPort_self]
  exact s.loseLink_flitsIn p

theorem State.retireLanes_flitsIn (s : State) (p : Nat) : ((s.retireLanes p).port p).flitsIn = (s.port p).flitsIn := by
  unfold State.retireLanes
  extract_lets x gone left cut told
  have hcut : cut.port p = { x with laneRet := sortDedup (gone ++ x.laneRet), inService := left } := State.port_setPort_self s p _
  have hports : told.port p = cut.port p := State.forEach_reading (State.port · p) (fun t _ => t.port_raiseNum _ p) gone cut
  have htold : (told.port p).flitsIn = x.flitsIn := by rw [hports, hcut]
  split
  · rfl
  split
  · exact (told.retirePort_flitsIn p).trans htold
  split
  · rw [State.port_modPort_self]; exact htold
  · exact (told.failBringUp_flitsIn p).trans htold

/-- A flit that fails is not counted among those received. -/
theorem State.failFlit_flitsIn (s : State) (p : Nat) (b : List Byte) : ((s.failFlit p b).port p).flitsIn = (s.port p).flitsIn := by
  unfold State.failFlit
  extract_lets x again y fails t
  have ht : (t.port p).flitsIn = x.flitsIn := by
    rw [State.port_setPort_self]; rfl
  split
  · split
    · exact (t.loseLink_flitsIn p).trans ht
    · exact (t.failBringUp_flitsIn p).trans ht
  · exact (t.retireLanes_flitsIn p).trans ht

/-! ## A flit that is accepted (R301) -/

theorem State.takeAck_sameButSent (s : State) (p ack : Nat) : (s.port p).SameButSent ((s.takeAck p ack).port p) := by
  unfold State.takeAck
  extract_lets x rest freed replayed
  have hfreed : (s.port p).SameButSent (freed.port p) := by
    rw [State.port_setPort_self]; exact ⟨_, _, _, _, _, _, rfl⟩
  refine Port.SameButSent.trans ?_ (State.sendWaiting_sameButSent _ p)
  dsimp only [replayed]
  split
  · exact hfreed
  · rw [State.port_modPort_self]
    refine hfreed.trans ?_
    exact ⟨_, _, _, _, _, _, rfl⟩

/-- The port after an acknowledgement that a flit carries: counted, and but for what sending moves as it was. -/
theorem State.counted_port (s : State) (p ack : Nat) : ({ s.port p with flitsIn := wrapInc 64 (s.port p).flitsIn } : Port).SameButSent
    (((s.modPort p (fun x => { x with flitsIn := wrapInc 64 x.flitsIn })).takeAck p ack).port p) := by
  have h := (s.modPort p (fun x => { x with flitsIn := wrapInc 64 x.flitsIn })).takeAck_sameButSent p ack
  rwa [State.port_modPort_self] at h

/-- A flit out of sequence only counts. -/
theorem State.acceptFlit_out {s : State} {p : Nat} {b : List Byte} (h : getLE b 8 2 ≠ wrapInc 16 (s.port p).rxSeq) :
    ∃ t, s.acceptFlit p b = (t, false)
      ∧ ({ s.port p with flitsIn := wrapInc 64 (s.port p).flitsIn } : Port).SameButSent (t.port p) := by
  have hself := s.counted_port p (getLE b 0xA 2)
  refine ⟨_, ?_, hself⟩
  obtain ⟨_, _, _, _, _, _, hport⟩ := hself
  unfold State.acceptFlit
  dsimp only
  rw [hport, if_neg h]

/-- A flit in sequence counts and advances the sequence. -/
theorem State.acceptFlit_in {s : State} {p : Nat} {b : List Byte} (h : getLE b 8 2 = wrapInc 16 (s.port p).rxSeq) :
    ∃ t, s.acceptFlit p b = (t, true)
      ∧ ({ s.port p with flitsIn := wrapInc 64 (s.port p).flitsIn, rxSeq := getLE b 8 2, discarding := false, sameFails := 0 } : Port).SameButSent
          (t.port p) := by
  obtain ⟨_, _, _, _, _, _, hport⟩ := s.counted_port p (getLE b 0xA 2)
  refine ⟨((s.modPort p (fun x => { x with flitsIn := wrapInc 64 x.flitsIn })).takeAck p (getLE b 0xA 2)).modPort p
    (fun x => { x with rxSeq := getLE b 8 2, discarding := false, sameFails := 0 }), ?_, ?_⟩
  · unfold State.acceptFlit
    dsimp only
    rw [hport, if_pos h]
  · rw [State.port_modPort_self, hport]
    exact ⟨_, _, _, _, _, _, rfl⟩

theorem Port.SameButSent.talks {x y : Port} (h : x.SameButSent y) : y.talks = x.talks := by
  obtain ⟨_, _, _, _, _, _, rfl⟩ := h
  rfl

section
variable {s : State} {p : Fin 4} {b : List Byte}

theorem exec_flitReceive_idle (h : (s.port p).talks = false) : exec (.flitReceive p b) s = .next s := by
  show execFlitReceive p b s = _
  unfold execFlitReceive
  rw [if_pos (by simp [h])]

theorem exec_flitReceive_failed (ht : (s.port p).talks = true) (hi : (s.port p).intact b = false) :
    exec (.flitReceive p b) s = .next (s.failFlit p b) := by
  show execFlitReceive p b s = _
  unfold execFlitReceive
  rw [if_neg (by simp [ht]), if_pos (by simp [hi])]

theorem exec_flitReceive_accepted (ht : (s.port p).talks = true) (hi : (s.port p).intact b = true) {t : State} {ok : Bool}
    (h : s.acceptFlit p b = (t, ok)) : exec (.flitReceive p b) s = .next (if ok then t.routeFlit p b else t) := by
  show execFlitReceive p b s = _
  unfold execFlitReceive
  rw [if_neg (by simp [ht]), if_neg (by simp [hi]), h]
  cases ok <;> rfl

/-- A neighbour's LINK_STATUS is recorded where it arrives. -/
theorem State.routeFlit_linkStatus (hroute : getLE b 0 2 / 0x4000 = 2) (htype : getLE b 4 1 = msgLinkStatus) (ht : (s.port p).talks = true) :
    s.routeFlit p b = s.modPort p (fun x => { x with peer := padTo 0#8 16 ((b.drop 0x10).take (Nat.min 232 (getLE b 6 2))) }) := by
  have hdeliver (sender : Fin 4096) (l : List Byte) :
      s.deliver p 0 msgLinkStatus sender l = s.modPort p (fun x => { x with peer := padTo 0#8 16 l }) := by
    unfold State.deliver
    rw [if_neg (by decide), if_pos rfl]
    unfold execLinkStatus after
    dsimp only
    rw [if_pos ht]
  unfold State.routeFlit
  dsimp only
  simp only [hroute, htype, hdeliver]

theorem exec_linkDown (h : (s.port p).linked = true) : exec (.linkDown p) s = .next (s.loseLink p) :=
  congrArg Host.Outcome.next (if_pos h)

theorem exec_routeUpdate {m : Msg} (h : s.fabricUp = true) : exec (.routeUpdate m) s =
    .next (s.noteRoute (getLE m.payload 0 2 % 4096) (getLE m.payload 2 1 % 4) (getLE m.payload 3 1 == 1) (some m.port.val)) :=
  congrArg Host.Outcome.next (if_pos h)

theorem exec_portReenable_pf0 (h : s.hostUp .pf0 = true) : exec (.portReenable .pf0 p) s = .next (s.portReenable p) := by
  show execPortReenable .pf0 p s = _
  unfold execPortReenable
  rw [if_neg (by simp [h]), if_neg Fn.noConfusion]

theorem exec_portReenable_pf1 (h : s.hostUp .pf1 = true) :
    exec (.portReenable .pf1 p) s = .next (s.privIgnore (0xC0_0004 + 0x1000 * p.val)) := by
  show execPortReenable .pf1 p s = _
  unfold execPortReenable
  rw [if_neg (by simp [h]), if_pos rfl]

end

/-- A re-enabled port is at rest with every lane, and it is not retired. -/
theorem State.portReenable_port_self (s : State) (p : Nat) :
    ∃ y, (s.portReenable p).port p = { Port.rest y with laneRet := [], retired := false, bursts := [] } := by
  unfold State.portReenable
  dsimp only
  rw [State.port_modPort_self]
  exact ⟨_, rfl⟩

/-- Settles O29, command by command. -/
theorem linksCarryAndFail : Obligations.LinksCarryAndFail := by
  intro s p b x
  refine ⟨?status, ?tick, ?down, ?news, ?reenable, ?ignored, ?idle, ?failed, ?out, ?next⟩
  case status =>
    rintro m rfl ht
    exact ⟨_, congrArg Host.Outcome.next (if_pos ht), rfl⟩
  case tick =>
    refine ⟨_, execLinkStatusTick_eq s, Kept.mem_eq ((execLinkStatusTick_kept (.refl s)).out _ rfl),
      Kept.que_eq ((execLinkStatusTick_kept (.refl s)).out _ rfl), Kept.heads_eq ((execLinkStatusTick_kept (.refl s)).out _ rfl),
      fun hf ht hdue => ?_, fun hidle => ?_⟩
    · refine State.forEach_tickStatus (P := fun y => y.statusAt = s.now) p (fun t hport hsys => ?_)
      have hnow := State.now_of_sys hsys
      rw [← hnow]
      exact State.tickStatus_due ((State.fabricUp_of_sys hsys).trans hf) (hport ▸ ht) (by rw [hport, hnow]; exact hdue)
    · refine State.forEach_tickStatus (P := fun y => y = x) p (fun t hport hsys => ?_)
      rw [State.tickStatus_idle (by rw [State.fabricUp_of_sys hsys, State.now_of_sys hsys, hport]; exact hidle)]
      exact hport
  case down =>
    intro h
    refine ⟨_, exec_linkDown h, ?_⟩
    rw [State.loseLink_port_self]
    refine ⟨rfl, rfl, rfl, rfl, (State.loseLink_kept (.refl s)).mem_eq, (State.loseLink_kept (.refl s)).que_eq,
      (State.loseLink_kept (.refl s)).heads_eq, fun hup => ⟨State.loseLink_linkFailed hup, ?_⟩⟩
    exact if_pos (by simp [show (s.port p).state = .up from hup])
  case news =>
    intro m hf
    refine ⟨_, exec_routeUpdate hf, (State.noteRoute_kept (.refl s)).mem_eq, (State.noteRoute_kept (.refl s)).que_eq,
      (State.noteRoute_kept (.refl s)).heads_eq, ?_⟩
    exact State.noteRoute_linkFailed s _ _ _ _
  case reenable =>
    intro h
    obtain ⟨y, hy⟩ := s.portReenable_port_self p
    refine ⟨_, exec_portReenable_pf0 h, ?_⟩
    rw [hy]
    exact ⟨rfl, rfl, rfl, (State.portReenable_kept (.refl s)).mem_eq, (State.portReenable_kept (.refl s)).que_eq,
      (State.portReenable_kept (.refl s)).heads_eq⟩
  case ignored => exact fun h => ⟨_, exec_portReenable_pf1 h, rfl⟩
  case idle => exact fun h => ⟨_, exec_flitReceive_idle h, rfl⟩
  case failed =>
    exact fun ht hi => ⟨_, exec_flitReceive_failed ht hi, s.failFlit_flitsIn p b, (State.failFlit_kept (.refl s)).mem_eq,
      (State.failFlit_kept (.refl s)).que_eq, (State.failFlit_kept (.refl s)).heads_eq⟩
  case out =>
    intro ht hi hseq
    obtain ⟨t, e, _, _, _, _, _, _, hport⟩ := State.acceptFlit_out hseq
    obtain rfl : t = (s.acceptFlit p b).1 := by rw [e]
    refine ⟨_, exec_flitReceive_accepted ht hi e, ?_⟩
    rw [if_neg Bool.false_ne_true, hport]
    exact ⟨rfl, rfl, (State.acceptFlit_kept (.refl s)).mem_eq, (State.acceptFlit_kept (.refl s)).que_eq,
      (State.acceptFlit_kept (.refl s)).heads_eq⟩
  case next =>
    intro ht hi hseq hroute htype
    obtain ⟨t, e, hsame⟩ := State.acceptFlit_in hseq
    obtain rfl : t = (s.acceptFlit p b).1 := by rw [e]
    refine ⟨_, exec_flitReceive_accepted ht hi e, ?_⟩
    rw [if_pos rfl, State.routeFlit_linkStatus hroute htype (hsame.talks.trans ht), State.port_modPort_self]
    obtain ⟨_, _, _, _, _, _, hport⟩ := hsame
    rw [hport]
    exact ⟨rfl, rfl, rfl, (State.acceptFlit_kept (.refl s)).mem_eq, (State.acceptFlit_kept (.refl s)).que_eq⟩

end Sys2Proof.Machine
end

section
/-!
PROOFS. The wall domain (12_ilelle_fabric.md): what sending, trees, summaries and decisions move of the fabric's state, heartbeats and
summaries (R323, R328, R332), and office, isolation and domain entries (R319, R331, R334, R343).
-/

namespace Sys2Proof.Machine

/-! ## What sending moves -/

/-- `g` is `f` but for the ports. -/
def Fab.SameButPorts (f g : Fab) : Prop := ∃ ps, g = { f with ports := ps }

theorem Fab.SameButPorts.refl (f : Fab) : f.SameButPorts f := ⟨_, rfl⟩

theorem Fab.SameButPorts.trans {f g h : Fab} (a : f.SameButPorts g) (b : g.SameButPorts h) : f.SameButPorts h := by
  obtain ⟨_, rfl⟩ := a
  obtain ⟨_, rfl⟩ := b
  exact ⟨_, rfl⟩

theorem Fab.SameButPorts.forEach {α : Type} {f : State → α → State} (hf : ∀ (s : State) (a : α), s.fab.SameButPorts (f s a).fab) (l : List α) (s : State) :
    s.fab.SameButPorts (s.forEach l f).fab := by
  unfold State.forEach
  induction l generalizing s with
  | nil => exact .refl _
  | cons a l ih => exact (hf s a).trans (ih _)

theorem State.sendFlit_fab (s : State) (p : Nat) (b : List Byte) : s.fab.SameButPorts (s.sendFlit p b).fab := by
  obtain e | ⟨x, -, e⟩ := s.sendFlit_cases p b <;> rw [e]
  · exact .refl _
  · exact ⟨_, rfl⟩

theorem State.sendTo_fab (s : State) (d type : Nat) (l : List Byte) : s.fab.SameButPorts (s.sendTo d type l).fab := by
  unfold State.sendTo
  split
  · exact s.sendFlit_fab _ _
  · exact .refl _

theorem State.sendTree_fab (s : State) (n type vc : Nat) (l : List Byte) : s.fab.SameButPorts (s.sendTree n type vc l).fab :=
  Fab.SameButPorts.forEach (fun t _ => t.sendFlit_fab _ _) _ s

theorem State.sendTreesAB_fab (s : State) (type : Nat) (l : List Byte) : s.fab.SameButPorts (s.sendTreesAB type l).fab :=
  (s.sendTree_fab _ _ _ _).trans (State.sendTree_fab _ _ _ _ _)

/-- A heartbeat that is sent is noted here. -/
theorem State.sendBeat_fab (s : State) (b : Beat) :
    Fab.SameButPorts { s.fab with beats := Tbl.set s.fab.beats s.ownAddress b } (s.sendBeat b).fab := by
  unfold State.sendBeat
  extract_lets fab noted told
  have htold : noted.fab.SameButPorts told.fab := Fab.SameButPorts.forEach (fun t _ => t.sendFlit_fab _ _) _ noted
  refine htold.trans ?_
  split
  · split
    · exact .refl _
    · exact told.sendTo_fab _ _ _
  · exact .refl _

/-! ## What time root, generations and replicas move -/

/-- `g` is `f` but for the ports, the replicas of remote sources, the time root and its state, the generations and the state of the
domain. -/
def Fab.SameDomain (f g : Fab) : Prop := ∃ ps sb ra tr ts dg ds dl st,
  g = { f with ports := ps, subscribed := sb, replicaAt := ra, timeRoot := tr, timeState := ts, domGen := dg, domSdf := ds, domLop := dl,
               domState := st }

theorem Fab.SameDomain.refl (f : Fab) : f.SameDomain f := ⟨_, _, _, _, _, _, _, _, _, rfl⟩

theorem Fab.SameDomain.trans {f g h : Fab} (a : f.SameDomain g) (b : g.SameDomain h) : f.SameDomain h := by
  obtain ⟨_, _, _, _, _, _, _, _, _, rfl⟩ := a
  obtain ⟨_, _, _, _, _, _, _, _, _, rfl⟩ := b
  exact ⟨_, _, _, _, _, _, _, _, _, rfl⟩

theorem Fab.SameButPorts.domain {f g : Fab} (h : f.SameButPorts g) : f.SameDomain g := by
  obtain ⟨_, rfl⟩ := h
  exact ⟨_, _, _, _, _, _, _, _, _, rfl⟩

theorem Fab.SameDomain.of_eq {f g : Fab} (h : g = f) : f.SameDomain g := h ▸ .refl f

theorem State.noteDomainState_fab (s : State) : s.fab.SameDomain s.noteDomainState.fab := ⟨_, _, _, _, _, _, _, _, _, rfl⟩

theorem State.setTimeState_same (s : State) (n : Nat) : s.fab.SameDomain (s.setTimeState n).fab := by
  rw [State.setTimeState_fab]
  exact ⟨_, _, _, _, _, _, _, _, _, rfl⟩

theorem State.setTimeRoot_fab (s : State) (r : Nat) : s.fab.SameDomain (s.setTimeRoot r).fab := by
  unfold State.setTimeRoot
  extract_lets changed fab rooted t
  have hrooted : s.fab.SameDomain rooted.fab := ⟨_, _, _, _, _, _, _, _, _, rfl⟩
  have ht : s.fab.SameDomain t.fab := by
    refine hrooted.trans ?_
    dsimp only [t]
    split
    · exact rooted.setTimeState_same 3
    split
    · exact rooted.setTimeState_same 2
    split
    · exact rooted.setTimeState_same 1
    · exact .refl _
  split
  · exact ht.trans (.of_eq (t.raise_fab _))
  · exact ht

theorem State.setGenerations_fab (s : State) (n : Nat) : s.fab.SameDomain (s.setGenerations n).fab := by
  unfold State.setGenerations
  extract_lets sdf lop changed fab t
  have ht : s.fab.SameDomain t.fab := ⟨_, _, _, _, _, _, _, _, _, rfl⟩
  split
  · exact ht.trans (.of_eq (t.raise_fab _))
  · exact ht

theorem State.reserve_fab {s t : State} {n : Nat} (h : s.reserve n = some t) : s.fab.SameDomain t.fab := by
  unfold State.reserve at h
  split at h
  case h_1 => cases h
  case h_2 x _ =>
    obtain ⟨a, -, rfl⟩ := Option.map_eq_some_iff.1 h
    exact ⟨_, _, _, _, _, _, _, _, _, rfl⟩

theorem State.subscribeScene_fab (s : State) (sc : Scene) : s.fab.SameDomain (s.subscribeScene sc).fab := by
  have hloop : ∀ (l : List (Nat × Nat)) (t : State), t.fab.SameDomain (t.forEach l (fun s p =>
      if s.fab.subscribed.contains p.1 then s
      else match s.reserve p.1, s.source? p.1 with
        | some t, some x => t.sendTo x.reg.home msgSubscribe (leBytes 2 p.1)
        | _, _ => s)).fab := by
    intro l
    unfold State.forEach
    induction l with
    | nil => exact fun t => .refl _
    | cons p l ih =>
      refine fun t => Fab.SameDomain.trans ?_ (ih _)
      dsimp only
      split
      · exact .refl _
      split
      case h_1 u x hu hx => exact (State.reserve_fab hu).trans (u.sendTo_fab _ _ _).domain
      case h_2 => exact .refl _
  refine Fab.SameDomain.trans ?_ (hloop _ s.freeReplicas)
  exact ⟨_, _, _, _, _, _, _, _, _, rfl⟩

/-! ## What a decision moves (R327, R329) -/

theorem State.offerDone_fab (s : State) (a : Offer) (d : Detail) (n : Nat) : (s.offerDone a d n).fab = s.fab :=
  (State.offerDone_kept (.refl s)).fab_eq

theorem State.abortAnswer_fab (s : State) (a : Offer) :
    (s.abortAnswer a).fab = { s.fab with answer := none, aborts := satInc 32 s.fab.aborts } :=
  (State.raise_fab _ _).trans (State.offerDone_fab _ _ _ _)

/-- The heads' part of taking an epoch. -/
def State.scheduleHeads (s : State) (a : Offer) (l : List (Nat × Nat)) : State := s.forEach l (fun s p => s.scheduleHead a p.2 p.1)

theorem State.scheduleHeads_fab (s : State) (a : Offer) (l : List (Nat × Nat)) : (s.scheduleHeads a l).fab = s.fab :=
  State.forEach_reading (·.fab) (fun t _ => (State.scheduleHead_kept (.refl t)).fab_eq) l s

theorem State.takeEpoch_fab (s : State) (a : Offer) (late : Bool) :
    Fab.SameDomain { s.fab with answer := none } (s.takeEpoch a late).fab := by
  unfold State.takeEpoch
  extract_lets _ tF target result heads scheduled fab ended taken
  have hended : ended.fab = { s.fab with answer := none } :=
    congrArg (fun f : Fab => { f with answer := none }) (s.scheduleHeads_fab a _)
  rw [State.offerDone_fab, ← hended]
  dsimp only [taken]
  split
  · have hmask : ∀ t : State, t.maskForScenes.fab = t.fab := fun t => (State.maskForScenes_kept (.refl t)).fab_eq
    rw [hmask]
    refine Fab.SameDomain.trans (.of_eq ?_) (State.subscribeScene_fab _ _)
    exact (State.countAccepted_kept (.refl ended)).fab_eq
  · exact .refl _

/-- What the domain's reports say, of the fabric's state. -/
structure DomainReport where
  frame    : Nat
  seen     : Bool
  present  : List Nat
  previous : List Nat
  coord    : Option Nat
  office   : Bool

def Fab.report (f : Fab) : DomainReport :=
  { frame := f.lastSummary, seen := f.sumSeen, present := f.present, previous := f.prevPresent, coord := f.coord, office := f.office }

theorem Fab.SameDomain.report {f g : Fab} (h : f.SameDomain g) : g.report = f.report := by
  obtain ⟨_, _, _, _, _, _, _, _, _, rfl⟩ := h
  rfl

theorem State.takeEpoch_report (s : State) (a : Offer) (late : Bool) : (s.takeEpoch a late).fab.report = s.fab.report :=
  (s.takeEpoch_fab a late).report

theorem State.abortAnswer_report (s : State) (a : Offer) : (s.abortAnswer a).fab.report = s.fab.report := by
  rw [State.abortAnswer_fab]; rfl

theorem State.splitFlip_report (s : State) (a : Offer) : (s.splitFlip a).fab.report = s.fab.report := by
  unfold State.splitFlip
  extract_lets fab split tNext after taken
  have htaken : taken.fab.report = s.fab.report := by
    rw [State.raise_fab]
    exact split.takeEpoch_report a true
  split
  · rw [State.raise_fab]; exact htaken
  · exact htaken

theorem State.judgeSplit_report (s : State) (n : Nat) (l : List (Nat × Nat)) : (s.judgeSplit n l).fab.report = s.fab.report := by
  unfold State.judgeSplit
  split
  · rfl
  split
  · rfl
  split
  · exact s.splitFlip_report _
  · exact s.abortAnswer_report _

theorem State.takeDecision_report (s : State) (e v n : Nat) : (s.takeDecision e v n).fab.report = s.fab.report := by
  unfold State.takeDecision
  split
  · rfl
  extract_lets fab t
  split
  · rfl
  split
  · rfl
  split
  · exact t.abortAnswer_report _
  split
  · rfl
  · exact t.takeEpoch_report _ _

theorem State.decideFlight_report (s : State) (f : Flight) (v : Nat) : (s.decideFlight f v).fab.report = s.fab.report := by
  unfold State.decideFlight
  extract_lets one two ended
  refine (State.takeDecision_report _ _ _ _).trans ?_
  exact ((s.sendTree_fab _ _ _ _).trans (one.sendTree_fab _ _ _ _)).domain.report

/-! ## A summary is taken in (R323, R328) -/

theorem State.follow_report (s : State) (c : Nat) :
    (s.follow c).fab.report = { s.fab.report with coord := some c, office := c == s.ownAddress } := by
  unfold State.follow
  extract_lets changed fab followed noted
  have hnoted : noted.fab.report = { s.fab.report with coord := some c, office := c == s.ownAddress } := by
    refine (State.noteDomainState_fab _).report.trans ?_
    rw [State.level_fab]
    rfl
  split
  · rw [State.raise_fab]; exact hnoted
  · exact hnoted

theorem State.follow_answer (s : State) (c : Nat) : (s.follow c).fab.answer = s.fab.answer := by
  unfold State.follow
  extract_lets changed fab followed noted
  have hnoted : noted.fab.answer = s.fab.answer := by
    show (followed.level .domainNoQuorum false).fab.answer = _
    rw [State.level_fab]
  split
  · rw [State.raise_fab]; exact hnoted
  · exact hnoted

theorem Fab.SameDomain.answer {f g : Fab} (h : f.SameDomain g) : g.answer = f.answer := by
  obtain ⟨_, _, _, _, _, _, _, _, _, rfl⟩ := h
  rfl

/-- A member that takes a summary in, up to the judgement of an epoch that was answered without GO. -/
theorem State.takeSummary_eq (s : State) (m : SummaryMsg) :
    ∃ t : State, s.takeSummary m = (t.judgeSplit m.frame m.epochs).noteDomainState
      ∧ t.fab.report = { frame := m.frame, seen := true, present := m.present, previous := s.fab.present, coord := some m.coord,
                         office := m.coord == s.ownAddress }
      ∧ t.fab.answer = s.fab.answer ∧ t.mem = s.mem := by
  unfold State.takeSummary
  extract_lets followed rooted lost fab noted told diverged back sys returned warned fab' seen
  refine ⟨seen, rfl, ?_⟩
  have hrooted : followed.fab.SameDomain rooted.fab := by
    dsimp only [rooted]
    split
    · exact .refl _
    · exact (followed.setTimeRoot_fab _).trans (State.setGenerations_fab _ _)
  have htold : told.fab = noted.fab := by
    dsimp only [told]; split
    · rfl
    · exact State.raise_fab _ _
  have hdiverged : diverged.fab = told.fab := by
    dsimp only [diverged]; split
    · exact State.raise_fab _ _
    · rfl
  have hreturned : returned.fab = diverged.fab := by
    dsimp only [returned]; split
    · exact (State.noteConditions_kept (.refl _)).fab_eq
    · rfl
  have hwarned : warned.fab = returned.fab := by
    dsimp only [warned]; split
    · exact State.raise_fab _ _
    · rfl
  have hfab : warned.fab = noted.fab := by rw [hwarned, hreturned, hdiverged, htold]
  have hreport : rooted.fab.report = { s.fab.report with coord := some m.coord, office := m.coord == s.ownAddress } :=
    hrooted.report.trans (s.follow_report m.coord)
  refine ⟨?report, ?answer, ?mem⟩
  case report =>
    have hprevious : rooted.fab.present = s.fab.present := congrArg DomainReport.present hreport
    have hcoord : rooted.fab.coord = some m.coord := congrArg DomainReport.coord hreport
    have hoffice : rooted.fab.office = (m.coord == s.ownAddress) := congrArg DomainReport.office hreport
    show Fab.report { warned.fab with sumSeen := true } = _
    rw [hfab]
    show DomainReport.mk m.frame true m.present rooted.fab.present rooted.fab.coord rooted.fab.office = _
    rw [hprevious, hcoord, hoffice]
  case answer =>
    show warned.fab.answer = _
    rw [hfab]
    exact hrooted.answer.trans (s.follow_answer m.coord)
  case mem =>
    have h0 : followed.mem = s.mem := (State.follow_kept (.refl s)).mem_eq
    have h1 : rooted.mem = followed.mem :=
      (Kept.ite (.refl followed) (State.setGenerations_kept (State.setTimeRoot_kept (.refl followed)))).mem_eq
    have h2 : told.mem = noted.mem := (Kept.ite (.refl noted) (State.raise_kept (.refl noted))).mem_eq
    have h3 : diverged.mem = told.mem := (Kept.ite (State.raise_kept (.refl told)) (.refl told)).mem_eq
    have h4 : returned.mem = diverged.mem := by
      dsimp only [returned]; split
      · exact (State.noteConditions_kept (.refl _)).mem_eq
      · rfl
    have h5 : warned.mem = returned.mem := (Kept.ite (State.raise_kept (.refl returned)) (.refl returned)).mem_eq
    exact h5.trans (h4.trans (h3.trans (h2.trans (h1.trans h0))))

theorem State.takeSummary_report (s : State) (m : SummaryMsg) : (s.takeSummary m).fab.report =
    { frame := m.frame, seen := true, present := m.present, previous := s.fab.present, coord := some m.coord, office := m.coord == s.ownAddress } := by
  obtain ⟨t, e, hreport, -, -⟩ := s.takeSummary_eq m
  rw [e]
  exact (State.noteDomainState_fab _).report.trans ((t.judgeSplit_report _ _).trans hreport)

theorem State.takeSummary_fields (s : State) (m : SummaryMsg) : (s.takeSummary m).fab.sumSeen = true
    ∧ (s.takeSummary m).fab.lastSummary = m.frame ∧ (s.takeSummary m).fab.coord = some m.coord ∧ (s.takeSummary m).fab.present = m.present
    ∧ (s.takeSummary m).fab.prevPresent = s.fab.present := by
  have h := s.takeSummary_report m
  exact ⟨congrArg DomainReport.seen h, congrArg DomainReport.frame h, congrArg DomainReport.coord h, congrArg DomainReport.present h,
    congrArg DomainReport.previous h⟩

/-- Without an answered epoch a summary leaves memory. -/
theorem State.takeSummary_mem {s : State} (h : s.fab.answer = none) (m : SummaryMsg) : (s.takeSummary m).mem = s.mem := by
  obtain ⟨t, e, -, hanswer, hmem⟩ := s.takeSummary_eq m
  rw [e]
  refine Eq.trans ?_ hmem
  unfold State.judgeSplit
  rw [hanswer, h]
  rfl

/-- With a quorum of heartbeats the coordinator takes its own summary in. -/
theorem State.summarise_report {s : State} {n : Nat} (h : s.quorum ((s.beatsOf n).map (fun b => b.1)) = true) :
    (s.summarise n).fab.lastSummary = n % 2 ^ 48 ∧ (s.summarise n).fab.sumSeen = true
      ∧ (s.summarise n).fab.present = (s.beatsOf n).map (fun b => b.1) ∧ (s.summarise n).fab.coord = some s.ownAddress
      ∧ (s.summarise n).fab.office = true := by
  unfold State.summarise
  extract_lets beats present gens
  rw [if_neg (by simp [present, beats, h])]
  rcases hroot : gens.chooseRoot with ⟨root, drawn⟩
  dsimp only
  have hgens : gens.dict = s.dict := (State.setGenerations_kept (.refl s)).dict_eq
  have hdrawn : drawn.dict = gens.dict := by
    have := (State.chooseRoot_kept (.refl gens)).dict_eq
    rwa [hroot] at this
  have hrooted : (drawn.setTimeRoot root).dict = s.dict :=
    (State.setTimeRoot_kept (.refl drawn)).dict_eq.trans (hdrawn.trans hgens)
  have hown : ∀ t : State, t.dict = s.dict → t.ownAddress = s.ownAddress := fun t ht => by
    unfold State.ownAddress
    rw [State.cfg_of_dict ht, State.cfg_of_dict ht]
  generalize hsum : SummaryMsg.mk _ _ _ _ _ _ = msg
  set told := (drawn.setTimeRoot root).sendSummaryMsg msg with htold
  have hreport := told.takeSummary_report msg
  have hoffice : (told.takeSummary msg).fab.office = (msg.coord == told.ownAddress) := congrArg DomainReport.office hreport
  have hcoord : (told.takeSummary msg).fab.coord = some msg.coord := congrArg DomainReport.coord hreport
  have hmsg : msg.coord = s.ownAddress := by rw [← hsum]; exact hown _ hrooted
  rw [hoffice, hcoord, hmsg, hown told (((State.sendSummaryMsg_kept (.refl _)).dict_eq).trans hrooted), beq_self_eq_true]
  subst hsum
  exact ⟨congrArg DomainReport.frame hreport, congrArg DomainReport.seen hreport, congrArg DomainReport.present hreport, rfl, rfl⟩

/-! ## Heartbeats and summaries -/

theorem State.enabledHeads_of {s t : State} (hh : t.heads = s.heads) (hd : t.dict = s.dict) : t.enabledHeads = s.enabledHeads := by
  unfold State.enabledHeads
  refine List.filter_congr (fun h _ => ?_)
  rw [State.hcfgBool_of_dict hd, State.head_of_heads hh]

theorem State.memberEpoch_of {s t : State} (hh : t.heads = s.heads) (hd : t.dict = s.dict) : t.memberEpoch = s.memberEpoch := by
  unfold State.memberEpoch
  rw [State.enabledHeads_of hh hd]
  split
  · rw [State.head_of_heads hh]
  · rfl

theorem exec_wallFrameTick {s : State} (hf : s.fabricUp = true) :
    ∃ t, exec .wallFrameTick s = .next t ∧ t.fab.wallFrame = s.domainFrame
      ∧ ∃ b, Tbl.find? t.fab.beats s.ownAddress = some b ∧ b.frame = s.domainFrame % 2 ^ 48 ∧ b.epoch = s.memberEpoch
        ∧ b.mode = s.sys.mode.code := by
  refine ⟨_, rfl, ?_⟩
  rw [if_neg (by simp [hf])]
  extract_lets fab begun rooted
  have hrooted : rooted.heads = s.heads ∧ rooted.dict = s.dict ∧ rooted.sys.mode = s.sys.mode ∧ begun.fab.SameDomain rooted.fab := by
    dsimp only [rooted]
    split
    · exact ⟨(State.setTimeRoot_kept (.refl begun)).heads_eq, (State.setTimeRoot_kept (.refl begun)).dict_eq,
        (State.setTimeRoot_kept (.refl begun)).mode_eq, begun.setTimeRoot_fab _⟩
    · exact ⟨rfl, rfl, rfl, .refl _⟩
  obtain ⟨hheads, hdict, hmode, hfab⟩ := hrooted
  have hown : rooted.ownAddress = s.ownAddress := by
    unfold State.ownAddress
    rw [State.cfg_of_dict hdict, State.cfg_of_dict hdict]
  obtain ⟨_, hsent⟩ := rooted.sendBeat_fab (rooted.ownBeat s.domainFrame)
  have hwall : rooted.fab.wallFrame = s.domainFrame := by
    obtain ⟨_, _, _, _, _, _, _, _, _, e⟩ := hfab
    rw [e]
  refine ⟨?_, rooted.ownBeat s.domainFrame, ?_, rfl, State.memberEpoch_of hheads hdict, congrArg Mode.code hmode⟩
  · show (rooted.sendBeat _).fab.wallFrame = _
    rw [hsent]
    exact hwall
  · show Tbl.find? (rooted.sendBeat _).fab.beats _ = _
    rw [hsent, ← hown]
    exact Tbl.find?_set_self _ _ _

theorem exec_heartbeat {s : State} {m : Msg} (hf : s.fabricUp = true) (hanswer : s.fab.answer = none) :
    ∃ t, exec (.heartbeat m) s = .next t ∧ t.fab.beats = Tbl.set s.fab.beats m.sender (beatOf m.payload) ∧ t.mem = s.mem
      ∧ t.heads = s.heads := by
  refine ⟨_, rfl, ?_⟩
  rw [if_neg (by simp [hf])]
  extract_lets fab noted told
  have htold : noted.fab.SameDomain told.fab ∧ told.mem = s.mem ∧ told.heads = s.heads := by
    dsimp only [told]
    split
    · exact ⟨noted.setGenerations_fab _, (State.setGenerations_kept (.refl noted)).mem_eq, (State.setGenerations_kept (.refl noted)).heads_eq⟩
    · exact ⟨.refl _, rfl, rfl⟩
  obtain ⟨hfab, hmem, hheads⟩ := htold
  have hnone : told.fab.answer = none := hfab.answer.trans hanswer
  have hshows : ∀ n e, told.reportShows n e = told := fun n e => by
    unfold State.reportShows
    rw [hnone]
  rw [hshows]
  refine ⟨?_, hmem, hheads⟩
  obtain ⟨_, _, _, _, _, _, _, _, _, e⟩ := hfab
  rw [e]

theorem State.summaryPart_first {s : State} {p : Nat} {l : List Byte} (h : l.length = 53) :
    s.summaryPart p l = ({ s with fab := { s.fab with
      sumParts := Tbl.set (s.fab.sumParts.filter (fun e => e.1 / 4 != p)) (p * 4) l } }, none) := by
  unfold State.summaryPart
  rw [if_pos h]
  rfl

/-- The fourth part completes a summary. -/
theorem State.summaryPart_fourth {s : State} {p : Nat} {l one two three : List Byte} (h : l.length ≠ 53)
    (h0 : Tbl.find? s.fab.sumParts (p * 4) = some one) (h1 : Tbl.find? s.fab.sumParts (p * 4 + 1) = some two)
    (h2 : Tbl.find? s.fab.sumParts (p * 4 + 2) = some three) :
    s.summaryPart p l = ({ s with fab := { s.fab with sumParts := s.fab.sumParts.filter (fun e => e.1 / 4 != p) } },
      some (one, two ++ three ++ l)) := by
  have hget : ∀ k x, Tbl.find? s.fab.sumParts k = some x → Tbl.get [] s.fab.sumParts k = x := fun k x e => by
    unfold Tbl.get; rw [e]; rfl
  unfold State.summaryPart
  dsimp only
  rw [if_neg h, if_neg (by simp [h0]), if_neg (by simp [h1]), if_neg (by simp [h2]), Nat.add_zero, hget _ _ h0, hget _ _ h1, hget _ _ h2]

theorem exec_summary_first {s : State} {m : Msg} (hf : s.fabricUp = true) (h : m.payload.length = 53) :
    exec (.summary m) s = .next { s with fab := { s.fab with
      sumParts := Tbl.set (s.fab.sumParts.filter (fun e => e.1 / 4 != m.port.val)) (m.port.val * 4) m.payload } } := by
  show execSummary m s = _
  unfold execSummary
  rw [if_neg (by simp [hf]), State.summaryPart_first h]

/-- The summary whose first flit is `one` and whose other three carry `map`. -/
def summaryOf (one map : List Byte) : SummaryMsg where
  frame := getLE one 0 8 % 2 ^ 48
  coord := getLE one 8 2 % 4096
  root := getLE one 10 2 % 4096
  gen := Nat.max 1 (Nat.min 2 (getLE one 12 1))
  epochs := (List.range (Nat.min 4 (getLE one 13 1))).map (fun k => (getLE one (16 + 8 * k) 4, getLE one (20 + 8 * k) 2))
  present := bitsOf 4096 (leNat map)

theorem summaryOf_frame (one map : List Byte) : (summaryOf one map).frame = getLE one 0 8 % 2 ^ 48 := rfl
theorem summaryOf_coord (one map : List Byte) : (summaryOf one map).coord = getLE one 8 2 % 4096 := rfl
theorem summaryOf_present (one map : List Byte) : (summaryOf one map).present = bitsOf 4096 (leNat map) := by rw [summaryOf]

theorem exec_summary_fourth {s : State} {m : Msg} {one two three : List Byte} (hf : s.fabricUp = true) (h : m.payload.length ≠ 53)
    (h0 : Tbl.find? s.fab.sumParts (m.port.val * 4) = some one) (h1 : Tbl.find? s.fab.sumParts (m.port.val * 4 + 1) = some two)
    (h2 : Tbl.find? s.fab.sumParts (m.port.val * 4 + 2) = some three)
    (hnew : s.fab.sumSeen = false ∨ s.fab.lastSummary ≠ getLE one 0 8 % 2 ^ 48) :
    exec (.summary m) s = .next
      (State.takeSummary { s with fab := { s.fab with sumParts := s.fab.sumParts.filter (fun e => e.1 / 4 != m.port.val) } }
        (summaryOf one (two ++ three ++ m.payload))) := by
  show execSummary m s = _
  unfold execSummary
  rw [if_neg (by simp [hf]), State.summaryPart_fourth h h0 h1 h2]
  dsimp only
  have hfresh : (s.fab.sumSeen && getLE one 0 8 % 2 ^ 48 == s.fab.lastSummary) = false := by
    obtain h | h := hnew
    · rw [h, Bool.false_and]
    · rw [beq_false_of_ne h.symm, Bool.and_false]
  rw [if_neg (by rw [hfresh]; exact Bool.false_ne_true)]
  rfl

theorem exec_summarySend {s : State} (hf : s.fabricUp = true) (ho : s.fab.office = true)
    (hnew : s.fab.sumSeen = false ∨ s.fab.lastSummary ≠ s.fab.wallFrame % 2 ^ 48) :
    exec .summarySend s = .next (s.summarise s.fab.wallFrame) := by
  have hfresh : (s.fab.sumSeen && s.fab.lastSummary == s.fab.wallFrame % 2 ^ 48) = false := by
    obtain h | h := hnew
    · rw [h, Bool.false_and]
    · rw [beq_false_of_ne h, Bool.and_false]
  exact congrArg Host.Outcome.next (if_pos (by rw [ho, hf, hfresh]; rfl))

theorem State.summarise_no_quorum {s : State} {n : Nat} (h : s.quorum ((s.beatsOf n).map (fun b => b.1)) = false) :
    s.summarise n = s.loseQuorum := by
  unfold State.summarise
  exact if_pos (by simp [h])

/-- A part without a quorum has no coordinator, and this member no office. -/
theorem State.loseQuorum_coord (s : State) : s.loseQuorum.fab.coord = none ∧ s.loseQuorum.fab.office = false
    ∧ s.loseQuorum.fab.failedCoords = s.fab.failedCoords := by
  unfold State.loseQuorum
  dsimp only [State.noteDomainState]
  rw [State.level_fab]
  exact ⟨rfl, rfl, rfl⟩

/-- Settles O31, message by message. -/
theorem domainIsReported : Obligations.DomainIsReported := by
  intro s m hf
  refine ⟨?tick, ?heartbeat, ?first, ?fourth, ?send⟩
  case tick =>
    obtain ⟨t, e, hwall, hbeat⟩ := exec_wallFrameTick hf
    exact ⟨t, e, hwall, Kept.mem_eq ((execWallFrameTick_kept (.refl s)).out _ e),
      Kept.heads_eq ((execWallFrameTick_kept (.refl s)).out _ e), hbeat⟩
  case heartbeat =>
    intro hanswer
    obtain ⟨t, e, hbeats, hmem, hheads⟩ := exec_heartbeat (m := m) hf hanswer
    refine ⟨t, e, ?_, fun a ha => ?_, hmem, hheads⟩
    · rw [hbeats]; exact Tbl.find?_set_self _ _ _
    · rw [hbeats]; exact Tbl.find?_set_ne _ _ ha
  case first =>
    intro h
    exact ⟨_, exec_summary_first hf h, Tbl.find?_set_self _ _ _, rfl, rfl, rfl, rfl⟩
  case fourth =>
    intro one two three h h0 h1 h2 hnew hanswer
    refine ⟨_, exec_summary_fourth hf h h0 h1 h2 hnew, ?_⟩
    set kept : State := { s with fab := { s.fab with sumParts := s.fab.sumParts.filter (fun e => e.1 / 4 != m.port.val) } } with hkept
    obtain ⟨hseen, hframe, hcoord, hpresent, hprevious⟩ := kept.takeSummary_fields (summaryOf one (two ++ three ++ m.payload))
    rw [summaryOf_frame] at hframe
    rw [summaryOf_coord] at hcoord
    rw [summaryOf_present] at hpresent
    exact ⟨hseen, hframe, hcoord, hpresent, hprevious, State.takeSummary_mem (s := kept) hanswer _⟩
  case send =>
    intro ho hnew
    refine ⟨fun hq => ?_, fun hq => ?_⟩
    · obtain ⟨hframe, hseen, hpresent, hcoord, -⟩ := State.summarise_report hq
      exact ⟨_, exec_summarySend hf ho hnew, hframe, hseen, hpresent, hcoord⟩
    · rw [exec_summarySend hf ho hnew, State.summarise_no_quorum hq]
      obtain ⟨hcoord, hoffice, -⟩ := s.loseQuorum_coord
      exact ⟨_, rfl, hoffice, hcoord, (State.loseQuorum_kept (.refl s)).mem_eq, (State.loseQuorum_kept (.refl s)).heads_eq⟩

end Sys2Proof.Machine
end

section
/-!
PROOFS. Office, isolation and domain entries (12_ilelle_fabric.md, R319, R331, R332, R334; 13_modes_and_overlays.md, R343).
-/

namespace Sys2Proof.Machine

/-! ## A coordinator that is silent (R331) -/

theorem contains_insertSorted (c : Nat) (l : List Nat) : (insertSorted c l).contains c = true :=
  List.contains_iff_mem.2 (mem_insertSorted.2 (.inl rfl))

/-- The coordinators passed over when one sends no summary in time. -/
def State.passedOver (s : State) : List Nat :=
  match s.fab.coord.orElse (fun _ => s.fab.candidate) with
  | some c => if c = s.ownAddress then s.fab.failedCoords else insertSorted c s.fab.failedCoords
  | none => s.fab.failedCoords

theorem State.passedOver_contains {s : State} {c : Nat} (h : s.fab.coord = some c) (hc : c ≠ s.ownAddress) :
    s.passedOver.contains c = true := by
  unfold State.passedOver
  rw [h]
  exact (congrArg (fun l : List Nat => l.contains c) (if_neg hc)).trans (contains_insertSorted c _)

theorem exec_coordinatorTimeout {s : State} (hf : s.fabricUp = true) (ho : s.fab.office = false)
    (hlate : s.domainTime s.fab.wallFrame + 200000 ≤ s.now)
    (hnone : s.fab.sumSeen = false ∨ s.fab.lastSummary ≠ s.fab.wallFrame % 2 ^ 48) :
    ∃ t, exec .coordinatorTimeout s = .next t ∧ t.fab.coord = none ∧ t.fab.office = false ∧ t.fab.failedCoords = s.passedOver := by
  have hunseen : (s.fab.sumSeen && s.fab.lastSummary == s.fab.wallFrame % 2 ^ 48) = false := by
    obtain h | h := hnone
    · rw [h, Bool.false_and]
    · rw [beq_false_of_ne h, Bool.and_false]
  have hin : decide (s.now < s.domainTime s.fab.wallFrame + 200000) = false := decide_eq_false (by omega)
  refine ⟨_, rfl, ?_⟩
  rw [if_neg (by rw [hf, ho, hunseen, hin]; decide)]
  extract_lets failed fab passed part
  split
  · exact passed.loseQuorum_coord
  · exact ⟨rfl, ho, rfl⟩

/-! ## Taking office (R331, R332) -/

theorem State.settlePending_report (s : State) (l : List (Nat × Beat)) (e : Nat) : (s.settlePending l e).fab.report = s.fab.report :=
  s.decideFlight_report _ _

theorem State.follow_quorum (s : State) (c : Nat) (l : List Nat) : (s.follow c).quorum l = s.quorum l := by
  have hdict : (s.follow c).dict = s.dict := (State.follow_kept (.refl s)).dict_eq
  have hpresent : (s.follow c).fab.present = s.fab.present := congrArg DomainReport.present (s.follow_report c)
  unfold State.quorum State.domainMembers State.ownAddress
  rw [hpresent, State.cfg_of_dict hdict, State.cfg_of_dict hdict, State.cfg_of_dict hdict]

theorem State.follow_beats (s : State) (c : Nat) : (s.follow c).fab.beats = s.fab.beats := by
  unfold State.follow
  extract_lets changed fab followed noted
  have hnoted : noted.fab.beats = s.fab.beats := by
    show (followed.level .domainNoQuorum false).fab.beats = _
    rw [State.level_fab]
  split
  · rw [State.raise_fab]; exact hnoted
  · exact hnoted

theorem exec_takeOffice {s : State} (hf : s.fabricUp = true) (ho : s.fab.office = false) (he : s.eligible = true)
    (hlower : s.fab.coord = none ∧ s.fab.candidate = some s.ownAddress ∨ ∃ c, s.fab.coord = some c ∧ s.ownAddress < c)
    (hq : s.quorum ((s.beatsOf s.fab.wallFrame).map (fun b => b.1)) = true) (hdue : s.domainTime s.fab.wallFrame + 150000 ≤ s.now) :
    ∃ t, exec .takeOffice s = .next t ∧ t.fab.office = true ∧ t.fab.coord = some s.ownAddress
      ∧ t.fab.lastSummary = s.fab.wallFrame % 2 ^ 48 := by
  have hin : decide (s.now < s.domainTime s.fab.wallFrame + 150000) = false := decide_eq_false (by omega)
  refine ⟨_, rfl, ?_⟩
  dsimp only
  rw [if_neg (by
    rw [hf, ho, he, hq, hin]
    obtain ⟨hcoord, hcand⟩ | ⟨c, hcoord, hc⟩ := hlower
    · rw [hcoord, hcand]; simp
    · rw [hcoord]; simp [hc])]
  set followed := s.follow s.ownAddress with hfollowed
  have hbeats : ∀ n, followed.beatsOf n = s.beatsOf n := fun n => by
    unfold State.beatsOf
    rw [s.follow_beats]
  have hown : followed.ownAddress = s.ownAddress := by
    unfold State.ownAddress
    have hdict : followed.dict = s.dict := (State.follow_kept (.refl s)).dict_eq
    rw [State.cfg_of_dict hdict, State.cfg_of_dict hdict]
  obtain ⟨hframe, -, -, hcoord, hoffice⟩ := State.summarise_report (s := followed) (n := s.fab.wallFrame)
    (by rw [hbeats, hfollowed, State.follow_quorum]; exact hq)
  have hreport := State.forEach_reading (·.fab.report) (fun t e => t.settlePending_report (s.beatsOf s.fab.wallFrame) e)
    (sortDedup (((s.beatsOf s.fab.wallFrame).filter (fun p => p.2.pending != 0)).map (fun p => p.2.pending)))
    (followed.summarise s.fab.wallFrame)
  exact ⟨(congrArg DomainReport.office hreport).trans hoffice,
    (congrArg DomainReport.coord hreport).trans (hcoord.trans (congrArg some hown)), (congrArg DomainReport.frame hreport).trans hframe⟩

/-! ## Isolation (R334, R343) -/

theorem foldl_max_le {f : Nat → Nat} {b : Nat} {l : List Nat} (h : ∀ p ∈ l, f p ≤ b) {a : Nat} (ha : a ≤ b) :
    l.foldl (fun m p => Nat.max m (f p)) a ≤ b := by
  induction l generalizing a with
  | nil => exact ha
  | cons p l ih => exact ih (fun q hq => h q (List.mem_cons_of_mem _ hq)) (Nat.max_le.2 ⟨ha, h p List.mem_cons_self⟩)

/-- Of the device's own state, bringing the conditions up to date moves the conditions alone. -/
theorem State.noteConditions_sys (s : State) : s.noteConditions.sys = { s.sys with conditions := s.deriveConditions } := by
  unfold State.noteConditions
  extract_lets c old sys noted told
  have hreplaced : ∀ t : State, t.noteReplacement.sys = t.sys := fun t => (State.noteReplacement_kept (.refl t)).sys_eq
  have htold : told.sys = noted.sys := by
    dsimp only [told]
    split
    · exact State.raise_sys _ _
    · rfl
  rw [hreplaced, htold]

theorem Fab.SameDomain.coord_office {f g : Fab} (h : f.SameDomain g) : g.coord = f.coord ∧ g.office = f.office := by
  obtain ⟨_, _, _, _, _, _, _, _, _, rfl⟩ := h
  exact ⟨rfl, rfl⟩

theorem State.noteDomainState_sys (s : State) : s.noteDomainState.sys = s.sys := rfl

/-- A member on its own: it follows no coordinator and holds no office. -/
def State.alone (s : State) : State :=
  { s with sys := { s.sys with isolated := true },
           fab := { s.fab with sumSeen := false, coord := none, office := false, candidate := none, flight := none } }

theorem exec_isolation {s : State} (hmembers : 1 < s.domainMembers) (hi : s.sys.isolated = false) (hreset : s.sys.mode ≠ .reset)
    (hboot : s.sys.mode ≠ .boot) (hports : ∀ p : Fin 4, (s.port p).state ≠ .up ∧ (s.port p).downAt + 100000000 ≤ s.now) :
    ∃ t, exec .isolation s = .next t ∧ t.sys.isolated = true ∧ t.fab.coord = none ∧ t.fab.office = false := by
  have hport : ∀ p ∈ List.range 4, (s.port p).state ≠ .up ∧ (s.port p).downAt + 100000000 ≤ s.now :=
    fun p hp => hports ⟨p, List.mem_range.1 hp⟩
  have hdown : s.upPorts = [] := List.filter_eq_nil_iff.2 (fun p hp => by simp [(hport p hp).1])
  have hsince : (List.range 4).foldl (fun m p => Nat.max m (s.port p).downAt) 0 ≤ s.now - 100000000 :=
    foldl_max_le (fun p hp => Nat.le_sub_of_add_le (hport p hp).2) (Nat.zero_le _)
  have hold : 100000000 ≤ s.now := le_trans (Nat.le_add_left _ _) (hport 0 (by decide)).2
  have hwait : decide (s.now < (List.range 4).foldl (fun m p => Nat.max m (s.port p).downAt) 0 + 100000000) = false :=
    decide_eq_false (by omega)
  refine ⟨State.noteDomainState (State.noteConditions s.alone), congrArg Host.Outcome.next (if_neg ?_), ?_, ?_⟩
  · rw [hwait]; simp [hi, hreset, hboot, hdown, hmembers]
  · rw [State.noteDomainState_sys, State.noteConditions_sys]; rfl
  · have hfab : (State.noteConditions s.alone).fab = s.alone.fab := Kept.fab_eq (State.noteConditions_kept (.refl _))
    obtain ⟨hcoord, hoffice⟩ := (State.noteDomainState_fab (State.noteConditions s.alone)).coord_office
    rw [hcoord, hoffice, hfab]
    exact ⟨rfl, rfl⟩

/-! ## Domain entries (R319) -/

theorem exec_domainEntryApply {s : State} (hf : s.fabricUp = true) :
    exec .domainEntryApply s = .next (State.forEach
      { s with fab := { s.fab with domWrites := s.fab.domWrites.filter (fun w => decide (s.domainFrame < w.frame)) } }
      (s.fab.domWrites.filter (fun w => decide (w.frame ≤ s.domainFrame))) (fun s w => s.writeEntry w.key w.value)) := by
  refine congrArg Host.Outcome.next (if_neg ?_)
  simp [hf]

/-- Settles O32, command by command. -/
theorem officeAndIsolation : Obligations.OfficeAndIsolation := by
  intro s n
  refine ⟨?timeout, ?office, ?isolation, ?early, ?due⟩
  case timeout =>
    intro hf ho hlate hnone
    obtain ⟨t, e, hcoord, hoffice, hfailed⟩ := exec_coordinatorTimeout hf ho hlate hnone
    refine ⟨t, e, hcoord, hoffice, fun c hc hne => ?_, Kept.mem_eq ((execCoordinatorTimeout_kept (.refl s)).out _ e),
      Kept.heads_eq ((execCoordinatorTimeout_kept (.refl s)).out _ e)⟩
    rw [hfailed]
    exact State.passedOver_contains hc hne
  case office => exact exec_takeOffice
  case isolation =>
    intro hmembers hi hreset hboot hports
    obtain ⟨t, e, hisolated, hcoord, hoffice⟩ := exec_isolation hmembers hi hreset hboot hports
    exact ⟨t, e, hisolated, hcoord, hoffice, Kept.mem_eq ((execIsolation_kept (.refl s)).out _ e),
      Kept.que_eq ((execIsolation_kept (.refl s)).out _ e), Kept.heads_eq ((execIsolation_kept (.refl s)).out _ e)⟩
  case early =>
    intro hf hlater
    refine ⟨_, exec_domainEntryApply hf, ?_⟩
    have hdue : s.fab.domWrites.filter (fun w => decide (w.frame ≤ s.domainFrame)) = [] :=
      List.filter_eq_nil_iff.2 (fun w hw => by simpa using hlater w hw)
    have hkept : s.fab.domWrites.filter (fun w => decide (s.domainFrame < w.frame)) = s.fab.domWrites :=
      List.filter_eq_self.2 (fun w hw => by simpa using hlater w hw)
    rw [hdue, hkept]
    rfl
  case due =>
    intro w hf hone hdue
    refine ⟨_, exec_domainEntryApply hf, ?_⟩
    have hnow : [w].filter (fun w => decide (w.frame ≤ s.domainFrame)) = [w] := List.filter_cons_of_pos (by simpa using hdue)
    have hleft : [w].filter (fun w => decide (s.domainFrame < w.frame)) = [] := List.filter_cons_of_neg (by simpa using hdue)
    rw [hone, hnow, hleft]
    rfl

end Sys2Proof.Machine
end

section
/-!
PROOFS. The coherent commit (12_ilelle_fabric.md, R322, R325 to R327).
-/

namespace Sys2Proof.Machine

/-! ## Offers (R322) -/

theorem exec_offer {s : State} {m : Msg} (hf : s.fabricUp = true) (ho : s.fab.office = true) (hc : s.coherent = true) :
    exec (.offer m) s = .next (s.noteOffer m.sender (getLE m.payload 0 4)) :=
  congrArg Host.Outcome.next (if_pos (by rw [ho, hf, hc]; rfl))

/-- The end of GatherTime as an offer leaves it. -/
def State.gatherEnd (s : State) : Option Nat :=
  match s.fab.gatherAt with | some t => some t | none => some (s.now + s.cfg 0x6001 4 * 1000)

theorem State.prepareIfAll_waiting {s : State} (h : ∃ b ∈ s.participants, s.fab.offers.any (fun o => o.1 == b) = false) :
    s.prepareIfAll = s := by
  obtain ⟨b, hb, hnone⟩ := h
  have hall : s.participants.all (fun a => s.fab.offers.any (fun o => o.1 == a)) = false :=
    List.all_eq_false.2 ⟨b, hb, by rw [hnone]; exact Bool.false_ne_true⟩
  exact if_neg (by rw [hall, Bool.and_false]; exact Bool.false_ne_true)

/-- An offer is kept while some participant has not offered. -/
theorem State.noteOffer_waiting {s : State} {a e : Nat}
    (h : ∃ b ∈ s.participants, (s.fab.offers.filter (fun o => o.1 != a) ++ [(a, e)]).any (fun o => o.1 == b) = false) :
    s.noteOffer a e = { s with fab := { s.fab with offers := s.fab.offers.filter (fun o => o.1 != a) ++ [(a, e)], gatherAt := s.gatherEnd } } :=
  State.prepareIfAll_waiting h

/-! ## PREPARE (R322, R325) -/

/-- The epoch `x` is in flight, and no offer waits. -/
def State.flying (s : State) (x : Nat) : State := { s with fab := { s.fab with
  flight := some { epoch := x, target := s.domainFrame + s.cfg 0x6001 3 + 1, named := s.participants, accepts := [] }
  offers := []
  gatherAt := none } }

/-- A coordinator that does not take part sends PREPARE and answers nothing. -/
theorem State.sendPrepare_single {s : State} {a x : Nat} (hoffers : s.fab.offers = [(a, x)]) (hp : s.isParticipant = false) :
    s.sendPrepare = (s.flying x).sendTreesAB msgPrepare (prepareBytes x (s.domainFrame + s.cfg 0x6001 3 + 1)) := by
  have hout : ∀ t : State, t.sys = s.sys → s.fab.timeState = t.fab.timeState → t.isParticipant = false := fun t hsys htime => by
    unfold State.isParticipant State.isSynced at hp ⊢
    rw [hsys, ← htime]
    exact hp
  unfold State.sendPrepare
  rw [hoffers]
  refine if_neg ?_
  obtain ⟨_, e⟩ := (s.flying x).sendTreesAB_fab msgPrepare (prepareBytes x (s.domainFrame + s.cfg 0x6001 3 + 1))
  have hsys : ((s.flying x).sendTreesAB msgPrepare (prepareBytes x (s.domainFrame + s.cfg 0x6001 3 + 1))).sys = s.sys :=
    (State.sendTreesAB_kept (.refl _)).sys_eq
  exact fun h => Bool.false_ne_true ((hout _ hsys (by rw [e]; rfl)).symm.trans h)

/-- At the end of GatherTime the epoch of a single offer is in flight. -/
theorem exec_gatherTimeout {s : State} {g a x : Nat} (hf : s.fabricUp = true) (ho : s.fab.office = true) (hg : s.fab.gatherAt = some g)
    (hdue : g ≤ s.now) (hflight : s.fab.flight = none) (hoffers : s.fab.offers = [(a, x)]) (hp : s.isParticipant = false) :
    exec .gatherTimeout s = .next ((s.flying x).sendTreesAB msgPrepare (prepareBytes x (s.domainFrame + s.cfg 0x6001 3 + 1))) := by
  show execGatherTimeout s = _
  unfold execGatherTimeout
  rw [hg]
  dsimp only
  rw [if_pos (by rw [ho, hf, hflight, decide_eq_true hdue]; rfl), State.sendPrepare_single hoffers hp]

/-- The answer of a participant that has made no offer. -/
def relabelAnswer (e n : Nat) : Offer := { scene := none, epoch := e, ring := none, go := false, target := n, checked := [] }

/-- The epoch `e` is answered for the wall frame `n`. -/
def State.answering (s : State) (e n : Nat) : State := { s with fab := { s.fab with answer := some (relabelAnswer e n) } }

theorem State.judgePrepare_no_offer {s : State} (h : s.fab.offer = none) (e n : Nat) :
    s.judgePrepare e n =
      if s.relabelOk e then (s.answering e n, 0, .ok) else (s, 1, .state) := by
  unfold State.judgePrepare
  rw [h]
  dsimp only
  split
  case h_1 a ha => rw [h] at ha; cases ha
  case h_2 => rfl

theorem exec_prepare {s : State} {m : Msg} (hf : s.fabricUp = true) (hp : s.isParticipant = true) (hc : s.coherent = true)
    (hcoord : s.fab.coord = some m.sender.val) (hanswer : s.fab.answer = none) (hoffer : s.fab.offer = none) :
    ∃ t, exec (.prepare m) s = .next t ∧ t.mem = s.mem ∧ t.que = s.que ∧ t.heads = s.heads
      ∧ t.fab.answer = if s.relabelOk (getLE m.payload 0 4) then some (relabelAnswer (getLE m.payload 0 4) (getLE m.payload 8 8 % 2 ^ 48))
          else none := by
  refine ⟨_, rfl, ?_⟩
  rw [if_neg (by simp [hf, hp, hc, hcoord]), if_neg (by simp [hanswer]), State.judgePrepare_no_offer hoffer]
  have hsent : ∀ (t : State) (a n : Nat) (l : List Byte), (t.sendTo a n l).fab.answer = t.fab.answer ∧ (t.sendTo a n l).mem = t.mem
      ∧ (t.sendTo a n l).que = t.que ∧ (t.sendTo a n l).heads = t.heads := fun t a n l => by
    obtain ⟨_, e⟩ := t.sendTo_fab a n l
    exact ⟨by rw [e], (State.sendTo_kept (.refl t)).mem_eq, (State.sendTo_kept (.refl t)).que_eq, (State.sendTo_kept (.refl t)).heads_eq⟩
  by_cases hr : s.relabelOk (getLE m.payload 0 4) = true
  · obtain ⟨h1, h2, h3, h4⟩ := hsent (s.answering (getLE m.payload 0 4) (getLE m.payload 8 8 % 2 ^ 48)) m.sender msgAnswer
      (answerBytes (getLE m.payload 0 4) 0 .ok)
    rw [if_pos hr, if_pos hr]
    exact ⟨h2.trans rfl, h3.trans rfl, h4.trans rfl, h1.trans rfl⟩
  · obtain ⟨h1, h2, h3, h4⟩ := hsent s m.sender msgAnswer (answerBytes (getLE m.payload 0 4) 1 .state)
    rw [if_neg hr, if_neg hr]
    exact ⟨h2, h3, h4, h1.trans hanswer⟩

/-! ## Answers and the deadline (R326) -/

/-- An ABORT is what this member decided last. -/
theorem State.takeDecision_abort (s : State) (e n : Nat) :
    (s.takeDecision e 2 n).fab.flight = s.fab.flight ∧ (s.takeDecision e 2 n).fab.lastDec = lastDecision e 2 := by
  unfold State.takeDecision
  split
  case isTrue h => exact ⟨rfl, h⟩
  extract_lets fab t
  split
  · exact ⟨rfl, rfl⟩
  split
  · exact ⟨rfl, rfl⟩
  rw [if_pos rfl, State.abortAnswer_fab]
  exact ⟨rfl, rfl⟩

theorem State.decideFlight_abort (s : State) (f : Flight) :
    (s.decideFlight f 2).fab.flight = none ∧ (s.decideFlight f 2).fab.lastDec = lastDecision f.epoch 2 := by
  unfold State.decideFlight
  exact State.takeDecision_abort _ _ _

theorem exec_answer {s : State} {m : Msg} (hf : s.fabricUp = true) (ho : s.fab.office = true) :
    exec (.answer m) s = .next (s.noteAnswer m.sender (getLE m.payload 0 4) (getLE m.payload 4 1)) :=
  congrArg Host.Outcome.next (if_pos (by rw [ho, hf]; rfl))

/-- An ACCEPT gathers while another is missing. -/
theorem State.noteAnswer_accept {s : State} {f : Flight} (hflight : s.fab.flight = some f) {a e : Nat} (he : f.epoch = e)
    (h : f.named.all (fun b => (insertSorted a f.accepts).contains b) = false) :
    s.noteAnswer a e 0 = { s with fab := { s.fab with flight := some { f with accepts := insertSorted a f.accepts } } } := by
  unfold State.noteAnswer
  rw [hflight]
  dsimp only
  rw [if_neg (not_not.2 he), if_neg (not_not.2 rfl), if_neg (by rw [h]; exact Bool.false_ne_true)]

theorem State.noteAnswer_reject {s : State} {f : Flight} (hflight : s.fab.flight = some f) {a e v : Nat} (he : f.epoch = e) (hv : v ≠ 0) :
    s.noteAnswer a e v = s.decideFlight f 2 := by
  unfold State.noteAnswer
  rw [hflight]
  dsimp only
  rw [if_neg (not_not.2 he), if_pos hv]

theorem exec_decisionDeadline {s : State} {f : Flight} (hf : s.fabricUp = true) (ho : s.fab.office = true)
    (hflight : s.fab.flight = some f) (hdue : s.domainTime (f.target - 1) ≤ s.now) :
    exec .decisionDeadline s = .next (s.decideFlight f 2) := by
  show execDecisionDeadline s = _
  unfold execDecisionDeadline
  rw [hflight]
  dsimp only
  rw [if_pos (by rw [ho, hf, decide_eq_true hdue]; rfl)]

/-! ## A decision on the heads (R321, R327) -/

/-- The head `y` is the head `x` with the epoch `e` pending. -/
def Head.pends (x y : Head) (e : Nat) : Prop := y.pendEpoch = e ∧ y.pend.isSome = true ∧ y.cur = x.cur ∧ y.curEpoch = x.curEpoch

theorem State.supersede_head (s : State) (h j : Nat) : ((s.supersede h).head j).cur = (s.head j).cur
    ∧ ((s.supersede h).head j).curEpoch = (s.head j).curEpoch := by
  unfold State.supersede
  split
  · have hraised : ∀ t : State, (t.raiseHead h .commitSuperseded).head j = t.head j :=
      fun t => State.head_of_heads (State.raiseHead_kept (.refl t)).heads_eq j
    rw [hraised]
    by_cases e : j = h
    · subst e; rw [State.head_modHead_self]; exact ⟨rfl, rfl⟩
    · rw [State.head_modHead_ne _ _ e]; exact ⟨rfl, rfl⟩
  · exact ⟨rfl, rfl⟩

theorem State.scheduleHead_self (s : State) (a : Offer) (n h : Nat) : (s.head h).pends ((s.scheduleHead a n h).head h) a.epoch := by
  unfold State.scheduleHead
  extract_lets named x sc t
  have ht : (t.head h).cur = (s.head h).cur ∧ (t.head h).curEpoch = (s.head h).curEpoch := by
    dsimp only [t]
    split
    · exact s.supersede_head h h
    · exact ⟨rfl, rfl⟩
  rw [State.head_modHead_self]
  exact ⟨rfl, rfl, ht⟩

theorem State.scheduleHead_ne (s : State) (a : Offer) (n : Nat) {h j : Nat} (e : j ≠ h) :
    (s.scheduleHead a n h).head j = s.head j := by
  unfold State.scheduleHead
  extract_lets named x sc t
  rw [State.head_modHead_ne _ _ e]
  dsimp only [t]
  split
  · unfold State.supersede
    split
    · rw [State.head_of_heads (State.raiseHead_kept (.refl _)).heads_eq, State.head_modHead_ne _ _ e]
    · rfl
  · rfl

theorem State.scheduleHeads_head_of_not_mem (a : Offer) {l : List (Nat × Nat)} {h : Nat} (hh : h ∉ l.map (fun p => p.1)) (s : State) :
    (s.scheduleHeads a l).head h = s.head h := by
  unfold State.scheduleHeads State.forEach
  induction l generalizing s with
  | nil => rfl
  | cons p l ih =>
    rw [List.map_cons, List.mem_cons, not_or] at hh
    exact (ih hh.2 _).trans (s.scheduleHead_ne a p.2 hh.1)

/-- Each head of a list without repetition has the epoch pending after its turn. -/
theorem State.scheduleHeads_pends (a : Offer) {l : List (Nat × Nat)} (hl : (l.map (fun p => p.1)).Nodup) {h : Nat}
    (hh : h ∈ l.map (fun p => p.1)) (s : State) : (s.head h).pends ((s.scheduleHeads a l).head h) a.epoch := by
  unfold State.scheduleHeads State.forEach
  induction l generalizing s with
  | nil => cases hh
  | cons p l ih =>
    obtain ⟨hp, hl⟩ := List.nodup_cons.1 hl
    by_cases e : h = p.1
    · subst e
      have hrest : ((s.scheduleHead a p.2 p.1).forEach l (fun s p => s.scheduleHead a p.2 p.1)).head p.1
          = (s.scheduleHead a p.2 p.1).head p.1 := State.scheduleHeads_head_of_not_mem a hp _
      exact hrest.symm ▸ s.scheduleHead_self a p.2 p.1
    · have := ih hl ((List.mem_cons.1 hh).resolve_left e) (s.scheduleHead a p.2 p.1)
      rwa [s.scheduleHead_ne a p.2 e] at this

theorem State.enabledHeads_nodup (s : State) : s.enabledHeads.Nodup := List.nodup_range.filter _

/-- GO makes the epoch pending on every enabled head. -/
theorem State.takeEpoch_pends (s : State) (a : Offer) (late : Bool) {h : Nat} (hh : h ∈ s.enabledHeads) :
    (s.head h).pends ((s.takeEpoch a late).head h) a.epoch := by
  unfold State.takeEpoch
  extract_lets tF target result heads scheduled fab ended taken
  have hended : ended.head h = (s.scheduleHeads a (heads.map (fun h => (h, target h)))).head h := rfl
  have hnames : (heads.map (fun h => (h, target h))).map (fun p => p.1) = heads := by simp [Function.comp_def]
  have htaken : taken.heads = ended.heads := by
    dsimp only [taken]
    split
    · exact (State.maskForScenes_kept (State.subscribeScene_kept (State.countAccepted_kept (.refl ended)))).heads_eq
    · rfl
  rw [State.head_of_heads (State.offerDone_kept (.refl taken)).heads_eq, State.head_of_heads htaken, hended]
  refine State.scheduleHeads_pends a ?_ ?_ s
  · rw [hnames]; exact s.enabledHeads_nodup
  · rw [hnames]; exact hh

section
variable {s : State} {m : Msg} {a : Offer}

theorem exec_decision (hf : s.fabricUp = true) (hv : getLE m.payload 4 1 = 1 ∨ getLE m.payload 4 1 = 2) :
    exec (.decision m) s = .next (s.takeDecision (getLE m.payload 0 4) (getLE m.payload 4 1) (getLE m.payload 8 8 % 2 ^ 48)) := by
  refine congrArg Host.Outcome.next (if_pos ?_)
  obtain h | h := hv <;> simp [hf, h]

/-- The state in which a decision is noted. -/
def State.decided (s : State) (e v n : Nat) : State := { s with fab := { s.fab with lastDec := lastDecision e v, lastTarget := n } }

theorem State.takeDecision_eq {e v n : Nat} (hnew : s.fab.lastDec ≠ lastDecision e v) (ha : s.fab.answer = some a) (he : a.epoch = e) :
    s.takeDecision e v n =
      if v = 2 then (s.decided e v n).abortAnswer a
      else if s.enabledHeads.any (fun h => (s.head h).latchGone (s.domainTime a.target)) then
        { s.decided e v n with fab := { (s.decided e v n).fab with answer := some { a with go := true } } }
      else (s.decided e v n).takeEpoch a false := by
  unfold State.takeDecision
  rw [if_neg hnew]
  extract_lets fab t
  rw [show t.fab.answer = some a from ha]
  dsimp only
  rw [if_neg (not_not.2 he)]
  rfl

end

theorem Fab.SameDomain.lastDec {f g : Fab} (h : f.SameDomain g) : g.lastDec = f.lastDec := by
  obtain ⟨_, _, _, _, _, _, _, _, _, rfl⟩ := h
  rfl

/-- Settles O33, message by message. -/
theorem epochsAreDecided : Obligations.EpochsAreDecided := by
  intro s m hf e v offers
  refine ⟨?offer, ?gather, ?prepare, ?answer, ?deadline, ?decision⟩
  case offer =>
    intro ho hc hmissing
    refine ⟨_, exec_offer hf ho hc, ?_⟩
    rw [State.noteOffer_waiting hmissing]
    unfold State.gatherEnd
    exact ⟨rfl, fun h => by simp only [h], fun g h => by simp only [h]⟩
  case gather =>
    intro g a x ho hg hdue hflight hoffers hp
    refine ⟨_, exec_gatherTimeout hf ho hg hdue hflight hoffers hp, ?_⟩
    obtain ⟨_, hfab⟩ := (s.flying x).sendTreesAB_fab msgPrepare (prepareBytes x (s.domainFrame + s.cfg 0x6001 3 + 1))
    rw [hfab]
    exact ⟨rfl, rfl, (State.sendTreesAB_kept (.refl _)).mem_eq, (State.sendTreesAB_kept (.refl _)).heads_eq, rfl⟩
  case prepare =>
    intro hp hc hcoord hanswer hoffer
    obtain ⟨t, he, hmem, hque, hheads, hans⟩ := exec_prepare hf hp hc hcoord hanswer hoffer
    exact ⟨t, he, hmem, hque, hheads, fun h => hans.trans (if_neg (by rw [h]; exact Bool.false_ne_true)), fun h => hans.trans (if_pos h)⟩
  case answer =>
    intro f ho hflight hepoch
    refine ⟨fun hv hmissing => ?_, fun hv => ?_⟩
    · refine ⟨_, exec_answer hf ho, ?_⟩
      rw [show getLE m.payload 4 1 = 0 from hv]
      exact State.noteAnswer_accept hflight hepoch hmissing
    · refine ⟨_, exec_answer hf ho, ?_⟩
      rw [State.noteAnswer_reject hflight hepoch hv, ← hepoch]
      exact s.decideFlight_abort f
  case deadline =>
    intro f ho hflight hdue
    exact ⟨_, exec_decisionDeadline hf ho hflight hdue, s.decideFlight_abort f⟩
  case decision =>
    intro a ha hepoch hnew
    refine ⟨fun hv => ?_, fun hv hlatch => ?_⟩
    · refine ⟨_, exec_decision hf (.inr hv), ?_⟩
      rw [State.takeDecision_eq hnew ha hepoch, if_pos hv, State.abortAnswer_fab]
      refine ⟨rfl, rfl, congrArg (lastDecision e) hv, (State.abortAnswer_kept (.refl _)).heads_eq⟩
    · refine ⟨_, exec_decision hf (.inl hv), ?_⟩
      have hgo : ¬ getLE m.payload 4 1 = 2 := by omega
      rw [State.takeDecision_eq hnew ha hepoch, if_neg hgo, if_neg (by rw [hlatch]; exact Bool.false_ne_true)]
      have hfab := (s.decided (getLE m.payload 0 4) (getLE m.payload 4 1) (getLE m.payload 8 8 % 2 ^ 48)).takeEpoch_fab a false
      refine ⟨hfab.answer, hfab.lastDec.trans (congrArg (lastDecision e) hv), fun h hh => ?_⟩
      rw [← hepoch]
      exact State.takeEpoch_pends _ a false hh

end Sys2Proof.Machine
end

section
/-!
PROOFS. Mode boundaries and the self-test of a gallery (13_modes_and_overlays.md, R340, R342, R347, R349).
-/

namespace Sys2Proof.Machine

/-! ## A boundary is passed (R347) -/

theorem State.entriesFor_sys (s : State) (t : Mode) : (s.entriesFor t).sys = s.sys := (State.entriesFor_kept (.refl s)).sys_eq

/-- The device's own state after a boundary, but for the conditions. -/
def Sys.passed (x : Sys) (t : Mode) (cause : Nat) : Sys :=
  { x with mode := t, prevMode := x.mode, lastFrom := x.mode.code, lastTo := t.code, lastCause := cause, lastTime := x.wall,
           modeChanges := wrapInc 32 x.modeChanges, autoCause := none }

theorem State.passBoundary_sys (s : State) (t : Mode) (cause : Nat) :
    ∃ n, (s.passBoundary t cause).sys = { s.sys.passed t cause with conditions := n } := by
  unfold State.passBoundary
  extract_lets from_ entries retimed sys passed told excluded boot timed heads left
  have hentries : entries.sys = s.sys := s.entriesFor_sys t
  have hpassed : passed.sys = s.sys.passed t cause := by
    show Sys.mk .. = Sys.mk ..
    rw [show entries.now = s.now from congrArg Sys.wall hentries, hentries, show sys = s.sys from hentries]
    rfl
  have htold : told.sys = passed.sys := State.raise_sys _ _
  have hexcluded : excluded.sys = told.sys := (Kept.ite (.refl told) (State.applyExclude_kept (.refl told))).sys_eq
  have htimed : timed.sys = excluded.sys := by
    dsimp only [timed]
    split <;> rfl
  have hheads : heads.sys = timed.sys := State.forEach_reading (·.sys) (fun n _ => (State.enterMode_kept (.refl n)).sys_eq) _ timed
  have hleft : left.sys = heads.sys := (Kept.ite (State.leaveDomain_kept (.refl heads)) (.refl heads)).sys_eq
  refine ⟨left.deriveConditions, ?_⟩
  rw [State.noteConditions_sys, hleft, hheads, htimed, hexcluded, htold, hpassed]

theorem exec_modeBoundary_forced {s : State} (h : s.deriveMode ≠ s.sys.mode) (hcore : s.coreUp 1 = true) (hqueue : s.sys.modeQueue = []) :
    exec .modeBoundary s = .next (s.passBoundary s.deriveMode s.forcedCause) := by
  show execModeBoundary s = _
  unfold execModeBoundary
  rw [if_pos h, if_pos (by rw [hcore]; rfl), hqueue]
  rfl

/-- No cause of an automatic transition waits. -/
def State.settled (s : State) : State := { s with sys := { s.sys with autoCause := none } }

/-- Without a forced transition the scheduled request is served, and then those that wait. -/
theorem execModeBoundary_eq {s : State} (h : s.deriveMode = s.sys.mode) (hcore : s.coreUp 1 = true) :
    execModeBoundary s = .next (State.serveModes (s.settled.sys.scheduled.elim s.settled s.settled.requestBoundary)
      s.settled.sys.modeQueue.length) := by
  unfold execModeBoundary
  rw [if_neg (not_not.2 h), if_neg (by rw [hcore]; decide)]
  cases hr : s.sys.scheduled <;> simp only [State.settled, hr, Option.elim]

section
variable {s : State} (h : s.deriveMode = s.sys.mode) (hcore : s.coreUp 1 = true) (hqueue : s.sys.modeQueue = [])
include h hcore hqueue

theorem exec_modeBoundary_request {r : ModeReq} (hr : s.sys.scheduled = some r) :
    exec .modeBoundary s = .next (s.settled.requestBoundary r) := by
  refine (execModeBoundary_eq h hcore).trans ?_
  rw [show s.settled.sys.scheduled = _ from hr, show s.settled.sys.modeQueue = [] from hqueue]
  rfl

theorem exec_modeBoundary_none (hr : s.sys.scheduled = none) : exec .modeBoundary s = .next s.settled := by
  refine (execModeBoundary_eq h hcore).trans ?_
  rw [show s.settled.sys.scheduled = _ from hr, show s.settled.sys.modeQueue = [] from hqueue]
  rfl

end

theorem State.complete_sys (s : State) (r : Reply) (a : Nat) : (s.complete r a).sys = s.sys := (State.complete_kept (.refl s)).sys_eq

/-- The scheduled request passes when its checks succeed. -/
theorem State.requestBoundary_passes {s : State} {r : ModeReq} {m : Mode} (hm : Mode.ofCode r.target = some m)
    (hask : s.askMode s.sys.working m = .yes)
    (hnew : State.deriveMode { s with sys := { s.sys with working := m, scheduled := none } } ≠ s.sys.mode)
    (hcheck : State.boundaryCheck { s with sys := { s.sys with scheduled := none } }
      (State.deriveMode { s with sys := { s.sys with working := m, scheduled := none } }) = none) :
    s.requestBoundary r = (State.passBoundary { s with sys := { s.sys with working := m, scheduled := none } }
      (State.deriveMode { s with sys := { s.sys with working := m, scheduled := none } }) 0).complete r.reply abOk := by
  unfold State.requestBoundary
  rw [hm]
  have hask' : State.askMode { s with sys := { s.sys with scheduled := none } } s.sys.working m = .yes := hask
  dsimp only
  rw [hask']
  dsimp only
  rw [if_neg hnew, hcheck]

/-! ## The self-test (R349) -/

theorem exec_gallerySelfTest_pass {s : State} {g : Nat} (hmay : s.mayTest g = true) (hcore : s.coreUp 1 = true) :
    exec (.gallerySelfTest g []) s = .next { s with sys := { s.sys with selfGallery := g + 48 } } :=
  congrArg Host.Outcome.next (if_neg (by rw [hmay, hcore]; decide))

theorem exec_gallerySelfTest_refused {s : State} {g : Nat} (hmay : s.mayTest g = false) (l : List (Fin 17)) :
    exec (.gallerySelfTest g l) s = .next s :=
  congrArg Host.Outcome.next (if_pos (by rw [hmay]; rfl))

/-- Settles O43, by what a boundary does to the device's own state. -/
theorem boundariesPass : Obligations.BoundariesPass := by
  intro s
  refine ⟨?forced, ?request, ?nothing, ?pass, ?refused⟩
  case forced =>
    intro h hcore hqueue
    obtain ⟨n, hsys⟩ := s.passBoundary_sys s.deriveMode s.forcedCause
    refine ⟨_, exec_modeBoundary_forced h hcore hqueue, ?_⟩
    rw [hsys]
    exact ⟨rfl, rfl, rfl, rfl, rfl, rfl⟩
  case request =>
    intro r m h hcore hr hqueue hm hask n hnew hcheck
    refine ⟨_, exec_modeBoundary_request h hcore hqueue hr, ?_⟩
    rw [State.requestBoundary_passes (s := s.settled) hm hask hnew hcheck]
    obtain ⟨k, hsys⟩ := n.passBoundary_sys n.deriveMode 0
    have hdone := (State.complete_sys (n.passBoundary n.deriveMode 0) r.reply abOk).trans hsys
    refine ⟨congrArg Sys.mode hdone, congrArg Sys.working hdone, congrArg Sys.scheduled hdone, congrArg Sys.lastCause hdone, ?_⟩
    exact State.reply_answered _ _ _ _ _
  case nothing => exact fun h hcore hr hqueue => ⟨_, exec_modeBoundary_none h hcore hqueue hr, rfl⟩
  case pass => exact fun g hmay hcore => ⟨_, exec_gallerySelfTest_pass hmay hcore, rfl⟩
  case refused => exact fun g l hmay => ⟨_, exec_gallerySelfTest_refused hmay l, rfl⟩

end Sys2Proof.Machine
end

section
/-!
PROOFS. What the Limor Object Protocol's services share (14_object_dictionary.md, R362 to R377): a request that is served runs its
service, and what a response moves.
-/

namespace Sys2Proof.Machine

/-! ## Bytes of a request -/

theorem toNat_byte (n : Nat) : (byte n).toNat = n % 256 := BitVec.toNat_ofNat n 8

theorem leNat_leBytes (k n : Nat) : leNat (leBytes k n) = n % 256 ^ k := by
  induction k generalizing n with
  | zero => exact (Nat.mod_one n).symm
  | succ k ih =>
    unfold leBytes leNat
    rw [ih, toNat_byte, Nat.pow_succ', Nat.mod_mul]

theorem leNat_leBytes_of_lt {k n : Nat} (h : n < 256 ^ k) : leNat (leBytes k n) = n := by
  rw [leNat_leBytes, Nat.mod_eq_of_lt h]

theorem leNat_byte {n : Nat} (h : n < 256) : leNat [byte n] = n := leNat_leBytes_of_lt (k := 1) h

/-- The name of an entry in a request's payload. -/
theorem getLE_index {index : Nat} (h : index < 2 ^ 16) (l : List Byte) : getLE (leBytes 2 index ++ l) 0 2 = index :=
  leNat_leBytes_of_lt (k := 2) h

theorem getLE_sub {sub : Nat} (h : sub < 2 ^ 8) (index : Nat) (l : List Byte) : getLE (leBytes 2 index ++ byte sub :: l) 2 1 = sub :=
  leNat_byte h

theorem getLE_flags {flags : Nat} (h : flags < 256) (index sub : Nat) (l : List Byte) :
    getLE (leBytes 2 index ++ byte sub :: byte flags :: l) 3 1 = flags :=
  leNat_byte h

/-! ## A request that is served -/

theorem lopService_request {code : Nat} (h : code < 256) (c : LopCtx) (p : List Byte) : lopService (lopRequest c code p) = code :=
  leNat_byte h

theorem lopPayload_request (c : LopCtx) (code : Nat) (p : List Byte) : lopPayload (lopRequest c code p) = p := rfl

/-- The default session of the management Ethernet asks. -/
def ethernetAsks (c : LopCtx) : Bool := match c.via with | .ethernet _ _ _ => c.session == 0 | _ => false

/-- A message whose header and session are good, and that is no repeat, runs its service on this device. -/
theorem State.serveMessage_eq {s : State} {c : LopCtx} {code : Nat} {p : List Byte} (hcode : code < 256)
    (hgood : headerGood (lopRequest c code p) = true) (hctx : lopCtxOf c.via (lopRequest c code p) = c)
    (hgen : (c.generation == 1 || c.generation == 2) = true) (hlevel : (s.purge.lopLevel c).isSome = true)
    (hnew : ((s.purge.touchSession c).stored? c).isNone = true) (hask : (ethernetAsks c && !ethernetDefaultOk code (getLE p 0 2)) = false)
    (hhere : (s.purge.touchSession c).goesOn c = false) :
    s.serveMessage c.via (lopRequest c code p) = (s.purge.touchSession c).service c code p := by
  have hnone : (s.purge.touchSession c).stored? c = none := Option.isNone_iff_eq_none.1 hnew
  unfold State.serveMessage State.serveOwn
  dsimp only
  rw [hctx, lopService_request hcode, lopPayload_request, hgood, hgen, if_neg (by decide), if_neg (by decide),
    if_neg (by rw [Option.isNone_iff_eq_none]; exact Option.isSome_iff_ne_none.1 hlevel)]
  rw [hnone]
  dsimp only
  rw [if_neg (by show ¬(ethernetAsks c && !ethernetDefaultOk code (getLE p 0 2)) = true; rw [hask]; exact Bool.false_ne_true),
    if_neg (by rw [hhere]; exact Bool.false_ne_true)]

/-- Which ring is served has no part in the checks of an exchange. -/
theorem State.exchangeCheck_serving (s : State) (k q : Nat) (b : List Byte) :
    State.exchangeCheck { s with que := { s.que with servedM := k } } q b = s.exchangeCheck q b := by
  have hgranted : ∀ c wr a n, State.granted { s with que := { s.que with servedM := k } } c wr a n = s.granted c wr a n :=
    fun c wr a n =>
      State.granted_congr (s := s) (t := { s with que := { s.que with servedM := k } }) rfl rfl c wr a n
  unfold State.exchangeCheck
  dsimp only
  rw [hgranted, hgranted]
  rfl

/-- A message that has come by its way is served. -/
theorem State.arrive_eq {s v : State} {c : LopCtx} {code : Nat} {p : List Byte} (h : s.arrived? c (lopRequest c code p) = some v) :
    s.arrive c code p = v.serveMessage c.via (lopRequest c code p) := by
  unfold State.arrived? at h
  unfold State.arrive
  split at h
  case isTrue => cases h
  case isFalse hfree =>
    dsimp only
    rw [if_neg hfree]
    split at h
    case h_1 hvia =>
      rw [hvia]
      show (if s.lop.taken = lopRequest c code p then s.serveWindow else s) = _
      split at h
      case isFalse => cases h
      case isTrue hheld =>
        cases h
        rw [Bool.and_eq_true, Bool.and_eq_true, beq_iff_eq] at hheld
        obtain ⟨⟨hbusy, hsome⟩, htaken⟩ := hheld
        rw [if_pos htaken]
        unfold State.serveWindow
        rw [if_neg (by rw [hbusy, htaken, (Bool.not_eq_true' _).mp hsome]; decide)]
        dsimp only
        rw [htaken]
    case h_2 q hvia =>
      rw [hvia]
      show (if s.exchangeRequest q = lopRequest c code p then s.serveExchange q else s) = _
      split at h
      case h_1 => cases h
      case h_2 e he =>
        split at h
        case isFalse => cases h
        case isTrue hheld =>
          cases h
          simp only [Bool.and_eq_true, beq_iff_eq, Option.isNone_iff_eq_none] at hheld
          obtain ⟨⟨⟨⟨hphase, hturn⟩, hcheck⟩, hbad⟩, hread⟩ := hheld
          have hrequest : s.exchangeRequest q = lopRequest c code p := by
            unfold State.exchangeRequest
            rw [he]
            exact (if_pos hphase).trans hread
          rw [if_pos hrequest]
          unfold State.serveExchange
          rw [he]
          dsimp only
          rw [if_neg (by rw [hphase, hturn]; simp),
            (State.exchangeCheck_serving s q q e.body).trans hcheck]
          dsimp only
          unfold State.fetchObject
          rw [show State.busBad { s with que := { s.que with servedM := q } } (getLE e.body 16 8) (getLE e.body 8 4) = none from hbad]
          dsimp only
          rw [show State.busRead { s with que := { s.que with servedM := q } } (getLE e.body 16 8) (getLE e.body 8 4) = _ from hread]
    case h_3 ip port assoc hvia =>
      rw [hvia]
      dsimp only at h ⊢
      split at h
      case isTrue => cases h
      case isFalse hkept =>
        cases h
        rw [if_neg hkept]
    case h_4 origin level hvia =>
      rw [hvia]
      show (if s.fabricUp then s.serveMessage (.fabric origin level) (lopRequest c code p) else s) = _
      split at h
      case isFalse => cases h
      case isTrue hup =>
        cases h
        rw [if_pos hup]

/-- What a request that is served meets. -/
theorem State.serving_cases {s u : State} {c : LopCtx} {code : Nat} {p : List Byte} (h : s.serving? c code p = some u) :
    ∃ v, s.arrived? c (lopRequest c code p) = some v ∧ u = v.purge.touchSession c ∧ payloadOk c.generation code p = true
      ∧ (code < 256 → v.serveMessage c.via (lopRequest c code p) = u.service c code p) := by
  unfold State.serving? at h
  extract_lets m at h
  split at h
  case h_1 => cases h
  case h_2 v hv =>
    extract_lets w at h
    split at h
    case isFalse => cases h
    case isTrue hgood =>
      cases h
      simp only [Bool.and_eq_true, beq_iff_eq, Bool.not_eq_true'] at hgood
      obtain ⟨⟨⟨⟨⟨⟨⟨hheader, hctx⟩, hgen⟩, hlevel⟩, hnew⟩, hask⟩, hhere⟩, hpayload⟩ := hgood
      refine ⟨v, hv, rfl, hpayload, fun hcode => ?_⟩
      exact State.serveMessage_eq hcode hheader hctx (by simpa using hgen) hlevel hnew hask hhere

/-- A request that is served runs its service. -/
theorem State.arrive_served {s u : State} {c : LopCtx} {code : Nat} {p : List Byte} (h : s.serving? c code p = some u) (hcode : code < 256) :
    s.arrive c code p = u.service c code p := by
  obtain ⟨v, hv, -, -, hserve⟩ := State.serving_cases h
  rw [State.arrive_eq hv, hserve hcode]

/-! ## What serving has moved before the service runs -/

/-- `t` is `s` but for the rings, the slots of the images that a transfer stages, the fabric and the protocol's own state. -/
def State.SameButLop (s t : State) : Prop := ∃ q a b st f l,
  t = { s with que := q, boot := { s.boot with slotA := a, slotB := b, staging := st }, fab := f, lop := l }

theorem State.SameButLop.refl (s : State) : s.SameButLop s := ⟨_, _, _, _, _, _, rfl⟩

theorem State.SameButLop.trans {s t u : State} (h : s.SameButLop t) (k : t.SameButLop u) : s.SameButLop u := by
  obtain ⟨_, _, _, _, _, _, rfl⟩ := h
  obtain ⟨_, _, _, _, _, _, rfl⟩ := k
  exact ⟨_, _, _, _, _, _, rfl⟩

theorem State.SameButLop.forEach {α : Type} {f : State → α → State} (hf : ∀ (s : State) (a : α), s.SameButLop (f s a)) (l : List α) (s : State) :
    s.SameButLop (s.forEach l f) := by
  unfold State.forEach
  induction l generalizing s with
  | nil => exact .refl s
  | cons a l ih => exact (hf s a).trans (ih _)

theorem Boot.setSlot_eq (b : Boot) (n : Nat) (x : Slot) : ∃ y z, b.setSlot n x = { b with slotA := y, slotB := z } := by
  unfold Boot.setSlot
  split
  · exact ⟨_, _, rfl⟩
  · exact ⟨_, _, rfl⟩

theorem State.dropTransfer_same (s : State) (n : Nat) : s.SameButLop (s.dropTransfer n) := by
  unfold State.dropTransfer
  dsimp only
  split
  · obtain ⟨y, z, e⟩ := Boot.setSlot_eq s.boot (1 - s.boot.active) { s.boot.slot (1 - s.boot.active) with state := 2 }
    rw [e]
    exact ⟨_, _, _, _, _, _, rfl⟩
  · exact ⟨_, _, _, _, _, _, rfl⟩

theorem State.closeSession_same (s : State) (n : Nat) : s.SameButLop (s.closeSession n) := by
  unfold State.closeSession
  extract_lets mine dropped
  have hdropped : s.SameButLop dropped := State.SameButLop.forEach (fun t k => t.dropTransfer_same k) mine s
  refine hdropped.trans ?_
  exact ⟨_, _, _, _, _, _, rfl⟩

theorem State.purge_same (s : State) : s.SameButLop s.purge := by
  unfold State.purge
  exact (State.SameButLop.forEach (fun t k => t.dropTransfer_same k) _ s).trans (State.SameButLop.forEach (fun t k => t.closeSession_same k) _ _)

theorem State.touchSession_same (s : State) (c : LopCtx) : s.SameButLop (s.touchSession c) := by
  unfold State.touchSession
  split
  · exact ⟨_, _, _, _, _, _, rfl⟩
  · exact .refl s

theorem State.arrived_same {s v : State} {c : LopCtx} {m : List Byte} (h : s.arrived? c m = some v) : s.SameButLop v := by
  unfold State.arrived? at h
  split at h
  case isTrue => cases h
  case isFalse =>
    split at h
    case h_1 =>
      split at h
      · cases h; exact ⟨_, _, _, _, _, _, rfl⟩
      · cases h
    case h_2 =>
      split at h
      · cases h
      · split at h
        · cases h; exact ⟨_, _, _, _, _, _, rfl⟩
        · cases h
    case h_3 =>
      dsimp only at h
      split at h
      · cases h
      · cases h; exact ⟨_, _, _, _, _, _, rfl⟩
    case h_4 =>
      split at h
      · cases h; exact .refl s
      · cases h

theorem State.serving_same {s u : State} {c : LopCtx} {code : Nat} {p : List Byte} (h : s.serving? c code p = some u) : s.SameButLop u := by
  obtain ⟨v, hv, rfl, -, -⟩ := State.serving_cases h
  exact (State.arrived_same hv).trans ((v.purge_same).trans (State.touchSession_same _ c))

theorem State.SameButLop.dict {s t : State} (h : s.SameButLop t) : t.dict = s.dict := by
  obtain ⟨_, _, _, _, _, _, rfl⟩ := h; rfl

theorem State.SameButLop.sys {s t : State} (h : s.SameButLop t) : t.sys = s.sys := by
  obtain ⟨_, _, _, _, _, _, rfl⟩ := h; rfl

theorem State.SameButLop.heads {s t : State} (h : s.SameButLop t) : t.heads = s.heads := by
  obtain ⟨_, _, _, _, _, _, rfl⟩ := h; rfl

theorem State.SameButLop.deriveMode {s t : State} (h : s.SameButLop t) : t.deriveMode = s.deriveMode := by
  obtain ⟨_, _, _, _, _, _, rfl⟩ := h; rfl

theorem State.SameButLop.boot {s t : State} (h : s.SameButLop t) : t.boot.active = s.boot.active ∧ t.boot.running = s.boot.running := by
  obtain ⟨_, _, _, _, _, _, rfl⟩ := h; exact ⟨rfl, rfl⟩

/-! ## What a response moves -/

theorem State.reply_dict (s : State) (c : LopCtx) (code abort : Nat) (p : List Byte) : (s.reply c code abort p).dict = s.dict :=
  (State.reply_kept (.refl s)).dict_eq

theorem State.reply_heads (s : State) (c : LopCtx) (code abort : Nat) (p : List Byte) : (s.reply c code abort p).heads = s.heads :=
  (State.reply_kept (.refl s)).heads_eq

/-- An event moves of the boot's state the events that wait for FWREADY. -/
theorem State.raise_boot (s : State) (e : DevEvent) : ∃ l, (s.raise e).boot = { s.boot with pendingEvents := l } := by
  unfold State.raise State.raiseNum
  split
  · exact ⟨_, rfl⟩
  split
  · exact ⟨_, (State.occur_kept (.refl s)).boot_eq⟩
  · exact ⟨_, rfl⟩

/-- A response leaves transfers, sessions and associations, and of the boot's state it moves the events that wait. -/
theorem State.answerVia_rest (s : State) (c : LopCtx) (r : List Byte) : (s.answerVia c r).lop.transfers = s.lop.transfers
    ∧ (s.answerVia c r).lop.sessions = s.lop.sessions ∧ ∃ l, (s.answerVia c r).boot = { s.boot with pendingEvents := l } := by
  unfold State.answerVia
  extract_lets lop t
  split
  case h_1 =>
    unfold State.windowAnswer
    split
    · exact ⟨rfl, rfl, _, rfl⟩
    · dsimp only
      rw [State.raise_lop]
      exact ⟨rfl, rfl, State.raise_boot _ _⟩
  case h_2 q _ =>
    have hlop : (t.exchangeAnswer q c r).lop = t.lop := (State.exchangeAnswer_kept (.refl t)).lop_eq
    have hboot : (t.exchangeAnswer q c r).boot = t.boot := (State.exchangeAnswer_kept (.refl t)).boot_eq
    rw [hlop, hboot]
    exact ⟨rfl, rfl, _, rfl⟩
  case h_3 => exact ⟨rfl, rfl, _, rfl⟩
  case h_4 origin level _ =>
    have hlop : (t.sendLop origin level r).lop = t.lop := (State.sendLop_kept (.refl t)).lop_eq
    have hboot : (t.sendLop origin level r).boot = t.boot := (State.sendLop_kept (.refl t)).boot_eq
    rw [hlop, hboot]
    exact ⟨rfl, rfl, _, rfl⟩

theorem State.reply_rest (s : State) (c : LopCtx) (code abort : Nat) (p : List Byte) :
    (s.reply c code abort p).lop.transfers = s.lop.transfers ∧ (s.reply c code abort p).lop.sessions = s.lop.sessions
      ∧ ∃ l, (s.reply c code abort p).boot = { s.boot with pendingEvents := l } := by
  unfold State.reply State.respond
  exact State.answerVia_rest _ c _

theorem State.reply_transfers (s : State) (c : LopCtx) (code abort : Nat) (p : List Byte) :
    (s.reply c code abort p).lop.transfers = s.lop.transfers := (s.reply_rest c code abort p).1

theorem State.reply_sessions (s : State) (c : LopCtx) (code abort : Nat) (p : List Byte) :
    (s.reply c code abort p).lop.sessions = s.lop.sessions := (s.reply_rest c code abort p).2.1

theorem State.reply_boot (s : State) (c : LopCtx) (code abort : Nat) (p : List Byte) :
    ∃ l, (s.reply c code abort p).boot = { s.boot with pendingEvents := l } := (s.reply_rest c code abort p).2.2

end Sys2Proof.Machine
end

section
/-!
PROOFS. LOP services that read (14_object_dictionary.md, R359, R361, R363, R367).
-/

namespace Sys2Proof.Machine

/-! ## A payload that is good runs its service (R363) -/

section
variable {s : State} {c : LopCtx} {p : List Byte}

theorem State.service_read (h : payloadOk c.generation 0x01 p = true) :
    s.service c 0x01 p = s.svcRead c (getLE p 0 2) (getLE p 2 1) (getLE p 3 1) := if_neg (by rw [h]; decide)

theorem State.service_write (h : payloadOk c.generation 0x02 p = true) :
    s.service c 0x02 p = s.svcWrite c (getLE p 0 2) (getLE p 2 1) (p.drop 4) := if_neg (by rw [h]; decide)

theorem State.service_describe (h : payloadOk c.generation 0x03 p = true) (hgen : c.generation = 2) :
    s.service c 0x03 p = s.svcDescribe c (getLE p 0 2) (getLE p 2 1) := by
  refine (if_neg (by rw [h]; decide)).trans (if_neg ?_)
  rw [hgen]; decide

theorem State.service_segReadStart (h : payloadOk c.generation 0x10 p = true) :
    s.service c 0x10 p = s.svcSegReadStart c (getLE p 0 2) (getLE p 2 1) (getLE p 3 1) := if_neg (by rw [h]; decide)

theorem State.service_segRead (h : payloadOk c.generation 0x11 p = true) :
    s.service c 0x11 p = s.svcSegRead c (getLE p 0 4) (getLE p 4 4) (getLE p 8 4) := if_neg (by rw [h]; decide)

theorem State.service_segWriteStart (h : payloadOk c.generation 0x12 p = true) :
    s.service c 0x12 p = s.svcSegWriteStart c (getLE p 0 2) (getLE p 2 1) (getLE p 4 4) := if_neg (by rw [h]; decide)

theorem State.service_segWrite (h : payloadOk c.generation 0x13 p = true) :
    s.service c 0x13 p = s.svcSegWrite c (getLE p 0 4) (getLE p 4 4) (bit (getLE p 8 1) 0) (p.drop 12) := if_neg (by rw [h]; decide)

theorem State.service_segCancel (h : payloadOk c.generation 0x14 p = true) :
    s.service c 0x14 p = s.svcSegCancel c (getLE p 0 4) := if_neg (by rw [h]; decide)

theorem State.service_sessionOpen (h : payloadOk c.generation 0x20 p = true) :
    s.service c 0x20 p = s.svcSessionOpen c (getLE p 0 1) := if_neg (by rw [h]; decide)

theorem State.service_sessionProve (h : payloadOk c.generation 0x21 p = true) :
    s.service c 0x21 p = s.svcSessionProve c p := if_neg (by rw [h]; decide)

theorem State.service_sessionClose (h : payloadOk c.generation 0x22 p = true) :
    s.service c 0x22 p = s.svcSessionClose c := if_neg (by rw [h]; decide)

theorem State.service_keepalive (h : payloadOk c.generation 0x23 p = true) :
    s.service c 0x23 p = s.svcKeepalive c := if_neg (by rw [h]; decide)

end

theorem State.serving_payload {s u : State} {c : LopCtx} {code : Nat} {p : List Byte} (h : s.serving? c code p = some u) :
    payloadOk c.generation code p = true := by
  obtain ⟨_, -, -, hpayload, -⟩ := State.serving_cases h
  exact hpayload

section
variable {s u : State} {c : LopCtx} {index sub : Nat} (hindex : index < 2 ^ 16) (hsub : sub < 2 ^ 8)
include hindex hsub

theorem exec_read {flags : Nat} (hflags : flags < 2) (h : s.serving? c 0x01 (leBytes 2 index ++ [byte sub, byte flags]) = some u) :
    exec (.read c index sub flags) s = .next (u.svcRead c index sub flags) := by
  show Host.Outcome.next (s.arrive _ _ _) = _
  rw [State.arrive_served h (by decide), State.service_read (State.serving_payload h), getLE_index hindex, getLE_sub hsub,
    getLE_flags (by omega)]

theorem exec_describe (hgen : c.generation = 2) (h : s.serving? c 0x03 (leBytes 2 index ++ [byte sub, 0#8]) = some u) :
    exec (.describe c index sub) s = .next (u.svcDescribe c index sub) := by
  show Host.Outcome.next (s.arrive _ _ _) = _
  rw [State.arrive_served h (by decide), State.service_describe (State.serving_payload h) hgen, getLE_index hindex, getLE_sub hsub]

theorem exec_segReadStart {flags : Nat} (hflags : flags < 2) (h : s.serving? c 0x10 (leBytes 2 index ++ [byte sub, byte flags]) = some u) :
    exec (.segReadStart c index sub flags) s = .next (u.svcSegReadStart c index sub flags) := by
  show Host.Outcome.next (s.arrive _ _ _) = _
  rw [State.arrive_served h (by decide), State.service_segReadStart (State.serving_payload h), getLE_index hindex, getLE_sub hsub,
    getLE_flags (by omega)]

end

theorem exec_keepalive {s u : State} {c : LopCtx} (h : s.serving? c 0x23 [] = some u) :
    exec (.keepalive c) s = .next (u.svcKeepalive c) := by
  show Host.Outcome.next (s.arrive _ _ _) = _
  rw [State.arrive_served h (by decide), State.service_keepalive (State.serving_payload h)]

theorem exec_segRead {s u : State} {c : LopCtx} {n offset count : Nat} (hn : n < 2 ^ 32) (hoffset : offset < 2 ^ 32) (hcount : count < 2 ^ 32)
    (h : s.serving? c 0x11 (leBytes 4 n ++ leBytes 4 offset ++ leBytes 4 count) = some u) :
    exec (.segRead c n offset count) s = .next (u.svcSegRead c n offset count) := by
  have h0 : getLE (leBytes 4 n ++ leBytes 4 offset ++ leBytes 4 count) 0 4 = n := leNat_leBytes_of_lt (k := 4) hn
  have h4 : getLE (leBytes 4 n ++ leBytes 4 offset ++ leBytes 4 count) 4 4 = offset := leNat_leBytes_of_lt (k := 4) hoffset
  have h8 : getLE (leBytes 4 n ++ leBytes 4 offset ++ leBytes 4 count) 8 4 = count := leNat_leBytes_of_lt (k := 4) hcount
  show Host.Outcome.next (s.arrive _ _ _) = _
  rw [State.arrive_served h (by decide), State.service_segRead (State.serving_payload h), h0, h4, h8]

/-! ## What the services answer -/

section
variable {s : State} {c : LopCtx} {index sub flags : Nat} {e : EntryDef}

theorem State.svcRead_value (he : s.lookup c index sub = .ok e) (htyp : e.typ ≠ 13) (haccess : e.access ≠ 3) :
    s.svcRead c index sub flags =
      s.reply c 0x01 abOk (leBytes 2 index ++ [byte sub, byte e.typ] ++ s.readValue index sub (bit flags 0)) := by
  unfold State.svcRead
  rw [he]
  dsimp only
  rw [if_neg htyp, if_neg haccess]

theorem State.svcRead_unknown {a : Nat} (he : s.lookup c index sub = .error a) : s.svcRead c index sub flags = s.reply c 0x01 a [] := by
  unfold State.svcRead
  rw [he]

theorem State.svcRead_domain (he : s.lookup c index sub = .ok e) (htyp : e.typ = 13) :
    s.svcRead c index sub flags = s.reply c 0x01 abSegmentedOnly [] := by
  unfold State.svcRead
  rw [he]
  dsimp only
  rw [if_pos htyp]

theorem State.svcDescribe_value (he : s.lookup c index sub = .ok e) (htyp : e.typ ≠ 13) :
    s.svcDescribe c index sub = s.reply c 0x03 abOk (leBytes 2 index ++ [byte sub, byte e.typ, byte e.access,
      byte (b2n e.p + 2 * b2n e.o + 4 * b2n e.d), byte e.apply, 0#8] ++ leBytes 4 e.size ++ leBytes 4 e.size
        ++ s.describedDefault (dkey index sub)) := by
  have hplain : (e.typ == 13) = false := beq_false_of_ne htyp
  unfold State.svcDescribe
  rw [he]
  dsimp only
  rw [hplain]
  rfl

theorem State.svcSegReadStart_opens (he : s.lookup c index sub = .ok e) (htyp : e.typ = 13) (haccess : e.access ≠ 3)
    (hlimit : s.transferLimit c = false) :
    s.svcSegReadStart c index sub flags =
      (s.openTransfer c (dkey index sub) false (s.readValue index sub (bit flags 0)).length (s.readValue index sub (bit flags 0))).1.reply c 0x10 abOk
        (leBytes 4 (s.openTransfer c (dkey index sub) false (s.readValue index sub (bit flags 0)).length (s.readValue index sub (bit flags 0))).2
          ++ leBytes 4 (s.readValue index sub (bit flags 0)).length) := by
  unfold State.svcSegReadStart
  rw [he]
  dsimp only
  rw [if_neg (not_not.2 htyp), if_neg haccess, if_neg (by rw [hlimit]; exact Bool.false_ne_true)]

end

/-- A transfer that opens is found under its number. -/
theorem State.openTransfer_find (s : State) (c : LopCtx) (k : Nat) (write : Bool) (length : Nat) (bytes : List Byte) :
    Tbl.find? (s.openTransfer c k write length bytes).1.lop.transfers (s.openTransfer c k write length bytes).2
      = some { key := k, write := write, length := length, bytes := bytes, owner := s.replayKey c, lastAt := s.now } :=
  Tbl.find?_set_self _ _ _

/-- A request reaches the transfer `x` of number `n`. -/
def State.touchTransfer (s : State) (n : Nat) (x : Transfer) : State :=
  { s with lop := { s.lop with transfers := Tbl.set s.lop.transfers n { x with lastAt := s.now } } }

theorem State.svcSegRead_bytes {s : State} {c : LopCtx} {n : Nat} {x : Transfer} (hx : s.transfer? c n false = some x) (offset count : Nat) :
    s.svcSegRead c n offset count = (s.touchTransfer n x).reply c 0x11 abOk
      (leBytes 4 n ++ leBytes 4 offset ++ (x.bytes.drop offset).take (Nat.min count (segReadMax c.via))) := by
  unfold State.svcSegRead
  rw [hx]
  rfl

theorem State.svcSegRead_none {s : State} {c : LopCtx} {n : Nat} (hx : s.transfer? c n false = none) (offset count : Nat) :
    s.svcSegRead c n offset count = s.reply c 0x11 abNoTransfer [] := by
  unfold State.svcSegRead
  rw [hx]

/-- Settles O35, service by service. -/
theorem lopReadsAnswer : Obligations.LopReadsAnswer := by
  intro s u c index sub flags hindex hsub hflags
  refine ⟨?read, ?describe, ?keepalive, ?start, ?segRead⟩
  case read =>
    intro h
    have hexec := exec_read hindex hsub hflags h
    have hdict := (State.serving_same h).dict
    refine ⟨fun e he htyp haccess => ⟨_, hexec, ?_⟩, fun a he => ⟨_, hexec, ?_⟩, fun e he htyp => ⟨_, hexec, ?_⟩⟩
    · rw [State.svcRead_value he htyp haccess]
      exact ⟨(State.reply_dict ..).trans hdict, State.reply_answered ..⟩
    · rw [State.svcRead_unknown he]
      exact ⟨(State.reply_dict ..).trans hdict, State.reply_answered ..⟩
    · rw [State.svcRead_domain he htyp]
      exact ⟨(State.reply_dict ..).trans hdict, State.reply_answered ..⟩
  case describe =>
    intro h hgen e he htyp
    refine ⟨_, exec_describe hindex hsub hgen h, ?_⟩
    rw [State.svcDescribe_value he htyp]
    exact ⟨(State.reply_dict ..).trans (State.serving_same h).dict, State.reply_answered ..⟩
  case keepalive =>
    intro h
    refine ⟨_, exec_keepalive h, ?_⟩
    rw [← State.now_of_sys (State.serving_same h).sys]
    exact ⟨(State.reply_dict ..).trans (State.serving_same h).dict, State.reply_answered ..⟩
  case start =>
    intro h e he htyp haccess hlimit
    set v := u.readValue index sub (bit flags 0) with hv
    refine ⟨_, (u.openTransfer c (dkey index sub) false v.length v).2,
      { key := dkey index sub, write := false, length := v.length, bytes := v, owner := u.replayKey c, lastAt := u.now },
      exec_segReadStart hindex hsub hflags h, ?_⟩
    rw [State.svcSegReadStart_opens he htyp haccess hlimit, State.reply_transfers]
    exact ⟨(State.reply_dict ..).trans (State.serving_same h).dict, State.openTransfer_find .., rfl, rfl, rfl, rfl, State.reply_answered ..⟩
  case segRead =>
    intro n offset count hn hoffset hcount h
    have hexec := exec_segRead hn hoffset hcount h
    have hdict := (State.serving_same h).dict
    refine ⟨fun x hx => ⟨_, hexec, ?_⟩, fun hx => ⟨_, hexec, ?_⟩⟩
    · rw [State.svcSegRead_bytes hx]
      exact ⟨(State.reply_dict ..).trans hdict, State.reply_answered ..⟩
    · rw [State.svcSegRead_none hx]
      exact ⟨(State.reply_dict ..).trans hdict, State.reply_answered ..⟩

end Sys2Proof.Machine
end

section
/-!
PROOFS. LOP's WRITE, and the entries whose write is a command (14_object_dictionary.md, R356 to R359, R363; 13_modes_and_overlays.md,
R345, R346; 18_start_up.md, R449, R452, R454).
-/

namespace Sys2Proof.Machine

/-! ## The base of the dictionary (R358, R359) -/

theorem State.putForce_base (s : State) (k : Nat) (v : List Byte) : (s.putForce k v).dict.base = s.dict.base := by
  unfold State.putForce
  extract_lets _ put pins done
  have hpins : pins.dict = put.dict := by
    dsimp only [pins]
    split
    · exact State.forEach_reading (·.dict) (fun t n => State.levelTo_dict t _ _) _ put
    · rfl
  have hbase : pins.dict.base = s.dict.base := by rw [hpins]
  split
  · exact hbase
  · exact hbase

theorem State.settleKey_base (s : State) (k : Nat) (free : Bool) : (s.settleKey k free).dict.base = s.dict.base := by
  unfold State.settleKey
  extract_lets v staged fr
  split
  · unfold State.onLive
    split
    · exact s.putForce_base k v
    · exact s.putForce_base k v
  · rfl

/-- A write puts its value into the base. -/
theorem State.writeEntry_base (s : State) (k : Nat) (v : List Byte) : (s.writeEntry k v).dict.base = Tbl.set s.dict.base k v := by
  unfold State.writeEntry
  extract_lets old _ put noted
  rw [State.settleKey_base]
  dsimp only [noted]
  split
  · rfl
  · rfl

/-! ## WRITE -/

theorem State.arrive_write {s u : State} {c : LopCtx} {index sub : Nat} {v : List Byte} (hindex : index < 2 ^ 16) (hsub : sub < 2 ^ 8)
    (h : s.serving? c 0x02 (leBytes 2 index ++ [byte sub, 0#8] ++ v) = some u) :
    s.arrive c 0x02 (leBytes 2 index ++ [byte sub, 0#8] ++ v) = u.svcWrite c index sub v := by
  have h0 : getLE (leBytes 2 index ++ [byte sub, 0#8] ++ v) 0 2 = index := leNat_leBytes_of_lt (k := 2) hindex
  have h2 : getLE (leBytes 2 index ++ [byte sub, 0#8] ++ v) 2 1 = sub := leNat_byte hsub
  rw [State.arrive_served h (by decide), State.service_write (State.serving_payload h), h0, h2]
  rfl

section
variable {s : State} {c : LopCtx} {index sub : Nat} {v : List Byte} {e : EntryDef}
  (he : s.lookup c index sub = .ok e) (htyp : e.typ ≠ 13)
include he htyp

theorem State.svcWrite_mode (hindex : index = 0x1200) : s.svcWrite c index sub v = s.modeWrite c (s.mayWrite c index sub e) v := by
  unfold State.svcWrite
  dsimp only
  rw [he]
  dsimp only
  rw [if_neg htyp, if_pos hindex]

theorem State.svcWrite_refused (hindex : index ≠ 0x1200) (hmay : s.mayWrite c index sub e ≠ abOk) :
    s.svcWrite c index sub v = s.reply c 0x02 (s.mayWrite c index sub e) [] := by
  unfold State.svcWrite
  dsimp only
  rw [he]
  dsimp only
  rw [if_neg htyp, if_neg hindex, if_pos hmay]

theorem State.svcWrite_bad (hindex : index ≠ 0x1200) (hmay : s.mayWrite c index sub e = abOk) {st : Status}
    (hcheck : s.valueCheck (dkey index sub) v = some st) : s.svcWrite c index sub v = s.reply c 0x02 (abStatus st) [] := by
  unfold State.svcWrite
  dsimp only
  rw [he]
  dsimp only
  rw [if_neg htyp, if_neg hindex, if_neg (not_not.2 hmay), hcheck]

theorem State.svcWrite_command (hindex : index ≠ 0x1200) (hmay : s.mayWrite c index sub e = abOk)
    (hcheck : s.valueCheck (dkey index sub) v = none) (hd : e.d = false) {t : State} {a : Nat} (ht : s.commandWrite index sub v = some (t, a)) :
    s.svcWrite c index sub v = t.reply c 0x02 a [] := by
  unfold State.svcWrite
  dsimp only
  rw [he]
  dsimp only
  rw [if_neg htyp, if_neg hindex, if_neg (not_not.2 hmay), hcheck]
  dsimp only
  rw [if_neg (by rw [hd]; exact Bool.false_ne_true), ht]

theorem State.svcWrite_value (hindex : index ≠ 0x1200) (hmay : s.mayWrite c index sub e = abOk)
    (hcheck : s.valueCheck (dkey index sub) v = none) (hd : e.d = false) (hnone : s.commandWrite index sub v = none) :
    s.svcWrite c index sub v = (if index = 0x1420 ∧ sub = 5 then (s.writeEntry (dkey index sub) v).keyWritten c
      else s.writeEntry (dkey index sub) v).reply c 0x02 abOk [] := by
  unfold State.svcWrite
  dsimp only
  rw [he]
  dsimp only
  rw [if_neg htyp, if_neg hindex, if_neg (not_not.2 hmay), hcheck]
  dsimp only
  rw [if_neg (by rw [hd]; exact Bool.false_ne_true), hnone]

end

theorem State.keyWritten_dict (s : State) (c : LopCtx) : (s.keyWritten c).dict = s.dict :=
  (State.SameButLop.forEach (fun t n => t.closeSession_same n) _ s).dict

/-- Settles O36, by the checks that a write meets. -/
theorem lopWritesTake : Obligations.LopWritesTake := by
  intro s u c index sub v hindex hsub h e he htyp hmode
  have hexec : exec (.write c index sub v) s = .next (u.svcWrite c index sub v) :=
    congrArg Host.Outcome.next (State.arrive_write hindex hsub h)
  have hdict := (State.serving_same h).dict
  refine ⟨fun hmay hcheck hd hnone => ⟨_, hexec, ?_⟩, fun hmay => ⟨_, hexec, ?_⟩, fun st hmay hcheck => ⟨_, hexec, ?_⟩⟩
  · rw [State.svcWrite_value he htyp hmode hmay hcheck hd (Option.isNone_iff_eq_none.1 hnone)]
    have htaken : (State.reply (if index = 0x1420 ∧ sub = 5 then (u.writeEntry (dkey index sub) v).keyWritten c
        else u.writeEntry (dkey index sub) v) c 0x02 abOk []).dict = (u.writeEntry (dkey index sub) v).dict := by
      rw [State.reply_dict]
      split
      · exact State.keyWritten_dict _ c
      · rfl
    refine ⟨State.reply_answered .., htaken, ?_, fun k hk => ?_⟩
    · rw [htaken, State.writeEntry_base]
      exact Tbl.find?_set_self _ _ _
    · rw [htaken, State.writeEntry_base, hdict]
      exact Tbl.find?_set_ne _ _ hk
  · rw [State.svcWrite_refused he htyp hmode hmay]
    exact ⟨State.reply_answered .., (State.reply_dict ..).trans hdict⟩
  · rw [State.svcWrite_bad he htyp hmode hmay hcheck]
    exact ⟨State.reply_answered .., (State.reply_dict ..).trans hdict⟩

/-! ## A write of RequestedMode (R345, R346) -/

/-- A single request that arrives is served at once. -/
theorem State.requestMode_single {s : State} {r : ModeReq} (hscheduled : s.sys.scheduled = none) (hqueue : s.sys.modeQueue = [])
    (hforced : s.deriveMode = s.sys.mode) : s.requestMode r = s.serveMode r := by
  have hs : { s with sys := { s.sys with modeQueue := [] } } = s := by rw [← hqueue]
  unfold State.requestMode
  rw [hqueue]
  unfold State.serveModes
  rw [if_neg (by
    rw [show State.deriveMode { s with sys := { s.sys with modeQueue := [] ++ [r] } } = s.deriveMode from rfl, hforced]
    simp [hscheduled])]
  dsimp only [List.nil_append]
  exact congrArg (fun t => State.serveMode t r) hs

section
variable {s : State} {c : LopCtx} {v : Nat} {m : Mode}

theorem State.modeWrite_privileged (hv : v < 256) (hlevel : lvlPrivileged ≤ s.levelOf c) :
    s.modeWrite c abOk [byte v] = s.requestMode { target := v, reply := { ctx := c, code := 0x02 } } := by
  have hallowed : (if abOk ≠ abOk then abOk else if [byte v].length ≠ 1 then abStatus .size
      else if (leNat [byte v] = Mode.reset.code ∨ leNat [byte v] = Mode.update.code) ∧ s.levelOf c < lvlPrivileged then abStatus .privilege
      else abOk) = abOk := by
    rw [if_neg (not_not.2 rfl), if_neg (not_not.2 rfl : ¬[byte v].length ≠ 1), if_neg (by omega)]
  unfold State.modeWrite
  rw [hallowed, leNat_byte hv]
  exact if_neg (not_not.2 rfl)

variable {r : Reply} (hm : Mode.ofCode v = some m)
include hm

theorem State.serveMode_schedules (hask : s.askMode s.sys.working m = .yes) (hreset : m ≠ .reset) :
    s.serveMode { target := v, reply := r } = { s with sys := { s.sys with scheduled := some { target := v, reply := r } } } := by
  unfold State.serveMode
  dsimp only
  rw [hm]
  dsimp only
  rw [hask]
  exact if_neg hreset

theorem State.serveMode_same (hask : s.askMode s.sys.working m = .same) : s.serveMode { target := v, reply := r } = s.complete r abOk := by
  unfold State.serveMode
  dsimp only
  rw [hm]
  dsimp only
  rw [hask]

theorem State.serveMode_refused (hask : s.askMode s.sys.working m = .state) :
    s.serveMode { target := v, reply := r } = s.countRefused.complete r (abStatus .state) := by
  unfold State.serveMode
  dsimp only
  rw [hm]
  dsimp only
  rw [hask]
  rfl

end

/-- A request for a mode runs R345's table. -/
theorem exec_modeRequest {s u : State} {c : LopCtx} {v : Nat} {e : EntryDef} (hv : v < 256)
    (h : s.serving? c 0x02 (leBytes 2 0x1200 ++ [0#8, 0#8, byte v]) = some u) (he : u.lookup c 0x1200 0 = .ok e) (htyp : e.typ ≠ 13)
    (hmay : u.mayWrite c 0x1200 0 e = abOk) (hlevel : lvlPrivileged ≤ u.levelOf c) (hscheduled : s.sys.scheduled = none)
    (hqueue : s.sys.modeQueue = []) (hforced : s.deriveMode = s.sys.mode) :
    exec (.modeRequest c v) s = .next (u.serveMode { target := v, reply := { ctx := c, code := 0x02 } }) := by
  have hsys := (State.serving_same h).sys
  refine congrArg Host.Outcome.next ?_
  refine (State.arrive_write (v := [byte v]) (by decide) (by decide) h).trans ?_
  rw [State.svcWrite_mode he htyp rfl, hmay, State.modeWrite_privileged hv hlevel,
    State.requestMode_single (by rw [hsys]; exact hscheduled) (by rw [hsys]; exact hqueue)
      (by rw [(State.serving_same h).deriveMode, hsys]; exact hforced)]

/-! ## Images (R449, R452, R454) -/

/-- An entry of the images whose write is a command. -/
theorem exec_imageCommand {s u t : State} {c : LopCtx} {sub a : Nat} {v : List Byte} {e : EntryDef} (hsub : sub < 2 ^ 8)
    (h : s.serving? c 0x02 (leBytes 2 0x1022 ++ [byte sub, 0#8] ++ v) = some u) (he : u.lookup c 0x1022 sub = .ok e) (htyp : e.typ ≠ 13)
    (hd : e.d = false) (hmay : u.mayWrite c 0x1022 sub e = abOk) (hcheck : u.valueCheck (dkey 0x1022 sub) v = none)
    (ht : u.commandWrite 0x1022 sub v = some (t, a)) :
    s.arrive c 0x02 (leBytes 2 0x1022 ++ [byte sub, 0#8] ++ v) = t.reply c 0x02 a [] :=
  (State.arrive_write (by decide) hsub h).trans (State.svcWrite_command he htyp (by decide) hmay hcheck hd ht)

theorem State.commandWrite_activate {s : State} (hstaged : s.boot.imageState (1 - s.boot.active) = 1) (htrial : s.onTrial = false) :
    s.commandWrite 0x1022 2 [1#8] =
      some ({ s with boot := Boot.control { s.boot with trial := some (1 - s.boot.active), attempts := 0 } }, abOk) := by
  have hactivate : s.activateImage =
      ({ s with boot := Boot.control { s.boot with trial := some (1 - s.boot.active), attempts := 0 } }, abOk) :=
    if_neg (by rw [hstaged, htrial]; decide)
  rw [← hactivate]
  rfl

theorem State.commandWrite_confirm {s : State} (htrial : s.onTrial = true) : s.commandWrite 0x1022 3 [1#8] = some (s.confirmImage, abOk) :=
  congrArg some (if_pos htrial)

theorem State.commandWrite_rollback {s : State} {v : Nat} (hv : v < 256) (hlow : s.boot.rollback < v) (ha : s.boot.imageState 0 = 1)
    (hb : s.boot.imageState 1 = 1) (hsa : v ≤ s.boot.slotA.security) (hsb : v ≤ s.boot.slotB.security) (htrial : s.boot.trial = none) :
    s.commandWrite 0x1022 5 (leBytes 2 v) = some ({ s with boot := { s.boot with rollback := v } }, abOk) := by
  have hadvance : s.advanceRollback v = ({ s with boot := { s.boot with rollback := v } }, abOk) := by
    unfold State.advanceRollback
    dsimp only
    rw [if_neg (by omega), if_neg]
    rw [ha, hb, htrial]
    simp [Boot.slot, hsa, hsb, hlow]
  have hn : leNat (leBytes 2 v) = v := leNat_leBytes_of_lt (k := 2) (by omega)
  rw [← hadvance]
  unfold State.commandWrite
  rw [hn]
  rfl

/-- Confirmation makes the running trial ACTIVE. -/
theorem State.confirmImage_boot {s : State} {n : Nat} (h : s.boot.trial = some n) :
    ∃ k l, s.confirmImage.boot = { s.boot with active := n, trial := none, attempts := 0, ctlSequence := k, pendingEvents := l } := by
  unfold State.confirmImage
  rw [h]
  obtain ⟨l, e⟩ := State.raise_boot { s with boot := Boot.control { s.boot with active := n, trial := none, attempts := 0 } } .imageConfirmed
  exact ⟨_, l, e⟩

theorem State.confirmImage_dict (s : State) : s.confirmImage.dict = s.dict := (State.confirmImage_kept (.refl s)).dict_eq

/-- Settles O37, command by command. -/
theorem commandWritesAct : Obligations.CommandWritesAct := by
  intro s u c v
  refine ⟨?mode, ?activate, ?confirm, ?rollback⟩
  case mode =>
    intro e m hv h he htyp hmay hlevel hm hscheduled hqueue hforced
    have hexec := exec_modeRequest hv h he htyp hmay hlevel hscheduled hqueue hforced
    have hsame := State.serving_same h
    refine ⟨fun hask hreset => ⟨_, hexec, ?_⟩, fun hask => ⟨_, hexec, ?_⟩, fun hask => ⟨_, hexec, ?_⟩⟩
    · rw [State.serveMode_schedules hm hask hreset]
      have hmode : u.sys.mode = s.sys.mode := congrArg Sys.mode hsame.sys
      exact ⟨rfl, hmode, hsame.dict, hsame.heads⟩
    · rw [State.serveMode_same hm hask]
      exact ⟨(State.complete_sys ..).trans hsame.sys, State.reply_answered .., (State.reply_dict ..).trans hsame.dict,
        (State.reply_heads ..).trans hsame.heads⟩
    · rw [State.serveMode_refused hm hask]
      refine ⟨(State.complete_sys ..).trans ?_, State.reply_answered .., (State.reply_dict ..).trans hsame.dict,
        (State.reply_heads ..).trans hsame.heads⟩
      rw [← hsame.sys]
      rfl
  case activate =>
    intro e h he htyp hd hmay hcheck hstaged htrial
    have hexec := exec_imageCommand (sub := 2) (by decide) h he htyp hd hmay hcheck (State.commandWrite_activate hstaged htrial)
    have hsame := State.serving_same h
    refine ⟨_, congrArg Host.Outcome.next hexec, ?_⟩
    obtain ⟨l, hboot⟩ := State.reply_boot { u with boot := Boot.control { u.boot with trial := some (1 - u.boot.active), attempts := 0 } } c 0x02 abOk []
    rw [hboot, ← hsame.boot.1]
    exact ⟨rfl, rfl, rfl, State.reply_answered .., (State.reply_dict ..).trans hsame.dict⟩
  case confirm =>
    intro e h he htyp hd hmay hcheck htrial
    have hexec := exec_imageCommand (sub := 3) (by decide) h he htyp hd hmay hcheck (State.commandWrite_confirm htrial)
    have hsame := State.serving_same h
    refine ⟨_, congrArg Host.Outcome.next hexec, ?_⟩
    obtain ⟨k, l, hconfirmed⟩ := State.confirmImage_boot (s := u) (n := u.boot.running) (beq_iff_eq.1 htrial)
    obtain ⟨l', hboot⟩ := State.reply_boot u.confirmImage c 0x02 abOk []
    rw [hboot, hconfirmed, ← hsame.boot.2]
    exact ⟨rfl, rfl, rfl, State.reply_answered .., (State.reply_dict ..).trans (u.confirmImage_dict.trans hsame.dict)⟩
  case rollback =>
    intro e hv h he htyp hd hmay hcheck hlow ha hb hsa hsb htrial
    have hexec := exec_imageCommand (sub := 5) (by decide) h he htyp hd hmay hcheck (State.commandWrite_rollback hv hlow ha hb hsa hsb htrial)
    refine ⟨_, congrArg Host.Outcome.next hexec, ?_⟩
    obtain ⟨l, hboot⟩ := State.reply_boot { u with boot := { u.boot with rollback := v } } c 0x02 abOk []
    rw [hboot]
    exact ⟨rfl, State.reply_answered .., (State.reply_dict ..).trans (State.serving_same h).dict⟩

end Sys2Proof.Machine
end

section
/-!
PROOFS. LOP's segmented transfers and sessions (14_object_dictionary.md, R366, R368, R370 to R373).
-/

namespace Sys2Proof.Machine

/-! ## What staging and closing leave -/

theorem State.stageSlot_lop (s : State) (n : Nat) : (s.stageSlot n).lop = s.lop := rfl

theorem State.stageBytes_lop (s : State) (n : Nat) (b : List Byte) : (s.stageBytes n b).lop = s.lop := by
  unfold State.stageBytes
  split <;> rfl

theorem State.stageBytes_dict (s : State) (n : Nat) (b : List Byte) : (s.stageBytes n b).dict = s.dict := by
  unfold State.stageBytes
  split <;> rfl

/-- A transfer that closes is there no more, and the rest of the protocol's state stays. -/
theorem State.dropTransfer_lop (s : State) (n : Nat) :
    (s.dropTransfer n).lop = { s.lop with transfers := Tbl.erase s.lop.transfers n } := by
  unfold State.dropTransfer
  dsimp only
  split <;> rfl

/-- A session that closes is there no more; the latest response and the associations stay. -/
theorem State.closeSession_lop (s : State) (n : Nat) : (s.closeSession n).lop.sessions = Tbl.erase s.lop.sessions n
    ∧ (s.closeSession n).lop.lastResp = s.lop.lastResp ∧ (s.closeSession n).lop.assocs = s.lop.assocs := by
  unfold State.closeSession
  extract_lets mine dropped
  have hread {β : Type} (f : Lop → β) (hf : ∀ (l : Lop) (x : Tbl Transfer), f { l with transfers := x } = f l) :
      f dropped.lop = f s.lop :=
    State.forEach_reading (fun t => f t.lop) (fun t k => by rw [State.dropTransfer_lop]; exact hf _ _) mine s
  refine ⟨congrArg (fun l : Tbl Session => Tbl.erase l n) (hread Lop.sessions (fun _ _ => rfl)), ?_, ?_⟩
  · exact hread Lop.lastResp (fun _ _ => rfl)
  · exact hread Lop.assocs (fun _ _ => rfl)

theorem State.closeSession_dict (s : State) (n : Nat) : (s.closeSession n).dict = s.dict := (s.closeSession_same n).dict

/-! ## Segmented transfers (R366, R368) -/

section
variable {s u : State} {c : LopCtx}

theorem exec_segWriteStart {index sub len : Nat} (hindex : index < 2 ^ 16) (hsub : sub < 2 ^ 8) (hlen : len < 2 ^ 32)
    (h : s.serving? c 0x12 (leBytes 2 index ++ [byte sub, 0#8] ++ leBytes 4 len) = some u) :
    exec (.segWriteStart c index sub len) s = .next (u.svcSegWriteStart c index sub len) := by
  have h0 : getLE (leBytes 2 index ++ [byte sub, 0#8] ++ leBytes 4 len) 0 2 = index := leNat_leBytes_of_lt (k := 2) hindex
  have h2 : getLE (leBytes 2 index ++ [byte sub, 0#8] ++ leBytes 4 len) 2 1 = sub := leNat_byte hsub
  have h4 : getLE (leBytes 2 index ++ [byte sub, 0#8] ++ leBytes 4 len) 4 4 = len := leNat_leBytes_of_lt (k := 4) hlen
  show Host.Outcome.next (s.arrive _ _ _) = _
  rw [State.arrive_served h (by decide), State.service_segWriteStart (State.serving_payload h), h0, h2, h4]

theorem exec_segWrite {n offset : Nat} {last : Bool} {b : List Byte} (hn : n < 2 ^ 32) (hoffset : offset < 2 ^ 32)
    (h : s.serving? c 0x13 (leBytes 4 n ++ leBytes 4 offset ++ [byte (b2n last), 0#8, 0#8, 0#8] ++ b) = some u) :
    exec (.segWrite c n offset last b) s = .next (u.svcSegWrite c n offset last b) := by
  have h0 : getLE (leBytes 4 n ++ leBytes 4 offset ++ [byte (b2n last), 0#8, 0#8, 0#8] ++ b) 0 4 = n := leNat_leBytes_of_lt (k := 4) hn
  have h4 : getLE (leBytes 4 n ++ leBytes 4 offset ++ [byte (b2n last), 0#8, 0#8, 0#8] ++ b) 4 4 = offset :=
    leNat_leBytes_of_lt (k := 4) hoffset
  have h8 : getLE (leBytes 4 n ++ leBytes 4 offset ++ [byte (b2n last), 0#8, 0#8, 0#8] ++ b) 8 1 = b2n last :=
    leNat_byte (by cases last <;> decide)
  have hlast : bit (b2n last) 0 = last := by cases last <;> rfl
  show Host.Outcome.next (s.arrive _ _ _) = _
  rw [State.arrive_served h (by decide), State.service_segWrite (State.serving_payload h), h0, h4, h8, hlast]
  rfl

theorem exec_segCancel {n : Nat} (hn : n < 2 ^ 32) (h : s.serving? c 0x14 (leBytes 4 n) = some u) :
    exec (.segCancel c n) s = .next (u.svcSegCancel c n) := by
  have h0 : getLE (leBytes 4 n) 0 4 = n := leNat_leBytes_of_lt (k := 4) hn
  show Host.Outcome.next (s.arrive _ _ _) = _
  rw [State.arrive_served h (by decide), State.service_segCancel (State.serving_payload h), h0]

end

section
variable {s : State} {c : LopCtx} {n : Nat} {x : Transfer}

/-- The state in which a segmented write has opened, with its number. -/
def State.openWrite (s : State) (c : LopCtx) (k len : Nat) : State × Nat :=
  let r := s.openTransfer c k true len []
  (if k = dkey 0x1022 1 then r.1.stageSlot r.2 else r.1, r.2)

theorem State.openWrite_find (s : State) (c : LopCtx) (k len : Nat) :
    Tbl.find? (s.openWrite c k len).1.lop.transfers (s.openWrite c k len).2
      = some { key := k, write := true, length := len, bytes := [], owner := s.replayKey c, lastAt := s.now } := by
  unfold State.openWrite
  dsimp only
  split
  · rw [State.stageSlot_lop]; exact State.openTransfer_find ..
  · exact State.openTransfer_find ..

theorem State.openWrite_dict (s : State) (c : LopCtx) (k len : Nat) : (s.openWrite c k len).1.dict = s.dict := by
  unfold State.openWrite
  dsimp only
  split <;> rfl

theorem State.svcSegWriteStart_opens {index sub len : Nat} {e : EntryDef} (he : s.lookup c index sub = .ok e) (htyp : e.typ = 13)
    (hcheck : s.segWriteCheck c index sub e len = abOk)
    (hfree : s.lop.transfers.any (fun p => p.2.write && p.2.key == dkey index sub) = false) (hlimit : s.transferLimit c = false) :
    s.svcSegWriteStart c index sub len =
      (s.openWrite c (dkey index sub) len).1.reply c 0x12 abOk (leBytes 4 (s.openWrite c (dkey index sub) len).2) := by
  unfold State.svcSegWriteStart
  rw [he]
  dsimp only
  rw [if_neg (not_not.2 htyp), if_neg (not_not.2 hcheck), if_neg (by rw [hfree]; exact Bool.false_ne_true),
    if_neg (by rw [hlimit]; exact Bool.false_ne_true)]
  rfl

theorem State.svcSegWrite_follows {b : List Byte} (hx : s.transfer? c n true = some x) (hlen : x.bytes.length + b.length < x.length) :
    s.svcSegWrite c n x.bytes.length false b =
      ((s.putSegment n x (x.bytes ++ b)).stageBytes n (x.bytes ++ b)).reply c 0x13 abOk [] := by
  unfold State.svcSegWrite
  rw [hx]
  dsimp only
  rw [if_neg (not_not.2 rfl), if_neg (by omega), if_neg (by rw [decide_eq_false (by omega)]; exact not_not.2 rfl), if_neg Bool.false_ne_true]

theorem State.svcSegWrite_gap {offset : Nat} {last : Bool} {b : List Byte} (hx : s.transfer? c n true = some x)
    (hoffset : offset ≠ x.bytes.length) :
    s.svcSegWrite c n offset last b = (s.putSegment n x x.bytes).reply c 0x13 abOffset (leBytes 4 x.bytes.length) := by
  unfold State.svcSegWrite
  rw [hx]
  exact if_pos hoffset

theorem State.putSegment_find (s : State) (n : Nat) (x : Transfer) (b : List Byte) :
    Tbl.find? (s.putSegment n x b).lop.transfers n = some { x with lastAt := s.now, bytes := b } := Tbl.find?_set_self _ _ _

theorem State.svcSegCancel_own (hx : Tbl.find? s.lop.transfers n = some x) (hown : x.owner = s.replayKey c) :
    s.svcSegCancel c n = (s.dropTransfer n).reply c 0x14 abOk [] := by
  unfold State.svcSegCancel
  rw [hx]
  exact if_pos hown

theorem exec_transferTimeout (hx : Tbl.find? s.lop.transfers n = some x) (hcore : s.coreUp 1 = true) (hold : x.lastAt + 5000000000 ≤ s.now) :
    exec (.transferTimeout n) s = .next (s.dropTransfer n) := by
  show execTransferTimeout n s = _
  have hexpired : s.transferExpired x = true := by unfold State.transferExpired; exact decide_eq_true hold
  unfold execTransferTimeout
  rw [hx]
  dsimp only
  rw [if_pos (by rw [hcore, hexpired]; rfl)]

end

/-- Settles O38, service by service. -/
theorem lopSegmentsTransfer : Obligations.LopSegmentsTransfer := by
  intro s u c index sub n hindex hsub hn
  refine ⟨?start, ?segment, ?cancel, ?timeout⟩
  case start =>
    intro len e hlen h he htyp hcheck hfree hlimit
    refine ⟨_, (u.openWrite c (dkey index sub) len).2,
      { key := dkey index sub, write := true, length := len, bytes := [], owner := u.replayKey c, lastAt := u.now },
      exec_segWriteStart hindex hsub hlen h, ?_⟩
    rw [State.svcSegWriteStart_opens he htyp hcheck hfree hlimit, State.reply_transfers]
    exact ⟨State.openWrite_find .., rfl, rfl, rfl, rfl, State.reply_answered ..,
      (State.reply_dict ..).trans ((State.openWrite_dict ..).trans (State.serving_same h).dict)⟩
  case segment =>
    intro offset last b x hoffset h hx
    have hexec := exec_segWrite hn hoffset h
    have hdict := (State.serving_same h).dict
    have hnow := State.now_of_sys (State.serving_same h).sys
    refine ⟨fun heq hlast hlen => ⟨_, hexec, ?_⟩, fun hne => ⟨_, hexec, ?_⟩⟩
    · subst heq hlast
      rw [State.svcSegWrite_follows hx hlen, State.reply_transfers, State.stageBytes_lop, State.putSegment_find, hnow]
      exact ⟨State.reply_answered .., rfl, (State.reply_dict ..).trans ((State.stageBytes_dict ..).trans hdict)⟩
    · rw [State.svcSegWrite_gap hx hne, State.reply_transfers, State.putSegment_find, hnow]
      exact ⟨State.reply_answered .., rfl, (State.reply_dict ..).trans hdict⟩
  case cancel =>
    intro x h hx hown
    refine ⟨_, exec_segCancel hn h, ?_⟩
    rw [State.svcSegCancel_own hx hown, State.reply_transfers, State.dropTransfer_lop]
    exact ⟨State.reply_answered .., rfl, (State.reply_dict ..).trans (((u.dropTransfer_same n).dict).trans (State.serving_same h).dict)⟩
  case timeout =>
    intro x hx hcore hold
    exact ⟨_, exec_transferTimeout hx hcore hold, s.dropTransfer_lop n, (s.dropTransfer_same n).dict⟩

/-! ## Sessions (R370 to R373) -/

section
variable {s u : State} {c : LopCtx}

theorem exec_sessionOpen {level : Nat} (hlevel : level < 2) (h : s.serving? c 0x20 [byte level, 0#8, 0#8, 0#8] = some u) :
    exec (.sessionOpen c level) s = .next (u.svcSessionOpen c level) := by
  have h0 : getLE [byte level, 0#8, 0#8, 0#8] 0 1 = level := leNat_byte (by omega)
  show Host.Outcome.next (s.arrive _ _ _) = _
  rw [State.arrive_served h (by decide), State.service_sessionOpen (State.serving_payload h), h0]

theorem exec_sessionProve {mac : List Byte} (h : s.serving? c 0x21 mac = some u) :
    exec (.sessionProve c mac) s = .next (u.svcSessionProve c mac) := by
  show Host.Outcome.next (s.arrive _ _ _) = _
  rw [State.arrive_served h (by decide), State.service_sessionProve (State.serving_payload h)]

theorem exec_sessionClose (h : s.serving? c 0x22 [] = some u) : exec (.sessionClose c) s = .next (u.svcSessionClose c) := by
  show Host.Outcome.next (s.arrive _ _ _) = _
  rw [State.arrive_served h (by decide), State.service_sessionClose (State.serving_payload h)]

end

section
variable {s : State} {c : LopCtx}

theorem State.svcSessionOpen_plain {level : Nat} (hlevel : level < 2) (hpf1 : s.fromPf1 c = false) (hroom : s.lop.sessions.length < 16) :
    s.svcSessionOpen c level = s.grantSession c (if level = 0 then lvlObserver else lvlOperator) none := by
  unfold State.svcSessionOpen
  dsimp only
  rw [if_neg (by omega), if_neg (by rw [hpf1]; exact Bool.false_ne_true), if_neg (by omega), if_neg (by omega), if_neg (by omega), if_pos hlevel]

/-- A session that is granted is bound to the way its request came. -/
theorem State.grantSession_find (s : State) (c : LopCtx) (level : Nat) :
    Tbl.find? (s.grantSession c level none).lop.sessions s.freeSession
      = some { level := level, via := c.via, nonce := none, lastAt := s.now } := by
  unfold State.grantSession
  rw [State.reply_sessions]
  exact Tbl.find?_set_self _ _ _

variable {mac n : List Byte} {x : Session} (hx : s.session? c = some x)
include hx

theorem State.svcSessionProve_good (hn : x.nonce = some n) (hlen : mac.length = 48)
    (hmac : mac = Config.hmac384 (s.cfgBytes 0x1420 5) (n ++ leBytes 4 c.session)) :
    s.svcSessionProve c mac =
      State.reply { s with lop := { s.lop with sessions := Tbl.set s.lop.sessions c.session { x with nonce := none } } } c 0x21 abOk [] := by
  unfold State.svcSessionProve
  rw [if_neg (not_not.2 hlen), hx]
  dsimp only
  rw [hn]
  exact if_pos hmac

/-- A proof that fails is noted, and its session closes. -/
theorem State.svcSessionProve_bad (hn : x.nonce = some n) (hlen : mac.length = 48)
    (hmac : mac ≠ Config.hmac384 (s.cfgBytes 0x1420 5) (n ++ leBytes 4 c.session)) :
    ∃ l, s.svcSessionProve c mac = (State.closeSession { s.reply c 0x21 abProofFailed [] with
      lop := { (s.reply c 0x21 abProofFailed []).lop with proofFails := l } } c.session).raise .lopProofFailed := by
  unfold State.svcSessionProve
  rw [if_neg (not_not.2 hlen), hx]
  dsimp only
  rw [hn]
  exact ⟨_, if_neg hmac⟩

theorem State.svcSessionClose_own : s.svcSessionClose c = (s.reply c 0x22 abOk []).closeSession c.session := by
  unfold State.svcSessionClose
  rw [hx]

end

section
variable {s : State}

theorem exec_sessionTimeout {id : Nat} {x : Session} (hx : Tbl.find? s.lop.sessions id = some x) (hcore : s.coreUp 1 = true)
    (hold : s.sessionExpired x = true) : exec (.sessionTimeout id) s = .next (s.closeSession id) := by
  show execSessionTimeout id s = _
  unfold execSessionTimeout
  rw [hx]
  exact congrArg Host.Outcome.next (if_pos (by rw [hcore, hold]; rfl))

variable (hfree : s.lopFree = true) (hport : s.cfg 0x1410 1 ≠ 0)
include hfree hport

theorem exec_dtls_established {a ip port : Nat} {ok : Bool} (hroom : s.lop.assocs.length < 8)
    (hnew : s.lop.assocs.any (fun y => y.1 == a) = false) (hcert : ok = true ∨ s.cfgBool 0x1420 2 = false) :
    exec (.dtlsHandshake (.established a ip port ok)) s = .next { s with
      lop := { s.lop with assocs := s.lop.assocs ++ [(a, ip, port)] }, fab := { s.fab with ethLink := true } } := by
  have hgood : (s.cfgBool 0x1420 2 && !ok) = false := by obtain h | h := hcert <;> simp [h]
  refine congrArg Host.Outcome.next ((if_neg ?_).trans (if_neg ?_))
  · rw [hfree, beq_false_of_ne hport]; decide
  · rw [hnew, hgood, decide_eq_false (by omega)]; decide

theorem exec_dtls_ended (a : Nat) :
    exec (.dtlsHandshake (.ended a)) s = .next (State.forEach
      { s with lop := { s.lop with assocs := s.lop.assocs.filter (fun x => x.1 != a) } } (s.sessionsOn a) (fun s i => s.closeSession i)) := by
  refine congrArg Host.Outcome.next (if_neg ?_)
  rw [hfree, beq_false_of_ne hport]; decide

end

/-- Settles O39, service by service. -/
theorem lopSessionsLive : Obligations.LopSessionsLive := by
  intro s u c
  refine ⟨?opens, ?prove, ?close, ?timeout, ?established, ?ended⟩
  case opens =>
    intro level hlevel h hpf1 hroom
    refine ⟨_, u.freeSession, { level := if level = 0 then lvlObserver else lvlOperator, via := c.via, nonce := none, lastAt := u.now },
      exec_sessionOpen hlevel h, ?_⟩
    rw [State.svcSessionOpen_plain hlevel hpf1 hroom]
    refine ⟨u.grantSession_find c _, rfl, rfl, rfl, ?_, ?_⟩
    · unfold State.grantSession
      exact State.reply_answered ..
    · unfold State.grantSession
      exact (State.reply_dict ..).trans (State.serving_same h).dict
  case prove =>
    intro mac x n h hx hn hlen
    have hdict := (State.serving_same h).dict
    refine ⟨_, exec_sessionProve h, ?_, fun hmac => ?_, fun hmac => ?_⟩
    · by_cases hmac : mac = Config.hmac384 (u.cfgBytes 0x1420 5) (n ++ leBytes 4 c.session)
      · rw [State.svcSessionProve_good hx hn hlen hmac]
        exact (State.reply_dict ..).trans hdict
      · obtain ⟨l, e⟩ := State.svcSessionProve_bad hx hn hlen hmac
        rw [e, State.raise_dict, State.closeSession_dict]
        exact (State.reply_dict ..).trans hdict
    · rw [State.svcSessionProve_good hx hn hlen hmac, State.reply_sessions]
      exact ⟨Tbl.find?_set_self _ _ _, State.reply_answered ..⟩
    · obtain ⟨l, e⟩ := State.svcSessionProve_bad hx hn hlen hmac
      rw [e, State.answered, State.raise_lop]
      obtain ⟨hsessions, hresp, -⟩ := State.closeSession_lop { u.reply c 0x21 abProofFailed [] with
        lop := { (u.reply c 0x21 abProofFailed []).lop with proofFails := l } } c.session
      rw [hsessions, hresp]
      exact ⟨congrArg (fun t : Tbl Session => Tbl.erase t c.session) (State.reply_sessions ..), State.reply_answered ..⟩
  case close =>
    intro x h hx
    refine ⟨_, exec_sessionClose h, ?_⟩
    obtain ⟨hsessions, hresp, -⟩ := (u.reply c 0x22 abOk []).closeSession_lop c.session
    rw [State.svcSessionClose_own hx, hsessions, State.reply_sessions, State.closeSession_dict]
    exact ⟨rfl, hresp.trans (State.reply_answered ..), (State.reply_dict ..).trans (State.serving_same h).dict⟩
  case timeout =>
    intro id x hx hcore hold
    exact ⟨_, exec_sessionTimeout hx hcore hold, (s.closeSession_lop id).1, s.closeSession_dict id, (State.closeSession_kept (.refl s)).mem_eq⟩
  case established => exact fun a ip port ok hfree hport hroom hnew hcert => ⟨_, exec_dtls_established hfree hport hroom hnew hcert, rfl, rfl⟩
  case ended =>
    intro a hfree hport
    refine ⟨_, exec_dtls_ended hfree hport a, ?_, ?_⟩
    · exact (State.forEach_reading (·.lop.assocs) (fun t n => (t.closeSession_lop n).2.2) _ _).trans rfl
    · exact (State.forEach_reading (·.dict) (fun t n => t.closeSession_dict n) _ _).trans rfl

end Sys2Proof.Machine
end

section
/-!
PROOFS. Reset, start-up and recovery (17_power_life_spares.md, R426; 18_start_up.md, R438 to R443, R451 to R453; 19_package_and_pins.md,
R470, R472; 20_electrical.md, R484).
-/

namespace Sys2Proof.Machine

/-! ## Entry into RESET (R439, R440) -/

/-- What holds of a device that a reset has put into RESET, whatever the cause (R439). -/
def State.FreshAfter (s : State) (cause : Nat) (t : State) : Prop :=
  t.sys.mode = .reset ∧ t.boot.lastCause = cause ∧ t.que = State.reset.que ∧ t.src = State.reset.src
    ∧ t.heads = State.reset.heads ∧ t.mem.wins = [] ∧ t.mem.dev = [] ∧ t.mem.host = s.mem.host ∧ t.siph = State.reset.siph
    ∧ t.dict.bankA = s.dict.bankA ∧ t.dict.bankB = s.dict.bankB ∧ t.dict.base = []

/-- Outside RESET a reset is `resetAll`, whether firmware could save the health record or not. -/
theorem State.enterReset_eq {s : State} (h : s.sys.mode ≠ .reset) (cause : Nat) :
    ∃ x, s.enterReset cause = State.resetAll { s with health := x } cause := by
  unfold State.enterReset
  rw [if_neg h]
  split <;> exact ⟨_, rfl⟩

theorem State.resetAll_fresh (s : State) (cause : Nat) : s.FreshAfter cause (s.resetAll cause) :=
  ⟨rfl, rfl, rfl, rfl, rfl, rfl, rfl, rfl, rfl, rfl, rfl, rfl⟩

theorem State.resetAll_resets {cause : Nat} (h : cause ≠ 1) (s : State) : (s.resetAll cause).boot.resets = satInc 32 s.boot.resets :=
  if_neg h

theorem State.enterReset_fresh {s : State} (h : s.sys.mode ≠ .reset) (cause : Nat) : s.FreshAfter cause (s.enterReset cause) := by
  obtain ⟨x, e⟩ := State.enterReset_eq h cause
  rw [e]
  exact State.resetAll_fresh { s with health := x } cause

theorem State.enterReset_resets {s : State} (h : s.sys.mode ≠ .reset) {cause : Nat} (hc : cause ≠ 1) :
    (s.enterReset cause).boot.resets = satInc 32 s.boot.resets := by
  obtain ⟨x, e⟩ := State.enterReset_eq h cause
  rw [e]
  exact State.resetAll_resets hc _

/-- A power-on reset counts the resets anew. -/
theorem State.powerOn_fresh {s : State} (h : s.sys.mode ≠ .reset) : s.FreshAfter 1 s.powerOn ∧ s.powerOn.boot.resets = 0 := by
  obtain ⟨x, e⟩ := State.enterReset_eq h 1
  unfold State.powerOn
  rw [if_neg h, e]
  exact ⟨State.resetAll_fresh { s with health := x } 1, rfl⟩

theorem exec_thermalTrip {s : State} (h : s.sys.mode ≠ .reset) {d : Nat} (hsince : s.lamp.tripSince = some d) (hd : d + 1000000 ≤ s.now) :
    ∃ t, exec .thermalTrip s = .next t ∧ s.FreshAfter 5 t ∧ t.sys.tripped = true := by
  refine ⟨_, rfl, ?_⟩
  rw [hsince]
  dsimp only
  rw [if_neg (Nat.not_lt.2 hd)]
  exact ⟨State.enterReset_fresh h 5, rfl⟩

/-- A test input holds the device in RESET, and the record of resets stays (R470, R472). -/
theorem State.holdReset_eq {s : State} (h : s.sys.mode ≠ .reset) :
    s.holdReset.sys.mode = .reset ∧ s.holdReset.boot.lastCause = s.boot.lastCause ∧ s.holdReset.boot.resets = s.boot.resets
      ∧ s.holdReset.que = State.reset.que ∧ s.holdReset.mem.host = s.mem.host := by
  unfold State.holdReset
  rw [if_neg h]
  exact ⟨rfl, rfl, rfl, rfl, rfl⟩

/-- Settles O24: every cause of a reset enters RESET by `enterReset`, and a test input by `holdReset`. -/
theorem resetsAndTestInputs : Obligations.ResetsAndTestInputs := by
  refine ⟨?resets, ?inputs⟩
  case resets =>
    intro s fresh hmode
    have hfresh (c : Nat) : fresh (s.enterReset c) c := State.enterReset_fresh hmode c
    have hpower : fresh s.powerOn 1 ∧ s.powerOn.boot.resets = 0 := State.powerOn_fresh hmode
    refine ⟨⟨_, rfl, hpower⟩, ⟨_, rfl, hpower⟩, ?perst, ?due, ?watchdog, fun d => exec_thermalTrip hmode⟩
    case perst =>
      intro hscope
      refine ⟨_, congrArg Host.Outcome.next (if_neg (ne_true_of_eq_false hscope)), hfresh 2, State.enterReset_resets hmode (by decide)⟩
    case due =>
      intro d c hdue hd hc
      refine ⟨s.enterReset c, ?_, hfresh c, State.enterReset_resets hmode hc⟩
      show execDeviceReset s = _
      unfold execDeviceReset
      rw [hdue]
      exact congrArg Host.Outcome.next (if_pos hd)
    case watchdog =>
      intro hboot hrunning hlimit
      exact ⟨_, congrArg Host.Outcome.next (if_pos ⟨hboot, hrunning, hlimit⟩), hfresh 6, State.enterReset_resets hmode (by decide)⟩
  case inputs =>
    intro s hmode
    obtain ⟨hreset, hcause, hresets, hque, hhost⟩ := State.holdReset_eq hmode
    exact ⟨⟨_, rfl, hreset, rfl, hcause, hresets, hque, hhost⟩, ⟨_, rfl, rfl⟩, ⟨_, rfl, hreset, rfl, hcause, hresets, hque, hhost⟩,
      ⟨_, rfl, rfl⟩⟩

/-! ## Confirmation and recovery (R452, R453) -/

theorem State.inRecovery_mode {s : State} {fn : Fn} (h : s.inRecovery fn = true) : s.sys.mode = .boot := by
  unfold State.inRecovery at h
  simp only [Bool.and_eq_true, beq_iff_eq] at h
  obtain ⟨⟨⟨⟨hmode, _⟩, _⟩, _⟩, _⟩ := h
  exact hmode

theorem exec_recoveryFinish {s : State} (h : s.inRecovery .pf0 = true) : ∃ t, exec (.recoveryFinish .pf0) s = .next t
    ∧ (∀ st, imageCheck s.boot.rollback s.boot.keyRevoked s.boot.slotA.bytes = some st →
        t.boot.recovStatus = st.code ∧ t.sys = s.sys ∧ t.boot.active = s.boot.active)
    ∧ (imageCheck s.boot.rollback s.boot.keyRevoked s.boot.slotA.bytes = none →
        t.sys.mode = .reset ∧ t.boot.lastCause = 8 ∧ t.boot.active = 0 ∧ t.boot.trial = none ∧ t.boot.slotA.bytes = s.boot.slotA.bytes) := by
  refine ⟨_, rfl, ?_⟩
  rw [if_neg (by rw [h]; decide)]
  unfold slotChecked
  cases imageCheck s.boot.rollback s.boot.keyRevoked s.boot.slotA.bytes with
  | some st =>
    refine ⟨fun st' e => ?_, fun e => nomatch e⟩
    cases e
    exact ⟨rfl, rfl, rfl⟩
  | none =>
    refine ⟨fun _ e => (nomatch e), fun _ => ?_⟩
    dsimp only
    generalize hslot : ({ state := 1, version := _, security := _, bytes := s.boot.slotA.bytes } : Slot) = slot
    have hmode : s.sys.mode ≠ .reset := by rw [State.inRecovery_mode h]; decide
    generalize hboot : Boot.control _ = b
    obtain ⟨x, e⟩ := State.enterReset_eq (s := { s with boot := b }) hmode 8
    rw [e, ← hboot, ← hslot]
    exact ⟨rfl, rfl, rfl, rfl, rfl⟩

/-- Settles O42, command by command. -/
theorem confirmAndRecovery : Obligations.ConfirmAndRecovery := by
  intro s
  refine ⟨?confirm, fun h => ⟨?start, ?chunk, ?short, exec_recoveryFinish h⟩⟩
  case confirm =>
    intro k htrial hrunning hcore hend hhalt hupdate hdelay hdue
    obtain ⟨_, _, hboot⟩ := State.confirmImage_boot htrial
    have hon : s.onTrial = true := by
      unfold State.onTrial
      rw [htrial, hrunning]
      exact beq_self_eq_true _
    refine ⟨s.confirmImage, congrArg Host.Outcome.next (if_pos ?_), by rw [hboot], by rw [hboot], by rw [hboot],
      (State.confirmImage_kept (.refl s)).mem_eq, s.confirmImage_dict⟩
    simp [hon, hcore, hend, hhalt, hupdate, hdelay, hdue]
  case start => exact ⟨_, congrArg Host.Outcome.next (if_pos h), rfl, rfl, rfl, rfl, rfl⟩
  case chunk =>
    intro n hn hpos hmax hfits
    refine ⟨_, rfl, ?_⟩
    rw [if_neg (by rw [h]; decide), if_neg (by omega), if_neg (by omega), hn]
    exact ⟨rfl, rfl, rfl, rfl, rfl⟩
  case short =>
    intro hlen
    refine ⟨_, rfl, ?_⟩
    rw [if_neg (by rw [h]; decide), if_pos hlen]
    exact ⟨rfl, rfl⟩

end Sys2Proof.Machine

end

section
/-!
PROOFS. The boot's begin and end (18_start_up.md, R438, R441 to R443, R451, R453; 13_modes_and_overlays.md, R344).
-/

namespace Sys2Proof.Machine

/-! ## The boot begins (R438, R451, R453) -/

theorem Boot.choose_straps (b : Boot) : b.choose.1.straps = b.straps := by
  have htry : b.tryTrial.1.straps = b.straps := by
    have hfailed (n : Nat) (v : Bool) : (b.setFailed n v).straps = b.straps := by
      unfold Boot.setFailed
      split <;> rfl
    unfold Boot.tryTrial
    split
    · rfl
    · split
      · exact hfailed _ _
      · split
        · rfl
        · exact hfailed _ _
  unfold Boot.choose
  split
  next h => rw [h] at htry; exact htry
  next h =>
    rw [h] at htry
    split
    · exact htry
    · split <;> exact htry

/-- With nothing on trial the ACTIVE image launches. -/
theorem Boot.choose_active {b : Boot} (htrial : b.trial = none) (hattempts : b.attempts < 3) (hvalid : b.slotValid b.active = true) :
    b.choose = (b.launch b.active false, true) := by
  have htry : b.tryTrial = (b, false, none) := by
    unfold Boot.tryTrial
    rw [htrial]
  unfold Boot.choose
  rw [htry]
  exact if_pos (by rw [hvalid, decide_eq_true hattempts]; rfl)

/-- An image on trial that is valid launches. -/
theorem Boot.choose_trial {b : Boot} {k : Nat} (htrial : b.trial = some k) (hattempts : b.attempts < 3) (hvalid : b.slotValid k = true) :
    b.choose = (b.launch k false, true) := by
  have htry : b.tryTrial = (b, false, some k) := by
    unfold Boot.tryTrial
    rw [htrial]
    dsimp only
    rw [if_neg (Nat.not_le.2 hattempts), if_pos hvalid]
  unfold Boot.choose
  rw [htry]

theorem Boot.launch_attempts {b : Boot} (h : b.attempts < 3) (n : Nat) (fell : Bool) : (b.launch n fell).attempts = b.attempts + 1 :=
  Nat.min_eq_right h

/-- The boot's state as the ROM finds it at the release of reset. -/
def Boot.released (b : Boot) (straps : Nat) : Boot := { b with straps := straps, releaseAt := 0, watchdog := true, bootFault := 0 }

/-- What the ROM makes of it: recovery where it is asked for or no image can launch, and an image that launches otherwise. -/
def Boot.begun (b : Boot) (recover : Bool) : Boot :=
  if recover then b.recover
  else match b.choose with
    | (b, true) => b
    | (b, false) => b.recover

theorem Boot.begun_straps (b : Boot) (recover : Bool) : (b.begun recover).straps = b.straps := by
  unfold Boot.begun
  split
  · rfl
  · have h := b.choose_straps
    split
    next e => rw [e] at h; exact h
    next e => rw [e] at h; exact h

theorem Boot.begun_launch {b c : Boot} (h : b.choose = (c, true)) : b.begun false = c := by
  unfold Boot.begun
  rw [if_neg Bool.false_ne_true, h]

theorem exec_resetRelease {s : State} (hmode : s.sys.mode = .reset) (htest : s.sys.testEn = false) (hextest : s.sys.extest = false)
    (htripped : s.sys.tripped = false) (x : StrapBalls) :
    exec (.resetRelease x) s = .next { s with boot := (s.boot.released (StrapBalls.value x)).begun x.recover,
                                              sys := { s.sys with wall := 0, frac := 0, mode := .boot, working := .boot } } :=
  congrArg Host.Outcome.next (if_neg (by simp [hmode, htest, hextest, htripped]))

/-! ## What the boot watches (R442, R443)

Events, galleries and heads leave the watchdog and the fault of the boot as they are. -/

/-- Whether the boot's watchdog runs, and the fault that the boot met. -/
def State.bootWatch (s : State) : Bool × Nat := (s.boot.watchdog, s.boot.bootFault)

theorem State.bootWatch_of_boot {s t : State} (h : t.boot = s.boot) : t.bootWatch = s.bootWatch := by
  unfold State.bootWatch
  rw [h]

theorem State.raiseNum_bootWatch (s : State) (i : Nat) : (s.raiseNum i).bootWatch = s.bootWatch := by
  unfold State.raiseNum
  split
  · rfl
  split
  · exact State.bootWatch_of_boot (State.occur_kept (.refl s)).boot_eq
  · rfl

theorem State.raise_bootWatch (s : State) (e : DevEvent) : (s.raise e).bootWatch = s.bootWatch := s.raiseNum_bootWatch e.num

theorem State.noteMask_bootWatch (s : State) : s.noteMask.bootWatch = s.bootWatch := by
  unfold State.noteMask
  dsimp only
  split
  · rfl
  · exact State.raise_bootWatch _ _

theorem State.noteReplacement_bootWatch (s : State) : s.noteReplacement.bootWatch = s.bootWatch := by
  unfold State.noteReplacement
  dsimp only
  split
  · rfl
  · exact State.raise_bootWatch _ _

theorem State.noteConditions_bootWatch (s : State) : s.noteConditions.bootWatch = s.bootWatch := by
  unfold State.noteConditions
  extract_lets c old sys noted told
  refine (State.noteReplacement_bootWatch told).trans ?_
  dsimp only [told]
  split
  · exact State.raise_bootWatch _ _
  · rfl

theorem State.leaveService_bootWatch (s : State) (g : Nat) : (s.leaveService g).bootWatch = s.bootWatch := by
  unfold State.leaveService
  extract_lets q t
  have hloop := State.forEach_reading State.bootWatch
    (fun u (p : Nat × Band) => State.bootWatch_of_boot (State.assignBand_kept (a1 := p.1) (a2 := { p.2 with galLeft := true }) (.refl u)).boot_eq) q t
  have hkept : t.boot = s.boot := (State.keepOneGallery_kept (.refl _)).boot_eq
  exact (State.noteMask_bootWatch _).trans (hloop.trans (State.bootWatch_of_boot hkept))

theorem State.applyExclude_bootWatch (s : State) : s.applyExclude.bootWatch = s.bootWatch := by
  unfold State.applyExclude
  extract_lets m old newly marked left masked
  have hmarked : marked.bootWatch = s.bootWatch := State.forEach_reading State.bootWatch (fun u g => by dsimp only; split <;> rfl) _ s
  have hleft : left.bootWatch = marked.bootWatch := State.forEach_reading State.bootWatch State.leaveService_bootWatch newly marked
  have hmasked : masked.bootWatch = s.bootWatch := (State.noteMask_bootWatch left).trans (hleft.trans hmarked)
  split
  · exact hmasked
  · exact (State.bootWatch_of_boot (State.noteEngines_kept (State.recheckDue_kept (.refl masked))).boot_eq).trans hmasked

/-! ### A head that is composed anew -/

theorem State.checkFetches_bootWatch (s : State) (h : Nat) (a : Area) (b : Nat) (two : Bool) (l : List (Use × LayerDec)) :
    (s.checkFetches h a b two l).1.bootWatch = s.bootWatch := by
  unfold State.checkFetches
  refine List.foldlRecOn l _ (motive := fun (acc : State × List LayerDec) => acc.1.bootWatch = s.bootWatch) rfl fun acc hacc p _ => ?_
  obtain ⟨u, d⟩ := p
  dsimp only
  split
  · exact hacc
  · split
    · exact hacc
    · exact (State.raiseNum_bootWatch _ _).trans hacc

theorem State.prepareBand_bootWatch (s : State) (h frame b start : Nat) (st : HState) :
    (s.prepareBand h frame b start st).1.bootWatch = s.bootWatch := by
  unfold State.prepareBand
  dsimp only
  split
  · rfl
  · exact State.checkFetches_bootWatch _ _ _ _ _ _

theorem State.composeBand_bootWatch (s : State) (h frame b start : Nat) (st : HState) (again : Bool) :
    (s.composeBand h frame b start st again).bootWatch = s.bootWatch := by
  have hprepared := s.prepareBand_bootWatch h frame b start st
  unfold State.composeBand
  generalize s.prepareBand h frame b start st = p at hprepared
  obtain ⟨t, y⟩ := p
  rw [← hprepared]
  refine (State.bootWatch_of_boot (State.assignBand_kept (.refl _)).boot_eq).trans ?_
  dsimp only
  split <;> rfl

theorem State.recompose_bootWatch (s : State) (h frame start : Nat) (new : HState) :
    (s.recompose h frame start new).bootWatch = s.bootWatch := by
  unfold State.recompose
  extract_lets n _ _ dropped cleared
  split
  · rfl
  · exact (State.forEach_reading State.bootWatch (fun t b => t.composeBand_bootWatch h frame b start new true) _ _).trans rfl

theorem State.followCall_bootWatch (s : State) (h : Nat) : (s.followCall h).bootWatch = s.bootWatch := by
  unfold State.followCall
  extract_lets x new
  split
  · rfl
  · exact s.recompose_bootWatch h _ _ new

theorem State.callHead_bootWatch (s : State) (h : Nat) (f : Head → Head) : (s.callHead h f).bootWatch = s.bootWatch := by
  unfold State.callHead
  extract_lets t
  split
  · exact (State.followCall_bootWatch _ _).trans (t.followCall_bootWatch _)
  · exact t.followCall_bootWatch h

theorem State.checkHead_bootWatch (s : State) (h : Nat) : (s.checkHead h).1.bootWatch = s.bootWatch := by
  unfold State.checkHead
  dsimp only
  split
  · rfl
  · exact State.raiseNum_bootWatch _ _

theorem State.enterMode_bootWatch (s : State) (retimed : List Nat) (h : Nat) : (s.enterMode retimed h).bootWatch = s.bootWatch := by
  have hchecked : (if s.modeState h = .off then (s, true) else s.checkHead h).1.bootWatch = s.bootWatch := by
    split
    · rfl
    · exact s.checkHead_bootWatch h
  unfold State.enterMode
  extract_lets want
  generalize (if want = .off then (s, true) else s.checkHead h) = p at hchecked ⊢
  obtain ⟨t, ok⟩ := p
  rw [← hchecked]
  have hstarted (w : HState) : (if w = .off then t else t.startHead h w).bootWatch = t.bootWatch := by
    split
    · rfl
    · exact State.bootWatch_of_boot (State.startHead_kept (.refl t)).boot_eq
  dsimp only
  generalize (if ok then want else HState.off) = w
  split
  · exact hstarted w
  · exact t.callHead_bootWatch h _

/-- A boundary that leaves BOOT. -/
theorem State.passBoundary_bootWatch {s : State} (hmode : s.sys.mode = .boot) (t : Mode) (cause : Nat) :
    (s.passBoundary t cause).bootWatch = s.bootWatch := by
  unfold State.passBoundary
  extract_lets from_ entries retimed sys passed told excluded boot timed heads left
  have hfrom : from_ = .boot := hmode
  have hpassed : passed.bootWatch = s.bootWatch := State.bootWatch_of_boot (State.entriesFor_kept (.refl s)).boot_eq
  have htold : told.bootWatch = passed.bootWatch := State.raise_bootWatch _ _
  have hexcluded : excluded.bootWatch = told.bootWatch := by
    dsimp only [excluded]
    split
    · rfl
    · exact told.applyExclude_bootWatch
  have htimed : timed = excluded := by
    dsimp only [timed]
    rw [hfrom]
    exact if_neg (by decide)
  have hheads : heads.bootWatch = timed.bootWatch := State.forEach_reading State.bootWatch (fun u h => u.enterMode_bootWatch retimed h) _ timed
  have hleft : left = heads := by
    dsimp only [left]
    rw [hfrom]
    rfl
  rw [State.noteConditions_bootWatch, hleft, hheads, htimed, hexcluded, htold, hpassed]

/-! ## FWREADY (R441, R443) -/

/-- The self-test of a boot that finds nothing. -/
def SelfTest.clean : SelfTest := { engines := [], galleries := [], echo := false, blitUnits := [], granules := [] }

/-- A step of the boot leaves the mode, what the boot watches, the memory and the rings. -/
structure State.BootsOn (s t : State) : Prop where
  mode : t.sys.mode = s.sys.mode
  watch : t.bootWatch = s.bootWatch
  mem : t.mem = s.mem
  que : t.que = s.que

theorem State.BootsOn.refl (s : State) : s.BootsOn s := ⟨rfl, rfl, rfl, rfl⟩

theorem State.BootsOn.trans {s t u : State} (h : s.BootsOn t) (k : t.BootsOn u) : s.BootsOn u :=
  ⟨k.mode.trans h.mode, k.watch.trans h.watch, k.mem.trans h.mem, k.que.trans h.que⟩

theorem State.bootsOn_raise (s : State) (e : DevEvent) : s.BootsOn (s.raise e) :=
  ⟨congrArg Sys.mode (State.raise_sys s e), s.raise_bootWatch e, State.raise_mem s e, (State.raise_kept (.refl s)).que_eq⟩

theorem State.bootsOn_loadDictionary (s : State) : s.BootsOn s.loadDictionary :=
  ⟨congrArg Sys.mode (State.loadDictionary_kept (.refl s)).sys_eq, State.bootWatch_of_boot (State.loadDictionary_kept (.refl s)).boot_eq,
    (State.loadDictionary_kept (.refl s)).mem_eq, (State.loadDictionary_kept (.refl s)).que_eq⟩

theorem State.bootsOn_noteEngines (s : State) : s.BootsOn s.noteEngines := ⟨rfl, rfl, rfl, rfl⟩

theorem State.selfTest_clean (s : State) : s.selfTest SelfTest.clean = s := rfl

theorem State.bootsOn_noteConditions (s : State) : s.BootsOn s.noteConditions :=
  ⟨by rw [s.noteConditions_sys], s.noteConditions_bootWatch, (State.noteConditions_kept (.refl s)).mem_eq,
    (State.noteConditions_kept (.refl s)).que_eq⟩

theorem State.setFwReady_sys (s : State) : s.setFwReady.sys = { s.sys with fwReady := true } :=
  State.forEach_reading State.sys (fun u _ => (State.occur_kept (.refl u)).sys_eq) _ _

theorem State.bootsOn_setFwReady (s : State) : s.BootsOn s.setFwReady :=
  ⟨by rw [s.setFwReady_sys],
    State.forEach_reading State.bootWatch (fun u _ => State.bootWatch_of_boot (State.occur_kept (.refl u)).boot_eq) _ _,
    (State.setFwReady_kept (.refl s)).mem_eq, (State.setFwReady_kept (.refl s)).que_eq⟩

theorem State.bootsOn_sparesLevel (s : State) : s.BootsOn s.sparesLevel :=
  ⟨by rw [s.sparesLevel_sys], State.bootWatch_of_boot s.sparesLevel_boot, s.sparesLevel_mem, (State.sparesLevel_kept (.refl s)).que_eq⟩

theorem exec_fwReady_runs {s : State} (hmode : s.sys.mode = .boot) (hfault : s.boot.bootFault = 0) (hready : s.sys.fwReady = false) :
    ∃ t, exec (.fwReady .runs SelfTest.clean) s = .next t ∧ t.sys.fwReady = true ∧ s.BootsOn t := by
  refine ⟨_, congrArg Host.Outcome.next (if_neg (by simp [hmode, hfault, hready])), ?_⟩
  extract_lets loaded noted ready told
  have hloaded : s.BootsOn loaded := by
    dsimp only [loaded]
    split
    · exact .refl s
    · exact s.bootsOn_loadDictionary
  have hnoted : loaded.BootsOn noted := by
    dsimp only [noted]
    rw [State.selfTest_clean]
    exact loaded.bootsOn_noteEngines.trans (State.bootsOn_noteConditions _)
  have hset : noted.BootsOn ready := noted.bootsOn_setFwReady.trans (State.bootsOn_sparesLevel _)
  have hup : ready.sys.fwReady = true := by
    dsimp only [ready]
    rw [State.sparesLevel_sys, State.setFwReady_sys]
  have htold : ready.BootsOn told ∧ told.sys = ready.sys := by
    dsimp only [told]
    split
    · exact ⟨State.bootsOn_raise _ _, State.raise_sys _ _⟩
    · exact ⟨.refl ready, rfl⟩
  obtain ⟨hon, hsys⟩ := htold
  rw [show SelfTest.failed SelfTest.clean = false from rfl, if_neg Bool.false_ne_true]
  refine ⟨by rw [hsys, hup], ?_⟩
  exact hloaded.trans (hnoted.trans (hset.trans hon))

/-! ## The end of the boot (R344, R442) -/

/-- Outside RESET and BOOT, with firmware and a gallery, the mode that firmware works towards is the mode in force unless it is OPERATE. -/
theorem State.deriveMode_of_working {s : State} (hreset : s.sys.working ≠ .reset) (hboot : s.sys.working ≠ .boot)
    (hoperate : s.sys.working ≠ .operate) (hcores : s.bothCoresRetired = false) (hgals : s.noGallery = false) :
    s.deriveMode = s.sys.working := by
  unfold State.deriveMode State.haltCondition
  simp [hreset, hboot, hoperate, hcores, hgals]

theorem State.bootMode_cases (s : State) : s.bootMode = .configure ∨ s.bootMode = .standby := by
  unfold State.bootMode
  split
  · exact .inl rfl
  · exact .inr rfl

theorem State.bootMode_of_dict {s t : State} (h : t.dict = s.dict) : t.bootMode = s.bootMode := by
  unfold State.bootMode
  rw [State.cfg_of_dict h, h]

/-- The galleries in service take the coefficient sets in force (R138). -/
def State.takeSets (s : State) (n : Nat) : State :=
  s.forEach s.galsInService (fun s g => s.modGallery g (fun x => { x with coefLoaded := n }))

theorem State.takeSets_reading {β : Type} (p : State → β) (hp : ∀ s g n, p (s.modGallery g (fun x => { x with coefLoaded := n })) = p s)
    (s : State) (n : Nat) : p (s.takeSets n) = p s :=
  State.forEach_reading p (fun s g => hp s g n) _ s

theorem State.takeSets_sys (s : State) (n : Nat) : (s.takeSets n).sys = s.sys := State.takeSets_reading State.sys (fun _ _ _ => rfl) s n
theorem State.takeSets_dict (s : State) (n : Nat) : (s.takeSets n).dict = s.dict := State.takeSets_reading State.dict (fun _ _ _ => rfl) s n

/-- No gallery retires by it. -/
theorem State.takeSets_noGallery (s : State) (n : Nat) : (s.takeSets n).noGallery = s.noGallery := by
  have h := State.takeSets_reading (fun t (j : Nat) => (t.gallery j).retired) (fun t g n => funext fun j => ?_) s n
  · exact congrArg (List.all (List.range 12)) h
  · by_cases e : j = g
    · rw [e, State.gallery_modGallery_self]
    · rw [State.gallery_modGallery_ne t _ e]

theorem State.countTrip_sys (s : State) : s.countTrip.sys = s.sys := (State.countTrip_kept (.refl s)).sys_eq

theorem State.countTrip_bootWatch (s : State) : s.countTrip.bootWatch = s.bootWatch := by
  unfold State.countTrip
  split
  · rfl
  · refine (State.bootWatch_of_boot (State.healthDue_kept (.refl _)).boot_eq).trans ?_
    exact (State.noteReplacement_bootWatch _).trans (State.raise_bootWatch _ _)

theorem exec_bootEnd {s : State} (hmode : s.sys.mode = .boot) (hfault : s.boot.bootFault = 0) (hready : s.sys.fwReady = true)
    (hcore : s.coreUp 1 = true) (hcores : s.bothCoresRetired = false) (hgals : s.noGallery = false) :
    ∃ t, exec .bootEnd s = .next t ∧ t.sys.mode = s.bootMode ∧ t.sys.working = t.sys.mode ∧ t.boot.watchdog = false ∧ t.sys.lastCause = 2 := by
  refine ⟨_, congrArg Host.Outcome.next (if_neg (by simp [hmode, hfault, hready, hcore])), ?_⟩
  extract_lets unplanned health planned sets loaded trial before timed control sys fab ended passed told
  have hsys : loaded.sys = s.sys := planned.takeSets_sys sets
  have hdict : loaded.dict = s.dict := planned.takeSets_dict sets
  have hloaded : loaded.noGallery = false := (planned.takeSets_noGallery sets).trans hgals
  have hwatch : control.watchdog = false := by
    dsimp only [control]
    split <;> rfl
  have hworking : ended.sys.working = s.bootMode := State.bootMode_of_dict hdict
  have hboot : ended.sys.mode = .boot := (congrArg Sys.mode hsys).trans hmode
  have hderive : ended.deriveMode = s.bootMode := by
    rw [← hworking]
    have hcores' : ended.bothCoresRetired = false := by
      show (loaded.sys.cores.1.retired && loaded.sys.cores.2.retired) = false
      rw [hsys]
      exact hcores
    have hmodes : s.bootMode ≠ .reset ∧ s.bootMode ≠ .boot ∧ s.bootMode ≠ .operate := by
      rcases s.bootMode_cases with h | h <;> rw [h] <;> decide
    rw [← hworking] at hmodes
    obtain ⟨hreset, hnotBoot, hoperate⟩ := hmodes
    exact State.deriveMode_of_working hreset hnotBoot hoperate hcores' hloaded
  obtain ⟨n, hpassed⟩ := ended.passBoundary_sys ended.deriveMode 2
  have htold : (if trial then told.raise .imageTrial else told).sys = passed.sys
      ∧ (if trial then told.raise .imageTrial else told).bootWatch = passed.bootWatch := by
    split
    · exact ⟨(State.raise_sys _ _).trans (State.raise_sys _ _), (State.raise_bootWatch _ _).trans (State.raise_bootWatch _ _)⟩
    · exact ⟨State.raise_sys _ _, State.raise_bootWatch _ _⟩
  obtain ⟨htoldSys, htoldWatch⟩ := htold
  have hoff : passed.bootWatch = (false, ended.boot.bootFault) :=
    (State.passBoundary_bootWatch hboot _ _).trans (congrArg (·, ended.boot.bootFault) hwatch)
  rw [State.countTrip_sys, htoldSys, hpassed]
  exact ⟨hderive, hworking.trans hderive.symm,
    congrArg Prod.fst ((State.countTrip_bootWatch _).trans (htoldWatch.trans hoff)), rfl⟩

/-- Settles O26: the release by what the ROM chooses, FWREADY by the boot's steps, and the boot's end by the boundary that it passes. -/
theorem bootBeginsAndEnds : Obligations.BootBeginsAndEnds := by
  refine ⟨?release, ?boots⟩
  case release =>
    intro s x hmode htest hextest htripped
    refine ⟨_, exec_resetRelease hmode htest hextest htripped x, rfl, rfl, rfl, Boot.begun_straps _ _, rfl, rfl, rfl, ?recover, ?active, ?trial⟩
    case recover =>
      intro h
      rw [h]
      exact ⟨rfl, rfl⟩
    case active =>
      intro h htrial hattempts hvalid
      have hbegun : (s.boot.released (StrapBalls.value x)).begun x.recover = (s.boot.released (StrapBalls.value x)).launch s.boot.active false := by
        rw [h]
        exact Boot.begun_launch (Boot.choose_active htrial hattempts hvalid)
      dsimp only
      rw [hbegun]
      exact ⟨rfl, Boot.launch_attempts (b := s.boot.released _) hattempts s.boot.active false, rfl, rfl⟩
    case trial =>
      intro k h htrial hattempts hvalid
      have hbegun : (s.boot.released (StrapBalls.value x)).begun x.recover = (s.boot.released (StrapBalls.value x)).launch k false := by
        rw [h]
        exact Boot.begun_launch (Boot.choose_trial htrial hattempts hvalid)
      dsimp only
      rw [hbegun]
      exact ⟨rfl, Boot.launch_attempts (b := s.boot.released _) hattempts k false, htrial⟩
  case boots =>
    intro s hmode hfault
    refine ⟨fun hready => ⟨?runs, ?fault, ?mismatch⟩, fun hready hcore hcores hgals => exec_bootEnd hmode hfault hready hcore hcores hgals⟩
    case runs =>
      obtain ⟨t, hexec, hup, hon⟩ := exec_fwReady_runs hmode hfault hready
      exact ⟨t, hexec, hup, hon.mode.trans hmode, (congrArg Prod.snd hon.watch).trans hfault, hon.mem, hon.que⟩
    case fault => exact fun st => ⟨_, congrArg Host.Outcome.next (if_neg (by simp [hmode, hfault, hready])), rfl⟩
    case mismatch =>
      intro st
      obtain ⟨hreset, hcause, _⟩ := State.enterReset_fresh (s := s) (by rw [hmode]; decide) 7
      exact ⟨_, congrArg Host.Outcome.next (if_neg (by simp [hmode, hfault, hready])), hreset, hcause⟩

end Sys2Proof.Machine

end

section
/-!
PROOFS. BAR0's registers: how the host reads and writes them, and their parity (15_registers.md, R386 to R394).
-/

namespace Sys2Proof.Machine

/-! ## The ways that a write takes (R387) -/

variable {s : State}

theorem exec_registerWrite {fn : Fn} (hup : s.hostUp fn = true) (o n v : Nat) :
    exec (.registerWrite fn o n v) s = .next (s.writeBar0 fn o n v) :=
  congrArg Host.Outcome.next (if_pos (by rw [hup]; rfl))

/-- Below the dictionary window no offset is one of its buffers'. -/
theorem inWindowBuf_of_lt {o : Nat} (h : o < 0x1000000) (n : Nat) : inWindowBuf o n = false :=
  decide_eq_false (by omega)

theorem State.writeBar0_four {fn : Fn} {o : Nat} (h : o < 0x1000000) (ho : o % 4 = 0) (v : Nat) :
    s.writeBar0 fn o 4 v = s.write4 fn o (v % 2 ^ 32) := by
  unfold State.writeBar0
  rw [inWindowBuf_of_lt h, if_neg (by simp), if_pos ⟨rfl, ho⟩]

theorem State.writeBar0_eight {fn : Fn} {o v : Nat} (h : o < 0x1000000) (ho : o % 8 = 0) (hv : v < 2 ^ 64) :
    s.writeBar0 fn o 8 v = s.write8 fn o v := by
  unfold State.writeBar0
  rw [inWindowBuf_of_lt h, if_neg (by simp), if_neg (by omega), if_pos ⟨by decide, rfl, ho⟩]
  show s.write8 fn (o + 8 * 0) (v / 2 ^ (64 * 0) % 2 ^ 64) = _
  rw [Nat.add_zero, Nat.pow_zero, Nat.div_one, Nat.mod_eq_of_lt hv]

/-- An access of fewer than 4 bytes outside the dictionary's buffers is refused. -/
theorem State.writeBar0_short {fn : Fn} {o n : Nat} (h : o < 0x1000000) (hn : n < 4) (v : Nat) :
    s.writeBar0 fn o n v = s.badAccess := by
  unfold State.writeBar0
  rw [inWindowBuf_of_lt h, if_neg (by simp), if_neg (by omega), if_neg (by omega)]

theorem not_inRecovery_pf1 (s : State) : s.inRecovery .pf1 = false := by
  unfold State.inRecovery
  simp

theorem State.write8_wide {fn : Fn} {o : Nat} (hrecovery : s.inRecovery fn = false) (hwide : isWideRw o = true)
    (hreach : s.wideReach fn o = true) (v : Nat) : s.write8 fn o v = s.writeWide o v := by
  unfold State.write8
  rw [hrecovery, if_neg (by simp), if_pos hwide, if_pos hreach]

theorem State.write8_foreign {fn : Fn} {o : Nat} (hrecovery : s.inRecovery fn = false) (hwide : isWideRw o = true)
    (hreach : s.wideReach fn o = false) (v : Nat) : s.write8 fn o v = s.privIgnore o := by
  unfold State.write8
  rw [hrecovery, if_neg (by simp), if_pos hwide, if_neg (ne_true_of_eq_false hreach)]

/-- The low half of a wide register waits for the high half. -/
theorem State.write4_low {fn : Fn} {o : Nat} (hrecovery : s.inRecovery fn = false) (ho : o % 8 = 0) (hwide : isWideRw o = true)
    (hreach : s.wideReach fn o = true) (v : Nat) :
    s.write4 fn o v = { s with sys := { s.sys with
      heldWrite := (fn, o, v) :: s.sys.heldWrite.filter (fun x => !(x.1 == fn && x.2.1 == o)) } } := by
  have hbase : o / 8 * 8 = o := by omega
  unfold State.write4 State.writeHalf
  dsimp only
  rw [hbase, hrecovery, if_neg (by simp), if_pos hwide, hreach, if_neg (by simp), if_pos ho]

/-! ## A window's base (R217) -/

theorem winOffset_lt (n : Fin 512) : winOffset n < 0x408000 := by
  unfold winOffset
  omega

theorem winOffset_aligned (n : Nat) : winOffset n % 0x20 = 0 := by
  unfold winOffset
  omega

theorem isWideRw_winOffset (n : Fin 512) : isWideRw (winOffset n) = true := by
  have hlow : 0x404000 ≤ winOffset n := Nat.le_add_right _ _
  unfold isWideRw
  rw [winOffset_aligned, decide_eq_true (And.intro hlow (winOffset_lt n))]
  exact Bool.or_true _

theorem State.writeWide_winOffset (n : Fin 512) (v : Nat) :
    s.writeWide (winOffset n) v
      = State.fixParity (s.setWin n { s.win n with hostspace := bit v 63, base := v / 2 ^ 12 % 2 ^ 51 }) (winOffset n) := by
  have hlow : 0x404000 ≤ winOffset n := Nat.le_add_right _ _
  have hindex : (winOffset n - 0x404000) / 0x20 = n := by
    unfold winOffset
    omega
  unfold State.writeWide
  rw [if_neg (by omega), if_neg (by omega), if_neg (by omega)]
  dsimp only
  rw [hindex, if_pos (winOffset_aligned n)]

/-! ## Reads (R386, R390) -/

theorem exec_readClear {fn : Fn} (hup : s.hostUp fn = true) (o n : Nat) : exec (.readClear fn o n) s = .next (s.readBar0 fn o n) :=
  congrArg Host.Outcome.next (if_pos (by rw [hup]; rfl))

theorem State.readBar0_four {fn : Fn} {o : Nat} (h : o < 0x400000) (ho : o % 4 = 0) : s.readBar0 fn o 4 = s.read4 fn o := by
  unfold State.readBar0
  rw [inWindowBuf_of_lt (by omega), if_neg (by simp), if_neg (by omega), if_neg (by omega), if_pos ⟨rfl, ho⟩]

theorem State.readBar0_eight {fn : Fn} {o : Nat} (h : o < 0x400000) (ho : o % 8 = 0) : s.readBar0 fn o 8 = s.read8 fn o := by
  unfold State.readBar0
  rw [inWindowBuf_of_lt (by omega), if_neg (by simp), if_neg (by omega), if_neg (by omega), if_neg (by omega), if_pos ⟨rfl, ho⟩]

theorem State.clearRc_other {o : Nat} (h : rcReg o = false) (fn : Fn) : s.clearRc fn o = s := by
  unfold State.clearRc
  rw [h]
  rfl

/-- The read of a low half answers the word, clears it and moves the function's shadow alone. -/
theorem State.read4_low {fn : Fn} {o : Nat} (ho : o % 8 = 0) :
    ∃ keep, s.read4 fn o = ((s.setShadow fn keep).clearRc fn o).answer (leBytes 4 (s.bar0Word fn o)) := by
  unfold State.read4
  dsimp only
  rw [ho]
  exact ⟨_, rfl⟩

theorem pair_mod (lo hi : Nat) : pair lo hi % 2 ^ 32 = lo % 2 ^ 32 := by
  unfold pair
  omega

/-- A register that holds an RC field shows no other register's snapshot. -/
theorem State.bar0Word_low {fn : Fn} {o : Nat} (halias : aliasOf o = none) (ho : o % 8 = 0) :
    s.bar0Word fn o = s.bar0Raw fn o % 2 ^ 32 := by
  have hbase : o / 8 * 8 = o := by omega
  unfold State.bar0Word
  rw [halias]
  dsimp only
  rw [hbase]
  exact if_pos ho

theorem aliasOf_of_rcReg {o : Nat} (h : rcReg o = true) : aliasOf o = none := by
  unfold aliasOf
  rw [h]
  simp

theorem State.bar0Raw_sys {fn : Fn} (hup : s.hostUp fn = true) (hrecovery : s.inRecovery fn = false) {o : Nat} (h : o < 0x100000) :
    s.bar0Raw fn o = s.sysReg fn o := by
  unfold State.bar0Raw
  rw [hrecovery, hup, if_neg Bool.false_ne_true, if_neg (by simp), if_pos h]

theorem State.bar0Raw_que {fn : Fn} (hup : s.hostUp fn = true) (hrecovery : s.inRecovery fn = false) {o : Nat} (hlow : 0x200000 ≤ o)
    (h : o < 0x300000) : s.bar0Raw fn o = s.queReg fn (o - 0x200000) := by
  unfold State.bar0Raw
  rw [hrecovery, hup, if_neg Bool.false_ne_true, if_neg (by simp), if_neg (by omega), if_neg (by omega), if_pos h]

/-! ### The counters of a ring (R253) -/

/-- The counters of a ring's register of them are cleared. -/
def Ring.clearCounters (r : Ring) : Ring := { r with dbIgnored := 0, consBad := 0 }

/-- The offset of a ring's register of ignored doorbells and bad consumer indices. -/
def ringCounters (q : Nat) : Nat := 0x200038 + 0x1000 * q

theorem rcReg_ringCounters (q : Fin 256) : rcReg (ringCounters q) = true := by
  have hrange : 0x200000 ≤ ringCounters q ∧ ringCounters q < 0x300000 := by
    unfold ringCounters
    omega
  have hpage : ringCounters q % 0x1000 = 0x38 := by
    unfold ringCounters
    omega
  unfold rcReg
  rw [decide_eq_true hrange, hpage]
  simp

theorem State.queReg_ringCounters (q : Fin 256) :
    s.queReg .pf0 (ringCounters q - 0x200000) = (s.ring q).dbIgnored + (s.ring q).consBad * 2 ^ 16 := by
  have hindex : (ringCounters q - 0x200000) / 0x1000 = q := by
    unfold ringCounters
    omega
  have hpage : (ringCounters q - 0x200000) % 0x1000 = 0x38 := by
    unfold ringCounters
    omega
  have hmaps : q.val = 0 → ringCounters q - 0x200000 < 0x400 := by
    unfold ringCounters
    omega
  unfold State.queReg
  dsimp only
  rw [hindex, hpage, if_neg, if_neg, if_neg]
  · rfl
  · omega
  · omega
  · have hq := q.isLt
    simp [State.ringReach, hq]

theorem State.clearRc_ringCounters (q : Fin 256) :
    s.clearRc .pf0 (ringCounters q) = s.modRing q Ring.clearCounters := by
  have hindex : (ringCounters q - 0x200000) / 0x1000 = q := by
    unfold ringCounters
    omega
  have hlow : 0x200038 ≤ ringCounters q := Nat.le_add_right _ _
  have hhigh : ringCounters q < 0x300000 := by
    unfold ringCounters
    omega
  unfold State.clearRc
  rw [rcReg_ringCounters, if_neg (by simp), if_neg (by omega), if_neg (by omega), if_neg (by omega), if_neg (by omega),
    if_neg (by omega), if_pos hhigh]
  dsimp only
  rw [hindex]
  rfl

/-- Settles O22, access by access. -/
theorem registerAccess : Obligations.RegisterAccess := by
  intro s v hv hup hrecovery
  refine ⟨?scratch, ?window, ?foreign, ?low, ?short, ?system, ?ring, ?wide⟩
  case scratch =>
    have hexec : exec (.registerWrite .pf0 0x08 8 v) s = .next (s.writeWide 0x08 v) := by
      rw [exec_registerWrite hup, State.writeBar0_eight (by decide) (by decide) hv, State.write8_wide hrecovery (by decide) rfl]
    exact ⟨_, hexec, rfl, rfl, rfl, rfl⟩
  case window =>
    intro n
    have hoffset := winOffset_lt n
    have haligned := winOffset_aligned n
    have hexec : exec (.registerWrite .pf0 (winOffset n) 8 v) s = .next (s.writeWide (winOffset n) v) := by
      rw [exec_registerWrite hup, State.writeBar0_eight (by omega) (by omega) hv, State.write8_wide hrecovery (isWideRw_winOffset n) rfl]
    rw [State.writeWide_winOffset] at hexec
    exact ⟨_, hexec, State.win_setWin_self _ _ _, fun j hj => State.win_setWin_ne _ _ hj, rfl, rfl⟩
  case foreign =>
    intro n hup1
    have hoffset := winOffset_lt n
    have haligned := winOffset_aligned n
    have hlow : 0x404000 ≤ winOffset n := Nat.le_add_right _ _
    have hreach : s.wideReach .pf1 (winOffset n) = false := by
      unfold State.wideReach
      rw [decide_eq_false (by omega)]
      rfl
    refine ⟨s.privIgnore (winOffset n), ?_, rfl, rfl, rfl, Nat.mod_eq_of_lt (by omega)⟩
    rw [exec_registerWrite hup1, State.writeBar0_eight (by omega) (by omega) hv,
      State.write8_foreign (not_inRecovery_pf1 s) (isWideRw_winOffset n) hreach]
  case low =>
    have hexec : exec (.registerWrite .pf0 0x08 4 (v % 2 ^ 32)) s = .next { s with sys := { s.sys with
        heldWrite := (.pf0, 8, v % 2 ^ 32) :: s.sys.heldWrite.filter (fun x => !(x.1 == .pf0 && x.2.1 == 8)) } } := by
      rw [exec_registerWrite hup, State.writeBar0_four (by decide) (by decide), Nat.mod_mod, State.write4_low hrecovery (by decide) (by decide) rfl]
    exact ⟨_, hexec, rfl, rfl, rfl, rfl⟩
  case short =>
    intro o n ho hn
    exact ⟨_, exec_registerWrite hup o n v, State.writeBar0_short ho hn v⟩
  case system =>
    obtain ⟨keep, hread⟩ := State.read4_low (s := s) (fn := .pf0) (o := 0x20) (by decide)
    have hword : s.bar0Word .pf0 0x20 = (s.sys.privIgnored + s.sys.badAccess * 2 ^ 16) % 2 ^ 32 := by
      rw [State.bar0Word_low (by decide) (by decide), State.bar0Raw_sys hup hrecovery (by decide)]
      exact pair_mod _ _
    have hexec : exec (.readClear .pf0 0x20 4) s = _ := (exec_readClear hup 0x20 4).trans
      (congrArg Host.Outcome.next ((State.readBar0_four (by decide) (by decide)).trans hread))
    rw [hword] at hexec
    exact ⟨_, hexec, rfl, rfl, rfl, rfl, rfl, rfl, rfl⟩
  case ring =>
    intro q
    have hlow : ringCounters q % 8 = 0 := by
      unfold ringCounters
      omega
    have hhigh : ringCounters q < 0x300000 := by
      unfold ringCounters
      omega
    obtain ⟨keep, hread⟩ := State.read4_low (s := s) (fn := .pf0) hlow
    have hexec : exec (.readClear .pf0 (ringCounters q) 4) s = _ := (exec_readClear hup _ 4).trans
      (congrArg Host.Outcome.next ((State.readBar0_four (by omega) (by omega)).trans hread))
    have hword : s.bar0Word .pf0 (ringCounters q) = ((s.ring q).dbIgnored + (s.ring q).consBad * 2 ^ 16) % 2 ^ 32 := by
      rw [State.bar0Word_low (aliasOf_of_rcReg (rcReg_ringCounters q)) hlow, State.bar0Raw_que hup hrecovery (by unfold ringCounters; omega) hhigh,
        State.queReg_ringCounters]
    rw [State.clearRc_ringCounters, hword] at hexec
    have hself := State.ring_modRing_self (s.setShadow .pf0 keep) q Ring.clearCounters
    refine ⟨_, hexec, congrArg Ring.dbIgnored hself, congrArg Ring.consBad hself, rfl, fun j hj => ?_, rfl⟩
    exact State.ring_modRing_ne (s.setShadow .pf0 keep) Ring.clearCounters hj
  case wide =>
    have hexec : exec (.readClear .pf0 0x10 8) s = .next (s.read8 .pf0 0x10) := by
      rw [exec_readClear hup, State.readBar0_eight (by decide) (by decide)]
    refine ⟨_, hexec, ?_⟩
    unfold State.read8
    rw [State.clearRc_other (by decide), State.clearRc_other (by decide)]

end Sys2Proof.Machine

end

section
/-!
PROOFS. DEVRESET and configuration parity (15_registers.md, R391 to R394).
-/

namespace Sys2Proof.Machine

variable {s : State}

/-! ## DEVRESET (R394) -/

theorem exec_devReset (hup : s.hostUp .pf0 = true) (v : Nat) : exec (.devReset .pf0 v) s = .next (s.devReset .pf0 v) :=
  congrArg Host.Outcome.next (if_pos (by rw [hup]; rfl))

/-- The guard value with its bit of DEVRESET set schedules a reset, unless one is due. -/
theorem State.devReset_guarded (hdue : s.sys.resetDue = none) :
    s.devReset .pf0 0xA5C30001 = { s with sys := { s.sys with resetDue := some (s.now + 10000000, 3) } } := by
  unfold State.devReset
  rw [if_neg (by decide), if_neg (by decide), hdue]
  rfl

theorem State.devReset_unguarded {v : Nat} (hv : v / 2 ^ 16 % 2 ^ 16 ≠ 0xA5C3) : s.devReset .pf0 v = s.badAccess := by
  unfold State.devReset
  rw [if_neg (by decide)]
  exact if_pos hv

/-! ## The scrub (R391, R392) -/

theorem isConfigReg_window (n : Fin 512) : isConfigReg (winOffset n + 0x10) = true := by
  have haligned := winOffset_aligned n
  have hhigh := winOffset_lt n
  have hlow : 0x404000 ≤ winOffset n := Nat.le_add_right _ _
  have hword : (winOffset n + 0x10) % 4 = 0 := by omega
  have hrange : 0x404000 ≤ winOffset n + 0x10 ∧ winOffset n + 0x10 < 0x408000 := by omega
  have hpage : (winOffset n + 0x10) % 0x20 = 0x10 := by omega
  unfold isConfigReg softwareConfig
  rw [hword, decide_eq_true hrange, hpage]
  simp

/-- A window's registers take their safe action by the list of wrong registers alone. -/
theorem State.safeAction_window {o : Nat} (hlow : 0x404000 ≤ o) (hhigh : o < 0x408000) : s.safeAction o = s := by
  unfold State.safeAction
  rw [if_neg (by omega), if_neg (by omega), if_neg (by omega), if_neg (by omega), if_pos (by omega)]

theorem State.winGrants_of_parityBad {n o : Nat} {w : Win} (ho : o ∈ s.sys.parityBad) (hlow : winOffset n ≤ o) (hhigh : o < winOffset n + 0x20) :
    s.winGrants n w = false := by
  have hany : s.sys.parityBad.any (fun o => decide (winOffset n ≤ o ∧ o < winOffset n + 0x20)) = true :=
    List.any_eq_true.2 ⟨o, ho, decide_eq_true ⟨hlow, hhigh⟩⟩
  unfold State.winGrants
  rw [hany]
  simp

/-- A pass that finds one register wrong. -/
theorem exec_parityScrub_one (hmode : s.sys.mode ≠ .reset) {o : Nat} (ho : isConfigReg o = true) :
    exec (.parityScrub [o]) s
      = .next (State.parityMismatch { s with sys := { s.sys with scrubPasses := wrapInc 32 s.sys.scrubPasses, parityAddr := o } } o) := by
  have hlist : sortDedup ([o].filter isConfigReg) = [o] := by
    rw [List.filter_cons_of_pos ho]
    rfl
  show execParityScrub [o] s = _
  unfold execParityScrub
  rw [hlist]
  exact congrArg Host.Outcome.next (if_neg hmode)

/-- Settles O23: DEVRESET by its guard, the scrub by what it finds, and the restoration by the list of wrong registers. -/
theorem parityAndDevReset : Obligations.ParityAndDevReset := by
  intro s
  refine ⟨?guarded, ?unguarded, ?clean, ?window, ?restore⟩
  case guarded =>
    intro hup hdue
    exact ⟨_, (exec_devReset hup _).trans (congrArg Host.Outcome.next (State.devReset_guarded hdue)), rfl, rfl, rfl, rfl⟩
  case unguarded =>
    intro v hup hv
    exact ⟨_, exec_devReset hup v, State.devReset_unguarded hv⟩
  case clean =>
    intro hmode
    exact ⟨_, congrArg Host.Outcome.next (if_neg hmode), rfl⟩
  case window =>
    intro n hmode
    have hhigh := winOffset_lt n
    have haligned := winOffset_aligned n
    have hlow : 0x404000 ≤ winOffset n := Nat.le_add_right _ _
    have hexec := exec_parityScrub_one hmode (isConfigReg_window n)
    unfold State.parityMismatch at hexec
    dsimp only at hexec
    rw [State.safeAction_window (by omega) (by omega)] at hexec
    refine ⟨_, hexec, ?_, ?_, ?_, State.raise_mem _ _, State.raise_que _ _, State.raise_heads _ _⟩
    · rw [State.raise_sys]
    · rw [State.raise_sys]
    · refine State.winGrants_of_parityBad ?_ (Nat.le_add_right _ 0x10) (by omega)
      rw [State.raise_sys]
      exact mem_insertSorted.2 (.inl rfl)
  case restore =>
    intro o hmode hcore hfirmware
    refine ⟨s.fixParity o, congrArg Host.Outcome.next (if_neg ?_), rfl, fun x => ?_⟩
    · simp [hmode, hcore, hfirmware]
    · show (s.sys.parityBad.filter (fun y => y != o)).contains x = _
      rw [Bool.eq_iff_iff]
      simp [and_comm]

end Sys2Proof.Machine

end

section
/-!
PROOFS. Lamp: its sensors, stages, core voltage, life model and journal, and the re-check of the scenes (17_power_life_spares.md,
R418 to R433).
-/

namespace Sys2Proof.Machine

variable {s : State}

/-! ## The sensors (R418, R419) -/

theorem State.sensor_of_lamp {s t : State} {i : Nat} {x : Sensor} (h : t.lamp = { s.lamp with sensors := Tbl.set s.lamp.sensors i x }) :
    t.sensor i = x := by
  unfold State.sensor
  rw [h]
  exact Tbl.get_set_self _ _ _ _

theorem State.sensor_of_lamp_ne {s t : State} {i j : Nat} {x : Sensor} (h : t.lamp = { s.lamp with sensors := Tbl.set s.lamp.sensors i x })
    (hj : j ≠ i) : t.sensor j = s.sensor j := by
  unfold State.sensor
  rw [h]
  exact Tbl.get_set_ne _ _ _ hj

/-- What a reading makes of a sensor: it takes the value, an invalid one excludes it, and a valid one excludes no sensor. -/
structure Sensor.Took (x : Sensor) (r : Int) (valid : Bool) (y : Sensor) : Prop where
  reading : y.reading = r
  invalid : valid = false → y.excluded = true
  valid : valid = true → x.excluded = false → y.excluded = false

theorem State.readSensor_lamp (s : State) (rs : List Int) (valid : List Bool) (i : Nat) :
    ∃ y, (s.readSensor rs valid i).lamp = { s.lamp with sensors := Tbl.set s.lamp.sensors i y }
      ∧ (s.sensor i).Took (rs.getD i 0) (valid.getD i false) y := by
  unfold State.readSensor
  extract_lets x put
  generalize valid.getD i false = ok
  cases ok with
  | true =>
    rw [if_pos rfl]
    split
    · exact ⟨_, rfl, rfl, nofun, fun _ h => h⟩
    · split
      · exact ⟨_, rfl, rfl, nofun, fun _ h => h⟩
      · split
        · exact ⟨_, rfl, rfl, nofun, fun _ _ => rfl⟩
        · exact ⟨_, rfl, rfl, nofun, fun _ h => h⟩
  | false =>
    rw [if_neg Bool.false_ne_true]
    split
    next h => exact ⟨_, rfl, rfl, fun _ => h, nofun⟩
    · exact ⟨_, State.raise_lamp _ _, rfl, fun _ => rfl, nofun⟩

theorem State.readSensor_tHot (s : State) (rs : List Int) (valid : List Bool) (i : Nat) :
    (s.readSensor rs valid i).lamp.tHot = s.lamp.tHot := by
  obtain ⟨_, h, _⟩ := s.readSensor_lamp rs valid i
  rw [h]

/-- All sensors, read in turn. -/
def State.readSensors (s : State) (rs : List Int) : State :=
  s.forEach (List.range 24) (fun t i => t.readSensor rs ((List.range 24).map (fun i => s.readingValid rs i)) i)

/-- Each sensor's own turn decides what it holds after the turns of all. -/
theorem State.forEach_readSensor (rs : List Int) (valid : List Bool) {i : Nat} {l : List Nat} (hl : l.Nodup) (hi : i ∈ l) (s : State) :
    (s.sensor i).Took (rs.getD i 0) (valid.getD i false) ((s.forEach l (fun t i => t.readSensor rs valid i)).sensor i) := by
  have hother (t : State) (j : Nat) (hj : j ≠ i) : (t.readSensor rs valid j).sensor i = t.sensor i := by
    obtain ⟨_, h, _⟩ := t.readSensor_lamp rs valid j
    exact State.sensor_of_lamp_ne h hj.symm
  induction l generalizing s with
  | nil => cases hi
  | cons j l ih =>
    obtain ⟨hj, hl⟩ := List.nodup_cons.1 hl
    by_cases e : i = j
    · subst e
      obtain ⟨y, hlamp, htook⟩ := s.readSensor_lamp rs valid i
      have hrest := State.forEach_reading_of_not_mem (State.sensor · i) hother hj (s.readSensor rs valid i)
      rw [← State.sensor_of_lamp hlamp] at htook
      exact hrest.symm ▸ htook
    · have hrest := ih hl ((List.mem_cons.1 hi).resolve_left e) (s.readSensor rs valid j)
      rwa [hother s j (Ne.symm e)] at hrest

theorem State.readSensors_sensor {rs : List Int} {i : Nat} (hi : i < 24) :
    (s.sensor i).Took (rs.getD i 0) (s.readingValid rs i) ((s.readSensors rs).sensor i) := by
  have h := State.forEach_readSensor rs ((List.range 24).map (fun i => s.readingValid rs i)) (List.nodup_range (n := 24)) (List.mem_range.2 hi) s
  rwa [show ((List.range 24).map (fun i => s.readingValid rs i)).getD i false = s.readingValid rs i by
    simp [List.getD_eq_getElem?_getD, hi]] at h

theorem State.readSensors_tHot (s : State) (rs : List Int) : (s.readSensors rs).lamp.tHot = s.lamp.tHot :=
  State.forEach_reading (·.lamp.tHot) (fun t i => t.readSensor_tHot rs _ i) _ s

theorem State.readSensors_mem (s : State) (rs : List Int) : (s.readSensors rs).mem = s.mem :=
  (State.forEach_kept (.refl s) (fun _ _ h => State.readSensor_kept h)).mem_eq

/-- T_hot is formed from the sensors, which stay. -/
theorem State.noteHottest_eq (s : State) : s.noteHottest.lamp.sensors = s.lamp.sensors ∧ s.noteHottest.mem = s.mem
    ∧ (∀ j, hottestOf s s.validSensors = some j → s.noteHottest.lamp.tHot = (s.sensor j).reading)
    ∧ (hottestOf s s.validSensors = none → s.noteHottest.lamp.tHot = s.lamp.tHot) := by
  unfold State.noteHottest
  cases hottestOf s s.validSensors with
  | none => exact ⟨rfl, rfl, nofun, fun _ => rfl⟩
  | some i =>
    refine ⟨rfl, rfl, fun j h => ?_, nofun⟩
    cases h
    rfl

theorem State.sensor_of_sensors {s t : State} (h : t.lamp.sensors = s.lamp.sensors) (i : Nat) : t.sensor i = s.sensor i := by
  unfold State.sensor
  rw [h]

theorem hottestOf_of_sensors {s t : State} (h : t.lamp.sensors = s.lamp.sensors) :
    hottestOf t t.validSensors = hottestOf s s.validSensors := by
  have hsensor : t.sensor = s.sensor := funext (State.sensor_of_sensors h)
  unfold hottestOf State.validSensors
  rw [hsensor]

theorem exec_sensorRead (rs : List Int) : exec (.sensorRead rs) s = .next (s.readSensors rs).noteHottest := rfl

/-! ## What events leave of Lamp -/

theorem State.noteReplacement_lamp (s : State) : ∃ r v, s.noteReplacement.lamp = { s.lamp with reason := r, recommend := v } := by
  unfold State.noteReplacement
  dsimp only
  split
  · exact ⟨_, _, rfl⟩
  · exact ⟨_, _, State.raise_lamp _ _⟩

theorem State.noteConditions_lamp (s : State) : ∃ r v, s.noteConditions.lamp = { s.lamp with reason := r, recommend := v } := by
  unfold State.noteConditions
  extract_lets c old sys noted told
  have htold : told.lamp = s.lamp := by
    dsimp only [told]
    split
    · exact State.raise_lamp _ _
    · rfl
  obtain ⟨r, v, h⟩ := told.noteReplacement_lamp
  rw [htold] at h
  exact ⟨r, v, h⟩

theorem State.noteMask_lamp (s : State) : ∃ m, s.noteMask.lamp = { s.lamp with mask := m } := by
  unfold State.noteMask
  dsimp only
  split
  · exact ⟨s.lamp.mask, rfl⟩
  · exact ⟨_, State.raise_lamp _ _⟩

/-! ## The evaluation (R420 to R425, R428) -/

/-- Lamp's stage and its power estimate. -/
def State.lampView (s : State) : Nat × Nat := (s.lamp.stage, s.lamp.power)

theorem State.lampView_of_lamp {s t : State} (h : t.lamp = s.lamp) : t.lampView = s.lampView := by
  unfold State.lampView
  rw [h]

theorem State.noteConditions_lampView (s : State) : s.noteConditions.lampView = s.lampView := by
  obtain ⟨_, _, h⟩ := s.noteConditions_lamp
  unfold State.lampView
  rw [h]

theorem State.noteMask_lampView (s : State) : s.noteMask.lampView = s.lampView := by
  obtain ⟨_, h⟩ := s.noteMask_lamp
  unfold State.lampView
  rw [h]

theorem State.raise_lampView (s : State) (e : DevEvent) : (s.raise e).lampView = s.lampView := State.lampView_of_lamp (s.raise_lamp e)

theorem State.setStage_lampView (s : State) (n : Nat) : (s.setStage n).lampView = (n, s.lamp.power) := by
  unfold State.setStage
  split
  next h => rw [h]; rfl
  · refine (State.noteConditions_lampView _).trans ?_
    show State.lampView (State.noteSqueeze _) = _
    refine (State.lampView_of_lamp (State.noteSqueeze_kept (.refl _)).lamp_eq).trans ?_
    exact State.raise_lampView _ _

theorem State.noteUnmet_lampView (s : State) : s.noteUnmet.lampView = s.lampView := by
  unfold State.noteUnmet
  split
  · split
    · split
      · rfl
      · exact State.raise_lampView _ _
    · exact State.raise_lampView _ _
  · rfl

theorem State.noteOverGrade_lampView (s : State) : s.noteOverGrade.lampView = s.lampView := by
  unfold State.noteOverGrade
  split
  · dsimp only
    split
    · split
      · rfl
      · exact State.raise_lampView _ _
    · exact State.raise_lampView _ _
  · rfl

theorem State.setMaskOut_lampView (s : State) (out : List Nat) : (s.setMaskOut out).lampView = s.lampView := by
  unfold State.setMaskOut
  extract_lets back t
  have hlamp : t.lamp = s.lamp := (State.forEach_kept (.refl s) (fun _ _ h => State.modGallery_kept h)).lamp_eq
  refine (State.noteMask_lampView _).trans ?_
  show (t.lamp.stage, t.lamp.power) = _
  rw [hlamp]
  rfl

theorem State.moveMask_lampView (s : State) : s.moveMask.lampView = s.lampView := by
  unfold State.moveMask
  extract_lets teff out returned hot ready lamp removed
  have hreturned : returned.lampView = s.lampView := by
    dsimp only [returned]
    split
    · rfl
    · exact s.setMaskOut_lampView out
  have hremoved : removed.lampView = returned.lampView := by
    dsimp only [removed]
    split
    · exact State.setMaskOut_lampView _ _
    · rfl
  refine (State.forEach_reading State.lampView (fun t g => ?_) _ removed).trans (hremoved.trans hreturned)
  split <;> rfl

theorem State.noteOverGrade_powered (s : State) : s.noteOverGrade.health.powered = s.health.powered := by
  unfold State.noteOverGrade
  split
  · dsimp only
    split
    · split
      · rfl
      · rw [State.raise_health]
    · rw [State.raise_health]
  · rfl

/-- Lamp's state once a millisecond is charged, the power is formed and the evaluations in a row are counted. -/
def State.weighLoad (s : State) (p : Option Nat) : State :=
  let t := s.ageOneMs.formPower p
  let run (b : Bool) (n : Nat) : Nat := if b then sat 16 (n + 1) else 0
  { t with lamp := { t.lamp with overRun := run t.lampOver t.lamp.overRun, hardRun := run t.lampHard t.lamp.hardRun,
                                 underRun := run t.lampUnder t.lamp.underRun } }

/-- What follows the stage that an evaluation calls for. -/
def State.moveStage (s : State) : State := ((((s.setStage s.nextStage).noteSqueeze).noteUnmet).noteOverGrade).moveMask

theorem State.moveStage_lampView (s : State) : s.moveStage.lampView = (s.nextStage, s.lamp.power) := by
  unfold State.moveStage
  rw [State.moveMask_lampView, State.noteOverGrade_lampView, State.noteUnmet_lampView]
  exact (State.lampView_of_lamp (State.noteSqueeze_kept (.refl _)).lamp_eq).trans (s.setStage_lampView s.nextStage)

theorem State.moveStage_powered (s : State) : s.moveStage.health.powered = s.health.powered := by
  unfold State.moveStage
  rw [(State.moveMask_kept (.refl _)).health_eq, State.noteOverGrade_powered, (State.noteUnmet_kept (.refl _)).health_eq,
    (State.noteSqueeze_kept (.refl _)).health_eq, (State.setStage_kept (.refl _)).health_eq]

/-- The grade's upper limit calls for DECOR_SHED at once. -/
theorem State.nextStage_hot (h : gradeLimit16 < s.lamp.tHot) : s.nextStage = 5 := if_pos h

/-- Below it the stage moves by one at most. -/
theorem State.nextStage_paced (h : s.lamp.tHot ≤ gradeLimit16) : s.nextStage ≤ s.lamp.stage + 1 ∧ s.lamp.stage ≤ s.nextStage + 1 := by
  unfold State.nextStage
  dsimp only
  rw [if_neg (Int.not_lt.2 h)]
  split_ifs <;> omega

/-- A stage that came into force within 100 ms is not raised. -/
theorem State.nextStage_held (h : s.lamp.tHot ≤ gradeLimit16) (hnow : s.now < s.lamp.stageAt + 100000000) : s.nextStage ≤ s.lamp.stage := by
  unfold State.nextStage
  dsimp only
  rw [if_neg (Int.not_lt.2 h)]
  split
  · omega
  · rw [if_neg (by omega)]

theorem sat_le_sat_add (w q x : Nat) : sat w q ≤ sat w (q + x) :=
  min_le_min_right _ (Nat.le_add_right q x)

theorem exec_lampEvaluation (hcore : s.coreUp 1 = true) (hheld : s.powerHeld = false) (hreset : s.sys.mode ≠ .reset)
    (hboot : s.sys.mode ≠ .boot) (p : Option Nat) : exec (.lampEvaluation p) s = .next (s.weighLoad p).moveStage := by
  refine congrArg Host.Outcome.next (if_neg ?_)
  rintro (h | h | h | h)
  · exact hreset h
  · exact hboot h
  · exact absurd h (by rw [show s.ageOneMs.coreUp 1 = s.coreUp 1 from rfl, hcore]; decide)
  · exact absurd h (by rw [show s.ageOneMs.powerHeld = s.powerHeld from rfl, hheld]; decide)

theorem exec_lampEvaluation_idle (h : s.sys.mode = .reset ∨ s.sys.mode = .boot) (p : Option Nat) :
    exec (.lampEvaluation p) s = .next s.ageOneMs :=
  congrArg Host.Outcome.next (if_pos (h.elim .inl (fun h => .inr (.inl h))))

/-- In RESET and BOOT every domain ages at rate 1. -/
theorem State.ageOneMs_consumed (h : s.sys.mode = .reset ∨ s.sys.mode = .boot) {d : Nat} (hd : d < 4) :
    s.ageOneMs.health.consumed.getD d 0 = s.health.consumed.getD d 0 + 2 ^ 32 := by
  have hidle : (s.sys.mode == .reset || s.sys.mode == .boot) = true := by
    rcases h with h | h <;> rw [h] <;> rfl
  unfold State.ageOneMs
  rw [hidle]
  simp [List.getD_eq_getElem?_getD, hd]

/-! ## Core voltage (R427) -/

/-- One command of the core voltage towards a goal, and what its acknowledgement decides. -/
def State.moveVcore (s : State) (goal : Nat) (acked : Bool) : State :=
  let v := s.lamp.vcore
  if goal = v then s
  else if acked then
    { s with lamp := { s.lamp with vcore := if v < goal then Nat.min goal (v + 5) else Nat.max goal (v - 5), vcoreFails := 0 } }
  else if s.lamp.vcoreFails < 2 then { s with lamp := { s.lamp with vcoreFails := s.lamp.vcoreFails + 1 } }
  else State.raise { s with lamp := { s.lamp with vcoreFails := 3, vcoreLost := true } } .vcoreControlLost

/-- A step is that command, whether it raises VCORE_MARGIN first or not. -/
theorem exec_vcoreStep (hcore : s.coreUp 1 = true) (hheld : s.powerHeld = false) (hreset : s.sys.mode ≠ .reset)
    (hboot : s.sys.mode ≠ .boot) (hlost : s.lamp.vcoreLost = false) (m : Nat) (a : Bool) :
    ∃ u : State, u.lamp = s.lamp ∧ exec (.vcoreStep m a) s = .next (u.moveVcore (vcoreGoal (Config.vcoreMin s.lamp.tHot) m) a) := by
  show ∃ u : State, u.lamp = s.lamp ∧ execVcoreStep m a s = _
  unfold execVcoreStep
  rw [if_neg (by simp [hcore, hheld, hreset, hboot]), if_neg (ne_true_of_eq_false hlost)]
  dsimp only
  split
  · refine ⟨s.raise .vcoreMargin, State.raise_lamp _ _, ?_⟩
    unfold State.moveVcore
    dsimp only
    rw [State.raise_lamp]
  · exact ⟨s, rfl, rfl⟩

theorem State.moveVcore_unacked {l : Lamp} (hl : s.lamp = l) (goal : Nat) : (s.moveVcore goal false).lamp.vcore = l.vcore
    ∧ (goal ≠ l.vcore → l.vcoreLost = false → (s.moveVcore goal false).lamp.vcoreLost = decide (2 ≤ l.vcoreFails)) := by
  subst hl
  unfold State.moveVcore
  dsimp only
  split
  next h => exact ⟨rfl, fun hne => absurd h hne⟩
  rw [if_neg Bool.false_ne_true]
  split
  next h => exact ⟨rfl, fun _ hlost => hlost.trans (decide_eq_false (by omega)).symm⟩
  next h =>
    rw [State.raise_lamp]
    exact ⟨rfl, fun _ _ => (decide_eq_true (by omega)).symm⟩

theorem State.moveVcore_acked {l : Lamp} (hl : s.lamp = l) {goal : Nat} (h : goal ≠ l.vcore) : (s.moveVcore goal true).lamp.vcore
    = if l.vcore < goal then Nat.min goal (l.vcore + 5) else Nat.max goal (l.vcore - 5) := by
  subst hl
  unfold State.moveVcore
  dsimp only
  rw [if_neg h, if_pos rfl]

/-! ## The life model (R429) -/

theorem exec_lifeEvaluation (hcore : s.coreUp 1 = true) (hreset : s.sys.mode ≠ .reset) (hboot : s.sys.mode ≠ .boot)
    (hhours : 168 ≤ s.poweredHours) (hnew : s.lamp.lifeHour < s.poweredHours) :
    ∃ t, exec .lifeEvaluation s = .next t ∧ t.lamp.lifeHour = s.poweredHours
      ∧ t.lamp.lifeRatio = sat 31 (s.maxConsumed * 65536 / (s.health.powered * 2 ^ 32))
      ∧ (s.cfgBool 0x2100 5 = false → t.lamp.lifeOffset = 0)
      ∧ (s.cfgBool 0x2100 5 = true → t.lamp.lifeOffset ≤ s.lamp.lifeOffset + 1 ∧ s.lamp.lifeOffset ≤ t.lamp.lifeOffset + 1) := by
  refine ⟨_, congrArg Host.Outcome.next (if_neg ?_), ?_⟩
  · simp [hcore, hreset, hboot, hhours, hnew]
  extract_lets p c goal old off ratio left ahead lamp aged told
  obtain ⟨r, v, hlamp⟩ := (if ahead then told.raise .lifeAhead else told).noteReplacement_lamp
  have htold : (if ahead then told.raise .lifeAhead else told).lamp = aged.lamp := by
    have hmoved : told.lamp = aged.lamp := by
      dsimp only [told]
      split
      · rfl
      · exact State.raise_lamp _ _
    split
    · exact (State.raise_lamp _ _).trans hmoved
    · exact hmoved
  rw [hlamp, htold]
  refine ⟨rfl, rfl, fun h => ?_, fun h => ?_⟩
  · show off = 0
    dsimp only [off]
    rw [h]
    rfl
  · show off ≤ old + 1 ∧ old ≤ off + 1
    dsimp only [off]
    rw [h, if_neg (by decide)]
    split_ifs <;> omega

/-! ## The health journal (R433) -/

/-- An append that fails: it is repeated once, and then the record is given up. -/
def State.failAppend (s : State) (hourly : Bool) : State :=
  if !s.health.failOnce then { s with health := { s.health with failOnce := true } }
  else
    State.raise { s with health := { s.health with
      failOnce := false, dueAt := none, lastHour := if hourly then s.poweredHours else s.health.lastHour } } .healthStoreFailed

theorem State.failAppend_eq (s : State) (hourly : Bool) : (s.failAppend hourly).health.journal = s.health.journal
    ∧ (s.failAppend hourly).health.sequence = s.health.sequence ∧ (s.failAppend hourly).health.failOnce = !s.health.failOnce
    ∧ (s.failAppend hourly).mem = s.mem := by
  unfold State.failAppend
  cases h : s.health.failOnce with
  | true =>
    rw [if_neg (by decide), State.raise_health]
    exact ⟨rfl, rfl, rfl, State.raise_mem _ _⟩
  | false => exact ⟨rfl, rfl, rfl, rfl⟩

theorem exec_healthRecordAppend (hdue : s.health.dueAt.isSome = true ∨ s.health.lastHour < s.poweredHours) (hcore : s.coreUp 1 = true)
    (hreset : s.sys.mode ≠ .reset) (hboot : s.sys.mode ≠ .boot) (ok : Bool) : exec (.healthRecordAppend ok) s = .next
      (if ok then s.appendHealth (decide (s.health.lastHour < s.poweredHours))
      else s.failAppend (decide (s.health.lastHour < s.poweredHours))) := by
  refine congrArg Host.Outcome.next (if_neg ?_)
  rcases hdue with h | h <;> simp [h, hcore, hreset, hboot]

/-- The record appended is the next one, and it is no longer due. -/
theorem State.appendHealth_health (s : State) (hourly : Bool) :
    (s.appendHealth hourly).health.sequence = nextEpoch s.health.sequence ∧ (s.appendHealth hourly).health.dueAt = none
      ∧ (s.appendHealth hourly).health.failOnce = false
      ∧ (s.appendHealth hourly).health.journal = State.healthBytes { s with health := { s.health with sequence := nextEpoch s.health.sequence } } := by
  cases hourly <;> exact ⟨rfl, rfl, rfl, rfl⟩

/-! ## The re-check (R430) -/

theorem State.runRecheck_scn (s : State) : s.runRecheck.scn.recheckDue = false ∧ s.runRecheck.scn.spareShed = s.noteEngines.shedSet := by
  unfold State.runRecheck
  rw [(State.noteConditions_kept (.refl _)).scn_eq]
  exact ⟨rfl, rfl⟩

/-- Settles O51, command by command. -/
theorem lampPaces : Obligations.LampPaces := by
  intro s
  refine ⟨?sensors, ?evaluation, ?idle, ?vcore, ?life, ?journal, ?recheck⟩
  case sensors =>
    intro rs
    obtain ⟨hsensors, hmem, hsome, hnone⟩ := (s.readSensors rs).noteHottest_eq
    have hhot := hottestOf_of_sensors hsensors
    refine ⟨_, exec_sensorRead rs, hmem.trans (s.readSensors_mem rs), fun i hi => ?_, fun j hj => ?_, fun hj => ?_⟩
    · rw [State.sensor_of_sensors hsensors]
      obtain ⟨hreading, hinvalid, hvalid⟩ := State.readSensors_sensor (s := s) (rs := rs) hi
      exact ⟨hreading, hinvalid, hvalid⟩
    · rw [State.sensor_of_sensors hsensors]
      exact hsome j (hhot.symm.trans hj)
    · exact (hnone (hhot.symm.trans hj)).trans (s.readSensors_tHot rs)
  case evaluation =>
    intro p hcore hheld hreset hboot
    have hexec := exec_lampEvaluation hcore hheld hreset hboot p
    have hmem := Kept.mem_eq ((execLampEvaluation_kept (.refl s)).out _ hexec)
    have hview := (s.weighLoad p).moveStage_lampView
    have hstage : (s.weighLoad p).moveStage.lamp.stage = (s.weighLoad p).nextStage := congrArg Prod.fst hview
    have hpower : (s.weighLoad p).moveStage.lamp.power = (s.weighLoad p).lamp.power := congrArg Prod.snd hview
    refine ⟨_, hexec, congrArg Mem.dev hmem, congrArg Mem.host hmem, (s.weighLoad p).moveStage_powered, ?_, ?_, ?_, ?_⟩
    · rintro q rfl
      rw [hpower]
      exact sat_le_sat_add 16 q _
    · intro hhot
      rw [hstage]
      exact State.nextStage_hot hhot
    · intro hcool
      rw [hstage]
      exact State.nextStage_paced (s := s.weighLoad p) hcool
    · intro hcool hnow
      rw [hstage]
      exact State.nextStage_held (s := s.weighLoad p) hcool hnow
  case idle =>
    intro p h
    exact ⟨_, exec_lampEvaluation_idle h p, rfl, rfl, fun d hd => State.ageOneMs_consumed h hd⟩
  case vcore =>
    intro m a goal hcore hheld hreset hboot hlost
    obtain ⟨u, hu, hexec⟩ := exec_vcoreStep hcore hheld hreset hboot hlost m a
    refine ⟨_, hexec, Kept.mem_eq ((execVcoreStep_kept (.refl s)).out _ hexec), ?_, ?_, ?_, ?_⟩
    · rintro rfl
      exact (State.moveVcore_unacked hu goal).1
    · rintro rfl hlt
      exact (State.moveVcore_acked hu (Nat.ne_of_gt hlt)).trans (if_pos hlt)
    · rintro rfl hlt
      exact (State.moveVcore_acked hu (Nat.ne_of_lt hlt)).trans (if_neg (Nat.not_lt.2 (Nat.le_of_lt hlt)))
    · rintro rfl hne
      exact (State.moveVcore_unacked hu goal).2 hne hlost
  case life =>
    intro hcore hreset hboot hhours hnew
    obtain ⟨t, hexec, hlife⟩ := exec_lifeEvaluation hcore hreset hboot hhours hnew
    exact ⟨t, hexec, Kept.mem_eq ((execLifeEvaluation_kept (.refl s)).out _ hexec), hlife⟩
  case journal =>
    intro hdue hcore hreset hboot
    have hexec := exec_healthRecordAppend hdue hcore hreset hboot
    refine ⟨⟨_, hexec true, ?_⟩, ⟨_, hexec false, ?_⟩⟩
    · obtain ⟨hsequence, hnone, honce, hjournal⟩ := s.appendHealth_health (decide (s.health.lastHour < s.poweredHours))
      exact ⟨hsequence, hnone, honce, (State.appendHealth_kept (.refl s)).mem_eq, hjournal⟩
    · exact s.failAppend_eq _
  case recheck =>
    intro hdue hcore hcores
    have hexec : exec .sceneRecheck s = .next s.runRecheck :=
      congrArg Host.Outcome.next (if_pos (by rw [hdue, hcore, hcores]; rfl))
    obtain ⟨hnone, hshed⟩ := s.runRecheck_scn
    have hkept := Kept.mem_eq ((execSceneRecheck_kept (.refl s)).out _ hexec)
    exact ⟨_, hexec, hnone, hshed, congrArg Mem.dev hkept, (State.runRecheck_kept (.refl s)).heads_eq⟩

end Sys2Proof.Machine

end
